-- ==== Sys2Proof/Word.lean ====
section
/-! DEFINITION. The word of the exchange RAM and of the host bus (00_scope.md, "A word is 16 bits"). -/

namespace Sys2Proof

/-- One word of the exchange RAM and of the registers: 16 bits. -/
abbrev Word := BitVec 16

end Sys2Proof
end

