-- ==== Sys2Proof/Syntax.lean ====
section
/-! DEFINITION. The commands of the Hialto 3260: one constructor for each row of spec/opcode_table.json.

A command is one step of the part, whole and indivisible (spec/95_what_each_step_holds.md): a host bus write, the taking
of one order cell by the order unit, or one event of the gallery wiring, of a timer or of a cadence. Orders carry no
operand here: their operands stand in the order cell at the walk position, which the order unit reads when it takes the
cell (R189). -/

namespace Sys2Proof

/-- An exhibit, 0…47. -/
abbrev ExhibitNo := Fin 48
/-- An axis, 0…15. -/
abbrev AxisNo := Fin 16
/-- A visitor button, 0…255: row ⌊b / 16⌋, column b mod 16 (R24). -/
abbrev ButtonNo := Fin 256
/-- A lamp channel, 0…63. -/
abbrev ChannelNo := Fin 64
/-- An attendant station, 0…3. -/
abbrev StationNo := Fin 4
/-- A guard line, 0…15. -/
abbrev GuardNo := Fin 16
/-- A notice source and an alert source: exhibits 0…47, and 48 for the gallery. -/
abbrev SourceNo := Fin 49

/-- The end of travel an end-limit switch stands at: LIML or LIMH. -/
inductive LimitEnd where
  | low
  | high
  deriving DecidableEq, Repr

/-- The three layers of a lamp channel (R140). -/
inductive LayerName where
  | alertLayer
  | showLayer
  | readyLayer
  deriving DecidableEq, Repr

/-- The two registers a write of which may have no effect (R135, Table 10-2): PART_ID at offset 0, STOP at offset 3. -/
inductive InertRegister where
  | partId
  | stop
  deriving DecidableEq, Repr

/-- The commands. Constructors stand in the order of spec/opcode_table.json. -/
inductive Instr where
  /-- RESETn asserted and released (R186). -/
  | powerOnReset
  /-- The 2 ms RAM clearing ends (R186). -/
  | ramClearingEnd
  /-- A host write of PART_CTL with bit 15 set; `value` is the whole word written (R187). -/
  | partReset (value : Word)
  /-- A host write of PART_CTL with bit 15 clear (R182). -/
  | interruptMaskWrite (value : Word)
  /-- A host write of ATTN (R183). -/
  | attnClear (value : Word)
  /-- A host write of 1 to STOP (R135). -/
  | stopRequest
  /-- A host write of 2 to STOP (R135). -/
  | releaseRequest
  /-- A host write of any value to PART_ID, or of a value other than 1 and 2 to STOP (R135, Table 10-2). -/
  | registerWriteNoEffect (register : InertRegister) (value : Word)
  /-- A host write with CSMn asserted to the word at `address`; `bothSelects` says that CSRn was asserted too (R178). -/
  | exchangeRamWrite (bothSelects : Bool) (address : BitVec 14) (value : Word)
  /-- A host write to the watched word DECK_CTL (R188). -/
  | deckCtlWrite (value : Word)
  /-- A host write to the watched word NB_STATE (R192). -/
  | nbStateWrite (value : Word)
  /-- The notice unit fills the box (R191). -/
  | noticeFill
  /-- The order unit takes a cell whose code is not in Table 10-4 (R190). -/
  | unknownOrder
  /-- The order unit takes a CLEAR COLD cell (R185). -/
  | clearCold
  /-- The order unit takes a CONFIGURE GALLERY cell (R33). -/
  | configureGallery
  /-- The order unit takes a CONFIGURE EXHIBIT cell (R2). -/
  | configureExhibit
  /-- The order unit takes a CONFIGURE AXIS cell (R78). -/
  | configureAxis
  /-- The order unit takes a CONFIGURE BUTTONS cell (R31). -/
  | configureButtons
  /-- The order unit takes a CONFIGURE GROUPS cell (R43). -/
  | configureGroups
  /-- The order unit takes a CONFIGURE LAMPS cell (R151). -/
  | configureLamps
  /-- The order unit takes a CONFIGURE STATIONS cell (R173). -/
  | configureStations
  /-- The order unit takes a START SHOW cell (R72). -/
  | startShow
  /-- The order unit takes a RESUME cell (R73). -/
  | resume
  /-- The order unit takes a HALT cell (R74). -/
  | halt
  /-- The order unit takes a CANCEL cell (R75). -/
  | cancel
  /-- The order unit takes a CLEAR cell (R17). -/
  | clear
  /-- The order unit takes a LOCK cell (R14). -/
  | lock
  /-- The order unit takes an UNLOCK cell (R15). -/
  | unlock
  /-- The order unit takes a RESTORE cell (R16). -/
  | restore
  /-- The order unit takes a HOME cell (R105). -/
  | home
  /-- The order unit takes a MOVE cell (R98). -/
  | move
  /-- The order unit takes a STOP AXIS cell (R99). -/
  | stopAxis
  /-- The order unit takes a RESTORE AXIS cell (R100). -/
  | restoreAxis
  /-- The order unit takes a SET LAMP cell (R153). -/
  | setLamp
  /-- The order unit takes a RAISE ALERT cell (R175). -/
  | raiseAlert
  /-- The order unit takes an ACK ALERT cell (R167). -/
  | ackAlert
  /-- The order unit takes a REMOVE ALERT cell (R169). -/
  | removeAlert
  /-- A button is recognised closed (R26). -/
  | closure (button : ButtonNo)
  /-- A button is recognised open (R27). -/
  | release (button : ButtonNo)
  /-- The hold timer of a button reaches the long threshold (R28). -/
  | longPress (button : ButtonNo)
  /-- The hold timer of a button reaches the stuck time (R29). -/
  | stuck (button : ButtonNo)
  /-- The lockout timer of a button runs out (R36). -/
  | lockoutExpiry (button : ButtonNo)
  /-- The remaining time of a TIME wait reaches 0 (R59). -/
  | timeWaitExpiry (exhibit : ExhibitNo)
  /-- The remaining timeout of a PRESS wait reaches 0 (R60). -/
  | pressTimeout (exhibit : ExhibitNo)
  /-- The rest timer of an exhibit runs out (R6). -/
  | restExpiry (exhibit : ExhibitNo)
  /-- The 1 ms update of an axis (R87). -/
  | axisUpdate (axis : AxisNo)
  /-- The following-error run of an axis at rest reaches the stall time (R90). -/
  | disturbance (axis : AxisNo)
  /-- The following-error run of a driving axis reaches the stall time (R91). -/
  | stall (axis : AxisNo)
  /-- An end-limit switch is recognised asserted (R92). -/
  | limitAsserted (axis : AxisNo) (limit : LimitEnd)
  /-- An end-limit switch is recognised released (R92). -/
  | limitReleased (axis : AxisNo) (limit : LimitEnd)
  /-- The quadrature input counts |delta| times, up when delta is positive and down when it is negative (R80). -/
  | encoderCountChange (axis : AxisNo) (delta : Int)
  /-- The 100 ms speed measurement of an axis (R95). -/
  | speedMeasurement (axis : AxisNo)
  /-- The 10 ms image rewrite of an axis whose position or velocity changes (R96). -/
  | axisImageRefresh (axis : AxisNo)
  /-- A home switch closing is recognised (R108). -/
  | homeSwitchClosing (axis : AxisNo)
  /-- A home switch opening is recognised (R109). -/
  | homeSwitchOpening (axis : AxisNo)
  /-- An index pulse of the encoder (R108). -/
  | indexEvent (axis : AxisNo)
  /-- A homing update finds the distance travelled equal to the home search distance (R107, R109). -/
  | homeSearchExhausted (axis : AxisNo)
  /-- A guard line's opening is recognised (R128). -/
  | guardOpening (guard : GuardNo)
  /-- A guard line's closing is recognised (R130). -/
  | guardClosing (guard : GuardNo)
  /-- The settle timer of an exhibit runs out (R130). -/
  | settleExpiry (exhibit : ExhibitNo)
  /-- The guard-alert timer of an exhibit runs out (R133). -/
  | guardAlertExpiry (exhibit : ExhibitNo)
  /-- The E-STOP pin is recognised asserted (R134). -/
  | estopAssertion
  /-- The E-STOP pin is recognised released (R134). -/
  | estopRelease
  /-- A BLINK phase or an ENVELOPE period of an active layer ends (R145, R146). -/
  | lampPhaseStep (channel : ChannelNo) (layer : LayerName)
  /-- A new 1 ms PWM period starts (R143). -/
  | pwmPeriod
  /-- The acknowledge holdoff of a station runs out (R163). -/
  | holdoffExpiry (station : StationNo)
  /-- The escalation timer of the alert entry with this number runs out (R170). -/
  | escalationExpiry (number : Nat)
  /-- The 1 s age step of the alert list (R176). -/
  | ageStep
  /-- A station display bus starts a frame (R194). -/
  | displayFrame (station : StationNo)
  /-- A button is read while its row is driven; `closed` is the level read (R25). -/
  | buttonReading (button : ButtonNo) (closed : Bool)
  deriving DecidableEq, Repr

end Sys2Proof
end

