-- ==== Sys2Proof/WellFormed.lean ====
section
/-! DEFINITION. Which commands are the row they stand for: the checks on operands that a type does not make. -/

namespace Sys2Proof

/-- The value written to PART_CTL commands a part reset: bit 15 is 1 (Table 10-2). -/
def commandsPartReset (value : Word) : Bool := value.getLsbD 15

/-- The offset of a watched word, DECK_CTL or NB_STATE: a host write there is a row of its own (R179). -/
def isWatchedAddress (address : BitVec 14) : Bool := address.toNat == 0 || address.toNat == 2

/-- A command that is the step of its row. The meanings are total all the same: an ill-formed register write acts as the
write of that value acts. -/
def Instr.wellFormed : Instr → Bool
  | .partReset v => commandsPartReset v
  | .interruptMaskWrite v => !commandsPartReset v
  | .registerWriteNoEffect .stop v => v.toNat != 1 && v.toNat != 2
  | .exchangeRamWrite both a _ => both || !isWatchedAddress a
  | .encoderCountChange _ d => d != 0
  | .escalationExpiry n => decide (1 ≤ n ∧ n ≤ 65535)
  | _ => true

end Sys2Proof
end

