-- ==== Sys2Proof/Config.lean ====
section
/-! DEFINITION. The constants of the part that hold for every configuration. The manual leaves no result value open, so
there is no free value among them. -/

namespace Sys2Proof.Config

/-- What PART_ID reads as (Table 10-2). -/
def partId : Nat := 0x3260
/-- The revision shown in bits 11…8 of PART_CTL (Table 10-2). -/
def revision : Nat := 1
/-- The drive units of the motor supply (R116). -/
def driveUnits : Nat := 32
/-- The most entries of the alert list (R155). -/
def maxAlerts : Nat := 32
/-- The runaway count that faults a show (R53). -/
def runawayLimit : Nat := 64
/-- The number of words of the show store (section 3.2). -/
def storeWords : Nat := 12288
/-- The ends of the position range (00_scope.md, Quantities). -/
def minPosition : Int := -8388608
def maxPosition : Int := 8388607
/-- The RAM clearing after power-on reset, in ms (R186). -/
def clearingMs : Nat := 2
/-- The acknowledge holdoff of a station, in ms (R163). -/
def holdoffMs : Nat := 1000
/-- The period of the speed measurement, in ms (R95). -/
def speedPeriodMs : Nat := 100
/-- The period of the axis image refresh, in ms (R96). -/
def refreshPeriodMs : Nat := 10
/-- The period of the display frames, in quarters of a millisecond (R194). -/
def framePeriod : Nat := 40
/-- The period of the age step, in ms (R176). -/
def agePeriodMs : Nat := 1000
/-- Samples of equal new level that change a guard filter (R127), an E-STOP filter (R134), a limit or home filter
(R92, R103). -/
def guardSamples : Nat := 3
def estopSamples : Nat := 8
def switchSamples : Nat := 4

end Sys2Proof.Config
end

