-- ==== Sys2Proof/Machine/State.lean ====
section
/-! DEFINITION. The state of the Hialto 3260, block by block (Table 1 of 00_scope.md), and its value right after power-on
reset. All of it is plain data. A timer is `none` while it is stopped and `some ms` while it runs with that many
milliseconds left. -/

namespace Sys2Proof.Machine

/-- A timer: stopped, or running with the milliseconds that remain. -/
abbrev Timer := Option Nat

/-! ### Inputs and their filters -/

/-- One filtered input: the level at the pin, the recognised level, and the count of consecutive samples that differ from
the recognised level (R25, R92, R103, R127, R134). `true` is the active level: closed for a button and a home switch, open
for a guard, asserted for an end-limit switch and the E-STOP pin. -/
structure InputFilter where
  pin : Bool
  level : Bool
  run : Nat
  deriving DecidableEq, Repr

/-! ### Visitor buttons (Chapter 2) -/

/-- Action of a button map entry with its target (Table 2-3). -/
inductive Action where
  | none
  | start (e : ExhibitNo)
  | group (g : Fin 8)
  | call (e : ExhibitNo)
  | ack (s : StationNo)
  deriving DecidableEq, Repr

/-- Long action of a button map entry with its target (Table 2-3). -/
inductive LongAction where
  | none
  | call (e : ExhibitNo)
  | ack (s : StationNo)
  deriving DecidableEq, Repr

/-- One entry of the button map copy (Table 2-3); `lockout` is in units of 100 ms. -/
structure ButtonEntry where
  action : Action
  longAction : LongAction
  lockout : Nat
  deriving DecidableEq, Repr

/-- Hold states of a button (Table 2-1). -/
inductive HoldState where
  | opened
  | plain
  | watched
  | longGiven
  | stuck
  deriving DecidableEq, Repr

/-- A visitor button: its debounce, its hold, its map entry and its lockout (R25, R26, R36). The stuck mark is the hold
state `stuck`. -/
structure Button where
  input : InputFilter
  hold : HoldState
  /-- Milliseconds since the closure; 0 for an open button (R27). -/
  holdTimer : Nat
  entry : ButtonEntry
  lockout : Timer
  deriving DecidableEq, Repr

/-- The gallery parameters (Table 2-4): debounce count N, long threshold × 100 ms, stuck time in s. -/
structure GalleryParams where
  debounce : Nat
  longThreshold : Nat
  stuckTime : Nat
  deriving DecidableEq, Repr

/-! ### Exhibits (Chapter 1) -/

/-- Press policy (Table 1-2, field 4). -/
inductive PressPolicy where
  | ignore
  | encore
  deriving DecidableEq, Repr

/-- The configuration copy of an exhibit with enable yes (Table 1-2). -/
structure ExhibitConfig where
  zone : Fin 8
  defaultShow : Nat
  policy : PressPolicy
  /-- s -/
  restTime : Nat
  suspendAllowed : Bool
  axes : Vector (Option AxisNo) 4
  showLamps : Vector (Option ChannelNo) 8
  readyLamp : Option ChannelNo
  beaconLamp : Option ChannelNo
  guard : Option GuardNo
  /-- × 100 ms -/
  guardSettle : Nat
  /-- s -/
  guardAlertTime : Nat
  deriving DecidableEq, Repr

/-- Exhibit states (Table 1-3). -/
inductive ExhibitState where
  | off
  | ready
  | running
  | suspended
  | guarded
  | halting
  | resting
  | faulted
  | locked
  deriving DecidableEq, Repr

/-- The state GUARDED returns to (Table 1-1). -/
inductive ReturnState where
  | running
  | suspended
  deriving DecidableEq, Repr

/-- An entry of the exhibit table (Table 1-1); the source record stands beside it in `State.sources`. -/
structure Exhibit where
  config : Option ExhibitConfig
  state : ExhibitState
  returnState : Option ReturnState
  encore : Bool
  guardOpen : Bool
  rest : Timer
  settle : Timer
  guardAlert : Timer
  accepted : Nat
  ignored : Nat
  completed : Nat
  deriving DecidableEq, Repr

/-! ### Shows (Chapter 3) -/

/-- Show fault codes (Table 3-5, Table 10-12). -/
inductive ShowFault where
  | stepInvalid
  | loopNest
  | storeEnd
  | runaway
  | axisUnusable
  | axisUnhomed
  | axisBusy
  | axisStall
  | axisLimit
  | axisTravel
  | homeFail
  deriving DecidableEq, Repr

/-- A first fault: its code and its step address, 0…12,288 or 0xFFFF (Table 3-1). -/
structure FirstFault where
  code : ShowFault
  address : Nat
  deriving DecidableEq, Repr

/-- Step status of a slot (Table 3-1). -/
inductive StepStatus where
  | waiting
  | held
  deriving DecidableEq, Repr

/-- Kind of a MOTION wait (Table 3-3). -/
inductive MotionKind where
  | move
  | home
  deriving DecidableEq, Repr

/-- Sense of a WAIT_MARK step (Table 3-2). -/
inductive Sense where
  | up
  | down
  | either
  deriving DecidableEq, Repr

/-- Wait records (Table 3-3); times are in ms. -/
inductive Wait where
  | motion (axis : AxisNo) (kind : MotionKind)
  | axisRest (axis : AxisNo)
  | mark (axis : AxisNo) (mark : Fin 4) (sense : Sense)
  | time (remaining : Nat)
  | press (remaining : Option Nat)
  deriving DecidableEq, Repr

/-- A show slot (Table 3-1). -/
structure Slot where
  current : Option Nat
  status : Option StepStatus
  wait : Option Wait
  loopCount : Nat
  loopStart : Nat
  runaway : Nat
  frozen : Bool
  firstFault : Option FirstFault
  deriving DecidableEq, Repr

/-! ### Notice sources (section 1.7) -/

/-- What condition FAULTED carries: the first fault code, if one is recorded, and its step address or 0xFFFF. -/
structure FaultNote where
  code : Option ShowFault
  address : Nat
  deriving DecidableEq, Repr

/-- What condition SIGNAL carries: the latest code and the count. -/
structure SignalNote where
  code : Nat
  count : Nat
  deriving DecidableEq, Repr

/-- The source record of an exhibit (Table 1-6). A condition with a carried value is pending when its field is `some`. -/
structure SourceRecord where
  ended : Option Nat
  halted : Bool
  suspended : Bool
  faulted : Option FaultNote
  signal : Option SignalNote
  guarded : Bool
  stopped : Bool
  deriving DecidableEq, Repr

/-- The gallery record, source 48 (Table 1-8). The two masks are pending when an axis stands in them. -/
structure GalleryRecord where
  stopOn : Bool
  stopOff : Bool
  axisFault : BitVec 16
  disturbed : BitVec 16
  overflow : Option Nat
  unrouted : Bool
  escalated : Bool
  deriving DecidableEq, Repr

/-! ### Axes (Chapters 4 and 5) -/

/-- A direction of travel (Table 4-1). -/
inductive Dir where
  | towardLow
  | towardHigh
  deriving DecidableEq, Repr

/-- Axis states (Table 4-3). -/
inductive AxisState where
  | off
  | unhomed
  | homing
  | awaitPower
  | moving
  | stopping
  | idle
  | faulted
  deriving DecidableEq, Repr

/-- Fault causes (R93). -/
inductive FaultCause where
  | stall
  | limit
  | travel
  | homeFail
  deriving DecidableEq, Repr

/-- Homing phases (Table 5-1). -/
inductive HomePhase where
  | seek
  | creep
  deriving DecidableEq, Repr

/-- Sides of a mark (R112). -/
inductive Side where
  | above
  | below
  deriving DecidableEq, Repr

/-- A motion an axis waits to start, and a resume record (Table 4-1, R129): a move with its absolute target and speed set,
or a home. -/
inductive Request where
  | move (target : Int) (speedSet : Fin 4)
  | home
  deriving DecidableEq, Repr

/-- The move in progress (Table 4-1). -/
structure MoveRecord where
  target : Int
  speedSet : Fin 4
  deriving DecidableEq, Repr

/-- A speed set: start speed Vs, top speed Vmax, acceleration A (Table 4-2). -/
structure SpeedSet where
  vs : Nat
  vmax : Nat
  accel : Nat
  deriving DecidableEq, Repr

/-- The configuration copy of an axis (Table 4-2). -/
structure AxisConfig where
  low : Int
  high : Int
  ceiling : Nat
  sets : Vector SpeedSet 4
  draw : Nat
  followLimit : Nat
  stallTime : Nat
  homeDir : Dir
  seekSpeed : Nat
  creepSpeed : Nat
  searchDistance : Nat
  homeValue : Int
  marks : Vector (Option Int) 4
  deriving DecidableEq, Repr

/-- An axis controller (Tables 4-1 and 5-1), its resume record (R129), its switch filters and its outputs. -/
structure Axis where
  config : Option AxisConfig
  state : AxisState
  cause : Option FaultCause
  homed : Bool
  /-- Commanded position P. -/
  pos : Int
  encoder : Int
  /-- Velocity V. -/
  vel : Nat
  /-- Step accumulator R. -/
  acc : Nat
  dir : Option Dir
  move : Option MoveRecord
  stopBound : Option Int
  request : Option Request
  clamped : Bool
  followRun : Nat
  limitLow : InputFilter
  limitHigh : InputFilter
  measuredSpeed : Nat
  speedRef : Int
  phase : Option HomePhase
  travelled : Nat
  homeSwitch : InputFilter
  sides : Vector (Option Side) 4
  resume : Option Request
  /-- What DIR was last driven for; none is the low level after reset (R80, Table 4-7). For a move it turns as the axis enters
  MOVING, also over the pulses of an update of the same millisecond. DESIGN CHOICE (assumption 45), unsafe. -/
  dirOut : Option Dir
  /-- Step pulses issued on STEP in the millisecond of the last update (R87); 0 from a quick stop or an arrival on. DESIGN CHOICE
  (assumptions 43 and 44), unsafe. -/
  pulses : Nat
  /-- The model's own: P, the encoder count or V has changed since the image was last rewritten (R96). -/
  imageStale : Bool
  deriving DecidableEq, Repr

/-! ### Drive power pool (Chapter 6) -/

/-- An entry of the wait list: an axis and its draw (R116). -/
structure WaitEntry where
  axis : AxisNo
  draw : Nat
  deriving DecidableEq, Repr

/-- The drive pool arbiter (R116). -/
structure Pool where
  free : Nat
  held : Vector Nat 16
  waiting : List WaitEntry
  deriving DecidableEq, Repr

/-! ### Lamps (Chapter 8) -/

/-- Pattern kinds (Table 8-2). -/
inductive PatternKind where
  | off
  | steady
  | blink
  | envelope
  deriving DecidableEq, Repr

/-- An entry of the pattern table copy (Table 8-2): on and off times × 100 ms, period × 10 ms. -/
structure Pattern where
  kind : PatternKind
  level : Nat
  onTime : Nat
  offTime : Nat
  period : Nat
  rise : Bool
  repeats : Bool
  keep : Bool
  bounce : Bool
  deriving DecidableEq, Repr

/-- The fixed patterns (Table 8-3). -/
inductive FixedPattern where
  | severity1
  | severity2
  | severity3
  | acknowledged
  | readySteady
  | readyResting
  | readyGuard
  deriving DecidableEq, Repr

/-- The setting of a layer (R141). -/
inductive Setting where
  | idle
  | table (p : Fin 32)
  | fixed (f : FixedPattern)
  deriving DecidableEq, Repr

/-- The phase of a layer: none that changes (idle, OFF and STEADY), the on or off phase of a BLINK with the ms it has left
(R145), one period of an ENVELOPE sweep with its value, its direction, the periods left of the sweep, this one included,
and the ms left of the period (R146), or a held envelope value (R147). -/
inductive LampPhase where
  | constant
  | blinkOn (left : Nat)
  | blinkOff (left : Nat)
  | sweep (value : Nat) (rising : Bool) (periods : Nat) (left : Nat)
  | hold (value : Nat)
  deriving DecidableEq, Repr

/-- A layer of a channel (R141). -/
structure Layer where
  setting : Setting
  phase : LampPhase
  deriving DecidableEq, Repr

/-- Combine modes (R142). -/
inductive CombineMode where
  | over
  | max
  deriving DecidableEq, Repr

/-- A lamp channel (Table 8-1): `output` is the brightness of the PWM period in progress (R143). -/
structure Channel where
  combine : CombineMode
  idleLevel : Nat
  alertLayer : Layer
  showLayer : Layer
  readyLayer : Layer
  brightness : Nat
  output : Nat
  deriving DecidableEq, Repr

/-! ### Attendant alerts (Chapter 9) -/

/-- Alert causes (Table 9-1). -/
inductive AlertCause where
  | visitorCall
  | showCall
  | axisFault
  | showFault
  | guardHeld
  | buttonStuck
  | modelDisturbed
  | galleryStop
  | hostAlert
  deriving DecidableEq, Repr

/-- An alert record (Table 9-1); `acked` is the state ACKED, its absence RAISED. -/
structure Alert where
  number : Nat
  source : SourceNo
  cause : AlertCause
  code : Nat
  severity : Nat
  acked : Bool
  station : Option StationNo
  repeats : Nat
  escalations : Nat
  timer : Timer
  exhausted : Bool
  age : Nat
  deriving DecidableEq, Repr

/-- An attendant station: its station table copy (Table 9-3), its shown alert by number, its holdoff (R163), the values
presented on its display bus (R164) and the frame it sends (R194). -/
structure Station where
  routeMask : BitVec 8
  target : Option StationNo
  /-- s -/
  escalationTime : Nat
  callLamp : Option ChannelNo
  displayEnable : Bool
  shown : Option Nat
  holdoff : Timer
  displayNumber : Nat
  displaySeverity : Nat
  frame : Word
  deriving DecidableEq, Repr

/-! ### Exchange port, order unit, notice unit (Chapter 10) -/

/-- One word of the exchange RAM that is not 0, with its offset. -/
abbrev RamCell := Nat × Word

/-- Part states (R185). -/
inductive PartState where
  | cold
  | run
  deriving DecidableEq, Repr

/-- Deck states (R188). -/
inductive DeckState where
  | idle
  | running
  | done
  deriving DecidableEq, Repr

/-- The order unit (R188). -/
structure Deck where
  state : DeckState
  count : Nat
  position : Nat
  deriving DecidableEq, Repr

/-- The notice unit (R191). -/
structure NoticeUnit where
  full : Bool
  lastPosted : SourceNo
  deriving DecidableEq, Repr

/-- The part's cadences, counted from the moment the part leaves reset: the quarter of the millisecond in progress (the
250 µs of the row scan, the switch and the E-STOP sampling), the milliseconds counted toward the next 10 ms, 100 ms and 1 s
cadence, and the quarters counted toward the next display frame. The frames run from the moment the part leaves reset, and a
part reset does not begin one (R194): they are counted apart. -/
structure Cadence where
  quarter : Fin 4
  refresh : Nat
  speed : Nat
  age : Nat
  frame : Nat
  deriving DecidableEq, Repr

/-- A report of an axis controller that its neighbours have not yet taken (R83, R93, R113). The model's own: the list of
them is empty between steps. -/
inductive Report where
  | crossing (axis : AxisNo) (mark : Fin 4) (up : Bool)
  | motionDone (axis : AxisNo) (kind : MotionKind)
  | atRest (axis : AxisNo)
  | axisFault (axis : AxisNo) (cause : FaultCause)
  deriving DecidableEq, Repr

/-! ### The whole part -/

/-- The state of the part and the queue of commands that wait, first in first out. -/
structure State where
  /-- Exchange RAM, 16,384 words, in canonical form (`Ram.wf`). -/
  ram : List RamCell
  part : PartState
  /-- The RAM clearing after power-on reset, ms left; running is start-up busy (R186). -/
  clearing : Timer
  /-- Interrupt mask, bits 3…0 of PART_CTL. -/
  mask : BitVec 4
  /-- ATTN: bit 0 NOTICE, bit 1 DECK_DONE, bit 2 DECK_REFUSED, bit 3 STOP_CHANGE. -/
  attn : BitVec 4
  /-- The port's count of alert image rewrites (R181). -/
  rewriteCount : Word
  deck : Deck
  notice : NoticeUnit
  params : GalleryParams
  /-- The row of the button matrix driven next (R24). -/
  row : Fin 16
  buttons : Vector Button 256
  groups : Vector (BitVec 48) 8
  guards : Vector InputFilter 16
  estop : InputFilter
  exhibits : Vector Exhibit 48
  slots : Vector Slot 48
  sources : Vector SourceRecord 48
  gallery : GalleryRecord
  axes : Vector Axis 16
  pool : Pool
  patterns : Vector Pattern 32
  channels : Vector Channel 64
  /-- The alert list, oldest first. -/
  alerts : List Alert
  stations : Vector Station 4
  nextNumber : Nat
  stopInForce : Bool
  releaseWritten : Bool
  cadence : Cadence
  /-- The model's own: axis reports not yet taken by the step in progress. -/
  reports : List Report
  /-- The commands that wait, first in first out. -/
  pending : List Instr
  deriving DecidableEq, Repr

/-- Why a step stops with a fault: there is no such reason. The manual gives every command of the block an effect in
every state, so no command faults. DEDUCED (assumption 28), safe. -/
inductive Fault where
  deriving DecidableEq, Repr

/-- Why a step is refused. -/
inductive Refusal where
  /-- Raised by an arm of `exec` whose command has no meaning yet; safe. No arm raises it. -/
  | notModelled (mnemonic : String)
  deriving DecidableEq, Repr

/-! ### Reset values -/

/-- A filter after reset: the inactive level, no differing sample; the pin is taken to be inactive too. DESIGN CHOICE
(assumptions 19 and 22), unsafe. -/
def InputFilter.reset : InputFilter := { pin := false, level := false, run := 0 }

/-- Table 2-6. -/
def ButtonEntry.reset : ButtonEntry := { action := .none, longAction := .none, lockout := 0 }

/-- Table 2-6. -/
def Button.reset : Button :=
  { input := .reset, hold := .opened, holdTimer := 0, entry := .reset, lockout := none }

/-- Table 2-6: 4 scans, 10 × 100 ms, 60 s. -/
def GalleryParams.reset : GalleryParams := { debounce := 4, longThreshold := 10, stuckTime := 60 }

/-- Table 1-9. -/
def Exhibit.reset : Exhibit :=
  { config := none, state := .off, returnState := none, encore := false, guardOpen := false, rest := none,
    settle := none, guardAlert := none, accepted := 0, ignored := 0, completed := 0 }

/-- R76. DESIGN CHOICE (assumption 22), unsafe: the loop start. -/
def Slot.reset : Slot :=
  { current := none, status := none, wait := none, loopCount := 0, loopStart := 0, runaway := 0, frozen := false,
    firstFault := none }

/-- Table 1-9. -/
def SourceRecord.reset : SourceRecord :=
  { ended := none, halted := false, suspended := false, faulted := none, signal := none, guarded := false,
    stopped := false }

/-- Table 1-9. -/
def GalleryRecord.reset : GalleryRecord :=
  { stopOn := false, stopOff := false, axisFault := 0, disturbed := 0, overflow := none, unrouted := false,
    escalated := false }

/-- Tables 4-7 and 5-3. -/
def Axis.reset : Axis :=
  { config := none, state := .off, cause := none, homed := false, pos := 0, encoder := 0, vel := 0, acc := 0,
    dir := none, move := none, stopBound := none, request := none, clamped := false, followRun := 0,
    limitLow := .reset, limitHigh := .reset, measuredSpeed := 0, speedRef := 0, phase := none, travelled := 0,
    homeSwitch := .reset, sides := Vector.replicate 4 none, resume := none, dirOut := none, pulses := 0,
    imageStale := false }

/-- R126. -/
def Pool.reset : Pool :=
  { free := Config.driveUnits, held := Vector.replicate 16 0, waiting := [] }

/-- Table 8-5: kind OFF, level 0. DESIGN CHOICE (assumption 22), unsafe: the times and marks. -/
def Pattern.reset : Pattern :=
  { kind := .off, level := 0, onTime := 0, offTime := 0, period := 0, rise := false, repeats := false, keep := false,
    bounce := false }

/-- An idle layer. -/
def Layer.reset : Layer := { setting := .idle, phase := .constant }

/-- Table 8-5. -/
def Channel.reset : Channel :=
  { combine := .over, idleLevel := 0, alertLayer := .reset, showLayer := .reset, readyLayer := .reset, brightness := 0,
    output := 0 }

/-- Table 9-4; the frame is blank (R194). -/
def Station.reset : Station :=
  { routeMask := 0, target := none, escalationTime := 600, callLamp := none, displayEnable := false, shown := none,
    holdoff := none, displayNumber := 0, displaySeverity := 0, frame := 0 }

/-- R188. DESIGN CHOICE (assumption 27), safe: count and position. -/
def Deck.reset : Deck := { state := .idle, count := 0, position := 0 }

/-- R192. -/
def NoticeUnit.reset : NoticeUnit := { full := false, lastPosted := 48 }

/-- Every cadence starts when the part leaves reset. -/
def Cadence.reset : Cadence := { quarter := 0, refresh := 0, speed := 0, age := 0, frame := 0 }

/-- The part right after RESETn is released: every block at its power-on reset values, the exchange RAM cleared and
its 2 ms clearing begun (R186), no command waiting. DEDUCED (assumption 21), safe. -/
def State.reset : State :=
  { ram := [], part := .cold, clearing := some Config.clearingMs, mask := 0, attn := 0, rewriteCount := 0,
    deck := .reset, notice := .reset, params := .reset, row := 0, buttons := Vector.replicate 256 .reset,
    groups := Vector.replicate 8 0, guards := Vector.replicate 16 .reset, estop := .reset,
    exhibits := Vector.replicate 48 .reset, slots := Vector.replicate 48 .reset,
    sources := Vector.replicate 48 .reset, gallery := .reset, axes := Vector.replicate 16 .reset, pool := .reset,
    patterns := Vector.replicate 32 .reset, channels := Vector.replicate 64 .reset, alerts := [],
    stations := Vector.replicate 4 .reset, nextNumber := 1, stopInForce := false, releaseWritten := false,
    cadence := .reset, reports := [], pending := [] }

end Sys2Proof.Machine
end

