-- ==== Sys2Proof/Machine/Ops.lean ====
section
/-! DEFINITION. The named operations over tables, words, the exchange RAM and the fields of the state that every block uses. -/

namespace Sys2Proof.Machine

/-! ### Tables -/

/-- Entry `i` of a table. -/
def tget {α : Type} {n : Nat} (v : Vector α n) (i : Fin n) : α := v[i]

/-- The table with entry `i` replaced. -/
def tset {α : Type} {n : Nat} (v : Vector α n) (i : Fin n) (x : α) : Vector α n := v.set i.1 x i.2

/-- The table whose entry `i` is `f i` of the old entry. -/
def tmap {α β : Type} {n : Nat} (f : Fin n → α → β) (v : Vector α n) : Vector β n :=
  Vector.ofFn fun i => f i (tget v i)

/-- Do `f` for each number 0…n − 1 in ascending order. -/
def forEach {σ : Type} (n : Nat) (f : Fin n → σ → σ) (s : σ) : σ := (List.finRange n).foldl (fun t i => f i t) s

/-- The lowest number 0…n − 1 that meets `p`. -/
def lowest (n : Nat) (p : Fin n → Bool) : Option (Fin n) := (List.finRange n).find? p

/-- The number `k` as an index below `n`, when it is one. -/
def index? (n k : Nat) : Option (Fin n) := if h : k < n then some ⟨k, h⟩ else none

/-! ### Counters and bit fields -/

/-- A counter that gains `k` and stops at `top` (00_scope.md, Counters). -/
def satAdd (top n k : Nat) : Nat := min top (n + k)

/-- The field of `len` bits of a word whose lowest bit is `lo`. -/
def bits (w : Word) (lo len : Nat) : Nat := w.toNat / 2 ^ lo % 2 ^ len

/-- One bit of a word. -/
def bit (w : Word) (i : Nat) : Bool := w.getLsbD i

/-- The weight of a bit that shows a flag. -/
def flag (b : Bool) (i : Nat) : Nat := if b then 2 ^ i else 0

/-- A word from the sum of its fields. DESIGN CHOICE (assumption 30), safe. -/
def mkWord (n : Nat) : Word := BitVec.ofNat 16 n

/-- The value of 24 bits read as two's complement (R193). -/
def signed24 (n : Nat) : Int := if n < 8388608 then (n : Int) else (n : Int) - 16777216

/-- A position as a signed 32-bit value, high word first (R193). -/
def positionWords (p : Int) : List Word :=
  let n := (BitVec.ofInt 32 p).toNat
  [mkWord (n / 65536), mkWord (n % 65536)]

/-! ### Exchange RAM (R178, R180) -/

/-- The word at an offset; an offset that is not listed reads as 0, as power-on reset leaves it (R186). DEDUCED
(assumption 18), safe. -/
def Memory.read (m : List RamCell) (a : Nat) : Word :=
  match m.find? (fun c => c.1 == a) with
  | some c => c.2
  | none => 0

/-- The cells of a run of words from an offset: those that are not 0. -/
def Memory.cells (a : Nat) : List Word → List RamCell
  | [] => []
  | w :: ws => if w = 0 then Memory.cells (a + 1) ws else (a, w) :: Memory.cells (a + 1) ws

/-- A run of words written from an offset on. -/
def Memory.writeRange (m : List RamCell) (a : Nat) (ws : List Word) : List RamCell :=
  m.filter (fun c => decide (c.1 < a)) ++ (Memory.cells a ws ++ m.filter (fun c => decide (a + ws.length ≤ c.1)))

/-- The canonical form: offsets strictly rising and below 16,384, no word 0. -/
def Memory.wf (m : List RamCell) : Bool :=
  decide (m.Pairwise (fun x y => x.1 < y.1)) && m.all (fun c => decide (c.1 < 16384) && decide (c.2 ≠ 0))

/-- The word of the exchange RAM at an offset. -/
def State.word (s : State) (a : Nat) : Word := Memory.read s.ram a

/-- A run of words written into the exchange RAM. -/
def State.writeWords (s : State) (a : Nat) (ws : List Word) : State := { s with ram := Memory.writeRange s.ram a ws }

/-- `n` words read from an offset on. -/
def State.words (s : State) (a n : Nat) : List Word := (List.range n).map fun i => s.word (a + i)

/-! ### The exchange RAM map (Table 10-1) -/

def addrDeckCtl : Nat := 0x0000
def addrDeckState : Nat := 0x0001
def addrNbState : Nat := 0x0002
def addrImageSeq : Nat := 0x0003
def addrNoticeBox : Nat := 0x0010
def addrCell (k : Nat) : Nat := 0x0020 + 4 * k
def addrGalleryRecord : Nat := 0x0120
def addrExhibitRecord (e : ExhibitNo) : Nat := 0x0130 + 32 * e.val
def addrAxisRecord (a : AxisNo) : Nat := 0x0730 + 32 * a.val
def addrButton (b : ButtonNo) : Nat := 0x0930 + 2 * b.val
def addrGroup (g : Fin 8) : Nat := 0x0B30 + 4 * g.val
def addrPattern (p : Fin 32) : Nat := 0x0B50 + 4 * p.val
def addrChannel (c : ChannelNo) : Nat := 0x0BD0 + 2 * c.val
def addrStation (st : StationNo) : Nat := 0x0C50 + 8 * st.val
def addrAlertImage : Nat := 0x0C70
def addrExhibitImage (e : ExhibitNo) : Nat := 0x0D70 + 8 * e.val
def addrAxisImage (a : AxisNo) : Nat := 0x0EF0 + 8 * a.val
def addrStore : Nat := 0x1000

/-! ### One entry of a table of the state -/

def State.button (s : State) (b : ButtonNo) : Button := tget s.buttons b
def State.setButton (s : State) (b : ButtonNo) (x : Button) : State := { s with buttons := tset s.buttons b x }

def State.guardLine (s : State) (g : GuardNo) : InputFilter := tget s.guards g
def State.setGuardLine (s : State) (g : GuardNo) (x : InputFilter) : State := { s with guards := tset s.guards g x }

def State.exhibit (s : State) (e : ExhibitNo) : Exhibit := tget s.exhibits e
def State.setExhibit (s : State) (e : ExhibitNo) (x : Exhibit) : State := { s with exhibits := tset s.exhibits e x }

def State.slot (s : State) (e : ExhibitNo) : Slot := tget s.slots e
def State.setSlot (s : State) (e : ExhibitNo) (x : Slot) : State := { s with slots := tset s.slots e x }

def State.source (s : State) (e : ExhibitNo) : SourceRecord := tget s.sources e
def State.setSource (s : State) (e : ExhibitNo) (x : SourceRecord) : State := { s with sources := tset s.sources e x }

def State.axis (s : State) (a : AxisNo) : Axis := tget s.axes a
def State.setAxis (s : State) (a : AxisNo) (x : Axis) : State := { s with axes := tset s.axes a x }

def State.channel (s : State) (c : ChannelNo) : Channel := tget s.channels c
def State.setChannel (s : State) (c : ChannelNo) (x : Channel) : State := { s with channels := tset s.channels c x }

def State.station (s : State) (st : StationNo) : Station := tget s.stations st
def State.setStation (s : State) (st : StationNo) (x : Station) : State := { s with stations := tset s.stations st x }

/-- An axis report joins those the step has not yet taken. -/
def State.report (s : State) (r : Report) : State := { s with reports := s.reports ++ [r] }

/-! ### Bindings (R1, R3) -/

/-- The configuration of an exhibit that is in force: none while it is OFF. -/
def Exhibit.inForce (x : Exhibit) : Option ExhibitConfig := if x.state = .off then none else x.config

/-- The configuration names the axis. -/
def ExhibitConfig.namesAxis (c : ExhibitConfig) (a : AxisNo) : Bool := c.axes.toList.contains (some a)

/-- The configuration names the channel as a show lamp. -/
def ExhibitConfig.namesShowLamp (c : ExhibitConfig) (ch : ChannelNo) : Bool := c.showLamps.toList.contains (some ch)

/-- The configuration names the channel in some role. -/
def ExhibitConfig.namesChannel (c : ExhibitConfig) (ch : ChannelNo) : Bool :=
  c.namesShowLamp ch || c.readyLamp == some ch || c.beaconLamp == some ch

/-- The exhibit the axis is bound to (section 1.1). -/
def State.axisOwner (s : State) (a : AxisNo) : Option ExhibitNo :=
  lowest 48 fun e => match (s.exhibit e).inForce with
    | some c => c.namesAxis a
    | none => false

/-- The exhibit the channel is bound to (section 1.1). -/
def State.channelOwner (s : State) (ch : ChannelNo) : Option ExhibitNo :=
  lowest 48 fun e => match (s.exhibit e).inForce with
    | some c => c.namesChannel ch
    | none => false

/-- The bound axes of an exhibit in local axis index order. -/
def State.boundAxes (s : State) (e : ExhibitNo) : List AxisNo :=
  match (s.exhibit e).inForce with
  | some c => c.axes.toList.filterMap id
  | none => []

/-- The channel is the call lamp of a station. -/
def State.isCallLamp (s : State) (ch : ChannelNo) : Bool := s.stations.toList.any fun t => t.callLamp == some ch

/-- An exhibit as a source. -/
def exhibitSource (e : ExhibitNo) : SourceNo := ⟨e.val, by omega⟩

/-- The gallery as a source. -/
def gallerySource : SourceNo := 48

/-- The exhibit a source is, when it is not the gallery. -/
def sourceExhibit (src : SourceNo) : Option ExhibitNo := index? 48 src.val

/-- HOMING, AWAIT_POWER, MOVING or STOPPING: the axis is not at rest (R57). -/
def AxisState.busy : AxisState → Bool
  | .homing | .awaitPower | .moving | .stopping => true
  | .off | .unhomed | .idle | .faulted => false

/-- HOMING, MOVING or STOPPING: the axis drives its model and holds its units (R116). -/
def AxisState.drives : AxisState → Bool
  | .homing | .moving | .stopping => true
  | .off | .unhomed | .awaitPower | .idle | .faulted => false

/-- The drive enable output of an axis in this state (Table 4-3). -/
def AxisState.ena : AxisState → Bool
  | .homing | .awaitPower | .moving | .stopping | .idle => true
  | .off | .unhomed | .faulted => false

end Sys2Proof.Machine
end

