-- ==== Sys2Proof/Machine/Flags.lean ====
section
/-! DEFINITION. Attention causes and the interrupt line (section 10.3), the conditions of the notice sources (section 1.7)
and the codes that images, notices and details show (Table 10-12, Table 10-13). -/

namespace Sys2Proof.Machine

/-! ### Attention causes (R183, R184) -/

def attnNotice : BitVec 4 := 1
def attnDeckDone : BitVec 4 := 2
def attnDeckRefused : BitVec 4 := 4
def attnStopChange : BitVec 4 := 8

/-- An event sets its attention cause; one that is set stays set (R183). -/
def State.setAttn (s : State) (cause : BitVec 4) : State := { s with attn := s.attn ||| cause }

/-- IRQn is asserted, low, while some cause is both set and enabled (R184). -/
def State.irqAsserted (s : State) : Bool := s.attn &&& s.mask != 0

/-! ### Codes (Table 10-12) -/

def ExhibitState.code : ExhibitState → Nat
  | .off => 0
  | .ready => 1
  | .running => 2
  | .suspended => 3
  | .guarded => 4
  | .halting => 5
  | .resting => 6
  | .faulted => 7
  | .locked => 8

def AxisState.code : AxisState → Nat
  | .off => 0
  | .unhomed => 1
  | .homing => 2
  | .awaitPower => 3
  | .moving => 4
  | .stopping => 5
  | .idle => 6
  | .faulted => 7

def causeCode : Option FaultCause → Nat
  | none => 0
  | some .stall => 1
  | some .limit => 2
  | some .travel => 3
  | some .homeFail => 4

def showFaultCode : Option ShowFault → Nat
  | none => 0
  | some .stepInvalid => 1
  | some .loopNest => 2
  | some .storeEnd => 3
  | some .runaway => 4
  | some .axisUnusable => 5
  | some .axisUnhomed => 6
  | some .axisBusy => 7
  | some .axisStall => 8
  | some .axisLimit => 9
  | some .axisTravel => 10
  | some .homeFail => 11

def AlertCause.code : AlertCause → Nat
  | .visitorCall => 1
  | .showCall => 2
  | .axisFault => 3
  | .showFault => 4
  | .guardHeld => 5
  | .buttonStuck => 6
  | .modelDisturbed => 7
  | .galleryStop => 8
  | .hostAlert => 9

/-- The show fault a bound axis fault becomes (Table 3-5). -/
def FaultCause.showFault : FaultCause → ShowFault
  | .stall => .axisStall
  | .limit => .axisLimit
  | .travel => .axisTravel
  | .homeFail => .homeFail

/-- The first seven codes of Table 3-5: a show fault that is not an axis fault. -/
def ShowFault.isStepFault : ShowFault → Bool
  | .stepInvalid | .loopNest | .storeEnd | .runaway | .axisUnusable | .axisUnhomed | .axisBusy => true
  | .axisStall | .axisLimit | .axisTravel | .homeFail => false

/-! ### Exhibit conditions (R21, Table 1-6) -/

/-- The kinds of condition an exhibit's source record holds, with what each marking carries. -/
inductive Condition where
  | ended
  | halted
  | suspended
  | faulted (note : FaultNote)
  | signal (code : Nat)
  | guarded
  | stopped
  deriving DecidableEq, Repr

/-- A condition is marked and merges with one already pending (R21). -/
def SourceRecord.mark (r : SourceRecord) : Condition → SourceRecord
  | .ended => { r with ended := some (satAdd 255 (r.ended.getD 0) 1) }
  | .halted => { r with halted := true }
  | .suspended => { r with suspended := true }
  | .faulted note => { r with faulted := some note }
  | .signal code => { r with signal := some { code := code, count := satAdd 255 ((r.signal.map (·.count)).getD 0) 1 } }
  | .guarded => { r with guarded := true }
  | .stopped => { r with stopped := true }

/-- The condition set of an exhibit's record (Table 10-13). -/
def SourceRecord.conditionSet (r : SourceRecord) : Nat :=
  flag r.ended.isSome 0 + flag r.halted 1 + flag r.suspended 2 + flag r.faulted.isSome 3 + flag r.signal.isSome 4 +
    flag r.guarded 5 + flag r.stopped 6

/-- Some condition is pending. -/
def SourceRecord.pending (r : SourceRecord) : Bool := r.conditionSet != 0

/-- A condition that holds START SHOW and RESUME back is pending (Table 3-6). -/
def SourceRecord.holdsOrders (r : SourceRecord) : Bool :=
  r.ended.isSome || r.halted || r.faulted.isSome || r.suspended || r.stopped

/-- A condition is marked at an exhibit's source. -/
def State.markCondition (s : State) (e : ExhibitNo) (c : Condition) : State := s.setSource e ((s.source e).mark c)

/-! ### Gallery conditions (R22, Table 1-8) -/

/-- The condition set of the gallery record (Table 10-13). -/
def GalleryRecord.conditionSet (r : GalleryRecord) : Nat :=
  flag r.stopOn 0 + flag r.stopOff 1 + flag (r.axisFault != 0) 2 + flag (r.disturbed != 0) 3 + flag r.overflow.isSome 4 +
    flag r.unrouted 5 + flag r.escalated 6

/-- Some gallery condition is pending. -/
def GalleryRecord.pending (r : GalleryRecord) : Bool := r.conditionSet != 0

/-- The mask with the bit of an axis alone. -/
def axisBit (a : AxisNo) : BitVec 16 := 1#16 <<< a.val

def State.markStopOn (s : State) : State := { s with gallery := { s.gallery with stopOn := true } }
def State.markStopOff (s : State) : State := { s with gallery := { s.gallery with stopOff := true } }
def State.markAxisFault (s : State) (a : AxisNo) : State :=
  { s with gallery := { s.gallery with axisFault := s.gallery.axisFault ||| axisBit a } }
def State.markDisturbed (s : State) (a : AxisNo) : State :=
  { s with gallery := { s.gallery with disturbed := s.gallery.disturbed ||| axisBit a } }
def State.markOverflow (s : State) : State :=
  { s with gallery := { s.gallery with overflow := some (satAdd 255 (s.gallery.overflow.getD 0) 1) } }
def State.markUnrouted (s : State) : State := { s with gallery := { s.gallery with unrouted := true } }
def State.markEscalated (s : State) : State := { s with gallery := { s.gallery with escalated := true } }

end Sys2Proof.Machine
end

