-- ==== Sys2Proof/Machine/Images.lean ====
section
/-! DEFINITION. The exhibit and axis status images (R20, R96, Tables 10-9 and 10-10) and the operations that change an
exhibit, a slot or an axis and rewrite its image when one of the image's occasions arises. -/

namespace Sys2Proof.Machine

/-! ### Exhibit status image -/

/-- Table 10-9. -/
def exhibitImage (x : Exhibit) (sl : Slot) : List Word :=
  [ mkWord (x.state.code + flag x.encore 15 + flag x.guardOpen 14 + flag x.rest.isSome 13),
    mkWord (sl.current.getD 0xFFFF),
    mkWord sl.loopCount,
    mkWord (showFaultCode (sl.firstFault.map (·.code))),
    mkWord x.accepted,
    mkWord x.ignored,
    mkWord x.completed,
    0 ]

/-- The image of an exhibit is written with the values its owners hold (R181). -/
def State.writeExhibitImage (s : State) (e : ExhibitNo) : State :=
  s.writeWords (addrExhibitImage e) (exhibitImage (s.exhibit e) (s.slot e))

/-- The image is rewritten when one of its fields differs from what `before` showed (R20). -/
def State.refreshExhibitImage (s : State) (e : ExhibitNo) (before : List Word) : State :=
  if exhibitImage (s.exhibit e) (s.slot e) = before then s else s.writeExhibitImage e

/-- An exhibit table entry changes. -/
def State.putExhibit (s : State) (e : ExhibitNo) (x : Exhibit) : State :=
  (s.setExhibit e x).refreshExhibitImage e (exhibitImage (s.exhibit e) (s.slot e))

/-- A show slot changes. -/
def State.putSlot (s : State) (e : ExhibitNo) (sl : Slot) : State :=
  (s.setSlot e sl).refreshExhibitImage e (exhibitImage (s.exhibit e) (s.slot e))

/-! ### Axis status image -/

/-- The sides of the four marks, 1 above and 0 below or unused (Table 10-10). -/
def sideBits (sides : Vector (Option Side) 4) : Nat :=
  flag (tget sides 0 == some .above) 8 + flag (tget sides 1 == some .above) 9 + flag (tget sides 2 == some .above) 10 +
    flag (tget sides 3 == some .above) 11

/-- Word 0 of an axis image: state, fault cause, mark sides and the three flags. The pending flag, set while the axis
is in the wait list, is read from the state: the axis is in the list exactly when it is in AWAIT_POWER (R117). DEDUCED
(assumption 17), safe. -/
def Axis.imageHead (x : Axis) : Word :=
  mkWord (x.state.code + 16 * causeCode x.cause + sideBits x.sides + flag (x.state == .awaitPower) 13 + flag x.homed 14 +
    flag x.clamped 15)

/-- Table 10-10. -/
def axisImage (x : Axis) : List Word :=
  x.imageHead :: (positionWords x.pos ++ (positionWords x.encoder ++ [mkWord x.vel, mkWord x.measuredSpeed, 0]))

/-- The whole image of an axis is rewritten with the values it holds (R96). -/
def State.writeAxisImage (s : State) (a : AxisNo) : State :=
  let t := s.setAxis a { s.axis a with imageStale := false }
  t.writeWords (addrAxisImage a) (axisImage (t.axis a))

/-- An axis changes in one act. Its image is rewritten when its state, fault cause, a flag or a mark side changes, also
where the bit of a side reads the same, and when `rewrite` says that the act is a re-sync, a load or a measured-speed report
(R96); otherwise a change of P, the encoder
count or V leaves the image stale until the next rewrite. -/
def State.putAxis (s : State) (a : AxisNo) (x : Axis) (rewrite : Bool) : State :=
  let old := s.axis a
  if rewrite || old.imageHead != x.imageHead || old.sides != x.sides then (s.setAxis a x).writeAxisImage a
  else s.setAxis a { x with
    imageStale := old.imageStale || old.pos != x.pos || old.encoder != x.encoder || old.vel != x.vel }

/-! ### Marks and crossings (R112, R113) -/

/-- The side of a mark on which a position lies (R112). -/
def sideOf (mark p : Int) : Side := if mark ≤ p then .above else .below

/-- The sides of the marks at a position; an unused mark has none. -/
def sidesAt (marks : Vector (Option Int) 4) (p : Int) : Vector (Option Side) 4 :=
  tmap (fun _ m => m.map fun k => sideOf k p) marks

/-- The marks an axis uses; an axis without a configuration has none. -/
def Axis.marks (x : Axis) : Vector (Option Int) 4 := (x.config.map (·.marks)).getD (Vector.replicate 4 none)

/-- A crossing in the making: its mark, the mark's position and the new side. -/
structure CrossedMark where
  mark : Fin 4
  position : Int
  up : Bool
  deriving DecidableEq, Repr

/-- A crossing takes its place among others by its distance along the travel; one at the same position comes after. -/
def insertCrossed (upward : Bool) (c : CrossedMark) : List CrossedMark → List CrossedMark
  | [] => [c]
  | d :: ds =>
    if (if upward then c.position < d.position else d.position < c.position) then c :: d :: ds
    else d :: insertCrossed upward c ds

/-- The crossings of one change of P, in the order of the marks' positions from the old P toward the new one, marks at one
position in mark-number order (R113). A run of single counts in one direction crosses the same marks in the same order; that marks at one
position are in mark-number order there too is a DESIGN CHOICE (assumption 41), unsafe. -/
def crossings (x : Axis) (p : Int) : List CrossedMark :=
  (List.finRange 4).foldl (fun acc i =>
    match tget x.marks i, tget x.sides i with
    | some k, some side => if sideOf k p = side then acc
        else insertCrossed (decide (x.pos ≤ p)) { mark := i, position := k, up := sideOf k p == .above } acc
    | _, _ => acc) []

/-- P becomes `p` and the mark sides follow; an OFF axis has no sides (R112). -/
def Axis.movedTo (x : Axis) (p : Int) : Axis :=
  { x with pos := p, sides := if x.state = .off then x.sides else sidesAt x.marks p }

/-- The crossings an act of an axis makes are reported one after another (R113). An OFF axis reports none (R112). -/
def State.reportCrossings (s : State) (a : AxisNo) (cs : List CrossedMark) : State :=
  cs.foldl (fun t c => t.report (.crossing a c.mark c.up)) s

/-- An axis changes in one act that ends with P at `p`: `x` is the axis as the act leaves it but for P and its sides. -/
def State.putAxisAt (s : State) (a : AxisNo) (x : Axis) (p : Int) (rewrite : Bool) : State :=
  let cs := if (s.axis a).state = .off then [] else crossings (s.axis a) p
  (s.putAxis a (x.movedTo p) rewrite).reportCrossings a cs

end Sys2Proof.Machine
end

