-- ==== Sys2Proof/Machine/Lamps.lean ====
section
/-! DEFINITION. The lamp driver: patterns, layers, combination and output (Chapter 8). -/

namespace Sys2Proof.Machine

/-- A fixed pattern as a pattern table entry (Table 8-3). -/
def FixedPattern.pattern : FixedPattern → Pattern
  | .severity1 => { Pattern.reset with kind := .blink, level := 255, onTime := 5, offTime := 15 }
  | .severity2 => { Pattern.reset with kind := .blink, level := 255, onTime := 5, offTime := 5 }
  | .severity3 => { Pattern.reset with kind := .blink, level := 255, onTime := 1, offTime := 1 }
  | .acknowledged => { Pattern.reset with kind := .steady, level := 64 }
  | .readySteady => { Pattern.reset with kind := .steady, level := 255 }
  | .readyResting => { Pattern.reset with kind := .blink, level := 255, onTime := 5, offTime := 5 }
  | .readyGuard => { Pattern.reset with kind := .blink, level := 255, onTime := 1, offTime := 1 }

/-- The fixed pattern that calls at a severity (R164, R172). -/
def severityPattern (severity : Nat) : FixedPattern :=
  if severity ≤ 1 then .severity1 else if severity = 2 then .severity2 else .severity3

/-- The pattern a setting runs; none when idle (R141). -/
def patternOf (table : Vector Pattern 32) : Setting → Option Pattern
  | .idle => none
  | .table p => some (tget table p)
  | .fixed f => some f.pattern

/-- The start phase of a pattern (R144, R145, R146). -/
def Pattern.startPhase (p : Pattern) : LampPhase :=
  match p.kind with
  | .off => .constant
  | .steady => .constant
  | .blink => .blinkOn (p.onTime * 100)
  | .envelope => .sweep (if p.rise then 0 else 15) p.rise 16 (p.period * 10)

/-- A layer newly set: an active one at the start phase of its pattern, an idle one without a phase (R141). -/
def startLayer (table : Vector Pattern 32) (setting : Setting) : Layer :=
  { setting := setting, phase := ((patternOf table setting).map (·.startPhase)).getD .constant }

/-- The envelope value of a phase. -/
def LampPhase.envelope : LampPhase → Nat
  | .sweep e _ _ _ => e
  | .hold e => e
  | .constant => 0
  | .blinkOn _ => 0
  | .blinkOff _ => 0

/-- A BLINK phase is its on phase. -/
def LampPhase.isOn : LampPhase → Bool
  | .blinkOn _ => true
  | .constant => false
  | .blinkOff _ => false
  | .sweep _ _ _ _ => false
  | .hold _ => false

/-- The brightness a pattern gives at a phase (R144, R145, R146). -/
def Pattern.level_at (p : Pattern) (ph : LampPhase) : Nat :=
  match p.kind with
  | .off => 0
  | .steady => p.level
  | .blink => if ph.isOn then p.level else 0
  | .envelope => p.level * ph.envelope / 15

/-- The brightness of a layer: none while it is idle (R141). -/
def layerLevel (table : Vector Pattern 32) (l : Layer) : Option Nat :=
  (patternOf table l.setting).map fun p => p.level_at l.phase

/-- The brightness of a channel from its combine mode, its idle level and its layers (R142). -/
def combined (table : Vector Pattern 32) (c : Channel) : Nat :=
  let active := [layerLevel table c.alertLayer, layerLevel table c.showLayer, layerLevel table c.readyLayer].filterMap id
  match c.combine, active with
  | _, [] => c.idleLevel
  | .over, b :: _ => b
  | .max, b :: bs => bs.foldl Nat.max b

/-- A channel whose inputs may have changed has its brightness worked out again (R142). -/
def Channel.refresh (table : Vector Pattern 32) (c : Channel) : Channel := { c with brightness := combined table c }

/-- A layer of a channel. -/
def Channel.layer (c : Channel) : LayerName → Layer
  | .alertLayer => c.alertLayer
  | .showLayer => c.showLayer
  | .readyLayer => c.readyLayer

/-- A layer of a channel replaced. -/
def Channel.withLayer (c : Channel) (name : LayerName) (l : Layer) : Channel :=
  match name with
  | .alertLayer => { c with alertLayer := l }
  | .showLayer => { c with showLayer := l }
  | .readyLayer => { c with readyLayer := l }

/-- A layer is set: to a pattern at its start phase, or idle (R141). -/
def State.setLayer (s : State) (ch : ChannelNo) (name : LayerName) (setting : Setting) : State :=
  s.setChannel ch (((s.channel ch).withLayer name (startLayer s.patterns setting)).refresh s.patterns)

/-- A layer is set only when the choice differs from the setting in force (R18, R150). -/
def State.chooseLayer (s : State) (ch : ChannelNo) (name : LayerName) (setting : Setting) : State :=
  if ((s.channel ch).layer name).setting = setting then s else s.setLayer ch name setting

/-- `chooseLayer` on a lamp field that may hold none. -/
def State.chooseLamp (s : State) (lamp : Option ChannelNo) (name : LayerName) (setting : Setting) : State :=
  match lamp with
  | none => s
  | some ch => s.chooseLayer ch name setting

/-- The end of an ENVELOPE period (R146, R147). -/
def Pattern.sweepStep (p : Pattern) (e : Nat) (rising : Bool) (periods : Nat) : LampPhase :=
  let next := if rising then e + 1 else e - 1
  let startValue := if p.rise then 0 else 15
  let back := if rising then e - 1 else e + 1
  if 1 < periods then .sweep next rising (periods - 1) (p.period * 10)
  else match p.repeats, p.keep, p.bounce with
    | false, true, _ => .hold e
    | false, false, _ => .hold 0
    | true, false, false => .sweep startValue p.rise 16 (p.period * 10)
    | true, false, true => .sweep back (!rising) 15 (p.period * 10)
    | true, true, false => .hold e
    | true, true, true => .hold startValue

/-- The phase after a phase step of a pattern (R145, R146, R147). -/
def Pattern.stepPhase (p : Pattern) : LampPhase → LampPhase
  | .constant => .constant
  | .blinkOn _ => .blinkOff (p.offTime * 100)
  | .blinkOff _ => .blinkOn (p.onTime * 100)
  | .sweep e rising periods _ => p.sweepStep e rising periods
  | .hold e => .hold e

/-- A phase that comes to an end: a BLINK phase or an ENVELOPE period; OFF, STEADY and a hold have none (R144, R147). -/
def LampPhase.changes : LampPhase → Bool
  | .blinkOn _ | .blinkOff _ | .sweep _ _ _ _ => true
  | .constant | .hold _ => false

/-- A phase step of a layer; a layer without a changing phase makes none. -/
def State.lampPhaseStep (s : State) (ch : ChannelNo) (name : LayerName) : State :=
  let c := s.channel ch
  let l := c.layer name
  match patternOf s.patterns l.setting, l.phase.changes with
  | some p, true => s.setChannel ch ((c.withLayer name { l with phase := p.stepPhase l.phase }).refresh s.patterns)
  | some _, false => s
  | none, _ => s

/-- A new PWM period: every output takes its current brightness (R143). -/
def State.pwmPeriod (s : State) : State :=
  { s with channels := tmap (fun _ c => { c with output := c.brightness }) s.channels }

/-- The level of a lamp output in one of the 255 slices of a PWM period (R143). -/
def Channel.lampOn (c : Channel) (slice : Fin 255) : Bool := decide (slice.val < c.output)

/-! ### CONFIGURE LAMPS (R151, R152, Table 10-7) -/

/-- Pattern kind codes. -/
def patternKind? (n : Nat) : Option PatternKind :=
  match n with
  | 0 => some .off
  | 1 => some .steady
  | 2 => some .blink
  | 3 => some .envelope
  | _ => none

/-- A pattern entry, when it passes its checks (R151). -/
def parsePattern (w0 w1 w2 : Word) : Option Pattern :=
  match patternKind? (bits w0 12 4) with
  | none => none
  | some k =>
    let p : Pattern :=
      { kind := k, level := bits w0 0 8, onTime := bits w1 8 8, offTime := bits w1 0 8, period := bits w2 0 8,
        rise := bit w0 11, repeats := bit w0 10, keep := bit w0 9, bounce := bit w0 8 }
    match k with
    | .blink => if p.onTime = 0 ∨ p.offTime = 0 then none else some p
    | .envelope => if p.period = 0 then none else some p
    | .off => some p
    | .steady => some p

/-- A channel entry's combine mode, when it passes its check (R151). -/
def parseCombine (w0 : Word) : Option CombineMode :=
  match w0.toNat with
  | 0 => some .over
  | 1 => some .max
  | _ => none

/-- The pattern entries of exchange RAM. -/
def State.readPattern (s : State) (p : Fin 32) : Option Pattern :=
  parsePattern (s.word (addrPattern p)) (s.word (addrPattern p + 1)) (s.word (addrPattern p + 2))

/-- The combine mode of a channel entry of exchange RAM. -/
def State.readCombine (s : State) (ch : ChannelNo) : Option CombineMode := parseCombine (s.word (addrChannel ch))

/-- The detail of the first entry that fails: the pattern number, or 32 plus the channel number (R151). -/
def State.lampRecordFault (s : State) : Option Nat :=
  match lowest 32 fun p => (s.readPattern p).isNone with
  | some p => some p.val
  | none => (lowest 64 fun ch => (s.readCombine ch).isNone).map fun ch => 32 + ch.val

/-- A pattern entry is replaced: its kind, or a field its new kind uses, differs (R152). -/
def Pattern.replacedBy (old new : Pattern) : Bool :=
  old.kind != new.kind ||
  match new.kind with
  | .off => false
  | .steady => old.level != new.level
  | .blink => old.level != new.level || old.onTime != new.onTime || old.offTime != new.offTime
  | .envelope => old.level != new.level || old.period != new.period || old.rise != new.rise ||
      old.repeats != new.repeats || old.keep != new.keep || old.bounce != new.bounce

/-- A layer that runs a replaced table pattern restarts from the start phase of the new content (R152). -/
def Layer.afterTable (old new : Vector Pattern 32) (l : Layer) : Layer :=
  match l.setting with
  | .table p => if (tget old p).replacedBy (tget new p) then startLayer new l.setting else l
  | .idle => l
  | .fixed _ => l

/-- The effect of a taken CONFIGURE LAMPS (R152). -/
def State.takeLampTables (s : State) : State :=
  let table := tmap (fun p old => (s.readPattern p).getD old) s.patterns
  let channels := tmap (fun ch c =>
    ({ c with
        combine := (s.readCombine ch).getD c.combine
        idleLevel := bits (s.word (addrChannel ch + 1)) 0 8
        alertLayer := c.alertLayer.afterTable s.patterns table
        showLayer := c.showLayer.afterTable s.patterns table
        readyLayer := c.readyLayer.afterTable s.patterns table } : Channel).refresh table) s.channels
  { s with patterns := table, channels := channels }

end Sys2Proof.Machine
end

