-- ==== Sys2Proof/Machine/Alerts.lean ====
section
/-! DEFINITION. The alert manager: raising, routing, shown alerts, acknowledgement, removal, escalation, beacons and the
alert image (Chapter 9). Every event it takes is one act, closed by `State.closeAct` (R156). -/

namespace Sys2Proof.Machine

/-- The alert list replaced. -/
def State.setAlerts (s : State) (l : List Alert) : State := { s with alerts := l }

/-- The entry with the number of `x` is replaced by `x`. -/
def State.putAlert (s : State) (x : Alert) : State :=
  s.setAlerts (s.alerts.map fun z => if z.number = x.number then x else z)

/-- The entry of the list with a number. -/
def State.alert? (s : State) (n : Nat) : Option Alert := s.alerts.find? fun x => x.number == n

/-- The entry of the list with a source and a cause; there is at most one (R155). -/
def State.alertOf? (s : State) (src : SourceNo) (cause : AlertCause) : Option Alert :=
  s.alerts.find? fun x => x.source == src && x.cause == cause

/-! ### The alert image (R176, Table 10-11) -/

/-- The entry is shown at its station. -/
def State.isShown (s : State) (x : Alert) : Bool :=
  match x.station with
  | none => false
  | some st => (s.station st).shown == some x.number

/-- Table 10-11. -/
def State.alertSlot (s : State) (x : Alert) : List Word :=
  [ mkWord x.number,
    mkWord x.source.val,
    mkWord (256 * x.cause.code + x.code),
    mkWord (x.severity + flag x.acked 4 + flag (s.isShown x) 8),
    mkWord ((x.station.map (·.val)).getD 0xFFFF),
    mkWord (256 * x.repeats + x.escalations),
    mkWord x.age,
    0 ]

/-- The 256 words of the alert image: the entries in list order, then empty slots. -/
def State.alertImage (s : State) : List Word :=
  ((s.alerts.take Config.maxAlerts).flatMap s.alertSlot) ++ List.replicate (256 - 8 * min s.alerts.length Config.maxAlerts) 0

/-- The whole alert image is rewritten, and the exchange port counts the rewrite (R176, R181). -/
def State.rewriteAlertImage (s : State) : State :=
  let t := s.writeWords addrAlertImage s.alertImage
  let n := t.rewriteCount + 1
  { t with rewriteCount := n }.writeWords addrImageSeq [n]

/-! ### Shown alerts, displays, call lamps and beacons (R161 to R164, R172) -/

/-- The RAISED entries routed to a station, oldest first. -/
def raisedAt (alerts : List Alert) (st : StationNo) : List Alert :=
  alerts.filter fun x => !x.acked && x.station == some st

/-- The entry of the highest severity, the oldest among equals (R161). -/
def mostUrgent : List Alert → Option Alert
  | [] => none
  | x :: xs => match mostUrgent xs with
    | none => some x
    | some y => if x.severity < y.severity then some y else some x

/-- The entry a station shows at the end of an act (R161, R162). An entry made or re-raised in the act, `fresh`, is not kept
as shown; a shown entry below severity 3 gives way to a RAISED entry of severity 3. -/
def selectShown (alerts : List Alert) (fresh : List Nat) (st : StationNo) (shown : Option Nat) : Option Nat :=
  let here := raisedAt alerts st
  let kept := here.find? fun x => shown == some x.number && !fresh.contains x.number &&
    (3 ≤ x.severity || !here.any fun y => decide (3 ≤ y.severity))
  match kept with
  | some x => some x.number
  | none => (mostUrgent here).map (·.number)

/-- A station selects its shown alert, and its holdoff starts when the shown entry changed or was re-raised (R161, R163). -/
def Station.select (alerts : List Alert) (fresh : List Nat) (st : StationNo) (t : Station) : Station :=
  let now := selectShown alerts fresh st t.shown
  let restarts := now != t.shown || fresh.any fun n => now == some n
  { t with shown := now, holdoff := if restarts then some Config.holdoffMs else t.holdoff }

/-- The severity of the entry a station shows, when it shows one. -/
def State.shownAlert (s : State) (st : StationNo) : Option Alert := (s.station st).shown.bind s.alert?

/-- The values a station presents on its display bus (R164). -/
def State.displayValues (s : State) (st : StationNo) : Nat × Nat :=
  match s.shownAlert st with
  | some x => if (s.station st).displayEnable then (x.source.val + 1, x.severity) else (0, 0)
  | none => (0, 0)

/-- The ALERT setting of a station's call lamp (R164). -/
def State.callLampSetting (s : State) (st : StationNo) : Setting :=
  match s.shownAlert st with
  | some x => .fixed (severityPattern x.severity)
  | none => .idle

/-- The display bus and the call lamp of a station are brought up to date (R164). -/
def State.refreshStation (s : State) (st : StationNo) : State :=
  let v := s.displayValues st
  (s.setStation st { s.station st with displayNumber := v.1, displaySeverity := v.2 }).chooseLamp
    (s.station st).callLamp .alertLayer (s.callLampSetting st)

/-- The ALERT setting of an exhibit's beacon lamp (R172). -/
def State.beaconSetting (s : State) (e : ExhibitNo) : Setting :=
  let mine := s.alerts.filter fun x => x.source == exhibitSource e
  match mine.filter fun x => !x.acked with
  | [] => if mine.isEmpty then .idle else .fixed .acknowledged
  | x :: xs => .fixed (severityPattern (xs.foldl (fun m y => max m y.severity) x.severity))

/-- The beacon lamp of an exhibit is brought up to date (R172). -/
def State.refreshBeacon (s : State) (e : ExhibitNo) : State :=
  match (s.exhibit e).inForce with
  | none => s
  | some c => s.chooseLamp c.beaconLamp .alertLayer (s.beaconSetting e)

/-- The beacon of a source, when the source is an exhibit. -/
def State.refreshSourceBeacon (s : State) (src : SourceNo) : State :=
  match sourceExhibit src with
  | none => s
  | some e => s.refreshBeacon e

/-- Every station selects its shown alert at the end of an act. -/
def State.selectAll (s : State) (fresh : List Nat) : State :=
  { s with stations := tmap (fun st t => t.select s.alerts fresh st) s.stations }

/-- The end of an act that made, changed, moved or removed an entry: selection, holdoffs, displays, call lamps, the beacons
of the sources concerned, and one rewrite of the image (R156). -/
def State.closeAct (s : State) (fresh : List Nat) (sources : List SourceNo) : State :=
  let t := forEach 4 (fun st u => u.refreshStation st) (s.selectAll fresh)
  (sources.foldl (fun u src => u.refreshSourceBeacon src) t).rewriteAlertImage

/-! ### Routing and raising (R157 to R160) -/

/-- The zone of a source (R160). -/
def State.zone (s : State) (src : SourceNo) : Fin 8 :=
  match sourceExhibit src with
  | none => 0
  | some e => ((s.exhibit e).config.map (·.zone)).getD 0

/-- The lowest-numbered station whose route mask holds the zone. -/
def State.routeOf (s : State) (zone : Fin 8) : Option StationNo :=
  lowest 4 fun st => (s.station st).routeMask.getLsbD zone.val

/-- The escalation timer of a station, started. -/
def State.escalationStart (s : State) (st : StationNo) : Timer := some ((s.station st).escalationTime * 1000)

/-- An entry routed by the zone of its source: its station, and its escalation timer (R160). -/
def State.routed (s : State) (x : Alert) : Alert :=
  match s.routeOf (s.zone x.source) with
  | some st => { x with station := some st, timer := s.escalationStart st }
  | none => { x with station := none, timer := none }

/-- Condition UNROUTED is set when an entry found no station (R160). -/
def State.noteRouting (s : State) (x : Alert) : State := if x.station.isNone then s.markUnrouted else s

/-- The alert number after `n`, 1 following 65535 (R158). -/
def nextAlertNumber (n : Nat) : Nat := if 65535 ≤ n then 1 else n + 1

/-- The first number from `n` on that no entry holds; a list of 32 entries needs at most 33 tries (R158). -/
def freeNumber (alerts : List Alert) : Nat → Nat → Nat
  | 0, n => n
  | tries + 1, n =>
    if alerts.any fun x => x.number == n then freeNumber alerts tries (nextAlertNumber n) else n

/-- A raise merged into the entry it matches (R157). -/
def State.mergeRaise (s : State) (x : Alert) (code severity : Nat) : State :=
  let y := s.routed
    { x with repeats := satAdd 255 x.repeats 1, code := code, severity := severity, acked := false, age := 0,
             escalations := 0, exhausted := false }
  let rest := s.alerts.filter fun z => z.number != x.number
  ((s.setAlerts (rest ++ [y])).noteRouting y).closeAct [x.number] [x.source]

/-- The entry a severity-3 raise displaces from a full list: the oldest ACKED, else the oldest of severity 1 (R159). -/
def State.displaced (s : State) : Option Alert :=
  match s.alerts.find? fun x => x.acked with
  | some x => some x
  | none => s.alerts.find? fun x => x.severity == 1

/-- A new entry made from a raise, with the entries `others` already in the list; `gone` are the sources of entries the same
act removed (R158). -/
def State.enterAlert (s : State) (others : List Alert) (gone : List SourceNo) (src : SourceNo) (cause : AlertCause)
    (code severity : Nat) : State :=
  let n := freeNumber others 33 s.nextNumber
  let y := s.routed
    { number := n, source := src, cause := cause, code := code, severity := severity, acked := false, station := none,
      repeats := 0, escalations := 0, timer := none, exhausted := false, age := 0 }
  ((State.setAlerts { s with nextNumber := nextAlertNumber n } (others ++ [y])).noteRouting y).closeAct [n] (src :: gone)

/-- What becomes of a raise: nothing while the part is COLD (R177), a merge (R157), a new entry (R158), a new entry in the
place of a displaced one, or a refusal that counts an overflow (R159). -/
inductive RaiseCase where
  | dropped
  | merged (into : Alert)
  | entered
  | displacing (out : Alert)
  | refused
  deriving DecidableEq, Repr

/-- The case of a raise. -/
def State.raiseCase (s : State) (src : SourceNo) (cause : AlertCause) (severity : Nat) : RaiseCase :=
  if s.part = .cold then .dropped
  else match s.alertOf? src cause with
    | some x => .merged x
    | none =>
      if s.alerts.length < Config.maxAlerts then .entered
      else if severity = 3 then
        match s.displaced with
        | some x => .displacing x
        | none => .refused
      else .refused

/-- A raise reaches the alert manager (section 9.2). -/
def State.raise (s : State) (src : SourceNo) (cause : AlertCause) (code severity : Nat) : State :=
  match s.raiseCase src cause severity with
  | .dropped => s
  | .merged x => s.mergeRaise x code severity
  | .entered => s.enterAlert s.alerts [] src cause code severity
  | .displacing x => s.enterAlert (s.alerts.filter fun z => z.number != x.number) [x.source] src cause code severity
  | .refused => s.markOverflow

/-- The number of the entry a raise makes or merges into, 0 when it makes none (R175). -/
def State.raiseNumber (s : State) (src : SourceNo) (cause : AlertCause) (severity : Nat) : Nat :=
  match s.raiseCase src cause severity with
  | .dropped => 0
  | .merged x => x.number
  | .entered => freeNumber s.alerts 33 s.nextNumber
  | .displacing x => freeNumber (s.alerts.filter fun z => z.number != x.number) 33 s.nextNumber
  | .refused => 0

/-- The raise enters a new entry or merges into one (R41). -/
def State.raiseTakes (s : State) (src : SourceNo) (cause : AlertCause) (severity : Nat) : Bool :=
  match s.raiseCase src cause severity with
  | .dropped => false
  | .merged _ => true
  | .entered => true
  | .displacing _ => true
  | .refused => false

/-! ### Removal (R168) -/

/-- The entries that meet `p` leave the list in one act; without such an entry there is no act. -/
def State.removeAlerts (s : State) (p : Alert → Bool) : State :=
  if s.alerts.any p then
    (s.setAlerts (s.alerts.filter fun x => !p x)).closeAct [] ((s.alerts.filter p).map (·.source))
  else s

/-- Every entry of a source is removed (R4, R17). -/
def State.removeSource (s : State) (src : SourceNo) : State := s.removeAlerts fun x => x.source == src

/-- The AXIS_FAULT and SHOW_FAULT entries of an exhibit are removed (R15, R16). -/
def State.removeFaultAlerts (s : State) (e : ExhibitNo) : State :=
  s.removeAlerts fun x => x.source == exhibitSource e && (x.cause == .axisFault || x.cause == .showFault)

/-- The clearing event of a GUARD_HELD or GALLERY_STOP entry: an ACKED entry is removed, a RAISED one stays (R133, R138). -/
def State.clearingEvent (s : State) (src : SourceNo) (cause : AlertCause) : State :=
  s.removeAlerts fun x => x.source == src && x.cause == cause && x.acked

/-! ### Acknowledgement (R165) -/

/-- The guard-open attribute of the exhibit a source is. -/
def State.sourceGuardOpen (s : State) (src : SourceNo) : Bool :=
  match sourceExhibit src with
  | none => false
  | some e => (s.exhibit e).guardOpen

/-- The acknowledgement of the entry removes it; otherwise it becomes ACKED. -/
def State.ackRemoves (s : State) (x : Alert) : Bool :=
  match x.cause with
  | .visitorCall | .showCall | .buttonStuck | .modelDisturbed | .hostAlert => true
  | .axisFault | .showFault => false
  | .guardHeld => !s.sourceGuardOpen x.source
  | .galleryStop => !s.stopInForce

/-- A RAISED entry is acknowledged (R165). -/
def State.acknowledge (s : State) (x : Alert) : State :=
  if s.ackRemoves x then s.removeAlerts fun z => z.number == x.number
  else
    (s.putAlert { x with acked := true, timer := none }).closeAct [] [x.source]

/-- The entry an ACK press at a station acknowledges: the shown one, once the holdoff has run out (R166). -/
def State.ackPressEntry (s : State) (st : StationNo) : Option Alert :=
  if (s.station st).holdoff.isSome then none else s.shownAlert st

/-! ### Escalation (R170, R171) -/

/-- Where an entry's escalation leads: the target of its station, while its escalations stand below 3. -/
def State.escalationTarget (s : State) (x : Alert) : Option StationNo :=
  if x.escalations < 3 then x.station.bind fun st => (s.station st).target else none

/-- The escalation timer of an entry runs out. -/
def State.escalate (s : State) (x : Alert) : State :=
  match s.escalationTarget x with
  | some st =>
    (s.putAlert { x with station := some st, escalations := x.escalations + 1, timer := s.escalationStart st }).closeAct
      [] [x.source]
  | none =>
    let t := s.putAlert { x with timer := none, exhausted := true }
    (if x.exhausted then t else t.markEscalated).closeAct [] [x.source]

/-! ### Age (R176) and display frames (R194) -/

/-- The 1 s age step. -/
def State.ageStep (s : State) : State :=
  if s.alerts.isEmpty then s
  else (s.setAlerts (s.alerts.map fun x => { x with age := satAdd 65535 x.age 1 })).rewriteAlertImage

/-- A display frame starts: bits 15…8 the number, bits 1…0 the severity presented (R194). -/
def State.displayFrame (s : State) (st : StationNo) : State :=
  let t := s.station st
  s.setStation st { t with frame := mkWord (256 * t.displayNumber + t.displaySeverity) }

/-- The bit on DDATs at the `n`-th rising edge of DCLKs in a frame: the most significant bit is sent first (R194). -/
def Station.frameBit (t : Station) (n : Fin 16) : Bool := t.frame.getLsbD (15 - n.val)

/-! ### CONFIGURE STATIONS (R173, R174) -/

/-- A station table entry as the words of exchange RAM give it (Table 10-5). -/
structure StationRecord where
  mask : Word
  target : Word
  time : Word
  lamp : Word
  enable : Word
  deriving DecidableEq, Repr

def State.stationRecord (s : State) (st : StationNo) : StationRecord :=
  let a := addrStation st
  { mask := s.word a, target := s.word (a + 1), time := s.word (a + 2), lamp := s.word (a + 3), enable := s.word (a + 4) }

/-- The first field of a station's record that fails (R173). -/
def State.stationFieldFault (s : State) (st : StationNo) : Option Nat :=
  let r := s.stationRecord st
  if r.target ≠ 0xFFFF ∧ (3 < r.target.toNat ∨ r.target.toNat = st.val) then some 2
  else if r.time.toNat < 5 ∨ 600 < r.time.toNat then some 3
  else if r.lamp ≠ 0xFFFF ∧
      (63 < r.lamp.toNat ∨
       ((index? 64 r.lamp.toNat).bind s.channelOwner).isSome ∨
       ((lowest 4 fun t => decide (t.val < st.val) && (s.stationRecord t).lamp == r.lamp).isSome)) then some 4
  else if r.enable ≠ 0 ∧ r.enable ≠ 1 then some 5
  else none

/-- The detail of the first failing field: 8 × station + field (R173). -/
def State.stationRecordFault (s : State) : Option Nat :=
  (lowest 4 fun st => (s.stationFieldFault st).isSome).map fun st => 8 * st.val + (s.stationFieldFault st).getD 0

/-- A station with its new table copy; its shown entry and its holdoff are kept (R174). -/
def Station.withRecord (t : Station) (r : StationRecord) : Station :=
  { t with
    routeMask := BitVec.ofNat 8 (bits r.mask 0 8)
    target := index? 4 r.target.toNat
    escalationTime := r.time.toNat
    callLamp := index? 64 r.lamp.toNat
    displayEnable := r.enable == 1 }

/-- A channel that was a call lamp and is none now has its ALERT layer set idle (R174). -/
def State.dropCallLamp (s : State) (lamp : Option ChannelNo) : State :=
  match lamp with
  | none => s
  | some ch => if s.isCallLamp ch then s else s.chooseLayer ch .alertLayer .idle

/-- The effect of a taken CONFIGURE STATIONS (R174). -/
def State.takeStationTable (s : State) : State :=
  let t := { s with stations := tmap (fun st x => x.withRecord (s.stationRecord st)) s.stations }
  let u := forEach 4 (fun st v => v.dropCallLamp (s.station st).callLamp) t
  forEach 4 (fun st v => v.refreshStation st) u

end Sys2Proof.Machine
end

