-- ==== Sys2Proof/Machine/Pool.lean ====
section
/-! DEFINITION. The drive pool arbiter with the start of a granted motion (Chapter 6, R82, R106), and the reports an axis makes
when a motion ends (R83). -/

namespace Sys2Proof.Machine

/-! ### Reports of ended motions -/

/-- The slot of an exhibit waits with this wait record and is not frozen (R66). -/
def State.slotAwaits (s : State) (e : ExhibitNo) (w : Wait) : Bool :=
  (s.slot e).status == some .waiting && !(s.slot e).frozen && (s.slot e).wait == some w

/-- The completion of a move or homing is reported to the slot that asked for it; a report that finds no slot waiting is
dropped (R66, R83). -/
def State.reportDone (s : State) (a : AxisNo) (kind : MotionKind) : State :=
  match s.axisOwner a with
  | none => s
  | some e => if s.slotAwaits e (.motion a kind) then s.report (.motionDone a kind) else s

/-- An axis that came to rest is reported to a slot that waits for its rest and to a HALTING exhibit (R10, R57, R83). -/
def State.reportRest (s : State) (a : AxisNo) : State :=
  match s.axisOwner a with
  | none => s
  | some e => if s.slotAwaits e (.axisRest a) || (s.exhibit e).state == .halting then s.report (.atRest a) else s

/-! ### Units and the wait list (R116, R117) -/

/-- The arbiter's state replaced. -/
def State.setPool (s : State) (p : Pool) : State := { s with pool := p }

/-- A return: the held units of an axis go back to the free count. -/
def Pool.returned (p : Pool) (a : AxisNo) : Pool :=
  { p with free := p.free + tget p.held a, held := tset p.held a 0 }

/-- A grant: units go from the free count to the axis. -/
def Pool.granted (p : Pool) (a : AxisNo) (draw : Nat) : Pool :=
  { p with free := p.free - draw, held := tset p.held a (tget p.held a + draw) }

/-- An axis joins the tail of the wait list. -/
def Pool.joined (p : Pool) (a : AxisNo) (draw : Nat) : Pool :=
  { p with waiting := p.waiting ++ [{ axis := a, draw := draw }] }

/-- An axis leaves the wait list from wherever it stands. -/
def Pool.left (p : Pool) (a : AxisNo) : Pool := { p with waiting := p.waiting.filter fun w => w.axis != a }

/-- The units of an axis are returned. -/
def State.returnUnits (s : State) (a : AxisNo) : State := s.setPool (s.pool.returned a)

/-- An axis is removed from the wait list. -/
def State.leaveList (s : State) (a : AxisNo) : State := s.setPool (s.pool.left a)

/-! ### The start of a granted motion -/

/-- A speed set of an axis; an axis without a configuration has none to use. -/
def Axis.speedSet (x : Axis) (i : Fin 4) : SpeedSet :=
  match x.config with
  | some c => tget c.sets i
  | none => { vs := 0, vmax := 0, accel := 0 }

/-- The direction from one position to another; from a position to itself it is toward HIGH. DESIGN CHOICE (assumption 36),
unsafe. -/
def dirToward (p t : Int) : Dir := if p ≤ t then .towardHigh else .towardLow

/-- An axis enters MOVING toward a target (R82, R88), with DIR driven for the direction of travel. DESIGN CHOICE (assumptions 36
and 45), unsafe: a target at P, and DIR turned at once, also where pulses of an update of the same millisecond stand. -/
def Axis.enterMoving (x : Axis) (t : Int) (i : Fin 4) : Axis :=
  { x with
    state := .moving, move := some { target := t, speedSet := i }, request := none, stopBound := none,
    vel := (x.speedSet i).vs, acc := 0, dir := some (dirToward x.pos t), dirOut := some (dirToward x.pos t) }

/-- An axis enters HOMING, in phase SEEK or CREEP by its home switch level, with DIR driven to match (R106). -/
def Axis.enterHoming (x : Axis) (c : AxisConfig) : Axis :=
  { x with
    state := .homing, homed := false, travelled := 0, acc := 0, dir := some c.homeDir, dirOut := some c.homeDir,
    request := none, move := none, stopBound := none,
    phase := some (if x.homeSwitch.level then .creep else .seek),
    vel := if x.homeSwitch.level then c.creepSpeed else c.seekSpeed }

/-- An axis enters IDLE with nothing in progress (R87 step 6, R88). -/
def Axis.enterIdle (x : Axis) : Axis :=
  { x with state := .idle, vel := 0, acc := 0, dir := none, move := none, stopBound := none, request := none }

/-- An axis that holds its units starts its pending request (R119). A move onto the position the axis stands at completes at
once and its units go back in the same act. DESIGN CHOICE (assumption 36), unsafe: DIR after such a move. -/
def State.startGranted (s : State) (a : AxisNo) : State :=
  let x := s.axis a
  match x.request with
  | some (.move t i) =>
    let m := s.putAxis a (x.enterMoving t i) false
    if t = x.pos then
      (((m.returnUnits a).putAxis a (x.enterMoving t i).enterIdle false).reportDone a .move).reportRest a
    else m
  | some .home =>
    match x.config with
    | some c => s.putAxis a (x.enterHoming c) false
    | none => s
  | none => s

/-- The head of the wait list is granted and leaves the list (R119, R120). -/
def State.grantHead (s : State) (w : WaitEntry) (rest : List WaitEntry) : State :=
  (s.setPool { s.pool.granted w.axis w.draw with waiting := rest }).startGranted w.axis

/-- The grant scan over at most `n` heads. -/
def grantScanUpTo : Nat → State → State
  | 0, s => s
  | n + 1, s =>
    match s.pool.waiting with
    | [] => s
    | w :: rest => if w.draw ≤ s.pool.free then grantScanUpTo n (s.grantHead w rest) else s

/-- The grant scan: heads are granted while the free count covers their draw (R120). -/
def State.grantScan (s : State) : State := grantScanUpTo s.pool.waiting.length s

/-- The draw of an axis's configuration. -/
def Axis.draw (x : Axis) : Nat := (x.config.map (·.draw)).getD 0

/-- An axis asks for its draw with its pending request in `x`: it is granted at once when the list is empty and the free count
covers the draw, and joins the tail otherwise (R118). -/
def State.requestPower (s : State) (a : AxisNo) (x : Axis) : State :=
  if s.pool.waiting.isEmpty ∧ x.draw ≤ s.pool.free then
    ((s.setPool (s.pool.granted a x.draw)).setAxis a x).startGranted a
  else
    (s.setPool (s.pool.joined a x.draw)).putAxis a { x with state := .awaitPower } false

end Sys2Proof.Machine
end

