-- ==== Sys2Proof/Machine/Axes.lean ====
section
/-! DEFINITION. The axis controller: move and homing requests, the profile, stops, faults, disturbances, homing and the speed
measurement (Chapters 4 and 5). An act of an axis leaves its reports in `State.reports`; nothing here runs a show. -/

namespace Sys2Proof.Machine

/-! ### Window, stops and faults -/

/-- The position lies within the travel window. -/
def Axis.inWindow (x : Axis) (p : Int) : Bool :=
  match x.config with
  | some c => decide (c.low ≤ p ∧ p ≤ c.high)
  | none => true

/-- What every quick stop does to the axis, but for the re-sync and the state it enters (R89). DESIGN CHOICE (assumptions 43 and
44), unsafe: the pulse count is 0, of the update that makes the quick stop and of one taken before it in the same millisecond. -/
def Axis.quickStopped (x : Axis) : Axis :=
  { x with
    vel := 0, acc := 0, dir := none, move := none, stopBound := none, request := none, phase := none, followRun := 0,
    pulses := 0 }

/-- An axis enters FAULTED; the homed flag is cleared for HOME_FAIL and kept for the other causes (R91). -/
def Axis.enterFaulted (x : Axis) (cause : FaultCause) : Axis :=
  { x.quickStopped with state := .faulted, cause := some cause, homed := x.homed && cause != .homeFail }

/-- An axis enters UNHOMED, not homed (R94, R110). -/
def Axis.enterUnhomed (x : Axis) : Axis := { x.quickStopped with state := .unhomed, cause := none, homed := false }

/-- A quick stop with re-sync: units returned, P set to the encoder count, and the axis as `y` says (R89). -/
def State.resyncAs (s : State) (a : AxisNo) (y : Axis) : State :=
  (s.returnUnits a).putAxisAt a y (s.axis a).encoder true

/-- A quick stop that ends in a fault, which is reported (R91, R93). -/
def State.faultAxis (s : State) (a : AxisNo) (cause : FaultCause) : State :=
  (s.resyncAs a ((s.axis a).enterFaulted cause)).report (.axisFault a cause)

/-- The axis as a quick stop of its motion leaves it: UNHOMED from HOMING; IDLE from MOVING or STOPPING, or FAULTED with
cause TRAVEL when the re-synced P lies outside the window (R89). -/
def Axis.afterQuickStop (x : Axis) : Axis :=
  if x.state = .homing then x.enterUnhomed
  else if x.inWindow x.encoder then { x.quickStopped with state := .idle }
  else x.enterFaulted .travel

/-- A quick stop of a HOMING, MOVING or STOPPING axis whose TRAVEL finding is not reported (R17). -/
def State.quickStopSilently (s : State) (a : AxisNo) : State :=
  if (s.axis a).state.drives then s.resyncAs a (s.axis a).afterQuickStop else s

/-- A quick stop of a HOMING, MOVING or STOPPING axis; a TRAVEL fault it finds is reported (R89). -/
def State.quickStop (s : State) (a : AxisNo) : State :=
  let t := s.quickStopSilently a
  if (s.axis a).state.drives && (t.axis a).state == .faulted then t.report (.axisFault a .travel) else t

/-- An axis in AWAIT_POWER leaves the wait list: IDLE when homed, UNHOMED when not; its request is discarded (R110,
R121). DEDUCED (assumption 16), unsafe. -/
def State.leaveAwait (s : State) (a : AxisNo) : State :=
  let x := s.axis a
  if x.homed then (s.leaveList a).putAxis a { x with state := .idle, request := none } false
  else (s.leaveList a).putAxisAt a x.enterUnhomed x.encoder false

/-- The furthest point a controlled stop may reach: the nearer of the target and the window edge ahead (R88). -/
def Axis.boundOfStop (x : Axis) : Option Int :=
  match x.move, x.config with
  | some m, some c => some (if x.dir = some .towardLow then max m.target c.low else min m.target c.high)
  | some m, none => some m.target
  | none, _ => none

/-- A MOVING axis enters STOPPING with a pending request or none (R85, R88). -/
def Axis.enterStopping (x : Axis) (request : Option Request) : Axis :=
  { x with state := .stopping, stopBound := x.boundOfStop, request := request }

/-- A controlled stop: a MOVING axis begins it, a STOPPING axis runs on without its pending move (R88). -/
def State.controlledStop (s : State) (a : AxisNo) : State :=
  let x := s.axis a
  match x.state with
  | .moving => s.putAxis a (x.enterStopping none) false
  | .stopping => s.putAxis a { x with request := none } false
  | .off | .unhomed | .homing | .awaitPower | .idle | .faulted => s

/-- What HALT, CANCEL of a SUSPENDED show, a show fault and STOP AXIS do to an axis by its state (R69, R74, R75, R99); the grant
scan follows at the end of the act (R122). -/
def State.haltAxis (s : State) (a : AxisNo) : State :=
  match (s.axis a).state with
  | .moving => s.controlledStop a
  | .stopping => s.controlledStop a
  | .homing => s.quickStop a
  | .awaitPower => s.leaveAwait a
  | .off | .unhomed | .idle | .faulted => s

/-- A FAULTED axis leaves its fault: UNHOMED after HOME_FAIL, when not homed, or with P outside the window; IDLE otherwise
(R94). -/
def State.leaveFault (s : State) (a : AxisNo) : State :=
  let x := s.axis a
  if x.state ≠ .faulted then s
  else if x.cause = some .homeFail ∨ x.homed = false ∨ x.inWindow x.pos = false then
    s.putAxisAt a x.enterUnhomed x.encoder false
  else s.putAxis a { x with state := .idle, cause := none, followRun := 0 } false

/-! ### Move requests (R82 to R86) -/

/-- A target clamped to the travel window. -/
def Axis.clamp (x : Axis) (t : Int) : Int :=
  match x.config with
  | some c => max c.low (min c.high t)
  | none => t

/-- How a move request meets an axis. -/
inductive MoveCase where
  | refused
  | complete
  | start
  | replaceComplete
  | replace
  | ahead
  | behind
  | stopPending
  deriving DecidableEq, Repr

/-- The position lies at P or beyond it in the direction of travel (R85). -/
def Axis.isAhead (x : Axis) (t : Int) : Bool :=
  if x.dir = some .towardLow then decide (t ≤ x.pos) else decide (x.pos ≤ t)

/-- The judgement of a move request by the axis state (R82, R84, R85, R86). -/
def Axis.moveCase (x : Axis) (t : Int) : MoveCase :=
  match x.state with
  | .off | .unhomed | .faulted | .homing => .refused
  | .idle => if x.clamp t = x.pos then .complete else .start
  | .awaitPower => match x.request with
    | some (.move _ _) => if x.clamp t = x.pos then .replaceComplete else .replace
    | some .home => .refused
    | none => .refused
  | .moving => if x.isAhead (x.clamp t) then .ahead else .behind
  | .stopping => .stopPending

/-- The velocity brought within a speed set (R85). -/
def boundVelocity (v : Nat) (sp : SpeedSet) : Nat := min (max v sp.vs) sp.vmax

/-- The effect of a taken move request; `t` is the target before the clamp (R82, R84, R85, R86). -/
def State.takeMove (s : State) (a : AxisNo) (t : Int) (i : Fin 4) : State :=
  let x0 := s.axis a
  let x := { x0 with clamped := decide (x0.clamp t ≠ t) }
  let target := x0.clamp t
  match x0.moveCase t with
  | .refused => s
  | .complete => s.putAxis a x false
  | .start => s.requestPower a { x with request := some (.move target i) }
  | .replaceComplete =>
    ((s.leaveList a).putAxis a { x with state := .idle, request := none } false).grantScan
  | .replace => s.putAxis a { x with request := some (.move target i) } false
  | .ahead =>
    s.putAxis a { x with move := some { target := target, speedSet := i }, vel := boundVelocity x.vel (x.speedSet i) } false
  | .behind => s.putAxis a (x.enterStopping (some (.move target i))) false
  | .stopPending => s.putAxis a { x with request := some (.move target i) } false

/-- The request completes at once (R82, R84). -/
def MoveCase.completesAtOnce : MoveCase → Bool
  | .complete | .replaceComplete => true
  | .refused | .start | .replace | .ahead | .behind | .stopPending => false

/-! ### Homing requests (R104) -/

/-- A homing request is taken in UNHOMED and IDLE. -/
def AxisState.takesHome : AxisState → Bool
  | .unhomed | .idle => true
  | .off | .homing | .awaitPower | .moving | .stopping | .faulted => false

/-- HOME_VALUE is loaded into P and the encoder count; the reference count of the measured speed moves by the same amount
(R95, R104, R108). `y` is the axis as the act leaves it but for the load. -/
def State.loadHome (s : State) (a : AxisNo) (y : Axis) (v : Int) : State :=
  s.putAxisAt a { y with encoder := v, speedRef := y.speedRef + (v - y.encoder), followRun := 0 } v true

/-- The effect of a homing request (R104). -/
def State.takeHome (s : State) (a : AxisNo) : State :=
  let x := s.axis a
  match x.config with
  | none => s
  | some c =>
    match x.state with
    | .unhomed =>
      let t := s.loadHome a x c.homeValue
      t.requestPower a { t.axis a with request := some .home }
    | .idle => s.requestPower a { x with request := some .home }
    | .off | .homing | .awaitPower | .moving | .stopping | .faulted => s

/-- A request made anew from a resume record (R131 step 1). -/
def State.takeRequest (s : State) (a : AxisNo) : Request → State
  | .move t i => if (s.axis a).state = .idle ∧ (s.axis a).homed then s.takeMove a t i else s
  | .home => s.takeHome a

/-! ### The 1 ms update (R87, R88, R107) -/

/-- What one update computes: the new velocity, the new accumulator and the counts moved. -/
structure StepCount where
  vel : Nat
  acc : Nat
  count : Nat
  deriving DecidableEq, Repr

/-- The braking distance (R87 step 2). -/
def brakingDistance (v a : Nat) : Nat := v * v / (2000 * a)

/-- The velocity after an update of the profile (R87 step 3). -/
def profileVelocity (v d : Nat) (sp : SpeedSet) : Nat :=
  if d ≤ brakingDistance v sp.accel then max (v - sp.accel) sp.vs
  else if v < sp.vmax then min (v + sp.accel) sp.vmax
  else v

/-- Steps issued at a velocity with at most `limit` counts to go (R87 steps 4 and 5). -/
def stepCount (v r limit : Nat) : StepCount :=
  { vel := v, acc := (r + v) % 1000, count := min ((r + v) / 1000) limit }

/-- The profile's update toward a target (R87 steps 1 to 5). -/
def Axis.profile (x : Axis) (m : MoveRecord) : StepCount :=
  let d := (m.target - x.pos).natAbs
  stepCount (profileVelocity x.vel d (x.speedSet m.speedSet)) x.acc d

/-- `n` counts from `p` in a direction. -/
def advance (p : Int) (d : Dir) (n : Nat) : Int :=
  match d with
  | .towardHigh => p + n
  | .towardLow => p - n

/-- The axis with the outcome of an update's steps, but for P. -/
def Axis.stepped (x : Axis) (k : StepCount) : Axis := { x with vel := k.vel, acc := k.acc, pulses := k.count }

/-- The units go back, the scan runs, the axis enters IDLE and the end of its motion is reported (R87 step 6, R88). -/
def State.completeMotion (s : State) (a : AxisNo) (kind : Option MotionKind) : State :=
  let t := (s.returnUnits a).grantScan
  let u := t.putAxis a (t.axis a).enterIdle false
  let v := match kind with
    | some k => u.reportDone a k
    | none => u
  v.reportRest a

/-- The update of a MOVING axis (R87). -/
def State.updateMoving (s : State) (a : AxisNo) (m : MoveRecord) : State :=
  let x := s.axis a
  let k := x.profile m
  let p := advance x.pos (dirToward x.pos m.target) k.count
  let t := s.putAxisAt a (x.stepped k) p false
  if p = m.target then t.completeMotion a (some .move) else t

/-- The update of a STOPPING axis up to its coming to rest (R88 steps 1 to 4). -/
def Axis.stopSteps (x : Axis) (accel : Nat) (bound : Int) : StepCount :=
  let k := stepCount (x.vel - accel) x.acc (bound - x.pos).natAbs
  if (k.count : Int) = (bound - x.pos).natAbs then { k with vel := 0 } else k

/-- The update of a STOPPING axis (R88). DESIGN CHOICE (assumption 45), unsafe: an update that issues n pulses and starts the pending
move leaves DIR turned for that move. -/
def State.updateStopping (s : State) (a : AxisNo) (m : MoveRecord) (bound : Int) : State :=
  let x := s.axis a
  let k := x.stopSteps (x.speedSet m.speedSet).accel bound
  let p := advance x.pos (x.dir.getD (dirToward x.pos bound)) k.count
  let t := s.putAxisAt a (x.stepped k) p false
  if k.vel ≠ 0 then t
  else match x.request with
    | some (.move target i) =>
      if target = p then t.completeMotion a (some .move)
      else t.putAxis a ((t.axis a).enterMoving target i) false
    | some .home => t.completeMotion a none
    | none => t.completeMotion a none

/-- The distance from a position to the end of the position range ahead (R107 step 4). -/
def rangeLeft (p : Int) (d : Dir) : Nat :=
  match d with
  | .towardHigh => (Config.maxPosition - p).toNat
  | .towardLow => (p - Config.minPosition).toNat

/-- The update of a HOMING axis (R107). -/
def State.updateHoming (s : State) (a : AxisNo) (c : AxisConfig) : State :=
  let x := s.axis a
  let d := x.dir.getD c.homeDir
  if x.travelled = c.searchDistance ∨ rangeLeft x.pos d = 0 then s.faultAxis a .homeFail
  else
    let k := stepCount x.vel x.acc (min (c.searchDistance - x.travelled) (rangeLeft x.pos d))
    s.putAxisAt a { x.stepped k with travelled := x.travelled + k.count } (advance x.pos d k.count) false

/-- The profile, stop or homing steps of an update, by the axis state. -/
def State.driveUpdate (s : State) (a : AxisNo) : State :=
  let x := s.axis a
  match x.state with
  | .moving => match x.move with
    | some m => s.updateMoving a m
    | none => s
  | .stopping => match x.move with
    | some m => s.updateStopping a m (x.stopBound.getD m.target)
    | none => s
  | .homing => match x.config with
    | some c => s.updateHoming a c
    | none => s
  | .off | .unhomed | .awaitPower | .idle | .faulted => s.setAxis a { x with pulses := 0 }

/-! ### End limits (R92) -/

/-- The end-limit switch of the end of travel ahead reads asserted. -/
def Axis.limitAhead (x : Axis) : Bool :=
  x.state.drives && ((x.dir == some .towardHigh && x.limitHigh.level) || (x.dir == some .towardLow && x.limitLow.level))

/-- A limit fault: LIMIT from MOVING or STOPPING, HOME_FAIL from HOMING (R92). -/
def State.limitFault (s : State) (a : AxisNo) : State :=
  s.faultAxis a (if (s.axis a).state = .homing then .homeFail else .limit)

/-- The test of a limit switch: at its recognition and at the start of each update. -/
def State.testLimit (s : State) (a : AxisNo) : State := if (s.axis a).limitAhead then s.limitFault a else s

/-! ### Following error, stall and disturbance (R90, R91) -/

/-- A stall of a driving axis, HOME_FAIL when it was homing (R91). -/
def State.stallAxis (s : State) (a : AxisNo) : State :=
  s.faultAxis a (if (s.axis a).state = .homing then .homeFail else .stall)

/-- The source of an axis's alerts: its exhibit, or the gallery (R90, R93). -/
def State.axisSource (s : State) (a : AxisNo) : SourceNo :=
  match s.axisOwner a with
  | some e => exhibitSource e
  | none => gallerySource

/-- A disturbance of an IDLE or AWAIT_POWER axis (R90). -/
def State.disturb (s : State) (a : AxisNo) : State :=
  let x := s.axis a
  let t := s.putAxisAt a { x with followRun := 0 } x.encoder true
  let u := t.raise (t.axisSource a) .modelDisturbed 0 1
  let v := if (u.axisOwner a).isNone then u.markDisturbed a else u
  if x.inWindow x.encoder then v
  else ((v.leaveList a).putAxis a ((v.axis a).enterFaulted .travel) false).report (.axisFault a .travel)

/-- The states in which the following error is judged (R90). -/
def AxisState.judged : AxisState → Bool
  | .homing | .moving | .stopping | .idle | .awaitPower => true
  | .off | .unhomed | .faulted => false

/-- The following-error run after an update (R90). -/
def Axis.nextRun (x : Axis) (c : AxisConfig) : Nat :=
  if x.state.judged && decide (c.followLimit < (x.pos - x.encoder).natAbs) then satAdd 255 x.followRun 1 else 0

/-- The judgement of the following error at the end of an update (R90, R91). -/
def State.judgeFollowing (s : State) (a : AxisNo) : State :=
  let x := s.axis a
  match x.config with
  | none => s
  | some c =>
    let run := x.nextRun c
    let t := s.setAxis a { x with followRun := run }
    if run ≠ 0 ∧ c.stallTime ≤ run then
      if x.state.drives then t.stallAxis a else t.disturb a
    else t

/-- The 1 ms update of an axis: the limit test, the steps of its motion, the following error (R87, R90, R92, R107).
DEDUCED (assumption 9), safe. -/
def State.axisUpdate (s : State) (a : AxisNo) : State :=
  if (s.axis a).limitAhead then s.limitFault a
  else (s.driveUpdate a).judgeFollowing a

/-! ### Inputs of the axis -/

/-- A recognised level: the pin reads it and the run of differing samples ends. -/
def InputFilter.recognised (level : Bool) : InputFilter := { pin := level, level := level, run := 0 }

/-- The filtered level of an end-limit switch. -/
def Axis.limit (x : Axis) : LimitEnd → InputFilter
  | .low => x.limitLow
  | .high => x.limitHigh

/-- The filter of an end-limit switch replaced. -/
def Axis.withLimit (x : Axis) (which : LimitEnd) (f : InputFilter) : Axis :=
  match which with
  | .low => { x with limitLow := f }
  | .high => { x with limitHigh := f }

/-- The direction of travel toward an end. -/
def limitDir : LimitEnd → Dir
  | .low => .towardLow
  | .high => .towardHigh

/-- An end-limit switch is recognised asserted (R92). -/
def State.limitAsserted (s : State) (a : AxisNo) (which : LimitEnd) : State :=
  let x := s.axis a
  if (x.limit which).level then s
  else
    let t := s.setAxis a (x.withLimit which (.recognised true))
    if x.state.drives && x.dir == some (limitDir which) then t.limitFault a else t

/-- An end-limit switch is recognised released (R92). -/
def State.limitReleased (s : State) (a : AxisNo) (which : LimitEnd) : State :=
  let x := s.axis a
  if (x.limit which).level then s.setAxis a (x.withLimit which (.recognised false)) else s

/-- A home switch closing is recognised (R103, R108). -/
def State.homeClosing (s : State) (a : AxisNo) : State :=
  let x := s.axis a
  if x.homeSwitch.level then s
  else
    let y := { x with homeSwitch := .recognised true }
    match x.state, x.phase, x.config with
    | .homing, some .seek, some c => s.putAxis a { y with phase := some .creep, vel := c.creepSpeed } false
    | _, _, _ => s.setAxis a y

/-- A home switch opening is recognised (R103, R109). -/
def State.homeOpening (s : State) (a : AxisNo) : State :=
  let x := s.axis a
  if x.homeSwitch.level then
    let t := s.setAxis a { x with homeSwitch := .recognised false }
    if x.state = .homing ∧ x.phase = some .creep then t.faultAxis a .homeFail else t
  else s

/-- The arrival of a homing (R108). DESIGN CHOICE (assumption 44), unsafe: the pulse count of an update of the same millisecond becomes 0. -/
def State.arrive (s : State) (a : AxisNo) (c : AxisConfig) : State :=
  let x := s.axis a
  let t := (s.returnUnits a).loadHome a
    { x with state := .idle, vel := 0, acc := 0, dir := none, request := none, phase := none, homed := true, pulses := 0 }
    c.homeValue
  (t.grantScan.reportDone a .home).reportRest a

/-- An index event: an arrival in phase CREEP, without effect otherwise (R103, R108). -/
def State.indexEvent (s : State) (a : AxisNo) : State :=
  let x := s.axis a
  match x.state, x.phase, x.config with
  | .homing, some .creep, some c => s.arrive a c
  | _, _, _ => s

/-- The encoder count after one count up or down, stopping at the ends of its range (Table 4-1). -/
def nextCount (n : Int) (up : Bool) : Int :=
  if up then min Config.maxPosition (n + 1) else max Config.minPosition (n - 1)

/-- One count of the quadrature input; P follows it in OFF and UNHOMED (R80). -/
def State.encoderCount (s : State) (a : AxisNo) (up : Bool) : State :=
  let x := s.axis a
  let n := nextCount x.encoder up
  if n = x.encoder then s
  else match x.state with
    | .off => s.putAxisAt a { x with encoder := n } n false
    | .unhomed => s.putAxisAt a { x with encoder := n } n false
    | .homing | .awaitPower | .moving | .stopping | .idle | .faulted => s.putAxis a { x with encoder := n } false

/-- The 100 ms speed measurement (R95). -/
def State.speedMeasurement (s : State) (a : AxisNo) : State :=
  let x := s.axis a
  s.putAxis a
    { x with measuredSpeed := min 65535 ((x.encoder - x.speedRef).natAbs * 10), speedRef := x.encoder } true

end Sys2Proof.Machine
end

