-- ==== Sys2Proof/Machine/Shows.lean ====
section
/-! DEFINITION. Exhibit state changes with the ready lamp (Chapter 1), the show sequencer (Chapter 3), and the taking of axis
reports by shows and exhibits (R9, R10, R66, R93, R114). -/

namespace Sys2Proof.Machine

/-! ### Exhibit states and the ready lamp (R7, R18) -/

/-- The choice of Table 1-7. -/
def State.readySetting (s : State) (e : ExhibitNo) : Setting :=
  let x := s.exhibit e
  if x.state = .guarded ∨ (x.guardOpen ∧ x.state ≠ .running ∧ x.state ≠ .suspended) then .fixed .readyGuard
  else if x.state = .ready ∧ s.stopInForce = false then .fixed .readySteady
  else if x.state = .resting then .fixed .readyResting
  else .idle

/-- Table 1-7 is evaluated again for an exhibit (R18). -/
def State.evalReady (s : State) (e : ExhibitNo) : State :=
  match (s.exhibit e).inForce with
  | none => s
  | some c => s.chooseLamp c.readyLamp .readyLayer (s.readySetting e)

/-- The states in which an encore flag may stand set (R7). -/
def ExhibitState.keepsEncore : ExhibitState → Bool
  | .running | .suspended | .guarded | .resting => true
  | .off | .ready | .halting | .faulted | .locked => false

/-- An exhibit in a new state: the encore flag dropped where R7 says so, the rest timer only in RESTING, the guard-alert timer
and the return state only in GUARDED. -/
def Exhibit.entering (x : Exhibit) (st : ExhibitState) : Exhibit :=
  { x with
    state := st
    encore := x.encore && st.keepsEncore
    rest := if st = .resting then x.rest else none
    guardAlert := if st = .guarded then x.guardAlert else none
    returnState := if st = .guarded then x.returnState else none }

/-- An exhibit enters a state, and its ready lamp follows (R18). -/
def State.enterState (s : State) (e : ExhibitNo) (st : ExhibitState) : State :=
  (s.putExhibit e ((s.exhibit e).entering st)).evalReady e

/-- Every ready lamp is evaluated again. -/
def State.evalAllReady (s : State) : State := forEach 48 (fun e t => t.evalReady e) s

/-! ### The slot -/

/-- An emptied slot: its first fault is kept (R70). -/
def Slot.emptied (sl : Slot) : Slot :=
  { sl with current := none, status := none, wait := none, loopCount := 0, runaway := 0, frozen := false }

/-- The SHOW layers of an exhibit's show lamps go idle (R70). -/
def State.idleShowLamps (s : State) (lamps : List (Option ChannelNo)) : State :=
  lamps.foldl (fun t l => match l with
    | some ch => t.setLayer ch .showLayer .idle
    | none => t) s

/-- The common effects of every end of a show (R70). -/
def State.endShow (s : State) (e : ExhibitNo) : State :=
  let t := s.putSlot e (s.slot e).emptied
  match (s.exhibit e).inForce with
  | none => t
  | some c => t.idleShowLamps c.showLamps.toList

/-- The first fault of a slot is recorded when it is none (R68). -/
def State.recordFirst (s : State) (e : ExhibitNo) (code : ShowFault) (address : Nat) : State :=
  if (s.slot e).firstFault.isSome then s
  else s.putSlot e { s.slot e with firstFault := some { code := code, address := address } }

/-- The first fault of a slot becomes none. -/
def State.clearFirst (s : State) (e : ExhibitNo) : State := s.putSlot e { s.slot e with firstFault := none }

/-- What condition FAULTED carries (Table 1-6). -/
def State.faultNote (s : State) (e : ExhibitNo) : FaultNote :=
  { code := (s.slot e).firstFault.map (·.code), address := ((s.slot e).firstFault.map (·.address)).getD 0xFFFF }

/-- The resume record of an axis becomes none. -/
def State.dropResume (s : State) (a : AxisNo) : State := s.setAxis a { s.axis a with resume := none }

/-- The resume records of an exhibit's bound axes are discarded (R132). -/
def State.discardResume (s : State) (e : ExhibitNo) : State := (s.boundAxes e).foldl State.dropResume s

/-- The bound axes are brought to rest as HALT, CANCEL and a show fault have it, and one grant scan follows (R69, R74, R122). -/
def State.haltAxes (s : State) (e : ExhibitNo) : State := ((s.boundAxes e).foldl State.haltAxis s).grantScan

/-- Some bound axis is HOMING, AWAIT_POWER, MOVING or STOPPING. -/
def State.someAxisBusy (s : State) (e : ExhibitNo) : Bool := (s.boundAxes e).any fun a => (s.axis a).state.busy

/-- An exhibit enters FAULTED (R9). -/
def State.enterFaultedExhibit (s : State) (e : ExhibitNo) : State :=
  let t := (s.discardResume e).enterState e .faulted
  t.markCondition e (.faulted (t.faultNote e))

/-- A fault ends a show (R68, R69). -/
def State.showFault (s : State) (e : ExhibitNo) (code : ShowFault) (address : Nat) : State :=
  let t := ((((s.recordFirst e code address).endShow e).haltAxes e).enterFaultedExhibit e)
  if code.isStepFault then t.raise (exhibitSource e) .showFault 0 1 else t

/-! ### Steps (Tables 3-2 and 10-8) -/

/-- Step kinds. -/
inductive StepKind where
  | finish
  | move
  | home
  | waitAxis
  | waitMark
  | waitTime
  | waitPress
  | lamp
  | loop
  | next
  | jump
  | signal
  | call
  deriving DecidableEq, Repr

/-- Kind codes (Table 3-2). -/
def stepKind? (n : Nat) : Option StepKind :=
  match n with
  | 0 => some .finish
  | 1 => some .move
  | 2 => some .home
  | 3 => some .waitAxis
  | 4 => some .waitMark
  | 5 => some .waitTime
  | 6 => some .waitPress
  | 7 => some .lamp
  | 8 => some .loop
  | 9 => some .next
  | 10 => some .jump
  | 11 => some .signal
  | 12 => some .call
  | _ => none

/-- Lengths in words (Table 3-2). -/
def StepKind.length : StepKind → Nat
  | .finish | .home | .waitAxis | .waitMark | .loop | .next | .signal | .call => 1
  | .waitTime | .waitPress | .lamp | .jump => 2
  | .move => 3

/-- A step record as it stands in the store. -/
structure StepWords where
  kind : StepKind
  w0 : Word
  w1 : Word
  w2 : Word
  deriving DecidableEq, Repr

/-- A word of the show store. -/
def State.storeWord (s : State) (address : Nat) : Word := s.word (addrStore + address)

/-- The kind of the step at an address, or the fault that finding it meets (R48). -/
def State.readKind (s : State) (address : Nat) : Except ShowFault StepKind :=
  if Config.storeWords ≤ address then .error .storeEnd
  else match stepKind? (bits (s.storeWord address) 10 6) with
    | none => .error .stepInvalid
    | some k => if Config.storeWords < address + k.length then .error .storeEnd else .ok k

/-- The fields of word 0 (Table 10-8). -/
def StepWords.suspend (w : StepWords) : Bool := bit w.w0 9
def StepWords.nowait (w : StepWords) : Bool := bit w.w0 8
def StepWords.localAxis (w : StepWords) : Fin 4 := Fin.ofNat 4 (bits w.w0 0 2)
def StepWords.speedSet (w : StepWords) : Fin 4 := Fin.ofNat 4 (bits w.w0 2 2)
def StepWords.relative (w : StepWords) : Bool := bit w.w0 4
def StepWords.mark (w : StepWords) : Fin 4 := Fin.ofNat 4 (bits w.w0 2 2)
def StepWords.localLamp (w : StepWords) : Fin 8 := Fin.ofNat 8 (bits w.w0 0 3)
def StepWords.low (w : StepWords) : Nat := bits w.w0 0 8

/-- The target of a MOVE step. -/
def StepWords.target (w : StepWords) : Int := signed24 (65536 * bits w.w1 0 8 + w.w2.toNat)

/-- The sense of a WAIT_MARK step. -/
def StepWords.sense (w : StepWords) : Option Sense :=
  match bits w.w0 4 2 with
  | 0 => some .up
  | 1 => some .down
  | 2 => some .either
  | _ => none

/-- The axis a local axis index names. -/
def State.localAxis (s : State) (e : ExhibitNo) (i : Fin 4) : Option AxisNo :=
  (s.exhibit e).config.bind fun c => tget c.axes i

/-- The channel a local lamp index names. -/
def State.localLamp (s : State) (e : ExhibitNo) (i : Fin 8) : Option ChannelNo :=
  (s.exhibit e).config.bind fun c => tget c.showLamps i

/-- The step fails a check of R49. -/
def State.stepInvalid (s : State) (e : ExhibitNo) (w : StepWords) : Bool :=
  match w.kind with
  | .loop => w.low == 0
  | .waitTime => w.w1 == 0
  | .jump => decide (Config.storeWords ≤ w.w1.toNat)
  | .lamp => (decide (31 < w.w1.toNat) && w.w1 != 0xFFFF) || (s.localLamp e w.localLamp).isNone
  | .call => bits w.w0 6 2 == 0
  | .waitMark => w.sense.isNone ||
      match s.localAxis e w.localAxis with
      | none => true
      | some a => (tget (s.axis a).marks w.mark).isNone
  | .move | .home | .waitAxis => (s.localAxis e w.localAxis).isNone
  | .finish | .waitPress | .next | .signal => false

/-- The fault of a step's checks, that of R49 before that of R50. -/
def State.stepFault (s : State) (e : ExhibitNo) (w : StepWords) : Option ShowFault :=
  if s.stepInvalid e w then some .stepInvalid
  else match w.kind with
    | .next => if (s.slot e).loopCount = 0 then some .stepInvalid else none
    | .loop => if (s.slot e).loopCount = 0 then none else some .loopNest
    | .finish | .move | .home | .waitAxis | .waitMark | .waitTime | .waitPress | .lamp | .jump | .signal | .call => none

/-- The step at an address fetched and checked (R47 to R50). -/
def State.fetchStep (s : State) (e : ExhibitNo) (address : Nat) : Except ShowFault StepWords :=
  match s.readKind address with
  | .error f => .error f
  | .ok k =>
    let w : StepWords :=
      { kind := k, w0 := s.storeWord address, w1 := s.storeWord (address + 1), w2 := s.storeWord (address + 2) }
    match s.stepFault e w with
    | some f => .error f
    | none => .ok w

/-! ### Execution (R53 to R65) -/

/-- What the execution of a step leads to. -/
inductive StepResult where
  /-- The step completes at once; the show goes on at this address. -/
  | once (s : State) (next : Nat)
  /-- The step begins to wait. -/
  | waits (s : State) (wait : Wait)
  /-- END. -/
  | ends
  /-- The step meets a fault. -/
  | faults (code : ShowFault)

/-- MOVE against the state of its axis (Table 3-4). -/
def Axis.moveFault (x : Axis) : Option ShowFault :=
  match x.state with
  | .off | .faulted => some .axisUnusable
  | .unhomed => some .axisUnhomed
  | .homing => some .axisBusy
  | .awaitPower => match x.request with
    | some (.move _ _) => none
    | some .home => some .axisBusy
    | none => some .axisBusy
  | .idle | .moving | .stopping => none

/-- HOME against the state of its axis (Table 3-4). -/
def Axis.homeFault (x : Axis) : Option ShowFault :=
  match x.state with
  | .off | .faulted => some .axisUnusable
  | .unhomed | .idle => none
  | .homing | .awaitPower | .moving | .stopping => some .axisBusy

/-- A MOVE step (R55). -/
def State.executeMove (s : State) (w : StepWords) (a : AxisNo) (next : Nat) : StepResult :=
  let x := s.axis a
  match x.moveFault with
  | some f => .faults f
  | none =>
    let t := if w.relative then x.pos + w.target else w.target
    let u := s.takeMove a t w.speedSet
    if w.nowait || (x.moveCase t).completesAtOnce then .once u next else .waits u (.motion a .move)

/-- A HOME step (R56). -/
def State.executeHome (s : State) (w : StepWords) (a : AxisNo) (next : Nat) : StepResult :=
  match (s.axis a).homeFault with
  | some f => .faults f
  | none => if w.nowait then .once (s.takeHome a) next else .waits (s.takeHome a) (.motion a .home)

/-- A WAIT_AXIS step (R57). -/
def State.executeWaitAxis (s : State) (a : AxisNo) (next : Nat) : StepResult :=
  if (s.axis a).state.busy then .waits s (.axisRest a) else .once s next

/-- The setting a pattern operand names: a table pattern, or idle for 0xFFFF (R61, R153). -/
def patternSetting (w : Word) : Setting :=
  match index? 32 w.toNat with
  | some p => .table p
  | none => .idle

/-- A NEXT step (R62). -/
def State.executeNext (s : State) (e : ExhibitNo) (next : Nat) : StepResult :=
  let sl := s.slot e
  .once (s.putSlot e { sl with loopCount := sl.loopCount - 1 }) (if sl.loopCount = 1 then next else sl.loopStart)

/-- A step that has passed its checks is executed. -/
def State.execute (s : State) (e : ExhibitNo) (address : Nat) (w : StepWords) : StepResult :=
  let next := address + w.kind.length
  match w.kind with
  | .finish => .ends
  | .move => match s.localAxis e w.localAxis with
    | some a => s.executeMove w a next
    | none => .faults .stepInvalid
  | .home => match s.localAxis e w.localAxis with
    | some a => s.executeHome w a next
    | none => .faults .stepInvalid
  | .waitAxis => match s.localAxis e w.localAxis with
    | some a => s.executeWaitAxis a next
    | none => .faults .stepInvalid
  | .waitMark => match s.localAxis e w.localAxis, w.sense with
    | some a, some sense => .waits s (.mark a w.mark sense)
    | _, _ => .faults .stepInvalid
  | .waitTime => .waits s (.time (w.w1.toNat * 10))
  | .waitPress => .waits s (.press (if w.w1 = 0 then none else some (w.w1.toNat * 10)))
  | .lamp => match s.localLamp e w.localLamp with
    | some ch => .once (s.setLayer ch .showLayer (patternSetting w.w1)) next
    | none => .faults .stepInvalid
  | .loop => .once (s.putSlot e { s.slot e with loopCount := w.low, loopStart := next }) next
  | .next => s.executeNext e next
  | .jump => .once s w.w1.toNat
  | .signal => .once (s.markCondition e (.signal w.low)) next
  | .call => .once (s.raise (exhibitSource e) .showCall (bits w.w0 0 6) (bits w.w0 6 2)) next

/-! ### Acts (R51 to R54) -/

/-- A step is held by its SUSPEND mark (R51). -/
def State.holdsStep (s : State) (e : ExhibitNo) (w : StepWords) : Bool :=
  w.suspend && (s.exhibit e).state == .running && ((s.exhibit e).config.map (·.suspendAllowed)).getD false

/-- The slot is held and the exhibit enters SUSPENDED (R8, R51). -/
def State.hold (s : State) (e : ExhibitNo) : State :=
  ((s.putSlot e { s.slot e with status := some .held, runaway := 0 }).enterState e .suspended).markCondition e .suspended

/-- The slot waits (R53). -/
def State.beginWait (s : State) (e : ExhibitNo) (w : Wait) : State :=
  s.putSlot e { s.slot e with status := some .waiting, wait := some w, runaway := 0 }

/-- The slot at a start address (R46). -/
def Slot.started (sl : Slot) (address : Nat) : Slot :=
  { sl.emptied with current := some address, firstFault := none }

/-- What one step of an act leads to. -/
inductive ActResult where
  | finished (s : State)
  | goesOn (s : State)

/-- The END of a show: the exhibit rests, becomes READY or runs its encore (R6, R54). -/
def State.normalEnd (s : State) (e : ExhibitNo) : ActResult :=
  let t := s.endShow e
  let x := { t.exhibit e with completed := satAdd 65535 (t.exhibit e).completed 1 }
  let u := (t.putExhibit e x).markCondition e .ended
  match x.config with
  | none => .finished (u.enterState e .ready)
  | some c =>
    if 0 < c.restTime then
      let v := u.enterState e .resting
      .finished (v.putExhibit e { v.exhibit e with rest := some (c.restTime * 1000) })
    else if x.encore then
      .goesOn ((u.putExhibit e { x with encore := false }).putSlot e ((u.slot e).started c.defaultShow))
    else .finished (u.enterState e .ready)

/-- One step of an act: the step at the current address is fetched, checked and executed. -/
def State.actStep (s : State) (e : ExhibitNo) : ActResult :=
  let address := (s.slot e).current.getD 0
  match s.fetchStep e address with
  | .error f => .finished (s.showFault e f address)
  | .ok w =>
    if s.holdsStep e w then .finished (s.hold e)
    else
      let run := (s.slot e).runaway + 1
      match s.execute e address w with
      | .faults f => .finished (s.showFault e f address)
      | .waits t wait => .finished (t.beginWait e wait)
      | .ends => if Config.runawayLimit ≤ run then .finished (s.showFault e .runaway address) else s.normalEnd e
      | .once t next =>
        if Config.runawayLimit ≤ run then .finished (t.showFault e .runaway address)
        else .goesOn (t.putSlot e { t.slot e with current := some next, runaway := run })

/-- The steps of an act, at most `n` of them. -/
def runSteps (e : ExhibitNo) : Nat → State → State
  | 0, s => s
  | n + 1, s =>
    match s.actStep e with
    | .finished t => t
    | .goesOn t => runSteps e n t

/-- More steps than any act has: 64 raise a runaway count to its limit (R53), and an encore run begins the count once anew. -/
def actFuel : Nat := 200

/-- The act of a slot runs from its current step. -/
def State.runAct (s : State) (e : ExhibitNo) : State := runSteps e actFuel s

/-- A show starts (R5, R46). -/
def State.startShow (s : State) (e : ExhibitNo) (address : Nat) : State :=
  ((s.putSlot e ((s.slot e).started address)).enterState e .running).runAct e

/-- The default show of an exhibit starts. -/
def State.startDefault (s : State) (e : ExhibitNo) : State :=
  match (s.exhibit e).config with
  | some c => s.startShow e c.defaultShow
  | none => s

/-- The length of the step that set a wait record (Tables 3-2 and 3-3). -/
def Wait.stepLength : Wait → Nat
  | .motion _ .move => 3
  | .motion _ .home => 1
  | .axisRest _ => 1
  | .mark _ _ _ => 1
  | .time _ => 2
  | .press _ => 2

/-- The waiting step completes and the show goes on at an address. -/
def State.goOnAt (s : State) (e : ExhibitNo) (address : Nat) : State :=
  (s.putSlot e { s.slot e with current := some address, status := none, wait := none }).runAct e

/-- The waiting step completes and the show goes on at its successor (R48, R52). -/
def State.completeWait (s : State) (e : ExhibitNo) : State :=
  match (s.slot e).wait, (s.slot e).current with
  | some w, some address => s.goOnAt e (address + w.stepLength)
  | _, _ => s

/-- The WAIT_PRESS step completes by timeout: its successor is skipped (R60). -/
def State.skipSuccessor (s : State) (e : ExhibitNo) : State :=
  match (s.slot e).wait, (s.slot e).current with
  | some w, some address =>
    let successor := address + w.stepLength
    match s.readKind successor with
    | .error f => s.showFault e f successor
    | .ok k => s.goOnAt e (successor + k.length)
  | _, _ => s

/-! ### Axis reports (R9, R10, R66, R83, R93, R114) -/

/-- The sense of a WAIT_MARK step matches a crossing (R58). -/
def Sense.matches (sense : Sense) (up : Bool) : Bool :=
  match sense with
  | .up => up
  | .down => !up
  | .either => true

/-- The slot waits for this crossing. -/
def Slot.awaitsCrossing (sl : Slot) (a : AxisNo) (m : Fin 4) (up : Bool) : Bool :=
  sl.status == some .waiting && !sl.frozen &&
    match sl.wait with
    | some (.mark b k sense) => a == b && m == k && sense.matches up
    | _ => false

/-- A HALTING exhibit none of whose bound axes is still on its way enters READY, with HALTED set (R10). -/
def State.haltComplete (s : State) (e : ExhibitNo) : State :=
  if (s.exhibit e).state = .halting ∧ s.someAxisBusy e = false then (s.enterState e .ready).markCondition e .halted else s

/-- A bound axis fault meets the state of its exhibit (R9, R68). DESIGN CHOICE (assumption 34), unsafe: the step address of a
fault recorded while LOCKED. -/
def State.exhibitAxisFault (s : State) (e : ExhibitNo) (cause : FaultCause) : State :=
  match (s.exhibit e).state with
  | .running | .suspended | .guarded => s.showFault e cause.showFault ((s.slot e).current.getD 0xFFFF)
  | .halting | .ready | .resting => (s.recordFirst e cause.showFault 0xFFFF).enterFaultedExhibit e
  | .locked => s.recordFirst e cause.showFault 0xFFFF
  | .faulted | .off => s

/-- An axis fault is reported to its exhibit, or marked in the gallery record, and alerted (R93). -/
def State.takeAxisFault (s : State) (a : AxisNo) (cause : FaultCause) : State :=
  let t := match s.axisOwner a with
    | some e => s.exhibitAxisFault e cause
    | none => s.markAxisFault a
  (t.raise (s.axisSource a) .axisFault 0 2).grantScan

/-- One report is taken. DEDUCED (assumption 12), unsafe. -/
def State.deliver (s : State) (r : Report) : State :=
  match r with
  | .crossing a m up => match s.axisOwner a with
    | some e => if (s.slot e).awaitsCrossing a m up then s.completeWait e else s
    | none => s
  | .motionDone a kind => match s.axisOwner a with
    | some e => if s.slotAwaits e (.motion a kind) then s.completeWait e else s
    | none => s
  | .atRest a => match s.axisOwner a with
    | some e => if s.slotAwaits e (.axisRest a) then s.completeWait e else s.haltComplete e
    | none => s
  | .axisFault a cause => s.takeAxisFault a cause

/-- The reports of an act are taken one after another, at most `n` of them. -/
def settleUpTo : Nat → State → State
  | 0, s => s
  | n + 1, s =>
    match s.reports with
    | [] => s
    | r :: rest => settleUpTo n (State.deliver { s with reports := rest } r)

/-- More reports than the consequences of one event make. -/
def settleFuel : Nat := 4096

/-- The reports of an act are taken until none is left. DEDUCED (assumption 12), unsafe; the bound DEDUCED (assumption
29), safe. -/
def State.settle (s : State) : State := settleUpTo settleFuel s

end Sys2Proof.Machine
end

