-- ==== Sys2Proof/Machine/Guards.lean ====
section
/-! DEFINITION. Guards with the freeze and the resumption of a show, and the gallery stop (Chapter 7). -/

namespace Sys2Proof.Machine

/-- The exhibit is in force and its configuration names the guard input. -/
def State.namesGuard (s : State) (e : ExhibitNo) (g : GuardNo) : Bool :=
  match (s.exhibit e).inForce with
  | some c => c.guard == some g
  | none => false

/-- The present filtered level of the guard input a configuration names; clear when it names none (R3, R17). -/
def State.guardLevel (s : State) (guard : Option GuardNo) : Bool :=
  match guard with
  | some g => (s.guardLine g).level
  | none => false

/-! ### The freeze (R129) -/

/-- The resume record the freeze gives an axis (R129). -/
def Axis.resumeRecord (x : Axis) : Option Request :=
  match x.state with
  | .moving => x.move.map fun m => .move m.target m.speedSet
  | .stopping => x.request
  | .homing => some .home
  | .awaitPower => x.request
  | .off | .unhomed | .idle | .faulted => none

/-- An axis is stopped where it is: a quick stop, or its place in the wait list given up (R129, R136). -/
def State.stopInPlace (s : State) (a : AxisNo) : State :=
  match (s.axis a).state with
  | .homing | .moving | .stopping => s.quickStop a
  | .awaitPower => s.leaveAwait a
  | .off | .unhomed | .idle | .faulted => s

/-- The freeze deals with one bound axis (R129). -/
def State.freezeAxis (s : State) (a : AxisNo) : State :=
  let t := s.stopInPlace a
  t.setAxis a { t.axis a with resume := (s.axis a).resumeRecord }

/-- An axis of the list has become FAULTED since `before`. -/
def State.someFaultedSince (s before : State) (axes : List AxisNo) : Bool :=
  axes.any fun a => (s.axis a).state == .faulted && (before.axis a).state != .faulted

/-- The state GUARDED returns to from a state (R11). -/
def ExhibitState.returnTo : ExhibitState → ReturnState
  | .suspended => .suspended
  | .off | .ready | .running | .guarded | .halting | .resting | .faulted | .locked => .running

/-- The exhibit enters GUARDED with its slot frozen (R67, R129). -/
def State.enterGuarded (s : State) (e : ExhibitNo) : State :=
  let r := (s.exhibit e).state.returnTo
  let t := s.enterState e .guarded
  (t.putExhibit e { t.exhibit e with returnState := some r }).putSlot e { t.slot e with frozen := true }

/-- The episode is reported and its guard-alert timer starts (R129). -/
def State.beginEpisode (s : State) (e : ExhibitNo) : State :=
  let x := s.exhibit e
  (s.putExhibit e { x with guardAlert := x.config.map fun c => c.guardAlertTime * 1000 }).markCondition e .guarded

/-- The freeze of an exhibit. A TRAVEL fault that a quick stop finds is taken afterwards and ends the show (R129).
DEDUCED (assumptions 13 and 14), unsafe. -/
def State.freeze (s : State) (e : ExhibitNo) : State :=
  let t := s.enterGuarded e
  let u := ((t.boundAxes e).foldl State.freezeAxis t).grantScan
  if u.someFaultedSince t (t.boundAxes e) then u else u.beginEpisode e

/-- A bound axis that is STOPPING quick-stops (R128). -/
def State.stopStopping (s : State) (a : AxisNo) : State := if (s.axis a).state = .stopping then s.quickStop a else s

/-- A guard opening at a HALTING exhibit (R10, R128). -/
def State.openingAtHalt (s : State) (e : ExhibitNo) : State :=
  let u := ((s.boundAxes e).foldl State.stopStopping s).grantScan
  if u.someFaultedSince s (s.boundAxes e) then u
  else (u.enterState e .ready).markCondition e .halted

/-- An exhibit takes the opening of its guard (R128). -/
def State.exhibitOpening (s : State) (e : ExhibitNo) : State :=
  let t := (s.putExhibit e { s.exhibit e with guardOpen := true, settle := none }).evalReady e
  match (s.exhibit e).state with
  | .running | .suspended => t.freeze e
  | .halting => t.openingAtHalt e
  | .off | .ready | .guarded | .resting | .faulted | .locked => t

/-- A guard line's opening is recognised and handed to the exhibits that name it (R127, R128). DEDUCED (assumption
14), unsafe: the order. -/
def State.guardOpening (s : State) (g : GuardNo) : State :=
  if (s.guardLine g).level then s
  else forEach 48 (fun e t => if t.namesGuard e g then (t.exhibitOpening e).settle else t)
    (s.setGuardLine g (.recognised true))

/-! ### Closing, settling and resumption (R130, R131) -/

/-- An exhibit takes the closing of its guard (R130). -/
def State.exhibitClosing (s : State) (e : ExhibitNo) : State :=
  let x := s.exhibit e
  if x.guardOpen then s.putExhibit e { x with settle := x.config.map fun c => c.guardSettle * 100 } else s

/-- A guard line's closing is recognised and handed to the exhibits that name it (R127, R130). -/
def State.guardClosing (s : State) (g : GuardNo) : State :=
  if (s.guardLine g).level then
    forEach 48 (fun e t => if t.namesGuard e g then t.exhibitClosing e else t) (s.setGuardLine g (.recognised false))
  else s

/-- The resume record of an axis is requested anew (R131 step 1). -/
def State.resumeAxis (s : State) (a : AxisNo) : State :=
  match (s.axis a).resume with
  | some r => s.takeRequest a r
  | none => s

/-- The resumed move of an axis completes at once (R82, R131). -/
def State.resumesAtOnce (s : State) (a : AxisNo) : Bool :=
  let x := s.axis a
  match x.resume with
  | some (.move t _) => x.state == .idle && x.homed && (x.moveCase t).completesAtOnce
  | some .home => false
  | none => false

/-- A resumption in the making: the state, and the axes whose resumed moves completed at once. -/
structure Resuming where
  state : State
  complete : List AxisNo

/-- One axis of a resumption. -/
def Resuming.axis (r : Resuming) (a : AxisNo) : Resuming :=
  { state := r.state.resumeAxis a, complete := if r.state.resumesAtOnce a then r.complete ++ [a] else r.complete }

/-- An exhibit state a GUARDED exhibit returns to. -/
def ReturnState.state : ReturnState → ExhibitState
  | .running => .running
  | .suspended => .suspended

/-- An AXIS_REST wait judges its axis anew at the thaw (R67). -/
def State.thawWait (s : State) (e : ExhibitNo) : State :=
  match (s.slot e).status, (s.slot e).wait with
  | some .waiting, some (.axisRest a) => if (s.axis a).state.busy then s else s.completeWait e
  | _, _ => s

/-- A GUARDED exhibit returns to its return state and its slot thaws; `complete` are the axes whose resumed moves
completed at once (R131 steps 2 to 5). DEDUCED (assumption 15), safe. -/
def State.thaw (s : State) (e : ExhibitNo) (complete : List AxisNo) : State :=
  let t := s.discardResume e
  let u := t.enterState e (((t.exhibit e).returnState.getD .running).state)
  let v := u.putSlot e { u.slot e with frozen := false }
  (complete.foldl (fun w a => w.reportDone a .move) v).thawWait e

/-- The resumption of a GUARDED exhibit. Crossings made by the requests are taken while the slot is frozen; the completions of
moves that complete at once are reported after the thaw (R131). -/
def State.resumption (s : State) (e : ExhibitNo) : State :=
  let r := (s.boundAxes e).foldl Resuming.axis { state := s, complete := [] }
  let t := r.state.settle
  if (t.exhibit e).state = .guarded then t.thaw e r.complete else t

/-- The settle timer of an exhibit runs out (R130). -/
def State.settleExpiry (s : State) (e : ExhibitNo) : State :=
  let x := s.exhibit e
  if x.settle.isNone then s
  else
    let t := ((s.putExhibit e { x with settle := none, guardOpen := false }).evalReady e).clearingEvent (exhibitSource e)
      .guardHeld
    if x.state = .guarded then t.resumption e else t

/-- The guard-alert timer of an exhibit runs out (R133). -/
def State.guardAlertExpiry (s : State) (e : ExhibitNo) : State :=
  let x := s.exhibit e
  if x.guardAlert.isNone then s
  else (s.putExhibit e { x with guardAlert := none }).raise (exhibitSource e) .guardHeld 0 2

/-! ### The gallery stop (R134 to R139) -/

/-- The states in which the beginning of the gallery stop ends a show or a halt (R12). -/
def ExhibitState.stopEnds : ExhibitState → Bool
  | .running | .suspended | .guarded | .halting => true
  | .off | .ready | .resting | .faulted | .locked => false

/-- The beginning of the gallery stop at one exhibit (R136 step 2). -/
def State.stopExhibit (s : State) (e : ExhibitNo) : State :=
  if (s.exhibit e).state.stopEnds then
    (((s.endShow e).discardResume e).enterState e .ready).markCondition e .stopped
  else s

/-- The encore flag of an exhibit is dropped (R7). -/
def State.dropEncore (s : State) (e : ExhibitNo) : State := s.putExhibit e { s.exhibit e with encore := false }

/-- The gallery stop is in force, or is not; the release-written flag is clear in either case. -/
def State.setStop (s : State) (inForce : Bool) : State := { s with stopInForce := inForce, releaseWritten := false }

/-- The release-written flag. -/
def State.setReleaseWritten (s : State) (written : Bool) : State := { s with releaseWritten := written }

/-- Shows and halts end, encores are dropped and every axis comes to rest where it is (R136 steps 1 to 4). -/
def State.stopAll (s : State) : State :=
  let t := forEach 48 (fun e u => u.stopExhibit e) (s.setStop true)
  let u := forEach 48 (fun e v => v.dropEncore e) t
  (forEach 16 (fun a v => v.stopInPlace a) u).grantScan

/-- The beginning of the gallery stop (R136). In COLD no condition is set and the raise is dropped (R139). -/
def State.stopBegin (s : State) : State :=
  let t := s.stopAll.settle.raise gallerySource .galleryStop 0 3
  let u := if t.part = .run then t.markStopOn else t
  (u.setAttn attnStopChange).evalAllReady

/-- The end of the gallery stop (R138). In COLD no condition is set (R139). -/
def State.stopEnd (s : State) : State :=
  let t := s.setStop false
  let u := if t.part = .run then t.markStopOff else t
  ((u.setAttn attnStopChange).clearingEvent gallerySource .galleryStop).evalAllReady

/-- The filter of the E-STOP pin replaced. -/
def State.setEstop (s : State) (f : InputFilter) : State := { s with estop := f }

/-- The E-STOP pin is recognised asserted (R134). -/
def State.estopAssertion (s : State) : State :=
  if s.estop.level then s
  else
    let t := s.setEstop (.recognised true)
    if t.stopInForce then t.setReleaseWritten false else t.stopBegin

/-- The E-STOP pin is recognised released (R134). -/
def State.estopRelease (s : State) : State :=
  if s.estop.level then
    let t := s.setEstop (.recognised false)
    if t.stopInForce ∧ t.releaseWritten then t.stopEnd else t
  else s

/-- A host write of a value to STOP, outside the RAM clearing (R135). -/
def State.stopWrite (s : State) (value : Nat) : State :=
  match value with
  | 1 => if s.stopInForce then s.setReleaseWritten false else s.stopBegin
  | 2 =>
    if s.stopInForce = false then s
    else if s.estop.level then s.setReleaseWritten true
    else s.stopEnd
  | _ => s

end Sys2Proof.Machine
end

