-- ==== Sys2Proof/Machine/Buttons.lean ====
section
/-! DEFINITION. Visitor buttons: debounce, holds, the dispatch of presses, trigger groups, and the taking in of the button map,
the groups and the gallery parameters (Chapter 2). -/

namespace Sys2Proof.Machine

/-! ### Counters and judgements (R19, R37 to R42) -/

/-- A press the exhibit acted on (R19). -/
def State.countAccepted (s : State) (e : ExhibitNo) : State :=
  s.putExhibit e { s.exhibit e with accepted := satAdd 65535 (s.exhibit e).accepted 1 }

/-- A press the exhibit did not act on (R19). -/
def State.countIgnored (s : State) (e : ExhibitNo) : State :=
  s.putExhibit e { s.exhibit e with ignored := satAdd 65535 (s.exhibit e).ignored 1 }

/-- A press judged: the state it leaves, and whether it took effect (R35). -/
structure Judged where
  state : State
  effect : Bool

/-- The press is ignored and counted. -/
def State.pressIgnored (s : State) (e : ExhibitNo) : Judged := { state := s.countIgnored e, effect := false }

/-- The current step is a WAIT_PRESS whose wait has not completed (Table 2-5, line 2). -/
def Slot.awaitsPress (sl : Slot) : Bool :=
  sl.status == some .waiting &&
    match sl.wait with
    | some (.press _) => true
    | _ => false

/-- Lines 3 and 4 of Table 2-5. -/
def State.encorePress (s : State) (e : ExhibitNo) : Judged :=
  let x := s.exhibit e
  if x.config.map (·.policy) = some .encore then
    { state := (s.putExhibit e { x with encore := true }).countAccepted e, effect := true }
  else s.pressIgnored e

/-- A START press (R37, R38). -/
def State.startPress (s : State) (e : ExhibitNo) : Judged :=
  let x := s.exhibit e
  if s.stopInForce ∨ x.guardOpen then s.pressIgnored e
  else match x.state with
    | .running =>
      if (s.slot e).awaitsPress then { state := (s.countAccepted e).completeWait e, effect := false } else s.encorePress e
    | .resting => s.encorePress e
    | .ready => { state := (s.countAccepted e).startDefault e, effect := true }
    | .off | .suspended | .guarded | .halting | .faulted | .locked => s.pressIgnored e

/-- The exhibit is a member of the group. -/
def State.isMember (s : State) (g : Fin 8) (e : ExhibitNo) : Bool := (tget s.groups g).getLsbD e.val

/-- One member of a GROUP press (R40). -/
def State.memberPress (s : State) (e : ExhibitNo) : Judged :=
  let x := s.exhibit e
  if x.state = .ready ∧ x.guardOpen = false ∧ s.stopInForce = false then
    { state := (s.countAccepted e).startDefault e, effect := true }
  else s.pressIgnored e

/-- A GROUP press, member by member in ascending exhibit number (R40). -/
def State.groupPress (s : State) (g : Fin 8) : Judged :=
  forEach 48 (fun e j =>
    if s.isMember g e then
      { state := (j.state.memberPress e).state, effect := j.effect || (j.state.memberPress e).effect }
    else j) { state := s, effect := false }

/-- A CALL press (R41). -/
def State.callPress (s : State) (e : ExhibitNo) : Judged :=
  match (s.exhibit e).state with
  | .off | .locked => s.pressIgnored e
  | .ready | .running | .suspended | .guarded | .halting | .resting | .faulted =>
    { state := s.raise (exhibitSource e) .visitorCall 0 1, effect := s.raiseTakes (exhibitSource e) .visitorCall 1 }

/-- An ACK press (R42, R166). -/
def State.ackPress (s : State) (st : StationNo) : Judged :=
  match s.ackPressEntry st with
  | some x => { state := s.acknowledge x, effect := true }
  | none => { state := s, effect := false }

/-- A press judged by its action (R35). -/
def State.judge (s : State) : Action → Judged
  | .none => { state := s, effect := false }
  | .start e => s.startPress e
  | .group g => s.groupPress g
  | .call e => s.callPress e
  | .ack st => s.ackPress st

/-- A press dropped by lockout counts at each exhibit it names (R36). -/
def State.countDropped (s : State) : Action → State
  | .none => s
  | .start e => s.countIgnored e
  | .group g => forEach 48 (fun e t => if s.isMember g e then t.countIgnored e else t) s
  | .call e => s.countIgnored e
  | .ack _ => s

/-- The lockout of a button starts, when its entry has one (R36). -/
def State.startLockout (s : State) (b : ButtonNo) : State :=
  let x := s.button b
  if 0 < x.entry.lockout then s.setButton b { x with lockout := some (x.entry.lockout * 100) } else s

/-- The dispatch of a press of a button with an action (R35, R36). -/
def State.dispatch (s : State) (b : ButtonNo) (action : Action) : State :=
  if action = .none then s
  else if (s.button b).lockout.isSome then s.countDropped action
  else
    let j := s.judge action
    if j.effect then j.state.startLockout b else j.state

/-- A long action as the action it dispatches. -/
def LongAction.action : LongAction → Action
  | .none => .none
  | .call e => .call e
  | .ack st => .ack st

/-! ### Holds (R26 to R30) -/

/-- A button is recognised closed (R26). -/
def State.closure (s : State) (b : ButtonNo) : State :=
  let x := s.button b
  if x.input.level then s
  else if x.entry.longAction = .none then
    ((s.setButton b { x with input := .recognised true, hold := .plain, holdTimer := 0 }).dispatch b x.entry.action).settle
  else s.setButton b { x with input := .recognised true, hold := .watched, holdTimer := 0 }

/-- A button is recognised open (R27). -/
def State.release (s : State) (b : ButtonNo) : State :=
  let x := s.button b
  if x.input.level then
    let t := s.setButton b { x with input := .recognised false, hold := .opened, holdTimer := 0 }
    if x.hold = .watched then (t.dispatch b x.entry.action).settle else t
  else s

/-- The long threshold in ms (R28). -/
def State.longMs (s : State) : Nat := s.params.longThreshold * 100

/-- The stuck time in ms (R29). -/
def State.stuckMs (s : State) : Nat := s.params.stuckTime * 1000

/-- The hold timer of a WATCHED button reaches the long threshold (R28). DESIGN CHOICE (assumption 3), unsafe. -/
def State.longPress (s : State) (b : ButtonNo) : State :=
  let x := s.button b
  if x.hold = .watched then
    ((s.setButton b { x with hold := .longGiven, holdTimer := max x.holdTimer s.longMs }).dispatch b
      x.entry.longAction.action).settle
  else s

/-- The exhibit a map entry names for its BUTTON_STUCK (Table 2-2), OFF or not, by its action and by its long action. -/
def Action.stuckExhibit : Action → Option ExhibitNo
  | .start e => some e
  | .call e => some e
  | .none => Option.none
  | .group _ => Option.none
  | .ack _ => Option.none

/-- An exhibit that is not OFF, as a source. -/
def State.presentSource (s : State) (e : Option ExhibitNo) : Option SourceNo :=
  match e with
  | some k => if (s.exhibit k).state = .off then none else some (exhibitSource k)
  | none => none

/-- The source of a BUTTON_STUCK alert (Table 2-2). -/
def State.stuckSource (s : State) (entry : ButtonEntry) : SourceNo :=
  match s.presentSource entry.action.stuckExhibit, s.presentSource entry.longAction.action.stuckExhibit with
  | some src, _ => src
  | none, some src => src
  | none, none => gallerySource

/-- The hold timer of a PLAIN or LONG_GIVEN button reaches the stuck time (R29, R30). DESIGN CHOICE (assumption 3),
unsafe. -/
def State.stuck (s : State) (b : ButtonNo) : State :=
  let x := s.button b
  if x.hold = .plain ∨ x.hold = .longGiven then
    (s.setButton b { x with hold := .stuck, holdTimer := max x.holdTimer s.stuckMs }).raise (s.stuckSource x.entry)
      .buttonStuck 0 1
  else s

/-- The lockout timer of a button runs out (R36). -/
def State.lockoutExpiry (s : State) (b : ButtonNo) : State := s.setButton b { s.button b with lockout := none }

/-! ### Readings (R25) -/

/-- The run count after a reading that differs from the recognised level. -/
def InputFilter.nextRun (f : InputFilter) : Nat := satAdd 15 f.run 1

/-- A button is read (R25). DEDUCED (assumption 8), safe. -/
def State.buttonReading (s : State) (b : ButtonNo) (closed : Bool) : State :=
  let x := s.button b
  if closed = x.input.level then s.setButton b { x with input := { x.input with pin := closed, run := 0 } }
  else if x.input.nextRun < s.params.debounce then
    s.setButton b { x with input := { x.input with pin := closed, run := x.input.nextRun } }
  else if closed then s.closure b else s.release b

/-! ### CONFIGURE GALLERY (R33, R34) -/

/-- The first field of the gallery record outside its range (Table 2-4). -/
def State.galleryFieldFault (s : State) : Option Nat :=
  let n := (s.word addrGalleryRecord).toNat
  let l := (s.word (addrGalleryRecord + 1)).toNat
  let k := (s.word (addrGalleryRecord + 2)).toNat
  if n < 2 ∨ 15 < n then some 1
  else if l < 5 ∨ 50 < l then some 2
  else if k < 10 ∨ 255 < k then some 3
  else none

/-- New parameters meet a hold under way: the long press of the button first, then its stuck moment (R34). -/
def State.holdMeetsParams (s : State) (b : ButtonNo) : State :=
  let t := if (s.button b).hold = .watched ∧ s.longMs ≤ (s.button b).holdTimer then s.longPress b else s
  if ((t.button b).hold = .plain ∨ (t.button b).hold = .longGiven) ∧ t.stuckMs ≤ (t.button b).holdTimer then t.stuck b
  else t

/-- The gallery parameters replaced. -/
def State.setParams (s : State) (p : GalleryParams) : State := { s with params := p }

/-- The effect of a taken CONFIGURE GALLERY (R33, R34): the buttons whose holds meet the new values are dealt with in ascending
number, each with its long press and its stuck moment before the next. DESIGN CHOICE (assumption 35), unsafe: the order. -/
def State.takeGalleryRecord (s : State) : State :=
  forEach 256 (fun b t => t.holdMeetsParams b)
    (s.setParams
      { debounce := (s.word addrGalleryRecord).toNat
        longThreshold := (s.word (addrGalleryRecord + 1)).toNat
        stuckTime := (s.word (addrGalleryRecord + 2)).toNat })

/-! ### CONFIGURE BUTTONS (R31, R32) -/

/-- An action code with its target (Table 10-7). -/
def parseAction (code target : Nat) : Option Action :=
  match code with
  | 0 => some .none
  | 1 => (index? 48 target).map .start
  | 2 => (index? 8 target).map .group
  | 3 => (index? 48 target).map .call
  | 4 => (index? 4 target).map .ack
  | _ => none

/-- A long action code with its target (Table 10-7). -/
def parseLongAction (code target : Nat) : Option LongAction :=
  match code with
  | 0 => some .none
  | 3 => (index? 48 target).map .call
  | 4 => (index? 4 target).map .ack
  | _ => none

/-- A button map entry, when it passes its checks (R31). -/
def parseButton (w0 w1 : Word) : Option ButtonEntry :=
  match parseAction (bits w0 12 4) (bits w1 8 8), parseLongAction (bits w0 8 4) (bits w1 0 8) with
  | some a, some l => some { action := a, longAction := l, lockout := bits w0 0 8 }
  | _, _ => none

/-- The map entry of exchange RAM. -/
def State.readButton (s : State) (b : ButtonNo) : Option ButtonEntry :=
  parseButton (s.word (addrButton b)) (s.word (addrButton b + 1))

/-- The first button whose entry fails (R31). -/
def State.buttonMapFault (s : State) : Option ButtonNo := lowest 256 fun b => (s.readButton b).isNone

/-- The effect of a taken CONFIGURE BUTTONS (R32). -/
def State.takeButtonMap (s : State) : State :=
  { s with buttons := tmap (fun b x => { x with entry := (s.readButton b).getD x.entry }) s.buttons }

/-! ### CONFIGURE GROUPS (R43) -/

/-- The members a group record names (Table 10-7). -/
def State.readGroup (s : State) (g : Fin 8) : BitVec 48 :=
  BitVec.ofNat 48 ((s.word (addrGroup g)).toNat + 65536 * (s.word (addrGroup g + 1)).toNat +
    4294967296 * (s.word (addrGroup g + 2)).toNat)

/-- The effect of a taken CONFIGURE GROUPS (R43). -/
def State.takeGroups (s : State) : State := { s with groups := tmap (fun g _ => s.readGroup g) s.groups }

end Sys2Proof.Machine
end

