-- ==== Sys2Proof/Machine/Operands.lean ====
section
/-! DEFINITION. The operands of orders and the configuration records of exhibits and axes: their layouts (Tables 10-4 to 10-6),
their checks (R2, R78) and the copies they make. -/

namespace Sys2Proof.Machine

/-- The number of the first check of a list that fails. -/
def firstFault : List (Nat × Bool) → Option Nat
  | [] => none
  | (n, ok) :: rest => if ok then firstFault rest else some n

/-- A field that may hold none, 0xFFFF, or a number below `n` (R193). -/
def noneOr (n : Nat) (w : Word) : Bool := w == 0xFFFF || decide (w.toNat < n)

/-- The number such a field names; none for 0xFFFF. -/
def fieldIndex (n : Nat) (w : Word) : Option (Fin n) := if w = 0xFFFF then none else index? n w.toNat

/-! ### The exhibit configuration record (Table 1-2, R2) -/

/-- The word of field `n` of an exhibit record. -/
def State.exhibitField (s : State) (e : ExhibitNo) (n : Nat) : Word := s.word (addrExhibitRecord e + (n - 1))

/-- The axis is bound to another exhibit than `e`. -/
def State.axisElsewhere (s : State) (e : ExhibitNo) (a : AxisNo) : Bool :=
  (lowest 48 fun k => k != e && match (s.exhibit k).inForce with
    | some c => c.namesAxis a
    | none => false).isSome

/-- The channel is bound to another exhibit than `e`, or is the call lamp of a station. -/
def State.channelElsewhere (s : State) (e : ExhibitNo) (ch : ChannelNo) : Bool :=
  s.isCallLamp ch || (lowest 48 fun k => k != e && match (s.exhibit k).inForce with
    | some c => c.namesChannel ch
    | none => false).isSome

/-- An axis may be named by the record of an exhibit: it is not bound elsewhere, and neither OFF nor FAULTED. -/
def State.axisNameable (s : State) (e : ExhibitNo) (a : AxisNo) : Bool :=
  !s.axisElsewhere e a && (s.axis a).state != .off && (s.axis a).state != .faulted

/-- The axis field of local index `i` passes its checks. -/
def State.axisFieldOk (s : State) (e : ExhibitNo) (i : Fin 4) : Bool :=
  let w := s.exhibitField e (7 + i.val)
  match fieldIndex 16 w with
  | none => w == 0xFFFF
  | some a => s.axisNameable e a &&
      (lowest 4 fun j => decide (j.val < i.val) && s.exhibitField e (7 + j.val) == w).isNone

/-- A lamp field passes its checks. -/
def State.lampFieldOk (s : State) (e : ExhibitNo) (n : Nat) : Bool :=
  let w := s.exhibitField e n
  match fieldIndex 64 w with
  | none => w == 0xFFFF
  | some ch => !s.channelElsewhere e ch

/-- The checks of a record whose enable field holds yes, in field-number order. -/
def State.exhibitChecks (s : State) (e : ExhibitNo) : List (Nat × Bool) :=
  let f := fun n => (s.exhibitField e n).toNat
  [ (2, decide (f 2 ≤ 7)), (3, decide (f 3 < Config.storeWords)), (4, decide (f 4 ≤ 1)), (5, decide (f 5 ≤ 255)),
    (6, decide (f 6 ≤ 1)) ] ++
  ((List.finRange 4).map fun i => (7 + i.val, s.axisFieldOk e i)) ++
  ((List.range 10).map fun i => (11 + i, s.lampFieldOk e (11 + i))) ++
  [ (21, noneOr 16 (s.exhibitField e 21)), (22, decide (1 ≤ f 22 ∧ f 22 ≤ 255)), (23, decide (1 ≤ f 23 ∧ f 23 ≤ 255)) ]

/-- The first field of an exhibit's record that fails (R2). -/
def State.exhibitRecordFault (s : State) (e : ExhibitNo) : Option Nat :=
  match (s.exhibitField e 1).toNat with
  | 0 => none
  | 1 => firstFault (s.exhibitChecks e)
  | _ => some 1

/-- The enable field holds yes. -/
def State.exhibitEnabled (s : State) (e : ExhibitNo) : Bool := s.exhibitField e 1 == 1

/-- The configuration copy a record makes. -/
def State.readExhibit (s : State) (e : ExhibitNo) : ExhibitConfig :=
  let f := fun n => (s.exhibitField e n).toNat
  { zone := Fin.ofNat 8 (f 2)
    defaultShow := f 3
    policy := if f 4 = 1 then .encore else .ignore
    restTime := f 5
    suspendAllowed := f 6 == 1
    axes := Vector.ofFn fun i : Fin 4 => fieldIndex 16 (s.exhibitField e (7 + i.val))
    showLamps := Vector.ofFn fun i : Fin 8 => fieldIndex 64 (s.exhibitField e (11 + i.val))
    readyLamp := fieldIndex 64 (s.exhibitField e 19)
    beaconLamp := fieldIndex 64 (s.exhibitField e 20)
    guard := fieldIndex 16 (s.exhibitField e 21)
    guardSettle := f 22
    guardAlertTime := f 23 }

/-! ### The axis configuration record (Tables 4-2 and 10-6, R78) -/

/-- A word of an axis record. -/
def State.axisWord (s : State) (a : AxisNo) (i : Nat) : Word := s.word (addrAxisRecord a + i)

/-- A 24-bit field whose bits 23…16 stand in the low byte of word `i` and whose bits 15…0 in the word after it (R193). -/
def State.axisField24 (s : State) (a : AxisNo) (i : Nat) : Nat :=
  65536 * bits (s.axisWord a i) 0 8 + (s.axisWord a (i + 1)).toNat

/-- A position of an axis record. -/
def State.axisPosition (s : State) (a : AxisNo) (i : Nat) : Int := signed24 (s.axisField24 a i)

/-- The configuration copy a record makes (Table 10-6). -/
def State.readAxis (s : State) (a : AxisNo) : AxisConfig :=
  let w := fun i => s.axisWord a i
  { low := s.axisPosition a 0
    high := s.axisPosition a 2
    ceiling := (w 4).toNat
    sets := Vector.ofFn fun i : Fin 4 =>
      { vs := (w (5 + 3 * i.val)).toNat, vmax := (w (6 + 3 * i.val)).toNat, accel := (w (7 + 3 * i.val)).toNat }
    draw := bits (w 0) 8 8
    followLimit := bits (w 17) 0 12
    stallTime := bits (w 2) 8 8
    homeDir := if bit (w 20) 15 then .towardHigh else .towardLow
    seekSpeed := (w 18).toNat
    creepSpeed := (w 19).toNat
    searchDistance := s.axisField24 a 20
    homeValue := s.axisPosition a 22
    marks := Vector.ofFn fun i : Fin 4 =>
      if bit (w (24 + 2 * i.val)) 15 then some (s.axisPosition a (24 + 2 * i.val)) else none }

/-- A number lies in a range. -/
def within (lo n hi : Nat) : Bool := decide (lo ≤ n ∧ n ≤ hi)

/-- The checks of a speed set, whose fields are 4 + 3i to 6 + 3i. -/
def speedSetChecks (ceiling : Nat) (i : Fin 4) (sp : SpeedSet) : List (Nat × Bool) :=
  [ (4 + 3 * i.val, within 1 sp.vs ceiling), (5 + 3 * i.val, within sp.vs sp.vmax ceiling),
    (6 + 3 * i.val, within 1 sp.accel 10000) ]

/-- The checks of an axis configuration, in field-number order (Table 4-2). Fields 1 and 19 hold any value. -/
def AxisConfig.checks (c : AxisConfig) : List (Nat × Bool) :=
  [ (2, decide (c.low + 64 ≤ c.high)), (3, within 1 c.ceiling 50000) ] ++
  ((List.finRange 4).flatMap fun i => speedSetChecks c.ceiling i (tget c.sets i)) ++
  [ (16, within 1 c.draw 32), (17, within 1 c.followLimit 4095), (18, within 1 c.stallTime 255),
    (20, within 1 c.seekSpeed c.ceiling), (21, within 1 c.creepSpeed c.seekSpeed),
    (22, within 1 c.searchDistance 8388607), (23, decide (c.low ≤ c.homeValue ∧ c.homeValue ≤ c.high)) ] ++
  ((List.finRange 4).map fun m => (24 + m.val, match tget c.marks m with
    | some p => decide (c.low ≤ p ∧ p ≤ c.high)
    | none => true))

/-- An IDLE axis outside the new window: detail 1 below LOW, 2 above HIGH (R78). -/
def Axis.windowFault (x : Axis) (c : AxisConfig) : Option Nat :=
  if x.state ≠ .idle then none
  else if x.pos < c.low then some 1
  else if c.high < x.pos then some 2
  else none

/-- The detail of the first check of an axis's record that fails (R78). -/
def State.axisRecordFault (s : State) (a : AxisNo) : Option Nat :=
  match firstFault (s.readAxis a).checks with
  | some n => some n
  | none => (s.axis a).windowFault (s.readAxis a)

/-- An axis with a new configuration copy (R79). -/
def Axis.configured (x : Axis) (c : AxisConfig) : Axis :=
  { x with
    config := some c
    state := if x.state = .off then .unhomed else x.state
    homed := x.homed && x.state != .off
    followRun := 0
    sides := sidesAt c.marks x.pos }

/-! ### The operands of MOVE and RAISE ALERT (Table 10-4) -/

/-- The axis of a MOVE order, bits 15…10 of word 1. -/
def moveAxis (w1 : Word) : Nat := bits w1 10 6
/-- The speed set of a MOVE order. -/
def moveSet (w1 : Word) : Fin 4 := Fin.ofNat 4 (bits w1 8 2)
/-- The target of a MOVE order. -/
def moveTarget (w1 w2 : Word) : Int := signed24 (65536 * bits w1 0 8 + w2.toNat)

end Sys2Proof.Machine
end

