-- ==== Sys2Proof/Machine/Exhibits.lean ====
section
/-! DEFINITION. The answers of orders (Table 10-3), and the orders of an exhibit: CONFIGURE EXHIBIT, the maintenance orders and the
show orders (R2 to R4, R13 to R17, R71 to R75). -/

namespace Sys2Proof.Machine

/-! ### Answers (R190) -/

/-- Result codes by name. -/
inductive Result where
  | taken
  | pending
  | notNow
  | absent
  | badValue
  | cold
  | unknown
  deriving DecidableEq, Repr

/-- Table 10-3. -/
def Result.code : Result → Nat
  | .taken => 0
  | .pending => 1
  | .notNow => 2
  | .absent => 3
  | .badValue => 4
  | .cold => 5
  | .unknown => 6

/-- The answer to an order with the state it leaves. -/
structure Answer where
  result : Result
  detail : Nat
  state : State

/-- An answer other than TAKEN leaves the gallery as the order found it. -/
def State.answer (s : State) (result : Result) (detail : Nat) : Answer := { result := result, detail := detail, state := s }

/-- A taken order with detail 0. -/
def taken (s : State) : Answer := s.answer .taken 0

/-- The answer of an order that names an exhibit, from the answer for that exhibit: BAD_VALUE above 47 (R13, R71). -/
def State.forExhibit (s : State) (w : Word) (f : ExhibitNo → Answer) : Answer :=
  match index? 48 w.toNat with
  | none => s.answer .badValue 0
  | some e => f e

/-- NOT_NOW with the exhibit state. -/
def State.notNowExhibit (s : State) (e : ExhibitNo) : Answer := s.answer .notNow (s.exhibit e).state.code

/-! ### CONFIGURE EXHIBIT (R2 to R4) -/

/-- A channel loses a layer that a role of an exhibit gave it, unless the new holder of the role keeps it. -/
def State.dropRole (s : State) (name : LayerName) (keep : ChannelNo → Bool) (lamp : Option ChannelNo) : State :=
  match lamp with
  | none => s
  | some ch => if keep ch then s else s.setLayer ch name .idle

/-- The channels that lose a role: SHOW layers of former show lamps, the READY layer of a former ready lamp, the ALERT
layer of a former beacon lamp go idle (R3, R149, R150). DEDUCED (assumption 24), unsafe. -/
def State.dropRoles (s : State) (old : Option ExhibitConfig) (new : Option ExhibitConfig) : State :=
  match old with
  | none => s
  | some c =>
    let keepShow := fun ch => (new.map fun d => d.namesShowLamp ch).getD false
    let keepReady := fun ch => (new.map fun d => d.readyLamp == some ch).getD false
    let keepBeacon := fun ch => (new.map fun d => d.beaconLamp == some ch).getD false
    let t := c.showLamps.toList.foldl (fun u l => u.dropRole .showLayer keepShow l) s
    (t.dropRole .readyLayer keepReady c.readyLamp).dropRole .alertLayer keepBeacon c.beaconLamp

/-- The counters of an exhibit become 0 (R2). -/
def Exhibit.uncounted (x : Exhibit) : Exhibit := { x with accepted := 0, ignored := 0, completed := 0 }

/-- CONFIGURE EXHIBIT taken with enable yes (R3). -/
def State.configureOn (s : State) (e : ExhibitNo) (c : ExhibitConfig) : State :=
  let x := s.exhibit e
  let t := s.dropRoles x.inForce (some c)
  let u := t.putExhibit e { x.uncounted with
    config := some c, guardOpen := s.guardLevel c.guard, settle := none, guardAlert := none,
    state := if x.state = .off then .ready else x.state }
  let v := (u.evalReady e).refreshBeacon e
  if x.guardOpen ∧ s.guardLevel c.guard = false then v.clearingEvent (exhibitSource e) .guardHeld else v

/-- CONFIGURE EXHIBIT taken with enable no (R4). DEDUCED (assumption 23), unsafe. -/
def State.configureOff (s : State) (e : ExhibitNo) : State :=
  let x := s.exhibit e
  if x.state = .off then s.putExhibit e x.uncounted
  else
    let t := s.dropRoles x.inForce none
    let u := t.putExhibit e { x.uncounted.entering .off with
      config := none, guardOpen := false, settle := none, guardAlert := none }
    u.removeSource (exhibitSource e)

/-- The states that take CONFIGURE EXHIBIT (R2). -/
def ExhibitState.takesConfigure : ExhibitState → Bool
  | .off | .ready | .locked => true
  | .running | .suspended | .guarded | .halting | .resting | .faulted => false

/-- CONFIGURE EXHIBIT (R2). -/
def State.orderConfigureExhibit (w1 _w2 : Word) (s : State) : Answer :=
  s.forExhibit w1 fun e =>
    match s.exhibitRecordFault e with
    | some n => s.answer .badValue n
    | none =>
      if (s.exhibit e).state.takesConfigure then
        taken (if s.exhibitEnabled e then s.configureOn e (s.readExhibit e) else s.configureOff e)
      else s.notNowExhibit e

/-! ### Maintenance orders (R13 to R17) -/

/-- The answer of a maintenance order: ABSENT when the exhibit is OFF, NOT_NOW in a state that does not take it (R13). -/
def State.maintain (s : State) (w1 : Word) (takes : ExhibitState → Bool) (effect : ExhibitNo → State) : Answer :=
  s.forExhibit w1 fun e =>
    if (s.exhibit e).state = .off then s.answer .absent 0
    else if takes (s.exhibit e).state then taken (effect e)
    else s.notNowExhibit e

/-- READY, RESTING and FAULTED take LOCK (R14). -/
def ExhibitState.takesLock : ExhibitState → Bool
  | .ready | .resting | .faulted => true
  | .off | .running | .suspended | .guarded | .halting | .locked => false

/-- LOCK (R14). -/
def State.orderLock (w1 _w2 : Word) (s : State) : Answer :=
  s.maintain w1 ExhibitState.takesLock fun e => s.enterState e .locked

/-- Some bound axis of the exhibit is FAULTED. -/
def State.someAxisFaulted (s : State) (e : ExhibitNo) : Bool := (s.boundAxes e).any fun a => (s.axis a).state == .faulted

/-- The effect of UNLOCK (R15). -/
def State.unlock (s : State) (e : ExhibitNo) : State :=
  if s.someAxisFaulted e then s.enterFaultedExhibit e
  else ((s.clearFirst e).enterState e .ready).removeFaultAlerts e

/-- UNLOCK (R15). -/
def State.orderUnlock (w1 _w2 : Word) (s : State) : Answer :=
  s.maintain w1 (fun st => st == .locked) fun e => s.unlock e

/-- The effect of RESTORE (R16). -/
def State.restore (s : State) (e : ExhibitNo) : State :=
  ((((s.boundAxes e).foldl State.leaveFault s).removeFaultAlerts e).clearFirst e).enterState e .ready

/-- RESTORE (R16). -/
def State.orderRestore (w1 _w2 : Word) (s : State) : Answer :=
  s.maintain w1 (fun st => st == .faulted) fun e => s.restore e

/-- A bound axis in AWAIT_POWER leaves the wait list (R17 step 2). -/
def State.clearAwait (s : State) (a : AxisNo) : State :=
  if (s.axis a).state = .awaitPower then s.leaveAwait a else s

/-- The bound axes at CLEAR: quick stops, removals and faults left, and one grant scan (R17 steps 1 to 3, R122). -/
def State.clearAxes (s : State) (e : ExhibitNo) : State :=
  let axes := s.boundAxes e
  let t := axes.foldl State.quickStopSilently s
  let u := axes.foldl State.clearAwait t
  (axes.foldl State.leaveFault u).grantScan

/-- The timers and the guard-open attribute at CLEAR (R17 step 5). -/
def State.clearGuard (s : State) (e : ExhibitNo) : State :=
  let x := s.exhibit e
  s.putExhibit e { x with
    encore := false, rest := none, settle := none, guardAlert := none,
    guardOpen := s.guardLevel (x.config.bind (·.guard)) }

/-- The effect of CLEAR (R17). DEDUCED (assumption 25), unsafe. -/
def State.clear (s : State) (e : ExhibitNo) : State :=
  let t := ((s.clearAxes e).endShow e).discardResume e
  let u := ((t.clearGuard e).setSource e .reset).clearFirst e
  (u.removeSource (exhibitSource e)).enterState e (if (s.exhibit e).state = .locked then .locked else .ready)

/-- CLEAR (R17). -/
def State.orderClear (w1 _w2 : Word) (s : State) : Answer := s.maintain w1 (fun _ => true) fun e => s.clear e

/-! ### Show orders (R71 to R75) -/

/-- OFF, LOCKED and FAULTED: no show order starts or resumes a show there (Table 3-6). -/
def ExhibitState.showAbsent : ExhibitState → Bool
  | .off | .locked | .faulted => true
  | .ready | .running | .suspended | .guarded | .halting | .resting => false

/-- READY and RESTING: START SHOW may be taken (Table 3-6). -/
def ExhibitState.startable : ExhibitState → Bool
  | .ready | .resting => true
  | .off | .running | .suspended | .guarded | .halting | .faulted | .locked => false

/-- The effect of START SHOW (R72). -/
def State.startShowOrder (s : State) (e : ExhibitNo) (w2 : Word) : State :=
  let t := s.dropEncore e
  if w2 = 0xFFFF then t.startDefault e else t.startShow e w2.toNat

/-- START SHOW (R71, R72). -/
def State.orderStartShow (w1 w2 : Word) (s : State) : Answer :=
  s.forExhibit w1 fun e =>
    let x := s.exhibit e
    if Config.storeWords ≤ w2.toNat ∧ w2 ≠ 0xFFFF then s.answer .badValue 0
    else if x.state.showAbsent then s.answer .absent 0
    else if (s.source e).holdsOrders then s.answer .pending (s.source e).conditionSet
    else if x.state.startable = false ∨ x.guardOpen ∨ s.stopInForce then s.notNowExhibit e
    else taken (s.startShowOrder e w2)

/-- The effect of RESUME (R73). -/
def State.resumeShow (s : State) (e : ExhibitNo) : State :=
  let t := s.enterState e .running
  (t.putSlot e { t.slot e with status := none }).runAct e

/-- RESUME (R71, R73). -/
def State.orderResume (w1 _w2 : Word) (s : State) : Answer :=
  s.forExhibit w1 fun e =>
    let x := s.exhibit e
    if x.state.showAbsent then s.answer .absent 0
    else if (s.source e).holdsOrders then s.answer .pending (s.source e).conditionSet
    else if x.state ≠ .suspended ∨ s.stopInForce then s.notNowExhibit e
    else taken (s.resumeShow e)

/-- The effect of HALT (R10, R74). -/
def State.haltShow (s : State) (e : ExhibitNo) : State :=
  let t := ((s.endShow e).discardResume e).haltAxes e
  if (s.exhibit e).state ≠ .guarded ∧ t.someAxisBusy e then t.enterState e .halting
  else (t.enterState e .ready).markCondition e .halted

/-- RUNNING, SUSPENDED and GUARDED take HALT (Table 3-6). -/
def ExhibitState.takesHalt : ExhibitState → Bool
  | .running | .suspended | .guarded => true
  | .off | .ready | .halting | .resting | .faulted | .locked => false

/-- HALT (R71, R74). -/
def State.orderHalt (w1 _w2 : Word) (s : State) : Answer :=
  s.maintain w1 ExhibitState.takesHalt fun e => s.haltShow e

/-- The effect of CANCEL (R75). -/
def State.cancelShow (s : State) (e : ExhibitNo) : State :=
  if (s.exhibit e).state = .suspended then ((s.endShow e).haltAxes e).enterState e .ready else s.dropEncore e

/-- CANCEL (R71, R75). -/
def State.orderCancel (w1 _w2 : Word) (s : State) : Answer :=
  s.forExhibit w1 fun e =>
    let x := s.exhibit e
    if x.state = .off then s.answer .absent 0
    else if x.state ≠ .suspended ∧ x.encore = false then s.notNowExhibit e
    else taken (s.cancelShow e)

end Sys2Proof.Machine
end

