-- ==== Sys2Proof/Machine/Orders.lean ====
section
/-! DEFINITION. The order unit (R188 to R190) and the orders that no exhibit owns: CLEAR COLD, the configuration orders, the axis
orders, SET LAMP and the alert orders; then the meaning of each order row. -/

namespace Sys2Proof.Machine

/-! ### CLEAR COLD (R185) -/

/-- The part enters RUN. -/
def State.setRun (s : State) : State := { s with part := .run }

/-- BUTTON_STUCK is raised for a button that is STUCK (R30). -/
def State.raiseStuck (s : State) (b : ButtonNo) : State :=
  if (s.button b).hold = .stuck then s.raise gallerySource .buttonStuck 0 1 else s

/-- The effect of CLEAR COLD (R30, R139, R185). DESIGN CHOICE (assumptions 37, 38 and 39), unsafe: BUTTON_STUCK is raised before
GALLERY_STOP, each raise is an act of the alert manager of its own, and STOP_CHANGE is not set. -/
def State.clearCold (s : State) : State :=
  let t := forEach 256 (fun b u => u.raiseStuck b) s.setRun
  if t.stopInForce then (t.raise gallerySource .galleryStop 0 3).markStopOn else t

/-- CLEAR COLD (R185). -/
def State.orderClearCold (_w1 _w2 : Word) (s : State) : Answer :=
  if s.part = .run then s.answer .notNow 0 else taken s.clearCold

/-! ### Configuration orders -/

/-- CONFIGURE GALLERY (R33). -/
def State.orderConfigureGallery (_w1 _w2 : Word) (s : State) : Answer :=
  match s.galleryFieldFault with
  | some n => s.answer .badValue n
  | none => taken s.takeGalleryRecord

/-- CONFIGURE BUTTONS (R31). -/
def State.orderConfigureButtons (_w1 _w2 : Word) (s : State) : Answer :=
  match s.buttonMapFault with
  | some b => s.answer .badValue b.val
  | none => taken s.takeButtonMap

/-- CONFIGURE GROUPS (R43). -/
def State.orderConfigureGroups (_w1 _w2 : Word) (s : State) : Answer := taken s.takeGroups

/-- CONFIGURE LAMPS (R151). -/
def State.orderConfigureLamps (_w1 _w2 : Word) (s : State) : Answer :=
  match s.lampRecordFault with
  | some n => s.answer .badValue n
  | none => taken s.takeLampTables

/-- CONFIGURE STATIONS (R173). -/
def State.orderConfigureStations (_w1 _w2 : Word) (s : State) : Answer :=
  match s.stationRecordFault with
  | some n => s.answer .badValue n
  | none => taken s.takeStationTable

/-! ### Axis orders (R78, R97 to R100, R105) -/

/-- The answer of an order that names an axis: BAD_VALUE above 15 (R78, R97). -/
def State.forAxis (s : State) (n : Nat) (f : AxisNo → Answer) : Answer :=
  match index? 16 n with
  | none => s.answer .badValue 0
  | some a => f a

/-- NOT_NOW with the axis state. -/
def State.notNowAxis (s : State) (a : AxisNo) : Answer := s.answer .notNow (s.axis a).state.code

/-- The axis is bound to an exhibit that is not LOCKED. -/
def State.axisHeld (s : State) (a : AxisNo) : Bool :=
  match s.axisOwner a with
  | some e => (s.exhibit e).state != .locked
  | none => false

/-- OFF, UNHOMED, IDLE and FAULTED take CONFIGURE AXIS (R78). -/
def AxisState.takesConfigure : AxisState → Bool
  | .off | .unhomed | .idle | .faulted => true
  | .homing | .awaitPower | .moving | .stopping => false

/-- CONFIGURE AXIS (R78, R79). -/
def State.orderConfigureAxis (w1 _w2 : Word) (s : State) : Answer :=
  s.forAxis w1.toNat fun a =>
    match s.axisRecordFault a with
    | some n => s.answer .badValue n
    | none =>
      if (s.axis a).state.takesConfigure ∧ s.axisHeld a = false then
        taken (s.putAxis a ((s.axis a).configured (s.readAxis a)) false)
      else s.notNowAxis a

/-- HOME (R97, R105). -/
def State.orderHome (w1 _w2 : Word) (s : State) : Answer :=
  s.forAxis w1.toNat fun a =>
    if s.axisHeld a ∨ s.stopInForce ∨ (s.axis a).state.takesHome = false then s.notNowAxis a
    else taken (s.takeHome a)

/-- The effect of MOVE; a move that completes at once is reported (R83, R98). -/
def State.moveOrder (s : State) (a : AxisNo) (t : Int) (i : Fin 4) : State :=
  let u := s.takeMove a t i
  if ((s.axis a).moveCase t).completesAtOnce then u.reportDone a .move else u

/-- MOVE (R97, R98). -/
def State.orderMove (w1 w2 : Word) (s : State) : Answer :=
  s.forAxis (moveAxis w1) fun a =>
    let t := moveTarget w1 w2
    if s.axisHeld a ∨ s.stopInForce ∨ (s.axis a).moveCase t = .refused then s.notNowAxis a
    else (s.moveOrder a t (moveSet w1)).answer .taken (if (s.axis a).clamp t = t then 0 else 1)

/-- STOP AXIS (R97, R99). -/
def State.orderStopAxis (w1 _w2 : Word) (s : State) : Answer :=
  s.forAxis w1.toNat fun a =>
    if s.axisHeld a ∨ (s.axis a).state.busy = false then s.notNowAxis a else taken (s.haltAxis a).grantScan

/-- Some unbound axis is FAULTED. -/
def State.someUnboundFaulted (s : State) : Bool :=
  (lowest 16 fun a => (s.axisOwner a).isNone && (s.axis a).state == .faulted).isSome

/-- The effect of RESTORE AXIS (R100). -/
def State.restoreAxis (s : State) (a : AxisNo) : State :=
  let t := s.leaveFault a
  if t.someUnboundFaulted then t
  else t.removeAlerts fun x => x.source == gallerySource && x.cause == .axisFault

/-- RESTORE AXIS (R97, R100). -/
def State.orderRestoreAxis (w1 _w2 : Word) (s : State) : Answer :=
  s.forAxis w1.toNat fun a =>
    if (s.axisOwner a).isSome ∨ (s.axis a).state ≠ .faulted then s.notNowAxis a else taken (s.restoreAxis a)

/-! ### SET LAMP (R153) -/

/-- The states in which an exhibit runs its show (R153). -/
def ExhibitState.runsShow : ExhibitState → Bool
  | .running | .suspended | .guarded => true
  | .off | .ready | .halting | .resting | .faulted | .locked => false

/-- The exhibit that holds SET LAMP back from a channel. -/
def State.lampHolder (s : State) (ch : ChannelNo) : Option ExhibitNo :=
  (s.channelOwner ch).filter fun e => (s.exhibit e).state.runsShow

/-- SET LAMP (R153). -/
def State.orderSetLamp (w1 w2 : Word) (s : State) : Answer :=
  match index? 64 w1.toNat with
  | none => s.answer .badValue 0
  | some ch =>
    if 31 < w2.toNat ∧ w2 ≠ 0xFFFF then s.answer .badValue 0
    else match s.lampHolder ch with
      | some e => s.notNowExhibit e
      | none => taken (s.setLayer ch .showLayer (patternSetting w2))

/-! ### Alert orders (R167, R169, R175) -/

/-- The source of a RAISE ALERT names an exhibit that is OFF. -/
def State.sourceOff (s : State) (src : SourceNo) : Bool :=
  match sourceExhibit src with
  | some e => (s.exhibit e).state == .off
  | none => false

/-- RAISE ALERT (R175). -/
def State.orderRaiseAlert (w1 w2 : Word) (s : State) : Answer :=
  match index? 49 w1.toNat with
  | none => s.answer .badValue 0
  | some src =>
    let severity := bits w2 8 8
    let code := bits w2 0 8
    if 63 < code ∨ severity < 1 ∨ 3 < severity then s.answer .badValue 0
    else if s.sourceOff src then s.answer .absent 0
    else (s.raise src .hostAlert code severity).answer .taken (s.raiseNumber src .hostAlert severity)

/-- ACK ALERT (R167). -/
def State.orderAckAlert (w1 _w2 : Word) (s : State) : Answer :=
  match s.alert? w1.toNat with
  | none => s.answer .absent 0
  | some x => if x.acked then s.answer .notNow 0 else taken (s.acknowledge x)

/-- REMOVE ALERT (R169). -/
def State.orderRemoveAlert (w1 _w2 : Word) (s : State) : Answer :=
  match s.alert? w1.toNat with
  | none => s.answer .absent 0
  | some x => taken (s.removeAlerts fun z => z.number == x.number)

/-! ### The order unit (R188 to R190) -/

/-- Order codes of Table 10-4. -/
def knownOrderCodes : List Nat :=
  [0x01, 0x02, 0x03, 0x04, 0x05, 0x06, 0x07, 0x08, 0x10, 0x11, 0x12, 0x13, 0x14, 0x15, 0x16, 0x17, 0x20, 0x21, 0x22, 0x23,
   0x30, 0x31, 0x32, 0x33]

/-- The order unit's state replaced. -/
def State.setDeck (s : State) (d : Deck) : State := { s with deck := d }

/-- Word 0 of the cell at the walk position. -/
def State.cellHead (s : State) : Word := s.word (addrCell s.deck.position)

/-- The code of the cell at the walk position. -/
def State.cellCode (s : State) : Nat := bits s.cellHead 8 8

/-- The walk moves on; after its last cell the deck is DONE (R189). DESIGN CHOICE (assumption 27), safe. -/
def State.advanceWalk (s : State) : State :=
  let d := s.deck
  if d.position + 1 < d.count then s.setDeck { d with position := d.position + 1 }
  else ((s.setDeck { d with state := .done, position := d.position + 1 }).writeWords addrDeckState [2]).setAttn attnDeckDone

/-- The result and the detail are written into the cell at the walk position (R189). -/
def State.writeResult (s : State) (code : Nat) (result : Result) (detail : Nat) : State :=
  (s.writeWords (addrCell s.deck.position) [mkWord (256 * code + result.code)]).writeWords
    (addrCell s.deck.position + 3) [mkWord detail]

/-- The order of the cell judged by its owner, which is COLD while the part is (R185, R190). -/
def State.inRun (owner : Word → Word → State → Answer) (w1 w2 : Word) (s : State) : Answer :=
  if s.part = .cold then s.answer .cold 0 else owner w1 w2 s

/-- The cell at the walk position is taken: its words are read, its order is judged and carried out with what follows
from it, and its result is written, in one act (R189). DEDUCED (assumption 26), safe. -/
def State.takeCell (s : State) (owner : Word → Word → State → Answer) : State :=
  let p := addrCell s.deck.position
  let a := owner (s.word (p + 1)) (s.word (p + 2)) s
  (a.state.settle.writeResult s.cellCode a.result a.detail).advanceWalk

/-- The order unit takes the cell at the walk position when it holds this code; it holds no such order otherwise.
DEDUCED (assumption 5), unsafe. -/
def State.takeOrder (s : State) (code : Nat) (owner : Word → Word → State → Answer) : State :=
  if s.deck.state = .running ∧ s.cellCode = code then s.takeCell owner else s

/-- The order unit takes a cell whose code is not in Table 10-4 (R190). -/
def State.takeUnknown (s : State) : State :=
  if s.deck.state = .running ∧ knownOrderCodes.contains s.cellCode = false then
    s.takeCell fun _ _ t => t.answer .unknown 0
  else s

/-! ### The order rows -/

/-- UNKNOWN_ORDER. -/
def execUnknownOrder (s : State) : Host.Outcome State Fault Refusal := .next s.takeUnknown
/-- CLEAR_COLD. -/
def execClearCold (s : State) : Host.Outcome State Fault Refusal := .next (s.takeOrder 0x01 State.orderClearCold)
/-- CONFIGURE_GALLERY. -/
def execConfigureGallery (s : State) : Host.Outcome State Fault Refusal :=
  .next (s.takeOrder 0x02 (State.inRun State.orderConfigureGallery))
/-- CONFIGURE_EXHIBIT. -/
def execConfigureExhibit (s : State) : Host.Outcome State Fault Refusal :=
  .next (s.takeOrder 0x03 (State.inRun State.orderConfigureExhibit))
/-- CONFIGURE_AXIS. -/
def execConfigureAxis (s : State) : Host.Outcome State Fault Refusal :=
  .next (s.takeOrder 0x04 (State.inRun State.orderConfigureAxis))
/-- CONFIGURE_BUTTONS. -/
def execConfigureButtons (s : State) : Host.Outcome State Fault Refusal :=
  .next (s.takeOrder 0x05 (State.inRun State.orderConfigureButtons))
/-- CONFIGURE_GROUPS. -/
def execConfigureGroups (s : State) : Host.Outcome State Fault Refusal :=
  .next (s.takeOrder 0x06 (State.inRun State.orderConfigureGroups))
/-- CONFIGURE_LAMPS. -/
def execConfigureLamps (s : State) : Host.Outcome State Fault Refusal :=
  .next (s.takeOrder 0x07 (State.inRun State.orderConfigureLamps))
/-- CONFIGURE_STATIONS. -/
def execConfigureStations (s : State) : Host.Outcome State Fault Refusal :=
  .next (s.takeOrder 0x08 (State.inRun State.orderConfigureStations))
/-- START_SHOW. -/
def execStartShow (s : State) : Host.Outcome State Fault Refusal :=
  .next (s.takeOrder 0x10 (State.inRun State.orderStartShow))
/-- RESUME. -/
def execResume (s : State) : Host.Outcome State Fault Refusal := .next (s.takeOrder 0x11 (State.inRun State.orderResume))
/-- HALT. -/
def execHalt (s : State) : Host.Outcome State Fault Refusal := .next (s.takeOrder 0x12 (State.inRun State.orderHalt))
/-- CANCEL. -/
def execCancel (s : State) : Host.Outcome State Fault Refusal := .next (s.takeOrder 0x13 (State.inRun State.orderCancel))
/-- CLEAR. -/
def execClear (s : State) : Host.Outcome State Fault Refusal := .next (s.takeOrder 0x14 (State.inRun State.orderClear))
/-- LOCK. -/
def execLock (s : State) : Host.Outcome State Fault Refusal := .next (s.takeOrder 0x15 (State.inRun State.orderLock))
/-- UNLOCK. -/
def execUnlock (s : State) : Host.Outcome State Fault Refusal := .next (s.takeOrder 0x16 (State.inRun State.orderUnlock))
/-- RESTORE. -/
def execRestore (s : State) : Host.Outcome State Fault Refusal :=
  .next (s.takeOrder 0x17 (State.inRun State.orderRestore))
/-- HOME. -/
def execHome (s : State) : Host.Outcome State Fault Refusal := .next (s.takeOrder 0x20 (State.inRun State.orderHome))
/-- MOVE. -/
def execMove (s : State) : Host.Outcome State Fault Refusal := .next (s.takeOrder 0x21 (State.inRun State.orderMove))
/-- STOP_AXIS. -/
def execStopAxis (s : State) : Host.Outcome State Fault Refusal :=
  .next (s.takeOrder 0x22 (State.inRun State.orderStopAxis))
/-- RESTORE_AXIS. -/
def execRestoreAxis (s : State) : Host.Outcome State Fault Refusal :=
  .next (s.takeOrder 0x23 (State.inRun State.orderRestoreAxis))
/-- SET_LAMP. -/
def execSetLamp (s : State) : Host.Outcome State Fault Refusal :=
  .next (s.takeOrder 0x30 (State.inRun State.orderSetLamp))
/-- RAISE_ALERT. -/
def execRaiseAlert (s : State) : Host.Outcome State Fault Refusal :=
  .next (s.takeOrder 0x31 (State.inRun State.orderRaiseAlert))
/-- ACK_ALERT. -/
def execAckAlert (s : State) : Host.Outcome State Fault Refusal :=
  .next (s.takeOrder 0x32 (State.inRun State.orderAckAlert))
/-- REMOVE_ALERT. -/
def execRemoveAlert (s : State) : Host.Outcome State Fault Refusal :=
  .next (s.takeOrder 0x33 (State.inRun State.orderRemoveAlert))

end Sys2Proof.Machine
end

