-- ==== Sys2Proof/Machine/Port.lean ====
section
/-! DEFINITION. The exchange port with its registers and watched words, the notice unit and the two resets (Chapter 10); what a
host read returns; then the meaning of each row of the port. -/

namespace Sys2Proof.Machine

/-! ### What the host reads (R178, R186, Table 10-2) -/

/-- A host read of the exchange RAM: 0 with both selects asserted and during the RAM clearing (R178, R186). DESIGN
CHOICE (assumption 32), unsafe. -/
def State.hostReadRam (s : State) (bothSelects : Bool) (address : BitVec 14) : Word :=
  if bothSelects ∨ s.clearing.isSome then 0 else s.word address.toNat

/-- What PART_CTL reads as. -/
def State.partCtl (s : State) : Word :=
  mkWord (flag (s.part == .run) 15 + 256 * Config.revision + flag s.clearing.isSome 7 + s.mask.toNat)

/-- What STOP reads as (R135). -/
def State.stopRegister (s : State) : Word := mkWord (flag s.stopInForce 0 + flag s.estop.level 1)

/-- A host read of the register at an offset (Table 10-2). -/
def State.hostReadRegister (s : State) (offset : Fin 4) : Word :=
  match offset with
  | 0 => mkWord Config.partId
  | 1 => s.partCtl
  | 2 => mkWord s.attn.toNat
  | 3 => s.stopRegister

/-! ### Resets (R186, R187) -/

/-- A filter after a reset: the pin keeps its level. -/
def InputFilter.resetKeeping (f : InputFilter) : InputFilter := { InputFilter.reset with pin := f.pin }

/-- A button after a reset (Table 2-6). -/
def Button.resetKeeping (b : Button) : Button := { Button.reset with input := b.input.resetKeeping }

/-- An axis after a reset (Tables 4-7 and 5-3); its switches keep the levels at their pins. -/
def Axis.resetKeeping (x : Axis) : Axis :=
  { Axis.reset with
    limitLow := x.limitLow.resetKeeping
    limitHigh := x.limitHigh.resetKeeping
    homeSwitch := x.homeSwitch.resetKeeping }

/-- Every block at its values after power-on reset, with the levels at the pins as they are and the waiting commands
kept. DEDUCED (assumption 20), unsafe. -/
def State.resetAll (s : State) : State :=
  { State.reset with
    buttons := tmap (fun _ b => b.resetKeeping) s.buttons
    guards := tmap (fun _ g => g.resetKeeping) s.guards
    estop := s.estop.resetKeeping
    axes := tmap (fun _ x => x.resetKeeping) s.axes
    pending := s.pending }

/-- The image owners write their images with the values they hold; IMAGE_SEQ does not change (R23, R101, R177, R181). DESIGN CHOICE
(assumption 42), unsafe: the values held, where an encoder has counted during the RAM clearing. -/
def State.writeAllImages (s : State) : State :=
  let t := forEach 48 (fun e u => u.writeExhibitImage e) s
  (forEach 16 (fun a u => u.writeAxisImage a) t).writeWords addrAlertImage s.alertImage

/-- RESETn is asserted and released: the RAM is cleared and its clearing begins (R186). DEDUCED (assumption 21), safe.
-/
def State.powerOnReset (s : State) : State := s.resetAll

/-- The RAM clearing ends and the images are written (R186). -/
def State.ramClearingEnd (s : State) : State :=
  if s.clearing.isNone then s else State.writeAllImages { s with ram := [], clearing := none }

/-- A station after a part reset: it sends blank from the next frame on (R194). -/
def Station.resetKeeping (t : Station) : Station := { Station.reset with frame := t.frame }

/-- A part reset: the RAM is kept but for the control words and the images (R187), and the display frames go on in their
10 ms (R194). -/
def State.partReset (s : State) : State :=
  let t : State := { s.resetAll with
    ram := s.ram, clearing := none, stations := tmap (fun _ x => x.resetKeeping) s.stations
    cadence := { Cadence.reset with frame := s.cadence.frame } }
  (t.writeWords addrDeckState [0, 0, 0]).writeAllImages

/-! ### Register writes -/

/-- The interrupt mask replaced (R182). -/
def State.setMask (s : State) (m : BitVec 4) : State := { s with mask := m }

/-- A host write to PART_CTL: a part reset or a new mask; ignored during the RAM clearing (R182, R186, R187). DESIGN
CHOICE (assumption 6), safe. -/
def State.writePartCtl (s : State) (value : Word) : State :=
  if s.clearing.isSome then s
  else if bit value 15 then s.partReset
  else s.setMask (BitVec.ofNat 4 (bits value 0 4))

/-- A host write to ATTN clears the causes written 1; ignored during the RAM clearing (R183, R186). -/
def State.writeAttn (s : State) (value : Word) : State :=
  if s.clearing.isSome then s else { s with attn := s.attn &&& ~~~(BitVec.ofNat 4 (bits value 0 4)) }

/-- A host write to STOP; ignored during the RAM clearing (R135, R186). -/
def State.writeStop (s : State) (value : Nat) : State := if s.clearing.isSome then s else s.stopWrite value

/-! ### The watched words and the notice box (R179, R188, R191, R192) -/

/-- A host write to DECK_CTL: the word lands in the RAM and the order unit judges it (R179, R188). -/
def State.deckCtlWrite (s : State) (value : Word) : State :=
  if s.clearing.isSome then s
  else
    let t := s.writeWords addrDeckCtl [value]
    if t.deck.state = .running ∨ value.toNat < 1 ∨ 64 < value.toNat then t.setAttn attnDeckRefused
    else (t.setDeck { state := .running, count := value.toNat, position := 0 }).writeWords addrDeckState [1]

/-- The notice unit's state replaced. -/
def State.setNotice (s : State) (n : NoticeUnit) : State := { s with notice := n }

/-- A host write to NB_STATE: 0 gives the box back; any other value is overwritten with the box state (R179, R192).
DEDUCED (assumption 11), safe. -/
def State.nbStateWrite (s : State) (value : Word) : State :=
  if s.clearing.isSome then s
  else if value = 0 then (s.writeWords addrNbState [0]).setNotice { s.notice with full := false }
  else s.writeWords addrNbState [mkWord (flag s.notice.full 0)]

/-- A host write with CSMn asserted: to a watched word it is that word's write; with both selects asserted, and during
the RAM clearing, it is lost (R178, R179, R186). DESIGN CHOICE (assumption 6), safe; DEDUCED (assumption 7), safe. -/
def State.ramWrite (s : State) (bothSelects : Bool) (address : BitVec 14) (value : Word) : State :=
  if bothSelects ∨ s.clearing.isSome then s
  else if address.toNat = addrDeckCtl then s.deckCtlWrite value
  else if address.toNat = addrNbState then s.nbStateWrite value
  else s.writeWords address.toNat [value]

/-- Some condition is pending at a source. -/
def State.sourcePending (s : State) (src : SourceNo) : Bool :=
  match sourceExhibit src with
  | some e => (s.source e).pending
  | none => s.gallery.pending

/-- The sources in the order of the search: last-posted + 1, …, 48, 0, …, last-posted (R191). -/
def noticeOrder (last : SourceNo) : List SourceNo := (List.finRange 49).map fun i => Fin.ofNat 49 (last.val + 1 + i.val)

/-- The source the next fill would choose (R191). -/
def State.nextSource (s : State) : Option SourceNo := (noticeOrder s.notice.lastPosted).find? s.sourcePending

/-- The notice of an exhibit (Table 10-14). -/
def exhibitNotice (e : ExhibitNo) (r : SourceRecord) (st : ExhibitState) : List Word :=
  [ mkWord e.val,
    mkWord r.conditionSet,
    mkWord (r.ended.getD 0),
    mkWord ((r.signal.map fun g => 256 * g.count + g.code).getD 0),
    mkWord ((r.faulted.map fun n => showFaultCode n.code).getD 0),
    mkWord ((r.faulted.map (·.address)).getD 0),
    mkWord st.code,
    0, 0, 0, 0, 0, 0, 0, 0, 0 ]

/-- The notice of the gallery (Table 10-14). -/
def galleryNotice (r : GalleryRecord) (p : Pool) : List Word :=
  [ 48, mkWord r.conditionSet, 0, 0, 0, 0, 0, r.axisFault, r.disturbed, mkWord (r.overflow.getD 0), mkWord p.free,
    mkWord p.waiting.length, 0, 0, 0, 0 ]

/-- The words of the notice of a source (Table 10-14). -/
def State.noticeWords (s : State) (src : SourceNo) : List Word :=
  match sourceExhibit src with
  | some e => exhibitNotice e (s.source e) (s.exhibit e).state
  | none => galleryNotice s.gallery s.pool

/-- The conditions of a source are cleared (R21, R22). -/
def State.clearSource (s : State) (src : SourceNo) : State :=
  match sourceExhibit src with
  | some e => s.setSource e .reset
  | none => { s with gallery := .reset }

/-- The box is filled from a source (R191). -/
def State.fillFrom (s : State) (src : SourceNo) : State :=
  let t := (s.writeWords addrNoticeBox (s.noticeWords src)).clearSource src
  ((t.setNotice { full := true, lastPosted := src }).writeWords addrNbState [1]).setAttn attnNotice

/-- The notice unit fills the box, when the box is EMPTY and some source has a pending condition (R191). -/
def State.noticeFill (s : State) : State :=
  if s.notice.full then s
  else match s.nextSource with
    | some src => s.fillFrom src
    | none => s

/-! ### The rows of the port -/

/-- POWER_ON_RESET. -/
def execPowerOnReset (s : State) : Host.Outcome State Fault Refusal := .next s.powerOnReset
/-- RAM_CLEARING_END. -/
def execRamClearingEnd (s : State) : Host.Outcome State Fault Refusal := .next s.ramClearingEnd
/-- PART_RESET. -/
def execPartReset (value : Word) (s : State) : Host.Outcome State Fault Refusal := .next (s.writePartCtl value)
/-- INTERRUPT_MASK_WRITE. -/
def execInterruptMaskWrite (value : Word) (s : State) : Host.Outcome State Fault Refusal := .next (s.writePartCtl value)
/-- ATTN_CLEAR. -/
def execAttnClear (value : Word) (s : State) : Host.Outcome State Fault Refusal := .next (s.writeAttn value)
/-- STOP_REQUEST. -/
def execStopRequest (s : State) : Host.Outcome State Fault Refusal := .next (s.writeStop 1)
/-- RELEASE_REQUEST. -/
def execReleaseRequest (s : State) : Host.Outcome State Fault Refusal := .next (s.writeStop 2)
/-- REGISTER_WRITE_NO_EFFECT: PART_ID takes no write; STOP takes a value by R135. -/
def execRegisterWriteNoEffect (register : InertRegister) (value : Word) (s : State) : Host.Outcome State Fault Refusal :=
  match register with
  | .partId => .next s
  | .stop => .next (s.writeStop value.toNat)
/-- EXCHANGE_RAM_WRITE. -/
def execExchangeRamWrite (bothSelects : Bool) (address : BitVec 14) (value : Word) (s : State) :
    Host.Outcome State Fault Refusal := .next (s.ramWrite bothSelects address value)
/-- DECK_CTL_WRITE. -/
def execDeckCtlWrite (value : Word) (s : State) : Host.Outcome State Fault Refusal := .next (s.deckCtlWrite value)
/-- NB_STATE_WRITE. -/
def execNbStateWrite (value : Word) (s : State) : Host.Outcome State Fault Refusal := .next (s.nbStateWrite value)
/-- NOTICE_FILL. -/
def execNoticeFill (s : State) : Host.Outcome State Fault Refusal := .next s.noticeFill

end Sys2Proof.Machine
end

