-- ==== Sys2Proof/Machine/Clock.lean ====
section
/-! DEFINITION. What the part's clock does while no command waits: 250 µs of the cadences, timers and input samples, and the
commands they make due (R24, R25, R87, R92, R95, R96, R127, R134, R143, R176, R194). The events of a tick join the queue in the
order written here; the manual lets events of one instant be taken in any order. -/

namespace Sys2Proof.Machine

/-! ### Timers and samples -/

/-- A timer 1 ms later. -/
def elapsed (t : Timer) : Timer := t.map (· - 1)

/-- A timer that has run out. -/
def isDue (t : Timer) : Bool := t == some 0

/-- A filter after one sample of its pin (R92, R103, R127, R134). -/
def InputFilter.sampled (f : InputFilter) (samples : Nat) : InputFilter :=
  if f.pin = f.level then { f with run := 0 }
  else if f.run + 1 < samples then { f with run := f.run + 1 }
  else { f with run := 0 }

/-- The sample completes a run: the new level is recognised at that sample, the fourth of R92 and R103 and the eighth of R134, and no
sample period later. DESIGN CHOICE (assumption 40), unsafe. -/
def InputFilter.recognises (f : InputFilter) (samples : Nat) : Bool := f.pin != f.level && decide (samples ≤ f.run + 1)

/-- A command that is due. -/
def dueWhen (due : Bool) (c : Instr) : List Instr := if due then [c] else []

/-! ### Every 250 µs -/

/-- Button `c` of the driven row. -/
def rowButton (row : Fin 16) (c : Fin 16) : ButtonNo := Fin.ofNat 256 (16 * row.val + c.val)

/-- The readings of the driven row that change a run count (R24, R25). -/
def State.rowReadings (s : State) : List Instr :=
  (List.finRange 16).flatMap fun c =>
    let f := (s.button (rowButton s.row c)).input
    dueWhen (f.pin != f.level || f.run != 0) (.buttonReading (rowButton s.row c) f.pin)

/-- The switches of an axis sampled (R92, R103). -/
def Axis.sampled (x : Axis) : Axis :=
  { x with
    limitLow := x.limitLow.sampled Config.switchSamples
    limitHigh := x.limitHigh.sampled Config.switchSamples
    homeSwitch := x.homeSwitch.sampled Config.switchSamples }

/-- The changes the sample of an axis's switches recognises (R92, R103). -/
def Axis.switchEvents (x : Axis) (a : AxisNo) : List Instr :=
  dueWhen (x.limitLow.recognises Config.switchSamples)
    (if x.limitLow.pin then .limitAsserted a .low else .limitReleased a .low) ++
  dueWhen (x.limitHigh.recognises Config.switchSamples)
    (if x.limitHigh.pin then .limitAsserted a .high else .limitReleased a .high) ++
  dueWhen (x.homeSwitch.recognises Config.switchSamples)
    (if x.homeSwitch.pin then .homeSwitchClosing a else .homeSwitchOpening a)

/-- The change the sample of the E-STOP pin recognises (R134). -/
def State.estopEvents (s : State) : List Instr :=
  dueWhen (s.estop.recognises Config.estopSamples) (if s.estop.pin then .estopAssertion else .estopRelease)

/-- The order row of a code (Table 10-4). -/
def orderRow (code : Nat) : Instr :=
  match code with
  | 0x01 => .clearCold
  | 0x02 => .configureGallery
  | 0x03 => .configureExhibit
  | 0x04 => .configureAxis
  | 0x05 => .configureButtons
  | 0x06 => .configureGroups
  | 0x07 => .configureLamps
  | 0x08 => .configureStations
  | 0x10 => .startShow
  | 0x11 => .resume
  | 0x12 => .halt
  | 0x13 => .cancel
  | 0x14 => .clear
  | 0x15 => .lock
  | 0x16 => .unlock
  | 0x17 => .restore
  | 0x20 => .home
  | 0x21 => .move
  | 0x22 => .stopAxis
  | 0x23 => .restoreAxis
  | 0x30 => .setLamp
  | 0x31 => .raiseAlert
  | 0x32 => .ackAlert
  | 0x33 => .removeAlert
  | _ => .unknownOrder

/-- The order unit takes its next cell while it walks (R189), and the notice unit fills the box when it can (R191). -/
def State.unitEvents (s : State) : List Instr :=
  dueWhen (s.deck.state == .running) (orderRow s.cellCode) ++ dueWhen (!s.notice.full && s.nextSource.isSome) .noticeFill

/-- The inputs read every 250 µs are sampled, and the scan moves to the next row. -/
def State.sampleFast (s : State) : State :=
  { s with
    row := s.row + 1
    axes := tmap (fun _ x => x.sampled) s.axes
    estop := s.estop.sampled Config.estopSamples }

/-- The commands that 250 µs make due. DESIGN CHOICE (assumption 2), unsafe: the order. -/
def State.fastEvents (s : State) : List Instr :=
  s.rowReadings ++ ((List.finRange 16).flatMap fun a => (s.axis a).switchEvents a) ++ s.estopEvents ++ s.unitEvents

/-! ### Every 1 ms -/

/-- A hold timer runs (section 2.2). -/
def HoldState.timed : HoldState → Bool
  | .plain | .watched | .longGiven => true
  | .opened | .stuck => false

/-- A button 1 ms later. -/
def Button.elapse (x : Button) : Button :=
  { x with holdTimer := if x.hold.timed then x.holdTimer + 1 else x.holdTimer, lockout := elapsed x.lockout }

/-- What a button makes due: the long press before the stuck moment (R34). -/
def State.buttonEvents (s : State) (b : ButtonNo) : List Instr :=
  let x := s.button b
  dueWhen (x.hold == .watched && decide (s.longMs ≤ x.holdTimer)) (.longPress b) ++
  dueWhen (x.hold.timed && decide (s.stuckMs ≤ x.holdTimer)) (.stuck b) ++
  dueWhen (isDue x.lockout) (.lockoutExpiry b)

/-- An exhibit 1 ms later. -/
def Exhibit.elapse (x : Exhibit) : Exhibit :=
  { x with rest := elapsed x.rest, settle := elapsed x.settle, guardAlert := elapsed x.guardAlert }

/-- A slot 1 ms later: the waits of a frozen slot stand still (R59, R60, R67). -/
def Slot.elapse (sl : Slot) : Slot :=
  if sl.frozen then sl
  else match sl.wait with
    | some (.time r) => { sl with wait := some (.time (r - 1)) }
    | some (.press (some r)) => { sl with wait := some (.press (some (r - 1))) }
    | _ => sl

/-- The wait of a slot has run out. -/
def Slot.waitEvents (sl : Slot) (e : ExhibitNo) : List Instr :=
  if sl.frozen then []
  else match sl.wait with
    | some (.time 0) => [.timeWaitExpiry e]
    | some (.press (some 0)) => [.pressTimeout e]
    | _ => []

/-- What an exhibit makes due. -/
def State.exhibitEvents (s : State) (e : ExhibitNo) : List Instr :=
  let x := s.exhibit e
  dueWhen (isDue x.rest) (.restExpiry e) ++ dueWhen (isDue x.settle) (.settleExpiry e) ++
  dueWhen (isDue x.guardAlert) (.guardAlertExpiry e) ++ (s.slot e).waitEvents e

/-- A lamp phase 1 ms later. -/
def LampPhase.elapse : LampPhase → LampPhase
  | .constant => .constant
  | .blinkOn n => .blinkOn (n - 1)
  | .blinkOff n => .blinkOff (n - 1)
  | .sweep e rising periods n => .sweep e rising periods (n - 1)
  | .hold e => .hold e

/-- A lamp phase has run out. -/
def LampPhase.due : LampPhase → Bool
  | .constant => false
  | .blinkOn n => n == 0
  | .blinkOff n => n == 0
  | .sweep _ _ _ n => n == 0
  | .hold _ => false

/-- A layer 1 ms later. -/
def Layer.elapse (l : Layer) : Layer := { l with phase := l.phase.elapse }

/-- A channel 1 ms later. -/
def Channel.elapse (c : Channel) : Channel :=
  { c with alertLayer := c.alertLayer.elapse, showLayer := c.showLayer.elapse, readyLayer := c.readyLayer.elapse }

/-- The phases of a channel that end. -/
def Channel.phaseEvents (c : Channel) (ch : ChannelNo) : List Instr :=
  dueWhen c.alertLayer.phase.due (.lampPhaseStep ch .alertLayer) ++
  dueWhen c.showLayer.phase.due (.lampPhaseStep ch .showLayer) ++
  dueWhen c.readyLayer.phase.due (.lampPhaseStep ch .readyLayer)

/-- A count of `period` one further. -/
def nextCount1 (period n : Nat) : Nat := if n + 1 < period then n + 1 else 0

/-- The cadences 1 ms later. -/
def Cadence.elapse (c : Cadence) : Cadence :=
  { c with
    refresh := nextCount1 Config.refreshPeriodMs c.refresh
    speed := nextCount1 Config.speedPeriodMs c.speed
    age := nextCount1 Config.agePeriodMs c.age }

/-- Timers, guard samples and cadences advance by 1 ms. -/
def State.elapseMs (s : State) : State :=
  { s with
    clearing := elapsed s.clearing
    buttons := tmap (fun _ x => x.elapse) s.buttons
    guards := tmap (fun _ g => g.sampled Config.guardSamples) s.guards
    exhibits := tmap (fun _ x => x.elapse) s.exhibits
    slots := tmap (fun _ sl => sl.elapse) s.slots
    channels := tmap (fun _ c => c.elapse) s.channels
    alerts := s.alerts.map fun x => { x with timer := elapsed x.timer }
    stations := tmap (fun _ t => { t with holdoff := elapsed t.holdoff }) s.stations
    cadence := s.cadence.elapse }

/-- The changes of guard lines that the sample of `before` recognises (R127). -/
def State.guardEvents (before : State) : List Instr :=
  (List.finRange 16).flatMap fun g =>
    let f := before.guardLine g
    dueWhen (f.recognises Config.guardSamples) (if f.pin then .guardOpening g else .guardClosing g)

/-- The timers that have run out, in an order in which none of the commands touches a timer that a later one speaks of: a lamp
phase step and a holdoff expiry concern one layer and one station, an escalation restarts only its own timer and holdoffs, a
button's press restarts alert timers, holdoffs and layers, and an exhibit's act may meet all of these, but no button and no
timer of another exhibit that has run out. DESIGN CHOICE (assumption 2), unsafe: the order. -/
def State.timerEvents (s : State) : List Instr :=
  dueWhen (isDue s.clearing) .ramClearingEnd ++
  ((List.finRange 64).flatMap fun ch => (s.channel ch).phaseEvents ch) ++
  ((List.finRange 4).flatMap fun st => dueWhen (isDue (s.station st).holdoff) (.holdoffExpiry st)) ++
  (s.alerts.flatMap fun x => dueWhen (isDue x.timer) (.escalationExpiry x.number)) ++
  ((List.finRange 256).flatMap fun b => s.buttonEvents b) ++
  ((List.finRange 48).flatMap fun e => s.exhibitEvents e)

/-- The cadences of the millisecond that begins. DESIGN CHOICE (assumption 2), unsafe: the order. -/
def State.cadenceEvents (s : State) : List Instr :=
  ((List.finRange 16).map fun a => .axisUpdate a) ++ [.pwmPeriod] ++
  (if s.cadence.refresh = 0 then
    (List.finRange 16).flatMap fun a => dueWhen (s.axis a).imageStale (.axisImageRefresh a)
   else []) ++
  (if s.cadence.speed = 0 then (List.finRange 16).map fun a => .speedMeasurement a else []) ++
  (if s.cadence.age = 0 then [.ageStep] else [])

/-! ### The tick -/

/-- The queue replaced. -/
def State.setPending (s : State) (q : List Instr) : State := { s with pending := q }

/-- The next quarter of the millisecond, counted toward the next display frame too (R194). -/
def State.nextQuarter (s : State) : State :=
  { s with cadence := { s.cadence with
      quarter := s.cadence.quarter + 1
      frame := nextCount1 Config.framePeriod s.cadence.frame } }

/-- A display frame begins on every station's bus every 10 ms (R194). -/
def State.frameEvents (s : State) : List Instr :=
  if s.cadence.frame = 0 then (List.finRange 4).map fun st => .displayFrame st else []

/-- 250 µs pass, and the commands they make due join the queue. The timers that have run out come first: what else the tick
brings (a press, an order, a guard) meets every timer after its expiry, so that no expiry speaks of a timer that has been
stopped, restarted or given a new end since. DESIGN CHOICE (assumption 2), unsafe: the order. -/
def State.tick (s : State) : State :=
  let t := s.sampleFast.nextQuarter
  if t.cadence.quarter = 0 then
    let u := t.elapseMs
    u.setPending (s.pending ++ (u.timerEvents ++ (s.fastEvents ++ (t.guardEvents ++ (u.cadenceEvents ++ u.frameEvents)))))
  else t.setPending (s.pending ++ (s.fastEvents ++ t.frameEvents))

end Sys2Proof.Machine
end

