-- ==== Sys2Proof/Machine/Events.lean ====
section
/-! DEFINITION. The meanings of the event rows: buttons, timers, axes, guards, the E-STOP pin, lamps, alerts and displays. An
event that does not arise in the present state (a timer that is not running, a level already recognised) leaves the state as
it is. -/

namespace Sys2Proof.Machine

/-! ### Buttons -/

/-- CLOSURE (R26). -/
def execClosure (b : ButtonNo) (s : State) : Host.Outcome State Fault Refusal := .next (s.closure b)
/-- RELEASE (R27). -/
def execRelease (b : ButtonNo) (s : State) : Host.Outcome State Fault Refusal := .next (s.release b)
/-- LONG_PRESS (R28). -/
def execLongPress (b : ButtonNo) (s : State) : Host.Outcome State Fault Refusal := .next (s.longPress b)
/-- STUCK (R29). -/
def execStuck (b : ButtonNo) (s : State) : Host.Outcome State Fault Refusal := .next (s.stuck b)
/-- LOCKOUT_EXPIRY (R36). -/
def execLockoutExpiry (b : ButtonNo) (s : State) : Host.Outcome State Fault Refusal := .next (s.lockoutExpiry b)
/-- BUTTON_READING (R25). -/
def execButtonReading (b : ButtonNo) (closed : Bool) (s : State) : Host.Outcome State Fault Refusal :=
  .next (s.buttonReading b closed)

/-! ### Timers of exhibits and shows -/

/-- The remaining time of a TIME wait reaches 0 (R59). DESIGN CHOICE (assumption 3), unsafe. -/
def State.timeWaitExpiry (s : State) (e : ExhibitNo) : State :=
  let sl := s.slot e
  match sl.status, sl.wait, sl.frozen with
  | some .waiting, some (.time _), false => (s.completeWait e).settle
  | _, _, _ => s

/-- The remaining timeout of a PRESS wait reaches 0 (R60). DESIGN CHOICE (assumption 3), unsafe. -/
def State.pressTimeout (s : State) (e : ExhibitNo) : State :=
  let sl := s.slot e
  match sl.status, sl.wait, sl.frozen with
  | some .waiting, some (.press (some _)), false => (s.skipSuccessor e).settle
  | _, _, _ => s

/-- The rest timer runs out: the encore show, or READY (R6). DESIGN CHOICE (assumption 3), unsafe. -/
def State.restExpiry (s : State) (e : ExhibitNo) : State :=
  let x := s.exhibit e
  if x.state ≠ .resting ∨ x.rest.isNone then s
  else if x.encore ∧ x.guardOpen = false ∧ s.stopInForce = false then ((s.dropEncore e).startDefault e).settle
  else s.enterState e .ready

/-- TIME_WAIT_EXPIRY. -/
def execTimeWaitExpiry (e : ExhibitNo) (s : State) : Host.Outcome State Fault Refusal := .next (s.timeWaitExpiry e)
/-- PRESS_TIMEOUT. -/
def execPressTimeout (e : ExhibitNo) (s : State) : Host.Outcome State Fault Refusal := .next (s.pressTimeout e)
/-- REST_EXPIRY. -/
def execRestExpiry (e : ExhibitNo) (s : State) : Host.Outcome State Fault Refusal := .next (s.restExpiry e)

/-! ### Axes -/

/-- The states in which a run of following error is a disturbance (R90). -/
def AxisState.disturbable : AxisState → Bool
  | .idle | .awaitPower => true
  | .off | .unhomed | .homing | .moving | .stopping | .faulted => false

/-- The run of an axis at rest has reached the stall time (R90). DESIGN CHOICE (assumption 3), unsafe. -/
def State.disturbance (s : State) (a : AxisNo) : State :=
  if (s.axis a).state.disturbable then (s.disturb a).settle else s

/-- The run of a driving axis has reached the stall time (R91). DESIGN CHOICE (assumption 3), unsafe. -/
def State.stall (s : State) (a : AxisNo) : State := if (s.axis a).state.drives then (s.stallAxis a).settle else s

/-- The distance travelled has reached the home search distance (R107, R109). DESIGN CHOICE (assumption 3), unsafe. -/
def State.homeSearchExhausted (s : State) (a : AxisNo) : State :=
  if (s.axis a).state = .homing then (s.faultAxis a .homeFail).settle else s

/-- The quadrature input counts `n` times in one direction, each count an act with what follows from it (R80, R113). -/
def countUpTo (a : AxisNo) (up : Bool) : Nat → State → State
  | 0, s => s
  | n + 1, s => countUpTo a up n (s.encoderCount a up).settle

/-- The encoder count of an axis changes (R80). DESIGN CHOICE (assumption 10), safe. -/
def State.encoderChange (s : State) (a : AxisNo) (delta : Int) : State :=
  countUpTo a (decide (0 < delta)) delta.natAbs s

/-- AXIS_UPDATE (R87). -/
def execAxisUpdate (a : AxisNo) (s : State) : Host.Outcome State Fault Refusal := .next (s.axisUpdate a).settle
/-- DISTURBANCE. -/
def execDisturbance (a : AxisNo) (s : State) : Host.Outcome State Fault Refusal := .next (s.disturbance a)
/-- STALL. -/
def execStall (a : AxisNo) (s : State) : Host.Outcome State Fault Refusal := .next (s.stall a)
/-- LIMIT_ASSERTED (R92). -/
def execLimitAsserted (a : AxisNo) (limit : LimitEnd) (s : State) : Host.Outcome State Fault Refusal :=
  .next (s.limitAsserted a limit).settle
/-- LIMIT_RELEASED (R92). -/
def execLimitReleased (a : AxisNo) (limit : LimitEnd) (s : State) : Host.Outcome State Fault Refusal :=
  .next (s.limitReleased a limit)
/-- ENCODER_COUNT_CHANGE. -/
def execEncoderCountChange (a : AxisNo) (delta : Int) (s : State) : Host.Outcome State Fault Refusal :=
  .next (s.encoderChange a delta)
/-- SPEED_MEASUREMENT (R95). -/
def execSpeedMeasurement (a : AxisNo) (s : State) : Host.Outcome State Fault Refusal := .next (s.speedMeasurement a)
/-- AXIS_IMAGE_REFRESH (R96). -/
def execAxisImageRefresh (a : AxisNo) (s : State) : Host.Outcome State Fault Refusal := .next (s.writeAxisImage a)
/-- HOME_SWITCH_CLOSING (R108). -/
def execHomeSwitchClosing (a : AxisNo) (s : State) : Host.Outcome State Fault Refusal := .next (s.homeClosing a)
/-- HOME_SWITCH_OPENING (R109). -/
def execHomeSwitchOpening (a : AxisNo) (s : State) : Host.Outcome State Fault Refusal := .next (s.homeOpening a).settle
/-- INDEX_EVENT (R108). -/
def execIndexEvent (a : AxisNo) (s : State) : Host.Outcome State Fault Refusal := .next (s.indexEvent a).settle
/-- HOME_SEARCH_EXHAUSTED. -/
def execHomeSearchExhausted (a : AxisNo) (s : State) : Host.Outcome State Fault Refusal := .next (s.homeSearchExhausted a)

/-! ### Guards and the E-STOP pin -/

/-- GUARD_OPENING (R128). -/
def execGuardOpening (g : GuardNo) (s : State) : Host.Outcome State Fault Refusal := .next (s.guardOpening g)
/-- GUARD_CLOSING (R130). -/
def execGuardClosing (g : GuardNo) (s : State) : Host.Outcome State Fault Refusal := .next (s.guardClosing g)
/-- SETTLE_EXPIRY (R130). -/
def execSettleExpiry (e : ExhibitNo) (s : State) : Host.Outcome State Fault Refusal := .next (s.settleExpiry e).settle
/-- GUARD_ALERT_EXPIRY (R133). -/
def execGuardAlertExpiry (e : ExhibitNo) (s : State) : Host.Outcome State Fault Refusal := .next (s.guardAlertExpiry e)
/-- ESTOP_ASSERTION (R134). -/
def execEstopAssertion (s : State) : Host.Outcome State Fault Refusal := .next s.estopAssertion
/-- ESTOP_RELEASE (R134). -/
def execEstopRelease (s : State) : Host.Outcome State Fault Refusal := .next s.estopRelease

/-! ### Lamps, alerts and displays -/

/-- The acknowledge holdoff of a station runs out (R163). -/
def State.holdoffExpiry (s : State) (st : StationNo) : State := s.setStation st { s.station st with holdoff := none }

/-- The escalation timer of an entry runs out (R170, R171). DESIGN CHOICE (assumption 3), unsafe. -/
def State.escalationExpiry (s : State) (number : Nat) : State :=
  match s.alert? number with
  | some x => if x.timer.isSome then s.escalate x else s
  | none => s

/-- LAMP_PHASE_STEP (R145, R146). -/
def execLampPhaseStep (ch : ChannelNo) (layer : LayerName) (s : State) : Host.Outcome State Fault Refusal :=
  .next (s.lampPhaseStep ch layer)
/-- PWM_PERIOD (R143). -/
def execPwmPeriod (s : State) : Host.Outcome State Fault Refusal := .next s.pwmPeriod
/-- HOLDOFF_EXPIRY. -/
def execHoldoffExpiry (st : StationNo) (s : State) : Host.Outcome State Fault Refusal := .next (s.holdoffExpiry st)
/-- ESCALATION_EXPIRY. -/
def execEscalationExpiry (number : Nat) (s : State) : Host.Outcome State Fault Refusal := .next (s.escalationExpiry number)
/-- AGE_STEP (R176). -/
def execAgeStep (s : State) : Host.Outcome State Fault Refusal := .next s.ageStep
/-- DISPLAY_FRAME (R194). -/
def execDisplayFrame (st : StationNo) (s : State) : Host.Outcome State Fault Refusal := .next (s.displayFrame st)

end Sys2Proof.Machine
end

