-- ==== Sys2Proof/Machine/Dispatch.lean ====
section
/-! DEFINITION. The meaning of every command: one arm per constructor of Instr. -/

namespace Sys2Proof.Machine

def exec (i : Instr) (s : State) : Host.Outcome State Fault Refusal :=
  match i with
  | .powerOnReset => Sys2Proof.Machine.execPowerOnReset s
  | .ramClearingEnd => Sys2Proof.Machine.execRamClearingEnd s
  | .partReset value => Sys2Proof.Machine.execPartReset value s
  | .interruptMaskWrite value => Sys2Proof.Machine.execInterruptMaskWrite value s
  | .attnClear value => Sys2Proof.Machine.execAttnClear value s
  | .stopRequest => Sys2Proof.Machine.execStopRequest s
  | .releaseRequest => Sys2Proof.Machine.execReleaseRequest s
  | .registerWriteNoEffect register value => Sys2Proof.Machine.execRegisterWriteNoEffect register value s
  | .exchangeRamWrite bothSelects address value => Sys2Proof.Machine.execExchangeRamWrite bothSelects address value s
  | .deckCtlWrite value => Sys2Proof.Machine.execDeckCtlWrite value s
  | .nbStateWrite value => Sys2Proof.Machine.execNbStateWrite value s
  | .noticeFill => Sys2Proof.Machine.execNoticeFill s
  | .unknownOrder => Sys2Proof.Machine.execUnknownOrder s
  | .clearCold => Sys2Proof.Machine.execClearCold s
  | .configureGallery => Sys2Proof.Machine.execConfigureGallery s
  | .configureExhibit => Sys2Proof.Machine.execConfigureExhibit s
  | .configureAxis => Sys2Proof.Machine.execConfigureAxis s
  | .configureButtons => Sys2Proof.Machine.execConfigureButtons s
  | .configureGroups => Sys2Proof.Machine.execConfigureGroups s
  | .configureLamps => Sys2Proof.Machine.execConfigureLamps s
  | .configureStations => Sys2Proof.Machine.execConfigureStations s
  | .startShow => Sys2Proof.Machine.execStartShow s
  | .resume => Sys2Proof.Machine.execResume s
  | .halt => Sys2Proof.Machine.execHalt s
  | .cancel => Sys2Proof.Machine.execCancel s
  | .clear => Sys2Proof.Machine.execClear s
  | .lock => Sys2Proof.Machine.execLock s
  | .unlock => Sys2Proof.Machine.execUnlock s
  | .restore => Sys2Proof.Machine.execRestore s
  | .home => Sys2Proof.Machine.execHome s
  | .move => Sys2Proof.Machine.execMove s
  | .stopAxis => Sys2Proof.Machine.execStopAxis s
  | .restoreAxis => Sys2Proof.Machine.execRestoreAxis s
  | .setLamp => Sys2Proof.Machine.execSetLamp s
  | .raiseAlert => Sys2Proof.Machine.execRaiseAlert s
  | .ackAlert => Sys2Proof.Machine.execAckAlert s
  | .removeAlert => Sys2Proof.Machine.execRemoveAlert s
  | .closure button => Sys2Proof.Machine.execClosure button s
  | .release button => Sys2Proof.Machine.execRelease button s
  | .longPress button => Sys2Proof.Machine.execLongPress button s
  | .stuck button => Sys2Proof.Machine.execStuck button s
  | .lockoutExpiry button => Sys2Proof.Machine.execLockoutExpiry button s
  | .timeWaitExpiry exhibit => Sys2Proof.Machine.execTimeWaitExpiry exhibit s
  | .pressTimeout exhibit => Sys2Proof.Machine.execPressTimeout exhibit s
  | .restExpiry exhibit => Sys2Proof.Machine.execRestExpiry exhibit s
  | .axisUpdate axis => Sys2Proof.Machine.execAxisUpdate axis s
  | .disturbance axis => Sys2Proof.Machine.execDisturbance axis s
  | .stall axis => Sys2Proof.Machine.execStall axis s
  | .limitAsserted axis limit => Sys2Proof.Machine.execLimitAsserted axis limit s
  | .limitReleased axis limit => Sys2Proof.Machine.execLimitReleased axis limit s
  | .encoderCountChange axis delta => Sys2Proof.Machine.execEncoderCountChange axis delta s
  | .speedMeasurement axis => Sys2Proof.Machine.execSpeedMeasurement axis s
  | .axisImageRefresh axis => Sys2Proof.Machine.execAxisImageRefresh axis s
  | .homeSwitchClosing axis => Sys2Proof.Machine.execHomeSwitchClosing axis s
  | .homeSwitchOpening axis => Sys2Proof.Machine.execHomeSwitchOpening axis s
  | .indexEvent axis => Sys2Proof.Machine.execIndexEvent axis s
  | .homeSearchExhausted axis => Sys2Proof.Machine.execHomeSearchExhausted axis s
  | .guardOpening guard => Sys2Proof.Machine.execGuardOpening guard s
  | .guardClosing guard => Sys2Proof.Machine.execGuardClosing guard s
  | .settleExpiry exhibit => Sys2Proof.Machine.execSettleExpiry exhibit s
  | .guardAlertExpiry exhibit => Sys2Proof.Machine.execGuardAlertExpiry exhibit s
  | .estopAssertion => Sys2Proof.Machine.execEstopAssertion s
  | .estopRelease => Sys2Proof.Machine.execEstopRelease s
  | .lampPhaseStep channel layer => Sys2Proof.Machine.execLampPhaseStep channel layer s
  | .pwmPeriod => Sys2Proof.Machine.execPwmPeriod s
  | .holdoffExpiry station => Sys2Proof.Machine.execHoldoffExpiry station s
  | .escalationExpiry number => Sys2Proof.Machine.execEscalationExpiry number s
  | .ageStep => Sys2Proof.Machine.execAgeStep s
  | .displayFrame station => Sys2Proof.Machine.execDisplayFrame station s
  | .buttonReading button closed => Sys2Proof.Machine.execButtonReading button closed s

end Sys2Proof.Machine
end

