-- ==== Sys2Proof/Safety.lean ====
section
/-! DEFINITION. What every state of a run is to satisfy: the laws the manual states of the whole part; and the words the
statements use for what a command leaves as it was. -/

namespace Sys2Proof.Machine

/-- The exchange RAM is in canonical form, and the order unit's walk stays within the 64 cells (R178, R188). -/
abbrev State.RamLaw (s : State) : Prop :=
  Memory.wf s.ram = true ∧ s.deck.count ≤ 64 ∧ (s.deck.state = .running → s.deck.position < s.deck.count)

/-- The units the axes hold. -/
def State.unitsHeld (s : State) : Nat := s.pool.held.toList.sum

/-- The free count and the held units make up the 32 units of the supply (R116). -/
abbrev State.UnitLaw (s : State) : Prop := s.pool.free + s.unitsHeld = 32

/-- The encore flag is set only while RUNNING, SUSPENDED, GUARDED or RESTING (R7). -/
abbrev State.EncoreLaw (s : State) : Prop := ∀ e : ExhibitNo, (s.exhibit e).encore = true →
  (s.exhibit e).state = .running ∨ (s.exhibit e).state = .suspended ∨ (s.exhibit e).state = .guarded ∨
    (s.exhibit e).state = .resting

/-- A slot is occupied while its exhibit is RUNNING, SUSPENDED or GUARDED, and empty in every other state (R45). -/
abbrev State.SlotLaw (s : State) : Prop := ∀ e : ExhibitNo, (s.slot e).current.isSome = true ↔
  (s.exhibit e).state = .running ∨ (s.exhibit e).state = .suspended ∨ (s.exhibit e).state = .guarded

/-- Every entry of the wait list is of an axis in AWAIT_POWER, and no axis stands in it twice (R116, R117). -/
abbrev State.WaitLaw (s : State) : Prop :=
  (∀ w ∈ s.pool.waiting, (s.axis w.axis).state = .awaitPower) ∧ (s.pool.waiting.map (·.axis)).Nodup

/-- An axis holds units only while it is HOMING, MOVING or STOPPING, and the axes in AWAIT_POWER are those of the wait list (R116,
R117). The clauses on configurations and requests say what keeps it so: an axis that waits has a request to start. -/
abbrev State.HeldLaw (s : State) : Prop :=
  s.WaitLaw ∧ (∀ a : AxisNo, (s.axis a).state = .awaitPower → a ∈ s.pool.waiting.map (·.axis)) ∧
  (∀ a : AxisNo, tget s.pool.held a ≠ 0 → (s.axis a).state.drives = true) ∧
  (∀ a : AxisNo, (s.axis a).config = none → (s.axis a).state = .off) ∧
  (∀ a : AxisNo, (s.axis a).state = .awaitPower → (s.axis a).request.isSome = true)

/-- At most 32 entries, no two with one number, no two with both source and cause (R155). -/
abbrev State.AlertLaw (s : State) : Prop :=
  s.alerts.length ≤ 32 ∧ (s.alerts.map (·.number)).Nodup ∧ (s.alerts.map fun x => (x.source, x.cause)).Nodup

/-- The lamp of a channel is dark: every layer is idle and its brightness and its output are 0. -/
abbrev Channel.Dark (c : Channel) : Prop :=
  c.alertLayer.setting = .idle ∧ c.showLayer.setting = .idle ∧ c.readyLayer.setting = .idle ∧ c.brightness = 0 ∧ c.output = 0

/-- What a station shows (R161, R162): an entry it shows is RAISED and routed to it, and is of severity 3 where a RAISED entry of
severity 3 is routed to it; a station shows nothing only where no RAISED entry is routed to it. -/
abbrev State.ShownLaw (s : State) : Prop := ∀ st : StationNo,
  (∀ n ∈ (s.station st).shown, ∃ x ∈ s.alerts, x.number = n ∧ x.acked = false ∧ x.station = some st ∧
    (x.severity < 3 → ∀ y ∈ s.alerts, y.acked = false → y.station = some st → y.severity < 3)) ∧
  ((s.station st).shown = none → ∀ x ∈ s.alerts, x.acked = true ∨ x.station ≠ some st)

/-- What a station presents (R164): its display bus shows the source number plus 1 and the severity of the entry it shows, blank
without one or without display enable, and its call lamp's ALERT layer runs the fixed pattern of that severity, or is idle. -/
abbrev State.PresentLaw (s : State) : Prop := ∀ st : StationNo,
  ((s.station st).shown = none ∨ (s.station st).displayEnable = false →
    (s.station st).displayNumber = 0 ∧ (s.station st).displaySeverity = 0) ∧
  (∀ n ∈ (s.station st).shown, ∀ x ∈ s.alerts, x.number = n → (s.station st).displayEnable = true →
    (s.station st).displayNumber = x.source.val + 1 ∧ (s.station st).displaySeverity = x.severity) ∧
  (∀ ch ∈ (s.station st).callLamp,
    ((s.station st).shown = none → (s.channel ch).alertLayer.setting = .idle) ∧
    (∀ n ∈ (s.station st).shown, ∀ x ∈ s.alerts, x.number = n →
      (s.channel ch).alertLayer.setting = .fixed (severityPattern x.severity)))

/-- While the part is COLD every exhibit and every axis is OFF, every slot is empty, no axis waits, the alert list is empty and
every lamp is dark (R126, R154, R177, R185). -/
abbrev State.ColdLaw (s : State) : Prop := s.part = .cold →
  (∀ e : ExhibitNo, (s.exhibit e).state = .off ∧ (s.slot e).current = none) ∧
  (∀ a : AxisNo, (s.axis a).state = .off) ∧ s.pool.waiting = [] ∧ s.alerts = [] ∧ ∀ ch : ChannelNo, (s.channel ch).Dark

/-- While the gallery stop is in force no axis is HOMING, MOVING, STOPPING or AWAIT_POWER, the wait list is empty, and no exhibit
is RUNNING, SUSPENDED, GUARDED or HALTING (R137). -/
abbrev State.StopLaw (s : State) : Prop := s.stopInForce = true →
  (∀ a : AxisNo, (s.axis a).state.busy = false) ∧ s.pool.waiting = [] ∧
  (∀ e : ExhibitNo, (s.exhibit e).state ≠ .running ∧ (s.exhibit e).state ≠ .suspended ∧
    (s.exhibit e).state ≠ .guarded ∧ (s.exhibit e).state ≠ .halting)

/-- A position lies within the travel window of a configuration. -/
abbrev AxisConfig.Holds (c : AxisConfig) (p : Int) : Prop := c.low ≤ p ∧ p ≤ c.high

/-- A pending request is a home, or a move to a target within the window. -/
abbrev AxisConfig.HoldsRequest (c : AxisConfig) : Request → Prop
  | .move t _ => c.Holds t
  | .home => True

/-- The window law of one axis with a configuration (R81): P lies within the window in IDLE, AWAIT_POWER, MOVING and STOPPING. The
clauses on HOME_VALUE, the request, the move record and the stop bound say what keeps it so. -/
abbrev Axis.WithinWindow (x : Axis) (c : AxisConfig) : Prop :=
  c.Holds c.homeValue ∧
  ((x.state = .idle ∨ x.state = .awaitPower ∨ x.state = .moving ∨ x.state = .stopping) → c.Holds x.pos) ∧
  (∀ r ∈ x.request, c.HoldsRequest r ∧ (x.state = .awaitPower ∨ x.state = .stopping)) ∧
  (x.state = .moving → ∃ m ∈ x.move, c.Holds m.target ∧ x.isAhead m.target = true) ∧
  (x.state = .stopping → x.move.isSome = true ∧ ∃ b ∈ x.stopBound, c.Holds b ∧ x.isAhead b = true)

/-- An axis without a configuration is OFF and holds no request (R79, R80). -/
abbrev Axis.Unconfigured (x : Axis) : Prop := x.state = .off ∧ x.request = none

/-- The window law of every axis (R81). -/
def State.WindowLaw (s : State) : Prop := ∀ a : AxisNo, match (s.axis a).config with
  | none => (s.axis a).Unconfigured
  | some c => (s.axis a).WithinWindow c

/-- A velocity lies within a speed set. -/
abbrev SpeedSet.Holds (sp : SpeedSet) (v : Nat) : Prop := sp.vs ≤ v ∧ v ≤ sp.vmax

/-- While an axis is MOVING its velocity lies between the Vs and the Vmax of the speed set in use (R87). -/
def State.VelocityLaw (s : State) : Prop := ∀ a : AxisNo, match (s.axis a).config with
  | none => (s.axis a).Unconfigured
  | some c => (∀ i : Fin 4, (tget c.sets i).vs ≤ (tget c.sets i).vmax) ∧
      ((s.axis a).state = .moving → ∃ m ∈ (s.axis a).move, (tget c.sets m.speedSet).Holds (s.axis a).vel)

/-- The homed flag goes with the state: IDLE, MOVING and STOPPING are homed, UNHOMED and HOMING are not, and an axis with a
pending move is (R111). A request stands only in AWAIT_POWER and STOPPING (Table 4-1): no other axis has one to carry on. -/
abbrev State.HomedLaw (s : State) : Prop := ∀ a : AxisNo,
  ((s.axis a).state = .idle ∨ (s.axis a).state = .moving ∨ (s.axis a).state = .stopping → (s.axis a).homed = true) ∧
  ((s.axis a).state = .unhomed ∨ (s.axis a).state = .homing → (s.axis a).homed = false) ∧
  (∀ r ∈ (s.axis a).request, (r ≠ .home → (s.axis a).homed = true) ∧
    ((s.axis a).state = .awaitPower ∨ (s.axis a).state = .stopping))

/-- The axis is bound to the exhibit (section 1.1). -/
abbrev State.BindsAxis (s : State) (e : ExhibitNo) (a : AxisNo) : Prop :=
  ∃ c ∈ (s.exhibit e).inForce, some a ∈ c.axes.toList

/-- The channel is bound to the exhibit (section 1.1). -/
abbrev State.BindsChannel (s : State) (e : ExhibitNo) (ch : ChannelNo) : Prop :=
  ∃ c ∈ (s.exhibit e).inForce, some ch ∈ c.showLamps.toList ∨ c.readyLamp = some ch ∨ c.beaconLamp = some ch

/-- Each axis is bound to at most one exhibit, and each lamp channel serves at most one exhibit or one station (R3). -/
def State.BindLaw (s : State) : Prop :=
  (∀ (a : AxisNo) (e f : ExhibitNo), s.BindsAxis e a → s.BindsAxis f a → e = f) ∧
  (∀ (ch : ChannelNo) (e f : ExhibitNo), s.BindsChannel e ch → s.BindsChannel f ch → e = f) ∧
  (∀ (ch : ChannelNo) (e : ExhibitNo) (st : StationNo), s.BindsChannel e ch → (s.station st).callLamp ≠ some ch) ∧
  (∀ (ch : ChannelNo) (st u : StationNo), (s.station st).callLamp = some ch → (s.station u).callLamp = some ch → st = u)

/-! ### What a command leaves as it was -/

/-- A filter of `n` samples after one more sample of its pin: an equal one, and the one that completes the run, end the run (R92,
R103, R127, R134). -/
abbrev InputFilter.afterSample (f : InputFilter) (n : Nat) : InputFilter :=
  { f with run := if f.pin = f.level ∨ n ≤ f.run + 1 then 0 else f.run + 1 }

/-- The offset lies outside `n` words from `a` on. -/
abbrev Outside (a n k : Nat) : Prop := k < a ∨ a + n ≤ k

/-- Every exhibit but `e` is as before, with its slot and its source record. -/
abbrev State.OtherExhibits (s t : State) (e : ExhibitNo) : Prop :=
  ∀ f, f ≠ e → t.exhibit f = s.exhibit f ∧ t.slot f = s.slot f ∧ t.source f = s.source f

/-- Every axis but `a` is as before. -/
abbrev State.OtherAxes (s t : State) (a : AxisNo) : Prop := ∀ b, b ≠ a → t.axis b = s.axis b

/-- The offset lies outside the status image of an exhibit. -/
abbrev OutsideExhibit (e : ExhibitNo) (k : Nat) : Prop := Outside (addrExhibitImage e) 8 k

/-- The offset lies outside the status image of an axis. -/
abbrev OutsideAxis (a : AxisNo) (k : Nat) : Prop := Outside (addrAxisImage a) 8 k

/-- A GROUP press starts the exhibit's default show when the exhibit is a member: READY, its guard closed, no gallery stop (R40). -/
abbrev State.GroupStarts (s : State) (e : ExhibitNo) : Prop :=
  (s.exhibit e).state = .ready ∧ (s.exhibit e).guardOpen = false ∧ s.stopInForce = false

/-- The wait record is of this axis (Table 3-3). -/
def Wait.concerns (w : Wait) (a : AxisNo) : Bool :=
  match w with
  | .motion b _ => b == a
  | .axisRest b => b == a
  | .mark b _ _ => b == a
  | .time _ => false
  | .press _ => false

/-- No show and no halt waits for the axis: it is unbound, or its exhibit is not HALTING and waits for nothing of it. -/
abbrev State.Unwatched (s : State) (a : AxisNo) : Prop := ∀ e ∈ s.axisOwner a,
  (s.exhibit e).state ≠ .halting ∧ ∀ w ∈ (s.slot e).wait, w.concerns a = false

/-- No show waits for a crossing of the axis. -/
abbrev State.Uncrossed (s : State) (a : AxisNo) : Prop :=
  ∀ e ∈ s.axisOwner a, ∀ m up, (s.slot e).awaitsCrossing a m up = false

/-- One profile update toward a target: V by the braking distance, the step count and the P it leads to (R87 steps 1 to 5). -/
abbrev Axis.ProfileStep (x : Axis) (sp : SpeedSet) (target : Int) (v n : Nat) (p : Int) : Prop :=
  v = (if (target - x.pos).natAbs ≤ x.vel * x.vel / (2000 * sp.accel) then max (x.vel - sp.accel) sp.vs
    else if x.vel < sp.vmax then min (x.vel + sp.accel) sp.vmax else x.vel) ∧
  n = min ((x.acc + v) / 1000) (target - x.pos).natAbs ∧ p = (if x.pos ≤ target then x.pos + n else x.pos - n)

/-- The following-error run after an update that leaves P at `p` (R90). -/
abbrev Axis.RunAfter (x : Axis) (c : AxisConfig) (p : Int) (r : Nat) : Prop :=
  r = if c.followLimit < (p - x.encoder).natAbs then min 255 (x.followRun + 1) else 0

/-- The step at address `a` is a WAIT_TIME of `d` × 10 ms without SUSPEND that passes its checks (Tables 3-2 and 10-8). -/
abbrev State.TimeStepAt (s : State) (a d : Nat) : Prop :=
  a + 2 ≤ 12288 ∧ bits (s.storeWord a) 10 6 = 5 ∧ bit (s.storeWord a) 9 = false ∧ (s.storeWord (a + 1)).toNat = d ∧ d ≠ 0

/-- The length of a step by its kind code (Table 3-2). -/
abbrev stepWords (kind : Nat) : Nat := if kind = 1 then 3 else if kind = 5 ∨ kind = 6 ∨ kind = 7 ∨ kind = 10 then 2 else 1

/-- The step at address `a` passes its checks in the slot of exhibit `e`, configured as `c` (Tables 3-2 and 10-8, R48 to R50). -/
abbrev State.PassesChecks (s : State) (e : ExhibitNo) (c : ExhibitConfig) (a : Nat) : Prop :=
  let w0 := s.storeWord a
  let kind := bits w0 10 6
  let operand := (s.storeWord (a + 1)).toNat
  let axis := tget c.axes (Fin.ofNat 4 (bits w0 0 2))
  kind ≤ 12 ∧ a + stepWords kind ≤ 12288 ∧ (1 ≤ kind ∧ kind ≤ 4 → axis.isSome = true) ∧
  (kind = 4 → bits w0 4 2 ≠ 3 ∧ (axis.bind fun x => tget (s.axis x).marks (Fin.ofNat 4 (bits w0 2 2))).isSome = true) ∧
  (kind = 5 → operand ≠ 0) ∧
  (kind = 7 → (operand ≤ 31 ∨ operand = 65535) ∧ (tget c.showLamps (Fin.ofNat 8 (bits w0 0 3))).isSome = true) ∧
  (kind = 8 → bits w0 0 8 ≠ 0 ∧ (s.slot e).loopCount = 0) ∧ (kind = 9 → (s.slot e).loopCount ≠ 0) ∧
  (kind = 10 → operand ≤ 12287) ∧ (kind = 12 → bits w0 6 2 ≠ 0)

/-- A slot that has begun to wait `d` × 10 ms at address `a`. -/
abbrev Slot.WaitsTime (sl : Slot) (a d : Nat) : Prop :=
  sl.current = some a ∧ sl.status = some .waiting ∧ sl.wait = some (.time (10 * d)) ∧ sl.runaway = 0 ∧ sl.frozen = false

/-- After a taken MOVE or HOME step at address `a`: without NOWAIT the slot waits there for the motion; with it the show has gone on to
the WAIT_TIME at `next` (R55, R56). -/
abbrev Slot.AfterMotionStep (sl : Slot) (nowait : Bool) (a : Nat) (w : Wait) (next d : Nat) : Prop :=
  (nowait = false → sl.current = some a ∧ sl.status = some .waiting ∧ sl.wait = some w ∧ sl.runaway = 0) ∧
  (nowait = true → sl.WaitsTime next d)

/-- The causes and states in which an acknowledgement removes the entry: VISITOR_CALL, SHOW_CALL, BUTTON_STUCK, MODEL_DISTURBED and
HOST_ALERT, GUARD_HELD with the guard-open attribute of its exhibit clear, GALLERY_STOP with no gallery stop in force (the table of R165). -/
abbrev State.RemovedByAck (s : State) (x : Alert) : Prop :=
  x.cause ∈ [AlertCause.visitorCall, .showCall, .buttonStuck, .modelDisturbed, .hostAlert] ∨
  (x.cause = .guardHeld ∧ ∀ e : ExhibitNo, x.source = exhibitSource e → (s.exhibit e).guardOpen = false) ∨
  (x.cause = .galleryStop ∧ s.stopInForce = false)

/-- The causes and states in which an acknowledgement leaves the entry ACKED: AXIS_FAULT and SHOW_FAULT, GUARD_HELD with the guard-open
attribute of its exhibit set, GALLERY_STOP while the gallery stop is in force (the table of R165). -/
abbrev State.AckedByAck (s : State) (x : Alert) : Prop :=
  x.cause ∈ [AlertCause.axisFault, .showFault] ∨
  (x.cause = .guardHeld ∧ ∃ e : ExhibitNo, x.source = exhibitSource e ∧ (s.exhibit e).guardOpen = true) ∨
  (x.cause = .galleryStop ∧ s.stopInForce = true)

/-- The command `p` gives a press of the button with the action `act`, and leaves the button as `x` but for a lockout that starts: the
press at the closure where the entry has no long action, the short press at the release of a WATCHED button, and the long press at its
long threshold (R26 to R28, R35). -/
abbrev State.GivesPress (s : State) (b : ButtonNo) (p : Instr) (act : Action) (x : Button) : Prop :=
  (p = .closure b ∧ (s.button b).input.level = false ∧ (s.button b).entry.longAction = .none ∧ act = (s.button b).entry.action ∧
    x = { s.button b with input := { pin := true, level := true, run := 0 }, holdTimer := 0, hold := .plain }) ∨
  (p = .release b ∧ (s.button b).input.level = true ∧ (s.button b).hold = .watched ∧ act = (s.button b).entry.action ∧
    x = { s.button b with input := { pin := false, level := false, run := 0 }, holdTimer := 0, hold := .opened }) ∨
  (p = .longPress b ∧ (s.button b).hold = .watched ∧ act = (s.button b).entry.longAction.action ∧
    x = { s.button b with hold := .longGiven, holdTimer := max (s.button b).holdTimer (s.params.longThreshold * 100) })

/-- The button with its lockout started, where its entry has one (R36). -/
abbrev Button.lockedOut (x : Button) : Button :=
  { x with lockout := if 0 < x.entry.lockout then some (x.entry.lockout * 100) else none }

/-- Every button but `b` is as before, and `b` is `x`. -/
abbrev State.OnlyButton (s t : State) (b : ButtonNo) (x : Button) : Prop :=
  t.button b = x ∧ ∀ c, c ≠ b → t.button c = s.button c

/-- One more press that exhibit `e` did not act on (R19), and every other exhibit as before. -/
abbrev State.OnlyIgnored (s t : State) (e : ExhibitNo) : Prop :=
  t.exhibit e = { s.exhibit e with ignored := min 65535 ((s.exhibit e).ignored + 1) } ∧ ∀ f, f ≠ e → t.exhibit f = s.exhibit f

/-- The resume records of the axes in a list are none, and nothing else of any axis has changed. -/
abbrev State.OnlyResumeDropped (s t : State) (axes : List AxisNo) : Prop :=
  ∀ a, t.axis a = if a ∈ axes then { s.axis a with resume := none } else s.axis a

/-- What the freeze makes of a bound axis whose model is within its window (the table of R129). -/
abbrev State.FrozenAxis (s t : State) (a : AxisNo) : Prop :=
  ((s.axis a).state = .off ∨ (s.axis a).state = .unhomed ∨ (s.axis a).state = .idle ∨ (s.axis a).state = .faulted →
    t.axis a = { s.axis a with resume := none }) ∧
  ((s.axis a).state.drives = true → (t.axis a).pos = (s.axis a).encoder ∧ (t.axis a).vel = 0 ∧ (t.axis a).dir = none ∧
    (t.axis a).move = none ∧ (t.axis a).request = none) ∧
  ((s.axis a).state = .moving → (t.axis a).state = .idle ∧ (t.axis a).homed = (s.axis a).homed ∧
    (t.axis a).resume = (s.axis a).move.map fun m => .move m.target m.speedSet) ∧
  ((s.axis a).state = .stopping → (t.axis a).state = .idle ∧ (t.axis a).homed = (s.axis a).homed ∧
    (t.axis a).resume = (s.axis a).request) ∧
  ((s.axis a).state = .homing → (t.axis a).state = .unhomed ∧ (t.axis a).homed = false ∧ (t.axis a).resume = some .home) ∧
  ((s.axis a).state = .awaitPower → (t.axis a).state = (if (s.axis a).homed then .idle else .unhomed) ∧
    (t.axis a).homed = (s.axis a).homed ∧ (t.axis a).request = none ∧ (t.axis a).resume = (s.axis a).request)

/-- What HALT, CANCEL of a SUSPENDED show and a show fault make of a bound axis (the table of R69 and R74). -/
abbrev State.HaltedAxis (s t : State) (a : AxisNo) : Prop :=
  ((s.axis a).state = .off ∨ (s.axis a).state = .unhomed ∨ (s.axis a).state = .idle ∨ (s.axis a).state = .faulted →
    t.axis a = { s.axis a with resume := (t.axis a).resume }) ∧
  ((s.axis a).state = .moving →
    t.axis a = { s.axis a with
      state := .stopping, stopBound := (s.axis a).boundOfStop, request := none, resume := (t.axis a).resume,
      imageStale := (t.axis a).imageStale }) ∧
  ((s.axis a).state = .stopping →
    t.axis a = { s.axis a with request := none, resume := (t.axis a).resume, imageStale := (t.axis a).imageStale }) ∧
  ((s.axis a).state = .homing → (t.axis a).state = .unhomed ∧ (t.axis a).homed = false ∧ (t.axis a).pos = (s.axis a).encoder ∧
    (t.axis a).vel = 0 ∧ (t.axis a).dir = none ∧ (t.axis a).phase = none ∧ (t.axis a).request = none) ∧
  ((s.axis a).state = .awaitPower → (t.axis a).state = (if (s.axis a).homed then .idle else .unhomed) ∧
    (t.axis a).homed = (s.axis a).homed ∧ (t.axis a).request = none ∧ ((s.axis a).homed = true → (t.axis a).pos = (s.axis a).pos))

/-- After HALT has dealt with the bound axes, a RUNNING or SUSPENDED exhibit still has one on its way (R10, R74). -/
abbrev State.HaltAwaitsAxes (s : State) (e : ExhibitNo) : Prop :=
  (s.exhibit e).state ≠ .guarded ∧ ∃ a ∈ s.boundAxes e, (s.axis a).state = .moving ∨ (s.axis a).state = .stopping

/-! ### When orders are turned away -/

/-- Table 3-6, ABSENT, for START SHOW (0x10), RESUME (0x11), HALT (0x12) and CANCEL (0x13). -/
abbrev State.ShowAbsent (s : State) (code : Nat) (e : ExhibitNo) : Prop :=
  (s.exhibit e).state = .off ∨
    ((code = 0x10 ∨ code = 0x11) ∧ ((s.exhibit e).state = .locked ∨ (s.exhibit e).state = .faulted))

/-- Table 3-6, PENDING. -/
abbrev State.ShowPending (s : State) (code : Nat) (e : ExhibitNo) : Prop :=
  (code = 0x10 ∨ code = 0x11) ∧
    ((s.source e).ended.isSome = true ∨ (s.source e).halted = true ∨ (s.source e).faulted.isSome = true ∨
      (s.source e).suspended = true ∨ (s.source e).stopped = true)

/-- Table 3-6, NOT_NOW. -/
abbrev State.ShowNotNow (s : State) (code : Nat) (e : ExhibitNo) : Prop :=
  (code = 0x10 ∧ ((s.exhibit e).state = .running ∨ (s.exhibit e).state = .suspended ∨ (s.exhibit e).state = .guarded ∨
    (s.exhibit e).state = .halting ∨ (s.exhibit e).guardOpen = true ∨ s.stopInForce = true)) ∨
  (code = 0x11 ∧ ((s.exhibit e).state ≠ .suspended ∨ s.stopInForce = true)) ∨
  (code = 0x12 ∧ (s.exhibit e).state ≠ .running ∧ (s.exhibit e).state ≠ .suspended ∧ (s.exhibit e).state ≠ .guarded) ∨
  (code = 0x13 ∧ (s.exhibit e).state ≠ .suspended ∧ (s.exhibit e).encore = false)

/-- The states that take CLEAR (0x14), LOCK (0x15), UNLOCK (0x16) and RESTORE (0x17) (R14 to R17). -/
abbrev ExhibitState.Maintained (st : ExhibitState) (code : Nat) : Prop :=
  (code = 0x14 ∧ st ≠ .off) ∨ (code = 0x15 ∧ (st = .ready ∨ st = .resting ∨ st = .faulted)) ∨
    (code = 0x16 ∧ st = .locked) ∨ (code = 0x17 ∧ st = .faulted)

/-! ### The taking of an order cell -/

/-- The order unit is about to take a cell that holds this code and these operands, and no axis report waits. -/
abbrev State.AtCell (s : State) (code w1 w2 : Nat) : Prop :=
  s.deck.state = .running ∧ s.deck.position < 64 ∧ (s.word (addrCell s.deck.position)).toNat / 256 = code ∧
  (s.word (addrCell s.deck.position + 1)).toNat = w1 ∧ (s.word (addrCell s.deck.position + 2)).toNat = w2 ∧
  s.reports = []

/-- The cell is answered with a result and a detail, and the walk goes on to the next cell or ends (R189). -/
abbrev State.Answered (s t : State) (code result detail : Nat) : Prop :=
  (t.word (addrCell s.deck.position)).toNat = 256 * code + result ∧
  (t.word (addrCell s.deck.position + 3)).toNat = detail ∧
  (s.deck.position + 1 < s.deck.count → t.deck = { s.deck with position := s.deck.position + 1 } ∧ t.attn = s.attn ∧
    t.word addrDeckState = s.word addrDeckState) ∧
  (s.deck.count ≤ s.deck.position + 1 → t.deck.state = .done ∧ t.deck.count = s.deck.count ∧ t.word addrDeckState = 2 ∧
    t.attn = s.attn ||| attnDeckDone)

/-- The offset is not one that the taking of the cell writes. -/
abbrev State.NotOfCell (s : State) (k : Nat) : Prop :=
  k ≠ addrDeckState ∧ k ≠ addrCell s.deck.position ∧ k ≠ addrCell s.deck.position + 3

/-- The offset is not one of the alert image or IMAGE_SEQ. -/
abbrev NotOfAlerts (k : Nat) : Prop := k ≠ addrImageSeq ∧ Outside addrAlertImage 256 k

/-- Nothing but the cell's result, the walk and DECK_DONE has changed. -/
abbrev State.OnlyAnswered (s t : State) : Prop :=
  (∀ k < 16384, s.NotOfCell k → t.word k = s.word k) ∧ t = { s with ram := t.ram, deck := t.deck, attn := t.attn }

end Sys2Proof.Machine
end

