-- ==== Sys2Proof/Certificates/Slice0/Obligations.lean ====
section
/-! DEFINITION. The statements for the provers. Each speaks of the block's commands and states; offsets k range over the 16,384
words of the exchange RAM. A frame of the form `t = { s with … }` names every component that may differ. -/

open Sys2Proof Sys2Proof.Machine

/-! ### The machine as a whole -/

/-- A step takes the command at the front of the queue and carries it out on the state with the queue's rest. The queue is the model's own
(assumption 4). -/
def Obligations.StepTakesFront : Prop :=
  ∀ (c : Instr) (rest : List Instr) (s : State), s.pending = c :: rest → step s = exec c { s with pending := rest }

/-- The model's choice (assumption 2): a step on an empty queue is 250 µs of the part's clock. The scan moves to the next row, the count
toward the next display frame goes on, and the switch and E-STOP filters take one sample each of the 4 and 8 that change a level. Off the
end of a millisecond nothing else changes. At its end the cadences count on, every running timer, wait of an unfrozen slot and phase loses 1
ms, the hold timer of a held button gains 1 ms, and the guard filters take one sample of 3. What has become due joins the queue: the lists
of due commands of Machine/Clock.lean, one after another. That a level is recognised at the sample that completes the run is the model's
choice too (assumption 40). -/
def Obligations.IdleStepRunsClock : Prop :=
  ∀ s : State, s.pending = [] →
    ∃ t, step s = .next t ∧ t.row = s.row + 1 ∧ t.cadence.quarter = s.cadence.quarter + 1 ∧
      t.cadence.frame = (if s.cadence.frame < 39 then s.cadence.frame + 1 else 0) ∧ t.estop = s.estop.afterSample 8 ∧
      (∀ a, t.axis a = { s.axis a with
        limitLow := (s.axis a).limitLow.afterSample 4, limitHigh := (s.axis a).limitHigh.afterSample 4,
        homeSwitch := (s.axis a).homeSwitch.afterSample 4 }) ∧
      (s.cadence.quarter ≠ 3 → t.pending = s.fastEvents ++ t.frameEvents ∧
        t = { s with row := t.row, estop := t.estop, axes := t.axes, pending := t.pending,
                     cadence := { s.cadence with quarter := t.cadence.quarter, frame := t.cadence.frame } }) ∧
      (s.cadence.quarter = 3 →
        t.pending = t.timerEvents ++ (s.fastEvents ++ (s.guardEvents ++ (t.cadenceEvents ++ t.frameEvents))) ∧
        t.cadence.refresh = (if s.cadence.refresh < 9 then s.cadence.refresh + 1 else 0) ∧
        t.cadence.speed = (if s.cadence.speed < 99 then s.cadence.speed + 1 else 0) ∧
        t.cadence.age = (if s.cadence.age < 999 then s.cadence.age + 1 else 0) ∧
        t.alerts = s.alerts.map (fun x => { x with timer := x.timer.map (fun n => n - 1) }) ∧
        t.clearing = s.clearing.map (fun n => n - 1) ∧
        (∀ st, t.station st = { s.station st with holdoff := (s.station st).holdoff.map (fun n => n - 1) }) ∧
        (∀ e, t.exhibit e = { s.exhibit e with
          rest := (s.exhibit e).rest.map (fun n => n - 1), settle := (s.exhibit e).settle.map (fun n => n - 1),
          guardAlert := (s.exhibit e).guardAlert.map (fun n => n - 1) }) ∧
        (∀ e, t.slot e = { s.slot e with wait := (t.slot e).wait } ∧ ((s.slot e).frozen = true → (t.slot e).wait = (s.slot e).wait) ∧
          ((s.slot e).frozen = false → (t.slot e).wait = (match (s.slot e).wait with
            | some (.time r) => some (.time (r - 1))
            | some (.press (some r)) => some (.press (some (r - 1)))
            | other => other))) ∧
        (∀ b, t.button b = { s.button b with
          holdTimer := (if (s.button b).hold = .opened ∨ (s.button b).hold = .stuck then (s.button b).holdTimer else (s.button b).holdTimer + 1),
          lockout := (s.button b).lockout.map (fun n => n - 1) }) ∧
        (∀ ch, t.channel ch = { s.channel ch with
          alertLayer := { (s.channel ch).alertLayer with phase := (s.channel ch).alertLayer.phase.elapse },
          showLayer := { (s.channel ch).showLayer with phase := (s.channel ch).showLayer.phase.elapse },
          readyLayer := { (s.channel ch).readyLayer with phase := (s.channel ch).readyLayer.phase.elapse } }) ∧
        (∀ g, t.guardLine g = (s.guardLine g).afterSample 3) ∧
        t = { s with row := t.row, cadence := t.cadence, clearing := t.clearing, buttons := t.buttons, guards := t.guards,
                     estop := t.estop, exhibits := t.exhibits, slots := t.slots, axes := t.axes, channels := t.channels,
                     alerts := t.alerts, stations := t.stations, pending := t.pending })

/-- Every command answers a next state in every state, and leaves the queue as it found it. The queue is the model's own (assumption 4), and
that no command stops is the model's reading (assumption 28). -/
def Obligations.CommandsKeepQueue : Prop :=
  ∀ (c : Instr) (s : State), ∃ t, exec c s = .next t ∧ t.pending = s.pending

/-- The part enters RUN only by CLEAR COLD and leaves it only by a reset (R185). -/
def Obligations.PartStateChanges : Prop :=
  ∀ (c : Instr) (s t : State), c.wellFormed = true → exec c s = .next t →
    (s.part = .run → t.part = .cold → c = .powerOnReset ∨ ∃ v, c = .partReset v) ∧
    (s.part = .cold → t.part = .run → c = .clearCold)

/-- Only a fill, a host write to the exchange RAM and the clearing write the notice box, and a fill does not write a FULL box (R191). -/
def Obligations.FullBoxKept : Prop :=
  ∀ (c : Instr) (s t : State), exec c s = .next t → c ≠ .powerOnReset → c ≠ .ramClearingEnd →
    (∀ both a v, c ≠ .exchangeRamWrite both a v) → (c = .noticeFill → s.notice.full = true) →
    ∀ k < 16, t.word (addrNoticeBox + k) = s.word (addrNoticeBox + k)

/-- The state right after power-on reset meets every law. -/
def Obligations.ResetMeetsLaws : Prop :=
  State.reset.RamLaw ∧ State.reset.UnitLaw ∧ State.reset.EncoreLaw ∧ State.reset.SlotLaw ∧ State.reset.HeldLaw ∧
    State.reset.HomedLaw ∧ State.reset.AlertLaw ∧ State.reset.ColdLaw ∧ State.reset.StopLaw ∧ State.reset.WindowLaw ∧
    State.reset.VelocityLaw ∧ State.reset.BindLaw ∧ State.reset.ShownLaw ∧ State.reset.PresentLaw

/-! ### Invariants that every step keeps -/

/-- The exchange RAM keeps its canonical form, and the order unit's walk stays within the 64 cells (R178, R188). The canonical form is the
model's (assumption 18). -/
def Obligations.RamLawKept : Prop :=
  ∀ s t : State, s.RamLaw → step s = .next t → t.RamLaw

/-- The free count and the held units add up to 32 after every step (R116). The wait list holds exactly the axes in AWAIT_POWER, each once,
and units are held only in HOMING, MOVING and STOPPING, so an axis that waits holds none (R116, R117). -/
def Obligations.PoolLawsKept : Prop :=
  (∀ s t : State, s.UnitLaw → step s = .next t → t.UnitLaw) ∧
  (∀ s t : State, s.HeldLaw → step s = .next t → t.HeldLaw)

/-- The encore flag stays confined to RUNNING, SUSPENDED, GUARDED and RESTING (R7). A slot stays occupied exactly while its exhibit is
RUNNING, SUSPENDED or GUARDED (R45). -/
def Obligations.ShowLawsKept : Prop :=
  (∀ s t : State, s.EncoreLaw → step s = .next t → t.EncoreLaw) ∧
  (∀ s t : State, s.SlotLaw → step s = .next t → t.SlotLaw)

/-- The homed flag stays in step with the axis state, and a request stands only in AWAIT_POWER and STOPPING (R111). The premises say of
configurations and of the wait list what keeps it so, and are kept with it. -/
def Obligations.HomedLawKept : Prop :=
  ∀ s t : State, s.HeldLaw ∧ s.HomedLaw → step s = .next t → t.HeldLaw ∧ t.HomedLaw

/-- The alert list keeps at most 32 entries, numbers apart and sources with causes apart (R155). -/
def Obligations.AlertLawKept : Prop :=
  ∀ s t : State, s.AlertLaw → step s = .next t → t.AlertLaw

/-- While the part is COLD nothing is configured, nothing waits, no show runs, the alert list is empty and every lamp output is 0 (R126,
R154, R177, R185). -/
def Obligations.ColdLawKept : Prop :=
  ∀ s t : State, s.ColdLaw → step s = .next t → t.ColdLaw

/-- While the gallery stop is in force nothing moves, nothing waits for power and no show runs (R137). -/
def Obligations.StopLawKept : Prop :=
  ∀ s t : State, s.SlotLaw ∧ s.WaitLaw ∧ s.StopLaw → step s = .next t → t.SlotLaw ∧ t.WaitLaw ∧ t.StopLaw

/-- The commanded position stays within the travel window in IDLE, AWAIT_POWER, MOVING and STOPPING (R81). The velocity of a MOVING axis
stays between the Vs and the Vmax of its speed set (R87). -/
def Obligations.MotionLawsKept : Prop :=
  (∀ s t : State, s.WindowLaw → step s = .next t → t.WindowLaw) ∧
  (∀ s t : State, s.VelocityLaw → step s = .next t → t.VelocityLaw)

/-- Each axis stays bound to at most one exhibit, and each channel to at most one exhibit or station (R2, R173). -/
def Obligations.BindLawKept : Prop :=
  ∀ s t : State, s.SlotLaw ∧ s.BindLaw → step s = .next t → t.SlotLaw ∧ t.BindLaw

/-! ### The exchange port and the notice unit -/

/-- A write to PART_CTL with bit 15 clear replaces the mask; one with bit 15 set is a part reset whose other bits are not used; PART_CTL
reads back the run state, start-up busy and the mask (R182). -/
def Obligations.MaskWriteReplacesMask : Prop :=
  (∀ (v : Word) (s : State), s.clearing = none → v.getLsbD 15 = false →
    ∃ t, exec (.interruptMaskWrite v) s = .next t ∧ t.mask = v.setWidth 4 ∧ t = { s with mask := t.mask }) ∧
  (∀ (v v' : Word) (s : State), v.getLsbD 15 = true → v'.getLsbD 15 = true → exec (.partReset v) s = exec (.partReset v') s) ∧
  (∀ s : State, (s.irqAsserted = true ↔ ∃ n : Fin 4, s.attn.getLsbD n = true ∧ s.mask.getLsbD n = true) ∧
    ((s.hostReadRegister 1).getLsbD 15 = true ↔ s.part = .run) ∧
    ((s.hostReadRegister 1).getLsbD 7 = true ↔ s.clearing.isSome = true) ∧ (s.hostReadRegister 1).setWidth 4 = s.mask)

/-- The interrupt line is asserted while a cause is both set and enabled, through every change of either (R184). A host write to ATTN clears
the causes written 1 and nothing else (R183). -/
def Obligations.InterruptLineFollows : Prop :=
  (∀ s : State, s.irqAsserted = true ↔ ∃ n : Fin 4, s.attn.getLsbD n = true ∧ s.mask.getLsbD n = true) ∧
  (∀ (v : Word) (s : State), s.clearing = none → v.getLsbD 15 = false →
    ∃ t, exec (.interruptMaskWrite v) s = .next t ∧
      (t.irqAsserted = true ↔ ∃ n : Fin 4, s.attn.getLsbD n = true ∧ v.getLsbD n = true)) ∧
  (∀ (v : Word) (s : State), s.clearing = none →
    ∃ t, exec (.attnClear v) s = .next t ∧
      (t.irqAsserted = true ↔ ∃ n : Fin 4, s.attn.getLsbD n = true ∧ v.getLsbD n = false ∧ s.mask.getLsbD n = true)) ∧
  (∀ s : State, ∃ t, exec .powerOnReset s = .next t ∧ t.attn = 0 ∧ t.mask = 0 ∧ t.irqAsserted = false) ∧
  (∀ (v : Word) (s : State), s.clearing = none → v.getLsbD 15 = true →
    ∃ t, exec (.partReset v) s = .next t ∧ t.attn = 0 ∧ t.mask = 0 ∧ t.irqAsserted = false) ∧
  (∀ (v : Word) (s : State), s.clearing = none →
    ∃ t, exec (.attnClear v) s = .next t ∧
      (∀ n : Fin 4, t.attn.getLsbD n = (s.attn.getLsbD n && !v.getLsbD n)) ∧ t = { s with attn := t.attn })

/-- A host write to the exchange RAM lands in its word alone; with both selects it is lost; at a watched word it acts as that word's row
(R178, R179). During the RAM clearing every host write is lost or ignored and RAM reads return 0; a write to PART_ID and a write to STOP of
a value other than 1 and 2 have no effect at any time (R135, R178, R186). That a write acts by its word and not by its row's name is the
model's choice (assumption 6). -/
def Obligations.HostWritesLand : Prop :=
  (∀ (a : BitVec 14) (v : Word) (s : State), s.clearing = none → a ≠ 0 → a ≠ 2 →
    ∃ t, exec (.exchangeRamWrite false a v) s = .next t ∧ t.word a.toNat = v ∧ (∀ k < 16384, k ≠ a.toNat → t.word k = s.word k) ∧
      t = { s with ram := t.ram }) ∧
  (∀ (a : BitVec 14) (v : Word) (s : State), exec (.exchangeRamWrite true a v) s = .next s ∧ s.hostReadRam true a = 0) ∧
  (∀ (v : Word) (s : State), exec (.exchangeRamWrite false 0 v) s = exec (.deckCtlWrite v) s ∧
    exec (.exchangeRamWrite false 2 v) s = exec (.nbStateWrite v) s) ∧
  (∀ (s : State) (c : Instr), s.clearing ≠ none →
    ((∃ v, c = .partReset v ∨ c = .interruptMaskWrite v ∨ c = .attnClear v ∨ c = .deckCtlWrite v ∨ c = .nbStateWrite v) ∨
      c = .stopRequest ∨ c = .releaseRequest ∨ (∃ r v, c = .registerWriteNoEffect r v) ∨
      (∃ both a v, c = .exchangeRamWrite both a v)) →
    exec c s = .next s) ∧
  (∀ (s : State) (both : Bool) (a : BitVec 14), s.clearing ≠ none → s.hostReadRam both a = 0) ∧
  (∀ (s : State) (v : Word), exec (.registerWriteNoEffect .partId v) s = .next s ∧
    (v ≠ 1 → v ≠ 2 → exec (.registerWriteNoEffect .stop v) s = .next s))

/-- A write of 1 to 64 to DECK_CTL starts a walk unless one runs; every other write is refused and sets DECK_REFUSED (R188). A write of 0 to
NB_STATE gives the box back; any other value is overwritten with the box state (R192). The fill that may follow is the row NOTICE_FILL. That
cell 0 and the fill are steps of their own is the model's reading (assumptions 5 and 11). -/
def Obligations.DeckAndBoxWrites : Prop :=
  (∀ (v : Word) (s : State), s.clearing = none →
    (s.deck.state ≠ .running → 1 ≤ v.toNat → v.toNat ≤ 64 →
      ∃ t, exec (.deckCtlWrite v) s = .next t ∧ t.deck.state = .running ∧ t.deck.count = v.toNat ∧ t.deck.position = 0 ∧
        t.word addrDeckCtl = v ∧ t.word addrDeckState = 1 ∧ (∀ k < 16384, 2 ≤ k → t.word k = s.word k) ∧
        t = { s with ram := t.ram, deck := t.deck }) ∧
    (s.deck.state = .running ∨ v.toNat = 0 ∨ 64 < v.toNat →
      ∃ t, exec (.deckCtlWrite v) s = .next t ∧ t.attn = s.attn ||| 4#4 ∧ t.word addrDeckCtl = v ∧
        (∀ k < 16384, 1 ≤ k → t.word k = s.word k) ∧ t = { s with ram := t.ram, attn := t.attn })) ∧
  (∀ (v : Word) (s : State), s.clearing = none →
    ∃ t, exec (.nbStateWrite v) s = .next t ∧ t.notice.lastPosted = s.notice.lastPosted ∧
      t.notice.full = (s.notice.full && v != 0) ∧ t.word addrNbState = (if t.notice.full then 1 else 0) ∧
      (∀ k < 16384, k ≠ addrNbState → t.word k = s.word k) ∧ t = { s with ram := t.ram, notice := t.notice })

/-- A fill takes the first source with a pending condition after the last posted one, writes its notice, clears its record and marks the box
FULL (R191). With the box FULL, or nothing pending, the event does not arise and nothing changes. -/
def Obligations.NoticeFillTakesNext : Prop :=
  (∀ (s : State) (src : SourceNo), s.notice.full = false → s.sourcePending src = true →
    (∀ j : SourceNo, s.sourcePending j = true →
      (src.val + 48 - s.notice.lastPosted.val) % 49 ≤ (j.val + 48 - s.notice.lastPosted.val) % 49) →
    ∃ t, exec .noticeFill s = .next t ∧ t.notice = { full := true, lastPosted := src } ∧
      (∀ k < 16, t.word (addrNoticeBox + k) = ((s.noticeWords src)[k]?).getD 0) ∧ t.word addrNbState = 1 ∧
      t.attn = s.attn ||| 1#4 ∧ t.sourcePending src = false ∧
      (∀ j : SourceNo, j ≠ src → t.sourcePending j = s.sourcePending j) ∧
      (∀ f : ExhibitNo, exhibitSource f ≠ src → t.source f = s.source f) ∧ (src ≠ gallerySource → t.gallery = s.gallery) ∧
      (∀ k < 16384, k ≠ addrNbState → Outside addrNoticeBox 16 k → t.word k = s.word k) ∧
      t = { s with ram := t.ram, notice := t.notice, attn := t.attn, sources := t.sources, gallery := t.gallery }) ∧
  (∀ s : State, s.notice.full = true ∨ (∀ src, s.sourcePending src = false) → exec .noticeFill s = .next s)

/-- A part reset leaves every block at its values after power-on reset, but for the levels at the pins, the display frames, which run on,
and the commands that wait. It begins no clearing, keeps the notice box, the deck's cells, the configuration records and the show store, and
writes the control words and the images with their reset contents, whatever the other bits written (R23, R101, R154, R177, R187, R194).
Power-on reset leaves every block at its values in State.reset, but for the levels at the pins and the commands that wait, with every word 0
and the clearing of 2 ms begun. The clearing's end leaves every word 0 but those of the images, which their owners write with what they
hold: the reset contents, where nothing has changed since the reset (R186). Outside the clearing the event does not arise and changes
nothing. That the queue, the pins and the frame are kept is the model's choice (assumptions 4 and 20), as are the words 0 at once
(assumption 21) and RAM_CLEARING_END outside the clearing (assumption 3), and the axis image of the values held at the end of the clearing
(assumption 42). The manual gives no reset value for the runs of samples of the filters, the loop start, the stop bound and the times and
marks of a pattern (assumption 22), for the deck's count and position (assumption 27), and for the counts toward the axis images and the
display frames (assumption 2): there State.reset holds the model's choice. -/
def Obligations.ResetsLeave : Prop :=
  (∀ (v : Word) (s : State), s.clearing = none → v.getLsbD 15 = true →
    ∃ t, exec (.partReset v) s = .next t ∧ t.ColdLaw ∧
      t = { State.reset with
        ram := t.ram, clearing := none, buttons := t.buttons, guards := t.guards, axes := t.axes, stations := t.stations,
        estop := { pin := s.estop.pin, level := false, run := 0 }, cadence := { Cadence.reset with frame := s.cadence.frame },
        pending := s.pending } ∧
      (∀ b, t.button b = { Button.reset with input := { pin := (s.button b).input.pin, level := false, run := 0 } }) ∧
      (∀ g, t.guardLine g = { pin := (s.guardLine g).pin, level := false, run := 0 }) ∧
      (∀ a, t.axis a = { Axis.reset with
        limitLow := { pin := (s.axis a).limitLow.pin, level := false, run := 0 },
        limitHigh := { pin := (s.axis a).limitHigh.pin, level := false, run := 0 },
        homeSwitch := { pin := (s.axis a).homeSwitch.pin, level := false, run := 0 } }) ∧
      (∀ st, t.station st = { Station.reset with frame := (s.station st).frame }) ∧
      t.word addrDeckCtl = s.word addrDeckCtl ∧ t.word addrDeckState = 0 ∧ t.word addrNbState = 0 ∧ t.word addrImageSeq = 0 ∧
      (∀ k < 16384, 4 ≤ k → k < 0x0C70 → t.word k = s.word k) ∧ (∀ k < 16384, 0x0F70 ≤ k → t.word k = s.word k) ∧
      (∀ k < 16384, 0x0C70 ≤ k → k < 0x0D70 → t.word k = 0) ∧
      (∀ (e : ExhibitNo), ∀ k < 8, t.word (addrExhibitImage e + k) = (if k = 1 then 0xFFFF else 0)) ∧
      (∀ (a : AxisNo), ∀ k < 8, t.word (addrAxisImage a + k) = 0)) ∧
  (∀ s : State, ∃ t, exec .powerOnReset s = .next t ∧ t.ColdLaw ∧ t.clearing = some 2 ∧ (∀ k < 16384, t.word k = 0) ∧
    t = { State.reset with
      buttons := t.buttons, guards := t.guards, axes := t.axes, estop := { pin := s.estop.pin, level := false, run := 0 },
      pending := s.pending } ∧
    (∀ b, t.button b = { Button.reset with input := { pin := (s.button b).input.pin, level := false, run := 0 } }) ∧
    (∀ g, t.guardLine g = { pin := (s.guardLine g).pin, level := false, run := 0 }) ∧
    (∀ a, t.axis a = { Axis.reset with
      limitLow := { pin := (s.axis a).limitLow.pin, level := false, run := 0 },
      limitHigh := { pin := (s.axis a).limitHigh.pin, level := false, run := 0 },
      homeSwitch := { pin := (s.axis a).homeSwitch.pin, level := false, run := 0 } })) ∧
  (∀ s : State, s.clearing ≠ none →
    ∃ t, exec .ramClearingEnd s = .next t ∧ t.clearing = none ∧
      (∀ (e : ExhibitNo), ∀ k < 8, t.word (addrExhibitImage e + k) = ((exhibitImage (s.exhibit e) (s.slot e))[k]?).getD 0 ∧
        (s.exhibit e = .reset → s.slot e = .reset → t.word (addrExhibitImage e + k) = (if k = 1 then 0xFFFF else 0))) ∧
      (∀ (a : AxisNo), ∀ k < 8, t.word (addrAxisImage a + k) = ((axisImage (s.axis a))[k]?).getD 0) ∧
      (∀ k < 256, t.word (addrAlertImage + k) = (s.alertImage[k]?).getD 0 ∧ (s.alerts = [] → t.word (addrAlertImage + k) = 0)) ∧
      (∀ k < 16384, Outside addrAlertImage 768 k → t.word k = 0) ∧
      (∀ a, t.axis a = { s.axis a with imageStale := false }) ∧ t = { s with ram := t.ram, clearing := none, axes := t.axes }) ∧
  (∀ s : State, s.clearing = none → exec .ramClearingEnd s = .next s)

/-! ### Orders -/

/-- A cell whose code is not in Table 10-4 is answered UNKNOWN, and nothing else changes (R190). While the part is COLD every known order
but CLEAR COLD is answered COLD, and nothing else changes (R190). That an order row takes the cell at the walk position is the model's
reading (assumption 5), here and in every statement on orders. -/
def Obligations.OrdersTurnedAway : Prop :=
  (∀ (s : State) (code w1 w2 : Nat), s.AtCell code w1 w2 → code ∉ knownOrderCodes →
    ∃ t, exec .unknownOrder s = .next t ∧ s.Answered t code 6 0 ∧ s.OnlyAnswered t) ∧
  (∀ (s : State) (code w1 w2 : Nat), s.AtCell code w1 w2 → code ∈ knownOrderCodes → code ≠ 0x01 → s.part = .cold →
    ∃ t, exec (orderRow code) s = .next t ∧ s.Answered t code 5 0 ∧ s.OnlyAnswered t)

/-- CLEAR COLD in COLD puts the part in RUN, raises BUTTON_STUCK when a button is STUCK and GALLERY_STOP with STOP_ON when the stop is in
force, and configures nothing; in RUN it is answered NOT_NOW (R185). The order of the raises and an act of the alert manager for each are
the model's choice (assumptions 37 and 38); no clause here rests on them. That no STOP_CHANGE is set is its choice too (assumption 39), and
what is said of ATTN rests on it. -/
def Obligations.ClearColdEntersRun : Prop :=
  (∀ (s : State) (w1 w2 : Nat), s.AtCell 0x01 w1 w2 → s.part = .cold → s.alerts = [] →
    ∃ t, exec .clearCold s = .next t ∧ s.Answered t 0x01 0 0 ∧ t.part = .run ∧
      (t.alerts.any (fun x => x.cause == .buttonStuck && x.source == gallerySource) = true ↔
        ∃ b, (s.button b).hold = .stuck) ∧
      (t.alerts.any (fun x => x.cause == .galleryStop && x.source == gallerySource && x.severity == 3) = true ↔
        s.stopInForce = true) ∧
      t.gallery.stopOn = (s.gallery.stopOn || s.stopInForce) ∧
      (∀ k < 16384, s.NotOfCell k → NotOfAlerts k → t.word k = s.word k) ∧
      t = { s with part := t.part, ram := t.ram, deck := t.deck, attn := t.attn, alerts := t.alerts, stations := t.stations,
                   channels := t.channels, nextNumber := t.nextNumber, rewriteCount := t.rewriteCount, gallery := t.gallery }) ∧
  (∀ (s : State) (w1 w2 : Nat), s.AtCell 0x01 w1 w2 → s.part = .run →
    ∃ t, exec .clearCold s = .next t ∧ s.Answered t 0x01 2 0 ∧ s.OnlyAnswered t)

/-- CONFIGURE GALLERY takes the three values when each lies in its range, and answers BAD_VALUE with the number of the first field that does
not (R33). The new values meet the holds under way at once: a WATCHED button at or past the new long threshold gives its long press, a PLAIN
or LONG_GIVEN one at or past the new stuck time, one that has just given its long press among them, is STUCK, and every other hold, timer
and filter stays (R34). CONFIGURE BUTTONS replaces all 256 entries and leaves levels, holds and lockouts alone, or answers BAD_VALUE with
the first button whose entry fails; CONFIGURE GROUPS replaces all members (R31, R32, R43). The order among several buttons that meet the new
values at once is the model's choice (assumption 35); no clause here rests on it. -/
def Obligations.ConfigureGalleryButtonsGroups : Prop :=
  (∀ (s : State) (w1 w2 n l k : Nat), s.AtCell 0x02 w1 w2 → s.part = .run → (s.word 0x0120).toNat = n → (s.word 0x0121).toNat = l →
    (s.word 0x0122).toNat = k →
    ((2 ≤ n ∧ n ≤ 15) ∧ (5 ≤ l ∧ l ≤ 50) ∧ (10 ≤ k ∧ k ≤ 255) →
      ∃ t, exec .configureGallery s = .next t ∧ s.Answered t 0x02 0 0 ∧
        t.params = { debounce := n, longThreshold := l, stuckTime := k } ∧
        ((∀ b, (s.button b).hold = .opened ∨ (s.button b).hold = .stuck) →
          (∀ j < 16384, s.NotOfCell j → t.word j = s.word j) ∧
          t = { s with params := t.params, ram := t.ram, deck := t.deck, attn := t.attn })) ∧
    ((n < 2 ∨ 15 < n) → ∃ t, exec .configureGallery s = .next t ∧ s.Answered t 0x02 4 1 ∧ s.OnlyAnswered t) ∧
    ((2 ≤ n ∧ n ≤ 15) → (l < 5 ∨ 50 < l) →
      ∃ t, exec .configureGallery s = .next t ∧ s.Answered t 0x02 4 2 ∧ s.OnlyAnswered t) ∧
    ((2 ≤ n ∧ n ≤ 15) → (5 ≤ l ∧ l ≤ 50) → (k < 10 ∨ 255 < k) →
      ∃ t, exec .configureGallery s = .next t ∧ s.Answered t 0x02 4 3 ∧ s.OnlyAnswered t)) ∧
  (∀ (s : State) (w1 w2 n l k : Nat), s.AtCell 0x02 w1 w2 → s.part = .run → (s.word 0x0120).toNat = n → (s.word 0x0121).toNat = l →
    (s.word 0x0122).toNat = k → (2 ≤ n ∧ n ≤ 15) ∧ (5 ≤ l ∧ l ≤ 50) ∧ (10 ≤ k ∧ k ≤ 255) →
    ∃ t, exec .configureGallery s = .next t ∧ s.Answered t 0x02 0 0 ∧ t.params = { debounce := n, longThreshold := l, stuckTime := k } ∧
      (∀ b, t.button b = { s.button b with
        lockout := (t.button b).lockout,
        hold := match (s.button b).hold with
          | .watched => if l * 100 ≤ (s.button b).holdTimer then (if k * 1000 ≤ (s.button b).holdTimer then .stuck else .longGiven) else .watched
          | .plain => if k * 1000 ≤ (s.button b).holdTimer then .stuck else .plain
          | .longGiven => if k * 1000 ≤ (s.button b).holdTimer then .stuck else .longGiven
          | other => other } ∧
        ((s.button b).hold ≠ .watched ∨ (s.button b).holdTimer < l * 100 → (t.button b).lockout = (s.button b).lockout)) ∧
      (∀ b, (∀ c, c ≠ b → (s.button c).hold = .opened ∨ (s.button c).hold = .stuck) →
        ((s.button b).hold = .watched → l * 100 ≤ (s.button b).holdTimer → (s.button b).holdTimer < k * 1000 →
          ∃ u, exec (.longPress b) { s with params := t.params } = .next u ∧ t.button b = u.button b ∧ t.alerts = u.alerts ∧
            t.exhibits = u.exhibits ∧ t.stations = u.stations ∧ t.gallery = u.gallery) ∧
        ((s.button b).hold = .plain ∨ (s.button b).hold = .longGiven → k * 1000 ≤ (s.button b).holdTimer →
          ∃ u, exec (.stuck b) { s with params := t.params } = .next u ∧ t.button b = u.button b ∧ t.alerts = u.alerts ∧
            t.exhibits = u.exhibits ∧ t.stations = u.stations ∧ t.gallery = u.gallery))) ∧
  (∀ (s : State) (w1 w2 : Nat), s.AtCell 0x05 w1 w2 → s.part = .run → (∀ b, (s.readButton b).isSome = true) →
    ∃ t, exec .configureButtons s = .next t ∧ s.Answered t 0x05 0 0 ∧
      (∀ b, some (t.button b).entry = s.readButton b ∧ t.button b = { s.button b with entry := (t.button b).entry }) ∧
      (∀ k < 16384, s.NotOfCell k → t.word k = s.word k) ∧
      t = { s with buttons := t.buttons, ram := t.ram, deck := t.deck, attn := t.attn }) ∧
  (∀ (s : State) (w1 w2 : Nat) (b : ButtonNo), s.AtCell 0x05 w1 w2 → s.part = .run → s.readButton b = none →
    (∀ c < b, (s.readButton c).isSome = true) →
    ∃ t, exec .configureButtons s = .next t ∧ s.Answered t 0x05 4 b.val ∧ s.OnlyAnswered t) ∧
  (∀ (s : State) (w1 w2 : Nat), s.AtCell 0x06 w1 w2 → s.part = .run →
    ∃ t, exec .configureGroups s = .next t ∧ s.Answered t 0x06 0 0 ∧
      (∀ (g : Fin 8) (e : ExhibitNo), t.isMember g e = (s.word (0x0B30 + 4 * g.val + e.val / 16)).getLsbD (e.val % 16)) ∧
      (∀ k < 16384, s.NotOfCell k → t.word k = s.word k) ∧
      t = { s with groups := t.groups, ram := t.ram, deck := t.deck, attn := t.attn })

/-- CONFIGURE EXHIBIT: a failing record is answered BAD_VALUE, a state other than OFF, READY and LOCKED NOT_NOW; a taken record with enable
yes becomes the configuration copy and takes the exhibit from OFF to READY, one with enable no takes it to OFF and removes its alerts (R2 to
R4). An exhibit number above 47 is answered BAD_VALUE with detail 0 (R2). The lamp layers at a taken CONFIGURE EXHIBIT: a channel that loses
the role of a show lamp, of the ready lamp or of the beacon lamp has its SHOW, READY or ALERT layer set idle, whether it leaves the exhibit
(R3, R4) or stays in it in another role (R149, R150, assumption 24); the new ready lamp is set by Table 1-7 and the new beacon lamp from the
exhibit's alerts, and one that holds the setting already runs on; nothing else of a channel that is no call lamp changes but its brightness
(R18, R172). That an OFF exhibit holds no configuration copy is the model's reading (assumption 23), and so is that a channel which stays in
its exhibit loses the layer of a role it gives up (assumption 24). -/
def Obligations.ConfigureExhibitTakesRecord : Prop :=
  (∀ (s : State) (e : ExhibitNo) (w2 : Nat), s.AtCell 0x03 e.val w2 → s.part = .run →
    (∀ n ∈ s.exhibitRecordFault e,
      ∃ t, exec .configureExhibit s = .next t ∧ s.Answered t 0x03 4 n ∧ s.OnlyAnswered t) ∧
    (s.exhibitRecordFault e = none → (s.exhibit e).state.takesConfigure = false →
      ∃ t, exec .configureExhibit s = .next t ∧ s.Answered t 0x03 2 (s.exhibit e).state.code ∧ s.OnlyAnswered t) ∧
    (s.exhibitRecordFault e = none → (s.exhibit e).state.takesConfigure = true →
      ∃ t, exec .configureExhibit s = .next t ∧ s.Answered t 0x03 0 0 ∧
        (s.exhibitEnabled e = true → (t.exhibit e).config = some (s.readExhibit e) ∧
          (t.exhibit e).state = (if (s.exhibit e).state = .off then .ready else (s.exhibit e).state) ∧
          (t.exhibit e).guardOpen = s.guardLevel (s.readExhibit e).guard) ∧
        (s.exhibitEnabled e = false → (t.exhibit e).state = .off ∧
          ((s.exhibit e).state ≠ .off → (t.exhibit e).config = none ∧ (t.exhibit e).guardOpen = false ∧
            t.alerts = s.alerts.filter (fun x => x.source != exhibitSource e))) ∧
        (t.exhibit e).accepted = 0 ∧ (t.exhibit e).ignored = 0 ∧ (t.exhibit e).completed = 0 ∧ (∀ f, f ≠ e → t.exhibit f = s.exhibit f) ∧
        (∀ k < 16384, s.NotOfCell k → NotOfAlerts k → OutsideExhibit e k → t.word k = s.word k) ∧
        t = { s with exhibits := t.exhibits, channels := t.channels, alerts := t.alerts, stations := t.stations,
                     rewriteCount := t.rewriteCount, ram := t.ram, deck := t.deck, attn := t.attn })) ∧
  (∀ (s : State) (w1 w2 : Nat), s.AtCell 0x03 w1 w2 → s.part = .run → 47 < w1 →
    ∃ t, exec .configureExhibit s = .next t ∧ s.Answered t 0x03 4 0 ∧ s.OnlyAnswered t) ∧
  (∀ (s : State) (e : ExhibitNo) (w2 : Nat) (old new : Option ExhibitConfig), s.AtCell 0x03 e.val w2 → s.part = .run →
    s.exhibitRecordFault e = none → (s.exhibit e).state.takesConfigure = true →
    old = (if (s.exhibit e).state = .off then none else (s.exhibit e).config) →
    new = (if s.exhibitEnabled e then some (s.readExhibit e) else none) →
    ∃ t, exec .configureExhibit s = .next t ∧ ∀ ch,
      t.channel ch = { s.channel ch with
        showLayer := (t.channel ch).showLayer, readyLayer := (t.channel ch).readyLayer, alertLayer := (t.channel ch).alertLayer,
        brightness := (t.channel ch).brightness } ∧
      (t.channel ch = s.channel ch ∨ (t.channel ch).brightness = combined s.patterns (t.channel ch)) ∧
      (t.channel ch).showLayer = (if old.any (·.namesShowLamp ch) && !new.any (·.namesShowLamp ch) then Layer.reset else (s.channel ch).showLayer) ∧
      (old.bind (·.readyLamp) = some ch → new.bind (·.readyLamp) ≠ some ch → (t.channel ch).readyLayer = Layer.reset) ∧
      (old.bind (·.readyLamp) ≠ some ch → new.bind (·.readyLamp) ≠ some ch → (t.channel ch).readyLayer = (s.channel ch).readyLayer) ∧
      (∀ wanted : Setting, new.bind (·.readyLamp) = some ch →
        wanted = (if (t.exhibit e).guardOpen then .fixed .readyGuard
          else if (t.exhibit e).state = .ready ∧ s.stopInForce = false then .fixed .readySteady else .idle) →
        (t.channel ch).readyLayer =
          (if (s.channel ch).readyLayer.setting = wanted then (s.channel ch).readyLayer else startLayer s.patterns wanted)) ∧
      (∀ wanted : Setting, new.bind (·.beaconLamp) = some ch →
        ((∃ y ∈ t.alerts, y.source = exhibitSource e ∧ y.acked = false ∧ wanted = .fixed (severityPattern y.severity) ∧
            ∀ z ∈ t.alerts, z.source = exhibitSource e → z.acked = false → z.severity ≤ y.severity) ∨
          ((∀ y ∈ t.alerts, y.source = exhibitSource e → y.acked = true) ∧
            ((wanted = .fixed .acknowledged ∧ ∃ y ∈ t.alerts, y.source = exhibitSource e) ∨
              (wanted = .idle ∧ ∀ y ∈ t.alerts, y.source ≠ exhibitSource e)))) →
        (t.channel ch).alertLayer.setting = wanted ∧
        (t.alerts = s.alerts → (s.channel ch).alertLayer.setting = wanted → (t.channel ch).alertLayer = (s.channel ch).alertLayer)) ∧
      ((∀ st, (s.station st).callLamp ≠ some ch) → new.bind (·.beaconLamp) ≠ some ch →
        (t.channel ch).alertLayer = (if old.bind (·.beaconLamp) = some ch then Layer.reset else (s.channel ch).alertLayer)))

/-- CONFIGURE AXIS: a failing record is answered BAD_VALUE, an axis on its way or bound to an exhibit not LOCKED NOT_NOW; a taken record
becomes the configuration copy, takes an OFF axis to UNHOMED, sets the mark sides afresh and keeps positions and homed flag (R78, R79). An
axis number above 15 is answered BAD_VALUE with detail 0 (R78). A CONFIGURE AXIS that changes a mark side, the first setting of a side among
them, rewrites the image of the axis (R79, R96). -/
def Obligations.ConfigureAxisTakesRecord : Prop :=
  (∀ (s : State) (a : AxisNo) (w2 : Nat), s.AtCell 0x04 a.val w2 → s.part = .run →
    (∀ n ∈ s.axisRecordFault a,
      ∃ t, exec .configureAxis s = .next t ∧ s.Answered t 0x04 4 n ∧ s.OnlyAnswered t) ∧
    (s.axisRecordFault a = none → s.axisHeld a = true ∨ (s.axis a).state.busy = true →
      ∃ t, exec .configureAxis s = .next t ∧ s.Answered t 0x04 2 (s.axis a).state.code ∧ s.OnlyAnswered t) ∧
    (s.axisRecordFault a = none → s.axisHeld a = false → (s.axis a).state.busy = false →
      ∃ t, exec .configureAxis s = .next t ∧ s.Answered t 0x04 0 0 ∧
        t.axis a = { s.axis a with
          config := some (s.readAxis a), followRun := 0, imageStale := (t.axis a).imageStale,
          state := if (s.axis a).state = .off then .unhomed else (s.axis a).state,
          homed := (s.axis a).homed && (s.axis a).state != .off, sides := (t.axis a).sides } ∧
        (∀ m : Fin 4, tget (t.axis a).sides m = (tget (s.readAxis a).marks m).map (fun k => sideOf k (s.axis a).pos)) ∧
        s.OtherAxes t a ∧ (∀ k < 16384, s.NotOfCell k → OutsideAxis a k → t.word k = s.word k) ∧
        t = { s with axes := t.axes, ram := t.ram, deck := t.deck, attn := t.attn })) ∧
  (∀ (s : State) (w1 w2 : Nat), s.AtCell 0x04 w1 w2 → s.part = .run → 15 < w1 →
    ∃ t, exec .configureAxis s = .next t ∧ s.Answered t 0x04 4 0 ∧ s.OnlyAnswered t) ∧
  (∀ (s : State) (a : AxisNo) (w2 : Nat), s.AtCell 0x04 a.val w2 → s.part = .run → s.axisRecordFault a = none → s.axisHeld a = false →
    (s.axis a).state.busy = false →
    ∃ t, exec .configureAxis s = .next t ∧
      ((t.axis a).sides ≠ (s.axis a).sides → ∀ k < 8, t.word (addrAxisImage a + k) = ((axisImage (t.axis a))[k]?).getD 0))

/-- CONFIGURE LAMPS replaces the pattern table and the channel copies; a layer keeps its setting, and its phase unless its table entry was
replaced. A failing record is answered BAD_VALUE (R151, R152). CONFIGURE STATIONS replaces the station table copy and moves no entry: the
list, the shown alerts and the holdoffs stay. The ALERT layer of a call lamp of the new table is set from the entry its station shows, that
of a channel which is no call lamp any more is set idle, a layer that holds that setting already runs on, and nothing else of any channel
changes but its brightness. A failing record is answered BAD_VALUE (R164, R173, R174). -/
def Obligations.ConfigureLampsStations : Prop :=
  (∀ (s : State) (w1 w2 : Nat), s.AtCell 0x07 w1 w2 → s.part = .run →
    (∀ n ∈ s.lampRecordFault,
      ∃ t, exec .configureLamps s = .next t ∧ s.Answered t 0x07 4 n ∧ s.OnlyAnswered t) ∧
    (s.lampRecordFault = none →
      ∃ t, exec .configureLamps s = .next t ∧ s.Answered t 0x07 0 0 ∧ (∀ p, some (tget t.patterns p) = s.readPattern p) ∧
        (∀ ch, some (t.channel ch).combine = s.readCombine ch ∧
          (t.channel ch).idleLevel = (s.word (addrChannel ch + 1)).toNat % 256 ∧
          (t.channel ch).brightness = combined t.patterns (t.channel ch) ∧ (t.channel ch).output = (s.channel ch).output ∧
          ∀ name ∈ [LayerName.alertLayer, .showLayer, .readyLayer], ((t.channel ch).layer name).setting = ((s.channel ch).layer name).setting ∧
            ((∀ p, ((s.channel ch).layer name).setting = .table p → (tget s.patterns p).replacedBy (tget t.patterns p) = false) →
              (t.channel ch).layer name = (s.channel ch).layer name) ∧
            (∀ p, ((s.channel ch).layer name).setting = .table p → (tget s.patterns p).replacedBy (tget t.patterns p) = true →
              ((t.channel ch).layer name).phase = (tget t.patterns p).startPhase)) ∧
        (∀ k < 16384, s.NotOfCell k → t.word k = s.word k) ∧
        t = { s with patterns := t.patterns, channels := t.channels, ram := t.ram, deck := t.deck, attn := t.attn })) ∧
  (∀ (s : State) (w1 w2 : Nat), s.AtCell 0x08 w1 w2 → s.part = .run →
    (∀ n ∈ s.stationRecordFault,
      ∃ t, exec .configureStations s = .next t ∧ s.Answered t 0x08 4 n ∧ s.OnlyAnswered t) ∧
    (s.stationRecordFault = none →
      ∃ t, exec .configureStations s = .next t ∧ s.Answered t 0x08 0 0 ∧
        (∀ st : StationNo, t.station st = { s.station st with
          routeMask := (s.word (addrStation st)).setWidth 8,
          target := index? 4 (s.word (addrStation st + 1)).toNat,
          escalationTime := (s.word (addrStation st + 2)).toNat,
          callLamp := index? 64 (s.word (addrStation st + 3)).toNat,
          displayEnable := s.word (addrStation st + 4) == 1,
          displayNumber := (t.displayValues st).1, displaySeverity := (t.displayValues st).2 }) ∧
        (∀ ch, t.channel ch = { s.channel ch with alertLayer := (t.channel ch).alertLayer, brightness := (t.channel ch).brightness } ∧
          (∀ (wanted : Setting), (∃ st, (t.station st).callLamp = some ch ∧
                ((s.shownAlert st = none ∧ wanted = .idle) ∨ ∃ x ∈ s.shownAlert st, wanted = .fixed (severityPattern x.severity))) ∨
              ((∃ st, (s.station st).callLamp = some ch) ∧ (∀ st, (t.station st).callLamp ≠ some ch) ∧ wanted = .idle) →
            ((s.channel ch).alertLayer.setting = wanted → t.channel ch = s.channel ch) ∧
            ((s.channel ch).alertLayer.setting ≠ wanted → (t.channel ch).alertLayer = startLayer s.patterns wanted ∧
              (t.channel ch).brightness = combined s.patterns (t.channel ch))) ∧
          ((∀ st, (s.station st).callLamp ≠ some ch ∧ (t.station st).callLamp ≠ some ch) → t.channel ch = s.channel ch)) ∧
        (∀ k < 16384, s.NotOfCell k → t.word k = s.word k) ∧
        t = { s with stations := t.stations, channels := t.channels, ram := t.ram, deck := t.deck, attn := t.attn }))

/-- START SHOW, RESUME, HALT and CANCEL are answered in the precedence BAD_VALUE, ABSENT, PENDING, NOT_NOW, TAKEN, and one that is not taken
has no effect (R71). -/
def Obligations.ShowOrdersAnswered : Prop :=
  ∀ (s : State) (code w1 w2 : Nat), s.AtCell code w1 w2 → s.part = .run → 0x10 ≤ code → code ≤ 0x13 →
    (47 < w1 ∨ (code = 0x10 ∧ 12287 < w2 ∧ w2 ≠ 65535) →
      ∃ t, exec (orderRow code) s = .next t ∧ s.Answered t code 4 0 ∧ s.OnlyAnswered t) ∧
    (∀ e : ExhibitNo, w1 = e.val → (code = 0x10 → w2 ≤ 12287 ∨ w2 = 65535) →
      (s.ShowAbsent code e → ∃ t, exec (orderRow code) s = .next t ∧ s.Answered t code 3 0 ∧ s.OnlyAnswered t) ∧
      (¬ s.ShowAbsent code e → s.ShowPending code e →
        ∃ t, exec (orderRow code) s = .next t ∧ s.Answered t code 1 (s.source e).conditionSet ∧ s.OnlyAnswered t) ∧
      (¬ s.ShowAbsent code e → ¬ s.ShowPending code e → s.ShowNotNow code e →
        ∃ t, exec (orderRow code) s = .next t ∧ s.Answered t code 2 (s.exhibit e).state.code ∧ s.OnlyAnswered t) ∧
      (¬ s.ShowAbsent code e → ¬ s.ShowPending code e → ¬ s.ShowNotNow code e →
        ∃ t, exec (orderRow code) s = .next t ∧ s.Answered t code 0 0))

/-- A taken START SHOW puts the exhibit in RUNNING and its slot at the order's address, or at the default show; when a WAIT_TIME step stands
there the show waits at it (R46, R59, R72). A taken RESUME returns the exhibit to RUNNING and fetches the held step anew; a WAIT_TIME step
found there is executed and waits, a step that still carries SUSPEND is held again at once, the exhibit SUSPENDED with that condition set
again, and a step edited into an invalid one ends the show with its fault (R73). -/
def Obligations.StartAndResume : Prop :=
  (∀ (s : State) (e : ExhibitNo) (w2 d : Nat) (c : ExhibitConfig), s.AtCell 0x10 e.val w2 → s.part = .run →
    (s.exhibit e).config = some c → (s.exhibit e).state = .ready ∨ (s.exhibit e).state = .resting →
    ¬ s.ShowPending 0x10 e → (s.exhibit e).guardOpen = false → s.stopInForce = false → w2 ≤ 12287 ∨ w2 = 65535 →
    s.TimeStepAt (if w2 = 65535 then c.defaultShow else w2) d →
    ∃ t, exec .startShow s = .next t ∧ s.Answered t 0x10 0 0 ∧
      t.exhibit e = { s.exhibit e with state := .running, encore := false, rest := none, guardAlert := none, returnState := none } ∧
      (t.slot e).WaitsTime (if w2 = 65535 then c.defaultShow else w2) d ∧ (t.slot e).loopCount = 0 ∧ (t.slot e).firstFault = none ∧
      t.sources = s.sources ∧ s.OtherExhibits t e ∧ (∀ ch, c.readyLamp = some ch → (t.channel ch).readyLayer.setting = .idle) ∧
      (∀ ch, c.readyLamp ≠ some ch → t.channel ch = s.channel ch) ∧
      (∀ k < 16384, s.NotOfCell k → OutsideExhibit e k → t.word k = s.word k) ∧
      t = { s with exhibits := t.exhibits, slots := t.slots, channels := t.channels, ram := t.ram, deck := t.deck, attn := t.attn }) ∧
  (∀ (s : State) (e : ExhibitNo) (w2 a d : Nat) (c : ExhibitConfig), s.AtCell 0x11 e.val w2 → s.part = .run →
    (s.exhibit e).config = some c → (s.exhibit e).state = .suspended → ¬ s.ShowPending 0x11 e → s.stopInForce = false →
    (s.slot e).current = some a → (s.slot e).frozen = false →
    (s.TimeStepAt a d →
      ∃ t, exec .resume s = .next t ∧ s.Answered t 0x11 0 0 ∧
        t.exhibit e = { s.exhibit e with state := .running, rest := none, guardAlert := none, returnState := none } ∧
        (t.slot e).WaitsTime a d ∧ (t.slot e).loopCount = (s.slot e).loopCount ∧ (t.slot e).loopStart = (s.slot e).loopStart ∧
        (t.slot e).firstFault = (s.slot e).firstFault ∧ t.sources = s.sources ∧ s.OtherExhibits t e ∧
        (∀ ch, c.readyLamp ≠ some ch → t.channel ch = s.channel ch) ∧
        (∀ k < 16384, s.NotOfCell k → OutsideExhibit e k → t.word k = s.word k) ∧
        t = { s with exhibits := t.exhibits, slots := t.slots, channels := t.channels, ram := t.ram, deck := t.deck, attn := t.attn }) ∧
    (bit (s.storeWord a) 9 = true → s.PassesChecks e c a → c.suspendAllowed = true →
      ∃ t, exec .resume s = .next t ∧ s.Answered t 0x11 0 0 ∧
        t.exhibit e = { s.exhibit e with rest := none, guardAlert := none, returnState := none } ∧
        t.slot e = { s.slot e with status := some .held, runaway := 0 } ∧
        t.source e = { s.source e with suspended := true } ∧ s.OtherExhibits t e ∧
        (∀ ch, c.readyLamp ≠ some ch → t.channel ch = s.channel ch) ∧
        (∀ k < 16384, s.NotOfCell k → OutsideExhibit e k → t.word k = s.word k) ∧
        t = { s with exhibits := t.exhibits, slots := t.slots, sources := t.sources, channels := t.channels, ram := t.ram,
                     deck := t.deck, attn := t.attn }) ∧
    (∀ f : ShowFault,
      (f = .storeEnd ∧ (a = 12288 ∨ (a = 12287 ∧ bits (s.storeWord a) 10 6 = 5))) ∨
        (f = .stepInvalid ∧ a + 2 ≤ 12288 ∧
          (12 < bits (s.storeWord a) 10 6 ∨ (bits (s.storeWord a) 10 6 = 5 ∧ (s.storeWord (a + 1)).toNat = 0))) →
      (s.slot e).firstFault = none → s.someAxisBusy e = false → s.pool.waiting = [] →
      ∃ t, exec .resume s = .next t ∧ s.Answered t 0x11 0 0 ∧ (t.exhibit e).state = .faulted ∧ (t.exhibit e).encore = false ∧
        (t.slot e).current = none ∧ (t.slot e).firstFault = some { code := f, address := a } ∧
        t.source e = { s.source e with faulted := some { code := some f, address := a } } ∧ s.OtherExhibits t e ∧
        s.OnlyResumeDropped t (s.boundAxes e) ∧ t.pool = s.pool))

/-- A taken HALT empties the slot, sets idle the show lamps and drops the encore flag: with the bound axes at rest the exhibit enters READY
with HALTED set; with one MOVING, a RUNNING or SUSPENDED exhibit enters HALTING and the axis makes a controlled stop. With bound axes in any
state, one in HOMING quick-stops unhomed and one in AWAIT_POWER leaves the list; only MOVING and STOPPING axes make a RUNNING or SUSPENDED
exhibit HALTING, and a GUARDED one enters READY with HALTED at once (R69, R70, R74). A taken CANCEL discards a SUSPENDED show without a
condition, its bound axes dealt with as HALT deals with them and the exhibit READY at once, and of any other show it drops only the encore
flag (R75). -/
def Obligations.HaltAndCancel : Prop :=
  (∀ (s : State) (e : ExhibitNo) (w2 : Nat) (c : ExhibitConfig), s.AtCell 0x12 e.val w2 → s.part = .run →
    (s.exhibit e).config = some c → s.pool.waiting = [] →
    ((s.exhibit e).state = .running ∨ (s.exhibit e).state = .suspended ∨ (s.exhibit e).state = .guarded → s.someAxisBusy e = false →
      ∃ t, exec .halt s = .next t ∧ s.Answered t 0x12 0 0 ∧
        t.exhibit e = { s.exhibit e with state := .ready, encore := false, rest := none, guardAlert := none, returnState := none } ∧
        t.slot e = { s.slot e with current := none, status := none, wait := none, loopCount := 0, runaway := 0, frozen := false } ∧
        t.source e = { s.source e with halted := true } ∧ s.OtherExhibits t e ∧ s.OnlyResumeDropped t (s.boundAxes e) ∧
        (∀ ch, c.namesShowLamp ch = true → (t.channel ch).showLayer.setting = .idle) ∧
        (∀ ch, c.namesChannel ch = false → t.channel ch = s.channel ch) ∧
        (∀ k < 16384, s.NotOfCell k → OutsideExhibit e k → t.word k = s.word k) ∧
        t = { s with exhibits := t.exhibits, slots := t.slots, sources := t.sources, axes := t.axes, channels := t.channels,
                     ram := t.ram, deck := t.deck, attn := t.attn }) ∧
    ((s.exhibit e).state = .running ∨ (s.exhibit e).state = .suspended → (∃ a ∈ s.boundAxes e, (s.axis a).state = .moving) →
      (∀ a ∈ s.boundAxes e, (s.axis a).state ≠ .homing ∧ (s.axis a).state ≠ .awaitPower) →
      ∃ t, exec .halt s = .next t ∧ s.Answered t 0x12 0 0 ∧
        t.exhibit e = { s.exhibit e with state := .halting, encore := false, rest := none, guardAlert := none, returnState := none } ∧
        (t.slot e).current = none ∧ t.sources = s.sources ∧ s.OtherExhibits t e ∧
        (∀ a ∈ s.boundAxes e, (s.axis a).state = .moving →
          (t.axis a).state = .stopping ∧ (t.axis a).request = none ∧ (t.axis a).vel = (s.axis a).vel ∧
            (t.axis a).stopBound = (s.axis a).boundOfStop) ∧
        (∀ a ∈ s.boundAxes e, (s.axis a).state = .stopping → (t.axis a).state = .stopping ∧ (t.axis a).request = none) ∧
        (∀ a, a ∉ s.boundAxes e → t.axis a = s.axis a) ∧ t.pool = s.pool)) ∧
  (∀ (s : State) (e : ExhibitNo) (w2 : Nat) (c : ExhibitConfig), s.AtCell 0x12 e.val w2 → s.part = .run →
    (s.exhibit e).config = some c →
    (s.exhibit e).state = .running ∨ (s.exhibit e).state = .suspended ∨ (s.exhibit e).state = .guarded →
    (∀ a ∈ s.boundAxes e, s.axisOwner a = some e) → (s.boundAxes e).Nodup → s.WaitLaw →
    (∀ w ∈ s.pool.waiting, w.axis ∈ s.boundAxes e) →
    ∃ t, exec .halt s = .next t ∧ s.Answered t 0x12 0 0 ∧
      t.exhibit e = { s.exhibit e with
        state := if s.HaltAwaitsAxes e then .halting else .ready, encore := false, rest := none, guardAlert := none, returnState := none } ∧
      t.source e = (if s.HaltAwaitsAxes e then s.source e else { s.source e with halted := true }) ∧
      t.slot e = { s.slot e with current := none, status := none, wait := none, loopCount := 0, runaway := 0, frozen := false } ∧
      s.OtherExhibits t e ∧ (∀ a ∈ s.boundAxes e, s.HaltedAxis t a ∧ (t.axis a).resume = none) ∧
      (∀ a, a ∉ s.boundAxes e → t.axis a = s.axis a) ∧ t.pool.waiting = [] ∧
      (∀ a, tget t.pool.held a = (if a ∈ s.boundAxes e ∧ (s.axis a).state = .homing then 0 else tget s.pool.held a)) ∧
      t.pool.free + t.unitsHeld = s.pool.free + s.unitsHeld ∧
      (∀ ch, c.namesShowLamp ch = true → (t.channel ch).showLayer.setting = .idle) ∧
      (∀ ch, c.namesChannel ch = false → t.channel ch = s.channel ch) ∧
      (∀ k < 16384, s.NotOfCell k → OutsideExhibit e k → (∀ a ∈ s.boundAxes e, OutsideAxis a k) → t.word k = s.word k) ∧
      t = { s with exhibits := t.exhibits, slots := t.slots, sources := t.sources, axes := t.axes, pool := t.pool,
                   channels := t.channels, ram := t.ram, deck := t.deck, attn := t.attn }) ∧
  (∀ (s : State) (e : ExhibitNo) (w2 : Nat) (c : ExhibitConfig), s.AtCell 0x13 e.val w2 → s.part = .run →
    (s.exhibit e).config = some c →
    ((s.exhibit e).state = .suspended → s.someAxisBusy e = false → s.pool.waiting = [] →
      ∃ t, exec .cancel s = .next t ∧ s.Answered t 0x13 0 0 ∧
        t.exhibit e = { s.exhibit e with state := .ready, encore := false, rest := none, guardAlert := none, returnState := none } ∧
        t.slot e = { s.slot e with current := none, status := none, wait := none, loopCount := 0, runaway := 0, frozen := false } ∧
        t.sources = s.sources ∧ s.OtherExhibits t e ∧
        (∀ ch, c.namesShowLamp ch = true → (t.channel ch).showLayer.setting = .idle) ∧
        (∀ ch, c.namesChannel ch = false → t.channel ch = s.channel ch) ∧
        (∀ k < 16384, s.NotOfCell k → OutsideExhibit e k → t.word k = s.word k) ∧
        t = { s with exhibits := t.exhibits, slots := t.slots, channels := t.channels, ram := t.ram, deck := t.deck, attn := t.attn }) ∧
    ((s.exhibit e).state = .running ∨ (s.exhibit e).state = .guarded ∨ (s.exhibit e).state = .resting → (s.exhibit e).encore = true →
      ∃ t, exec .cancel s = .next t ∧ s.Answered t 0x13 0 0 ∧ t.exhibit e = { s.exhibit e with encore := false } ∧
        (∀ f, f ≠ e → t.exhibit f = s.exhibit f) ∧ (∀ k < 16384, s.NotOfCell k → OutsideExhibit e k → t.word k = s.word k) ∧
        t = { s with exhibits := t.exhibits, ram := t.ram, deck := t.deck, attn := t.attn })) ∧
  (∀ (s : State) (e : ExhibitNo) (w2 : Nat) (c : ExhibitConfig), s.AtCell 0x13 e.val w2 → s.part = .run →
    (s.exhibit e).config = some c → (s.exhibit e).state = .suspended →
    (∀ a ∈ s.boundAxes e, s.axisOwner a = some e) → (s.boundAxes e).Nodup → s.WaitLaw →
    (∀ w ∈ s.pool.waiting, w.axis ∈ s.boundAxes e) →
    ∃ t, exec .cancel s = .next t ∧ s.Answered t 0x13 0 0 ∧
      t.exhibit e = { s.exhibit e with state := .ready, encore := false, rest := none, guardAlert := none, returnState := none } ∧
      t.slot e = { s.slot e with current := none, status := none, wait := none, loopCount := 0, runaway := 0, frozen := false } ∧
      t.sources = s.sources ∧ s.OtherExhibits t e ∧
      (∀ a ∈ s.boundAxes e, s.HaltedAxis t a ∧ (t.axis a).resume = (s.axis a).resume) ∧
      (∀ a, a ∉ s.boundAxes e → t.axis a = s.axis a) ∧ t.pool.waiting = [] ∧
      (∀ a, tget t.pool.held a = (if a ∈ s.boundAxes e ∧ (s.axis a).state = .homing then 0 else tget s.pool.held a)) ∧
      t.pool.free + t.unitsHeld = s.pool.free + s.unitsHeld ∧
      (∀ ch, c.namesShowLamp ch = true → (t.channel ch).showLayer.setting = .idle) ∧
      (∀ ch, c.namesChannel ch = false → t.channel ch = s.channel ch) ∧
      (∀ k < 16384, s.NotOfCell k → OutsideExhibit e k → (∀ a ∈ s.boundAxes e, OutsideAxis a k) → t.word k = s.word k) ∧
      t = { s with exhibits := t.exhibits, slots := t.slots, axes := t.axes, pool := t.pool, channels := t.channels, ram := t.ram,
                   deck := t.deck, attn := t.attn })

/-- LOCK, UNLOCK, RESTORE and CLEAR are answered BAD_VALUE above exhibit 47, ABSENT for an OFF exhibit, NOT_NOW in a state that does not
take the order, and TAKEN otherwise, whether or not the gallery stop is in force (R13). -/
def Obligations.MaintenanceOrdersAnswered : Prop :=
  ∀ (s : State) (code w1 w2 : Nat), s.AtCell code w1 w2 → s.part = .run → 0x14 ≤ code → code ≤ 0x17 →
    (47 < w1 → ∃ t, exec (orderRow code) s = .next t ∧ s.Answered t code 4 0 ∧ s.OnlyAnswered t) ∧
    (∀ e : ExhibitNo, w1 = e.val →
      ((s.exhibit e).state = .off → ∃ t, exec (orderRow code) s = .next t ∧ s.Answered t code 3 0 ∧ s.OnlyAnswered t) ∧
      ((s.exhibit e).state ≠ .off → ¬ (s.exhibit e).state.Maintained code →
        ∃ t, exec (orderRow code) s = .next t ∧ s.Answered t code 2 (s.exhibit e).state.code ∧ s.OnlyAnswered t) ∧
      ((s.exhibit e).state.Maintained code → ∃ t, exec (orderRow code) s = .next t ∧ s.Answered t code 0 0))

/-- LOCK takes the exhibit to LOCKED with the rest timer stopped and the encore flag dropped; UNLOCK takes it to READY with its first fault
and its fault alerts gone, or to FAULTED, with that condition set, when a bound axis is FAULTED (R14, R15). -/
def Obligations.LockAndUnlock : Prop :=
  (∀ (s : State) (e : ExhibitNo) (w2 : Nat), s.AtCell 0x15 e.val w2 → s.part = .run →
    (s.exhibit e).state = .ready ∨ (s.exhibit e).state = .resting ∨ (s.exhibit e).state = .faulted →
    ∃ t, exec .lock s = .next t ∧ s.Answered t 0x15 0 0 ∧
      t.exhibit e = { s.exhibit e with state := .locked, encore := false, rest := none, guardAlert := none, returnState := none } ∧
      (∀ f, f ≠ e → t.exhibit f = s.exhibit f) ∧
      (∀ ch, (s.exhibit e).config.bind (·.readyLamp) ≠ some ch → t.channel ch = s.channel ch) ∧
      (∀ k < 16384, s.NotOfCell k → OutsideExhibit e k → t.word k = s.word k) ∧
      t = { s with exhibits := t.exhibits, channels := t.channels, ram := t.ram, deck := t.deck, attn := t.attn }) ∧
  (∀ (s : State) (e : ExhibitNo) (w2 : Nat), s.AtCell 0x16 e.val w2 → s.part = .run → (s.exhibit e).state = .locked →
    ∃ t, exec .unlock s = .next t ∧ s.Answered t 0x16 0 0 ∧ s.OtherExhibits t e ∧
      (s.someAxisFaulted e = false → (t.exhibit e).state = .ready ∧ (t.slot e).firstFault = none ∧ t.sources = s.sources ∧
        t.axes = s.axes ∧ t.alerts = s.alerts.filter
          (fun x => !(x.source == exhibitSource e && (x.cause == .axisFault || x.cause == .showFault)))) ∧
      (s.someAxisFaulted e = true → (t.exhibit e).state = .faulted ∧ t.slot e = s.slot e ∧ t.alerts = s.alerts ∧
        t.source e = { s.source e with faulted := some (FaultNote.mk ((s.slot e).firstFault.map (·.code))
          (((s.slot e).firstFault.map (·.address)).getD 0xFFFF)) }) ∧
      (∀ k < 16384, s.NotOfCell k → NotOfAlerts k → OutsideExhibit e k → t.word k = s.word k) ∧
      t = { s with exhibits := t.exhibits, slots := t.slots, sources := t.sources, axes := t.axes, channels := t.channels,
                   alerts := t.alerts, stations := t.stations, rewriteCount := t.rewriteCount, ram := t.ram, deck := t.deck,
                   attn := t.attn })

/-- RESTORE takes each FAULTED bound axis out of its fault, removes the exhibit's fault alerts, clears the first fault and enters READY
(R16, R94). CLEAR brings an exhibit whose bound axes are at rest to READY, or leaves it LOCKED: slot emptied, conditions, first fault,
timers, encore flag, resume records and alerts gone, the guard-open attribute set from the guard line, counters kept (R17). CLEAR of an
exhibit with bound axes on their way or in fault: one in HOMING, MOVING or STOPPING is quick-stopped where its model is, one that waits
leaves the list, one in fault leaves it, a TRAVEL finding among them, with no report and no alert; HOMING and a position outside the window
lead to UNHOMED (R17, R89, R94). That CLEAR does the same in LOCKED, P on entering UNHOMED, and the order among axes are the model's reading
(assumptions 14, 16 and 25). -/
def Obligations.RestoreAndClear : Prop :=
  (∀ (s : State) (e : ExhibitNo) (w2 : Nat), s.AtCell 0x17 e.val w2 → s.part = .run → (s.exhibit e).state = .faulted →
    (s.slot e).current = none → (∀ a ∈ s.boundAxes e, s.axisOwner a = some e) →
    ∃ t, exec .restore s = .next t ∧ s.Answered t 0x17 0 0 ∧ (t.exhibit e).state = .ready ∧ (t.slot e).firstFault = none ∧
      t.sources = s.sources ∧ s.OtherExhibits t e ∧
      (∀ a ∈ s.boundAxes e, (s.axis a).state = .faulted →
        ((s.axis a).cause ≠ some .homeFail → (s.axis a).homed = true → (s.axis a).inWindow (s.axis a).pos = true →
          (t.axis a).state = .idle ∧ (t.axis a).pos = (s.axis a).pos ∧ (t.axis a).homed = true) ∧
        ((s.axis a).cause = some .homeFail ∨ (s.axis a).homed = false ∨ (s.axis a).inWindow (s.axis a).pos = false →
          (t.axis a).state = .unhomed ∧ (t.axis a).pos = (s.axis a).encoder ∧ (t.axis a).homed = false) ∧
        (t.axis a).cause = none) ∧
      (∀ a, a ∉ s.boundAxes e ∨ (s.axis a).state ≠ .faulted → t.axis a = s.axis a) ∧ t.pool = s.pool ∧
      t.alerts = s.alerts.filter (fun x => !(x.source == exhibitSource e && (x.cause == .axisFault || x.cause == .showFault))) ∧
      (∀ k < 16384, s.NotOfCell k → NotOfAlerts k → OutsideExhibit e k → (∀ a ∈ s.boundAxes e, OutsideAxis a k) → t.word k = s.word k) ∧
      t = { s with exhibits := t.exhibits, slots := t.slots, axes := t.axes, channels := t.channels, alerts := t.alerts,
                   stations := t.stations, rewriteCount := t.rewriteCount, ram := t.ram, deck := t.deck, attn := t.attn }) ∧
  (∀ (s : State) (e : ExhibitNo) (w2 : Nat) (c : ExhibitConfig), s.AtCell 0x14 e.val w2 → s.part = .run →
    (s.exhibit e).config = some c → (s.exhibit e).state ≠ .off → s.someAxisBusy e = false → s.someAxisFaulted e = false →
    s.pool.waiting = [] →
    ∃ t, exec .clear s = .next t ∧ s.Answered t 0x14 0 0 ∧
      t.exhibit e = { s.exhibit e with
        state := if (s.exhibit e).state = .locked then .locked else .ready, encore := false, rest := none, settle := none,
        guardAlert := none, returnState := none, guardOpen := s.guardLevel c.guard } ∧
      t.slot e = { s.slot e with
        current := none, status := none, wait := none, loopCount := 0, runaway := 0, frozen := false, firstFault := none } ∧
      t.source e = .reset ∧ s.OtherExhibits t e ∧ t.gallery = s.gallery ∧ s.OnlyResumeDropped t (s.boundAxes e) ∧ t.pool = s.pool ∧
      t.alerts = s.alerts.filter (fun x => x.source != exhibitSource e) ∧
      (∀ ch, c.namesShowLamp ch = true → (t.channel ch).showLayer.setting = .idle) ∧
      (∀ k < 16384, s.NotOfCell k → NotOfAlerts k → OutsideExhibit e k → t.word k = s.word k) ∧
      t = { s with exhibits := t.exhibits, slots := t.slots, sources := t.sources, axes := t.axes, channels := t.channels,
                   alerts := t.alerts, stations := t.stations, rewriteCount := t.rewriteCount, ram := t.ram, deck := t.deck,
                   attn := t.attn }) ∧
  (∀ (s : State) (e : ExhibitNo) (w2 : Nat) (c : ExhibitConfig), s.AtCell 0x14 e.val w2 → s.part = .run → (s.exhibit e).config = some c →
    (s.exhibit e).state ≠ .off → (∀ a ∈ s.boundAxes e, s.axisOwner a = some e) → (s.boundAxes e).Nodup → s.WaitLaw →
    (∀ w ∈ s.pool.waiting, w.axis ∈ s.boundAxes e) →
    ∃ t, exec .clear s = .next t ∧ s.Answered t 0x14 0 0 ∧
      t.exhibit e = { s.exhibit e with
        state := if (s.exhibit e).state = .locked then .locked else .ready, encore := false, rest := none, settle := none,
        guardAlert := none, returnState := none, guardOpen := s.guardLevel c.guard } ∧
      (t.slot e).current = none ∧ (t.slot e).firstFault = none ∧ t.source e = .reset ∧ s.OtherExhibits t e ∧ t.gallery = s.gallery ∧
      t.alerts = s.alerts.filter (fun x => x.source != exhibitSource e) ∧ t.pool.waiting = [] ∧
      (∀ a, tget t.pool.held a = (if a ∈ s.boundAxes e ∧ (s.axis a).state.drives = true then 0 else tget s.pool.held a)) ∧
      t.pool.free + t.unitsHeld = s.pool.free + s.unitsHeld ∧
      (∀ a ∈ s.boundAxes e, (t.axis a).resume = none ∧
        ((s.axis a).state = .off ∨ (s.axis a).state = .unhomed ∨ (s.axis a).state = .idle → t.axis a = { s.axis a with resume := none }) ∧
        ((s.axis a).state.drives = true → (t.axis a).pos = (s.axis a).encoder ∧ (t.axis a).vel = 0 ∧ (t.axis a).dir = none ∧
          (t.axis a).move = none ∧ (t.axis a).request = none) ∧
        ((s.axis a).state = .moving ∨ (s.axis a).state = .stopping → (s.axis a).homed = true →
          (t.axis a).state = (if (s.axis a).inWindow (s.axis a).encoder then .idle else .unhomed) ∧
          (t.axis a).homed = (s.axis a).inWindow (s.axis a).encoder) ∧
        ((s.axis a).state = .homing → (t.axis a).state = .unhomed ∧ (t.axis a).homed = false) ∧
        ((s.axis a).state = .awaitPower → (t.axis a).request = none ∧ (t.axis a).homed = (s.axis a).homed ∧
          (t.axis a).state = (if (s.axis a).homed then .idle else .unhomed)) ∧
        ((s.axis a).state = .faulted → (t.axis a).cause = none ∧
          (t.axis a).homed = ((s.axis a).cause != some .homeFail && (s.axis a).homed && (s.axis a).inWindow (s.axis a).pos) ∧
          (t.axis a).state = (if (t.axis a).homed then .idle else .unhomed) ∧
          (t.axis a).pos = (if (t.axis a).homed then (s.axis a).pos else (s.axis a).encoder))) ∧
      (∀ a, a ∉ s.boundAxes e → t.axis a = s.axis a) ∧
      (∀ k < 16384, s.NotOfCell k → NotOfAlerts k → OutsideExhibit e k → (∀ a ∈ s.boundAxes e, OutsideAxis a k) → t.word k = s.word k) ∧
      t = { s with exhibits := t.exhibits, slots := t.slots, sources := t.sources, axes := t.axes, pool := t.pool, channels := t.channels,
                   alerts := t.alerts, stations := t.stations, rewriteCount := t.rewriteCount, ram := t.ram, deck := t.deck, attn := t.attn })

/-- HOME, MOVE, STOP AXIS and RESTORE AXIS are answered COLD while the part is COLD, BAD_VALUE above axis 15, and NOT_NOW with the axis
state for an axis of an exhibit not LOCKED (HOME, MOVE, STOP AXIS), under the gallery stop (HOME, MOVE) and for an OFF axis; none of these
has an effect (R97). By the axis state, HOME is answered NOT_NOW in every state but UNHOMED and IDLE, and MOVE in OFF, UNHOMED, HOMING,
FAULTED and in AWAIT_POWER with a pending home, with no effect (R98, R104, R105). -/
def Obligations.AxisOrdersTurnedAway : Prop :=
  (∀ (s : State) (code w1 w2 n : Nat), s.AtCell code w1 w2 → 0x20 ≤ code → code ≤ 0x23 → n = (if code = 0x21 then w1 / 1024 else w1) →
    (s.part = .cold → ∃ t, exec (orderRow code) s = .next t ∧ s.Answered t code 5 0 ∧ s.OnlyAnswered t) ∧
    (s.part = .run → 15 < n → ∃ t, exec (orderRow code) s = .next t ∧ s.Answered t code 4 0 ∧ s.OnlyAnswered t) ∧
    (∀ a : AxisNo, s.part = .run → n = a.val →
      (code ≠ 0x23 ∧ (∃ e, s.axisOwner a = some e ∧ (s.exhibit e).state ≠ .locked)) ∨
        ((code = 0x20 ∨ code = 0x21) ∧ s.stopInForce = true) ∨ (s.axis a).state = .off →
      ∃ t, exec (orderRow code) s = .next t ∧ s.Answered t code 2 (s.axis a).state.code ∧ s.OnlyAnswered t)) ∧
  (∀ (s : State) (code w1 w2 : Nat) (a : AxisNo), s.AtCell code w1 w2 → s.part = .run →
    (code = 0x20 ∧ w1 = a.val ∧ (s.axis a).state ≠ .unhomed ∧ (s.axis a).state ≠ .idle) ∨
      (code = 0x21 ∧ w1 / 1024 = a.val ∧
        ((s.axis a).state = .off ∨ (s.axis a).state = .unhomed ∨ (s.axis a).state = .homing ∨ (s.axis a).state = .faulted ∨
          ((s.axis a).state = .awaitPower ∧ (s.axis a).request = some .home))) →
    ∃ t, exec (orderRow code) s = .next t ∧ s.Answered t code 2 (s.axis a).state.code ∧ s.OnlyAnswered t)

/-- A taken HOME, of an axis that is unbound or of a LOCKED exhibit, loads HOME_VALUE into an UNHOMED axis and asks for its draw: with the
list empty and the units free the axis enters HOMING, in SEEK or CREEP by its home switch; otherwise it waits at the tail of the list (R104
to R106, R118). -/
def Obligations.HomeOrderStartsHoming : Prop :=
  ∀ (s : State) (a : AxisNo) (w2 : Nat) (c : AxisConfig), s.AtCell 0x20 a.val w2 → s.part = .run → s.stopInForce = false →
    s.axisHeld a = false → s.Unwatched a → (s.axis a).config = some c → (s.axis a).state = .unhomed ∨ (s.axis a).state = .idle →
    (s.pool.waiting = [] → c.draw ≤ s.pool.free →
      ∃ t, exec .home s = .next t ∧ s.Answered t 0x20 0 0 ∧ (t.axis a).state = .homing ∧ (t.axis a).homed = false ∧
        (t.axis a).pos = (if (s.axis a).state = .unhomed then c.homeValue else (s.axis a).pos) ∧
        (t.axis a).encoder = (if (s.axis a).state = .unhomed then c.homeValue else (s.axis a).encoder) ∧
        (t.axis a).phase = some (if (s.axis a).homeSwitch.level then .creep else .seek) ∧
        (t.axis a).vel = (if (s.axis a).homeSwitch.level then c.creepSpeed else c.seekSpeed) ∧ (t.axis a).acc = 0 ∧
        (t.axis a).travelled = 0 ∧ (t.axis a).dir = some c.homeDir ∧ (t.axis a).request = none ∧
        t.pool.free = s.pool.free - c.draw ∧ tget t.pool.held a = tget s.pool.held a + c.draw ∧
        (∀ b, b ≠ a → tget t.pool.held b = tget s.pool.held b) ∧ t.pool.waiting = [] ∧ s.OtherAxes t a ∧
        (∀ k < 16384, s.NotOfCell k → OutsideAxis a k → t.word k = s.word k) ∧
        t = { s with axes := t.axes, pool := t.pool, ram := t.ram, deck := t.deck, attn := t.attn }) ∧
    (s.pool.waiting ≠ [] ∨ s.pool.free < c.draw →
      ∃ t, exec .home s = .next t ∧ s.Answered t 0x20 0 0 ∧ (t.axis a).state = .awaitPower ∧ (t.axis a).request = some .home ∧
        (t.axis a).homed = (s.axis a).homed ∧ t.pool = { s.pool with waiting := s.pool.waiting ++ [{ axis := a, draw := c.draw }] } ∧
        ((s.axis a).state = .unhomed → (t.axis a).pos = c.homeValue ∧ (t.axis a).encoder = c.homeValue) ∧ s.OtherAxes t a ∧
        (∀ k < 16384, s.NotOfCell k → OutsideAxis a k → t.word k = s.word k) ∧
        t = { s with axes := t.axes, pool := t.pool, ram := t.ram, deck := t.deck, attn := t.attn })

/-- A taken MOVE, of an axis that is unbound or of a LOCKED exhibit, clamps its target. From IDLE it completes at once at P, starts with V
at Vs when its units are free, and waits otherwise; a MOVING axis is retargeted ahead, or stops with the request pending behind (R82, R85,
R98). A MOVE that meets AWAIT_POWER with a pending move replaces it, the axis keeping its place in the list, or completes at once at P, the
axis leaving the list; one that meets STOPPING becomes the pending move, and the stop runs on (R84, R86). That DIR turns as the motion
starts is the model's choice (assumption 45). -/
def Obligations.MoveOrderMovesAxis : Prop :=
  (∀ (s : State) (a : AxisNo) (w1 w2 : Word) (c : AxisConfig) (i : Fin 4) (x target : Int), s.AtCell 0x21 w1.toNat w2.toNat → s.part = .run →
    s.stopInForce = false → s.axisHeld a = false → s.Unwatched a → (s.axis a).config = some c → w1.toNat / 1024 = a.val → i = moveSet w1 →
    x = moveTarget w1 w2 → target = max c.low (min c.high x) →
    ((s.axis a).state = .idle → target = (s.axis a).pos →
      ∃ t, exec .move s = .next t ∧ s.Answered t 0x21 0 (if target = x then 0 else 1) ∧
        t.axis a = { s.axis a with clamped := decide (target ≠ x), imageStale := (t.axis a).imageStale } ∧ s.OtherAxes t a ∧
        (∀ k < 16384, s.NotOfCell k → OutsideAxis a k → t.word k = s.word k) ∧
        t = { s with axes := t.axes, ram := t.ram, deck := t.deck, attn := t.attn }) ∧
    ((s.axis a).state = .idle → target ≠ (s.axis a).pos → s.pool.waiting = [] → c.draw ≤ s.pool.free →
      ∃ t, exec .move s = .next t ∧ s.Answered t 0x21 0 (if target = x then 0 else 1) ∧
        t.axis a = { s.axis a with
          clamped := decide (target ≠ x), imageStale := (t.axis a).imageStale, state := .moving, request := none, stopBound := none,
          move := some { target := target, speedSet := i }, vel := (tget c.sets i).vs, acc := 0,
          dir := some (dirToward (s.axis a).pos target), dirOut := some (dirToward (s.axis a).pos target) } ∧
        t.pool.free = s.pool.free - c.draw ∧ tget t.pool.held a = tget s.pool.held a + c.draw ∧
        (∀ b, b ≠ a → tget t.pool.held b = tget s.pool.held b) ∧ t.pool.waiting = [] ∧ s.OtherAxes t a ∧
        (∀ k < 16384, s.NotOfCell k → OutsideAxis a k → t.word k = s.word k) ∧
        t = { s with axes := t.axes, pool := t.pool, ram := t.ram, deck := t.deck, attn := t.attn }) ∧
    ((s.axis a).state = .idle → target ≠ (s.axis a).pos → s.pool.waiting ≠ [] ∨ s.pool.free < c.draw →
      ∃ t, exec .move s = .next t ∧ s.Answered t 0x21 0 (if target = x then 0 else 1) ∧ (t.axis a).state = .awaitPower ∧
        (t.axis a).request = some (.move target i) ∧ (t.axis a).pos = (s.axis a).pos ∧
        t.pool = { s.pool with waiting := s.pool.waiting ++ [{ axis := a, draw := c.draw }] } ∧ s.OtherAxes t a) ∧
    ((s.axis a).state = .moving → (s.axis a).isAhead target = true →
      ∃ t, exec .move s = .next t ∧ s.Answered t 0x21 0 (if target = x then 0 else 1) ∧ (t.axis a).state = .moving ∧
        (t.axis a).move = some { target := target, speedSet := i } ∧
        (t.axis a).vel = min (max (s.axis a).vel (tget c.sets i).vs) (tget c.sets i).vmax ∧ (t.axis a).pos = (s.axis a).pos ∧
        s.OtherAxes t a ∧ t.pool = s.pool) ∧
    ((s.axis a).state = .moving → (s.axis a).isAhead target = false →
      ∃ t, exec .move s = .next t ∧ s.Answered t 0x21 0 (if target = x then 0 else 1) ∧ (t.axis a).state = .stopping ∧
        (t.axis a).request = some (.move target i) ∧ (t.axis a).vel = (s.axis a).vel ∧ (t.axis a).pos = (s.axis a).pos ∧
        (t.axis a).stopBound = (s.axis a).boundOfStop ∧ s.OtherAxes t a ∧ t.pool = s.pool)) ∧
  (∀ (s : State) (a : AxisNo) (w1 w2 : Word) (c : AxisConfig) (i : Fin 4) (x target : Int), s.AtCell 0x21 w1.toNat w2.toNat → s.part = .run →
    s.stopInForce = false → s.axisHeld a = false → s.Unwatched a → (s.axis a).config = some c → w1.toNat / 1024 = a.val → i = moveSet w1 →
    x = moveTarget w1 w2 → target = max c.low (min c.high x) →
    (((s.axis a).state = .awaitPower ∧ (∃ r ∈ (s.axis a).request, r ≠ .home) ∧ target ≠ (s.axis a).pos) ∨ (s.axis a).state = .stopping →
      ∃ t, exec .move s = .next t ∧ s.Answered t 0x21 0 (if target = x then 0 else 1) ∧
        t.axis a = { s.axis a with
          clamped := decide (target ≠ x), request := some (.move target i), imageStale := (t.axis a).imageStale } ∧
        s.OtherAxes t a ∧ (∀ k < 16384, s.NotOfCell k → OutsideAxis a k → t.word k = s.word k) ∧
        t = { s with axes := t.axes, ram := t.ram, deck := t.deck, attn := t.attn }) ∧
    ((s.axis a).state = .awaitPower → (∃ r ∈ (s.axis a).request, r ≠ .home) → target = (s.axis a).pos → s.pool.waiting.map (·.axis) = [a] →
      ∃ t, exec .move s = .next t ∧ s.Answered t 0x21 0 (if target = x then 0 else 1) ∧
        t.axis a = { s.axis a with
          clamped := decide (target ≠ x), state := .idle, request := none, imageStale := (t.axis a).imageStale } ∧
        t.pool = { s.pool with waiting := [] } ∧ s.OtherAxes t a ∧
        (∀ k < 16384, s.NotOfCell k → OutsideAxis a k → t.word k = s.word k) ∧
        t = { s with axes := t.axes, pool := t.pool, ram := t.ram, deck := t.deck, attn := t.attn }))

/-- STOP AXIS, of an axis that is unbound or of a LOCKED exhibit, brings a MOVING axis to a controlled stop, takes the pending move from a
STOPPING one, quick-stops a HOMING one unhomed and takes a waiting one from the list; an axis at rest is answered NOT_NOW. RESTORE AXIS
takes an unbound FAULTED axis out of its fault (R94, R99, R100). P on entering UNHOMED from a fault is the model's reading (assumption 16).
-/
def Obligations.StopAndRestoreAxis : Prop :=
  (∀ (s : State) (a : AxisNo) (w2 : Nat), s.AtCell 0x22 a.val w2 → s.part = .run → s.axisHeld a = false → s.Unwatched a →
    ((s.axis a).state = .moving → s.pool.waiting = [] →
      ∃ t, exec .stopAxis s = .next t ∧ s.Answered t 0x22 0 0 ∧
        t.axis a = { s.axis a with
          state := .stopping, stopBound := (s.axis a).boundOfStop, request := none, imageStale := (t.axis a).imageStale } ∧
        s.OtherAxes t a ∧ (∀ k < 16384, s.NotOfCell k → OutsideAxis a k → t.word k = s.word k) ∧
        t = { s with axes := t.axes, ram := t.ram, deck := t.deck, attn := t.attn }) ∧
    ((s.axis a).state = .stopping → s.pool.waiting = [] →
      ∃ t, exec .stopAxis s = .next t ∧ s.Answered t 0x22 0 0 ∧
        t.axis a = { s.axis a with request := none, imageStale := (t.axis a).imageStale } ∧ s.OtherAxes t a ∧ t.pool = s.pool) ∧
    ((s.axis a).state = .homing → s.pool.waiting = [] →
      ∃ t, exec .stopAxis s = .next t ∧ s.Answered t 0x22 0 0 ∧ (t.axis a).state = .unhomed ∧ (t.axis a).homed = false ∧
        (t.axis a).pos = (s.axis a).encoder ∧ (t.axis a).vel = 0 ∧ t.pool.free = s.pool.free + tget s.pool.held a ∧
        tget t.pool.held a = 0 ∧ s.OtherAxes t a) ∧
    ((s.axis a).state = .awaitPower → s.pool.waiting.map (·.axis) = [a] →
      ∃ t, exec .stopAxis s = .next t ∧ s.Answered t 0x22 0 0 ∧
        (t.axis a).state = (if (s.axis a).homed then .idle else .unhomed) ∧ (t.axis a).request = none ∧
        t.pool = { s.pool with waiting := [] } ∧ s.OtherAxes t a) ∧
    ((s.axis a).state.busy = false →
      ∃ t, exec .stopAxis s = .next t ∧ s.Answered t 0x22 2 (s.axis a).state.code ∧ s.OnlyAnswered t)) ∧
  (∀ (s : State) (a : AxisNo) (w2 : Nat), s.AtCell 0x23 a.val w2 → s.part = .run →
    (s.axisOwner a = none → (s.axis a).state = .faulted →
      ∃ t, exec .restoreAxis s = .next t ∧ s.Answered t 0x23 0 0 ∧ (t.axis a).cause = none ∧
        ((s.axis a).cause ≠ some .homeFail → (s.axis a).homed = true → (s.axis a).inWindow (s.axis a).pos = true →
          (t.axis a).state = .idle ∧ (t.axis a).pos = (s.axis a).pos ∧ (t.axis a).homed = true) ∧
        ((s.axis a).cause = some .homeFail ∨ (s.axis a).homed = false ∨ (s.axis a).inWindow (s.axis a).pos = false →
          (t.axis a).state = .unhomed ∧ (t.axis a).pos = (s.axis a).encoder ∧ (t.axis a).homed = false) ∧
        ((∀ b, b ≠ a → s.axisOwner b = none → (s.axis b).state ≠ .faulted) →
          t.alerts = s.alerts.filter (fun x => !(x.source == gallerySource && x.cause == .axisFault))) ∧
        ((∃ b, b ≠ a ∧ s.axisOwner b = none ∧ (s.axis b).state = .faulted) → t.alerts = s.alerts) ∧ s.OtherAxes t a ∧
        (∀ k < 16384, s.NotOfCell k → NotOfAlerts k → OutsideAxis a k → t.word k = s.word k) ∧
        t = { s with axes := t.axes, channels := t.channels, alerts := t.alerts, stations := t.stations,
                     rewriteCount := t.rewriteCount, ram := t.ram, deck := t.deck, attn := t.attn }) ∧
    (s.axisOwner a ≠ none ∨ (s.axis a).state ≠ .faulted →
      ∃ t, exec .restoreAxis s = .next t ∧ s.Answered t 0x23 2 (s.axis a).state.code ∧ s.OnlyAnswered t))

/-- SET LAMP is answered COLD, BAD_VALUE, NOT_NOW or TAKEN in that precedence, and a taken one sets the SHOW layer of the channel,
restarting its phase, or sets it idle (R153). -/
def Obligations.SetLampSetsShowLayer : Prop :=
  ∀ (s : State) (w1 w2 : Nat), s.AtCell 0x30 w1 w2 →
    (s.part = .cold → ∃ t, exec .setLamp s = .next t ∧ s.Answered t 0x30 5 0 ∧ s.OnlyAnswered t) ∧
    (s.part = .run → 63 < w1 ∨ (31 < w2 ∧ w2 ≠ 65535) →
      ∃ t, exec .setLamp s = .next t ∧ s.Answered t 0x30 4 0 ∧ s.OnlyAnswered t) ∧
    (∀ (ch : ChannelNo) (e : ExhibitNo), s.part = .run → w1 = ch.val → w2 ≤ 31 ∨ w2 = 65535 → s.channelOwner ch = some e →
      (s.exhibit e).state = .running ∨ (s.exhibit e).state = .suspended ∨ (s.exhibit e).state = .guarded →
      ∃ t, exec .setLamp s = .next t ∧ s.Answered t 0x30 2 (s.exhibit e).state.code ∧ s.OnlyAnswered t) ∧
    (∀ ch : ChannelNo, s.part = .run → w1 = ch.val → w2 ≤ 31 ∨ w2 = 65535 →
      (∀ e, s.channelOwner ch = some e →
        (s.exhibit e).state ≠ .running ∧ (s.exhibit e).state ≠ .suspended ∧ (s.exhibit e).state ≠ .guarded) →
      ∃ t, exec .setLamp s = .next t ∧ s.Answered t 0x30 0 0 ∧
        (w2 = 65535 → (t.channel ch).showLayer = { setting := .idle, phase := .constant }) ∧
        (∀ p : Fin 32, w2 = p.val → (t.channel ch).showLayer = { setting := .table p, phase := (tget s.patterns p).startPhase }) ∧
        (t.channel ch).brightness = combined s.patterns (t.channel ch) ∧
        t.channel ch = { s.channel ch with showLayer := (t.channel ch).showLayer, brightness := (t.channel ch).brightness } ∧
        (∀ c, c ≠ ch → t.channel c = s.channel c) ∧ (∀ k < 16384, s.NotOfCell k → t.word k = s.word k) ∧
        t = { s with channels := t.channels, ram := t.ram, deck := t.deck, attn := t.attn })

/-- RAISE ALERT makes a RAISED entry of cause HOST_ALERT at the tail of the list under a number no entry holds, merges into the entry of
that source and cause when there is one, and answers the entry's number; a full list refuses a severity below 3 and counts an overflow (R157
to R159, R175). Into a full list a raise of severity 3 that matches no entry displaces the oldest ACKED entry, or else the oldest of
severity 1, and is refused, with an overflow counted, when there is neither. A source above 48, a code above 63 or a severity outside 1 to 3
is answered BAD_VALUE, and an exhibit that is OFF ABSENT (R159, R175). -/
def Obligations.RaiseAlertEnters : Prop :=
  (∀ (s : State) (src : SourceNo) (w2 code sev : Nat), s.AtCell 0x31 src.val w2 → s.part = .run → w2 = 256 * sev + code → code ≤ 63 →
    1 ≤ sev → sev ≤ 3 → (∀ e, sourceExhibit src = some e → (s.exhibit e).state ≠ .off) → 1 ≤ s.nextNumber → s.nextNumber ≤ 65535 →
    s.AlertLaw → (∀ x ∈ s.alerts, x.number ≤ 65535) →
    (s.alertOf? src .hostAlert = none → s.alerts.length < 32 →
      ∃ t, exec .raiseAlert s = .next t ∧ s.Answered t 0x31 0 ((t.alerts.getLast?.map (·.number)).getD 0) ∧
        t.alerts.length = s.alerts.length + 1 ∧ t.alerts.take s.alerts.length = s.alerts ∧
        (∀ y ∈ t.alerts.getLast?, y.source = src ∧ y.cause = .hostAlert ∧ y.code = code ∧ y.severity = sev ∧ y.acked = false ∧
          y.repeats = 0 ∧ y.escalations = 0 ∧ y.age = 0 ∧ y.exhausted = false ∧ y.station = s.routeOf (s.zone src) ∧
          (∀ x ∈ s.alerts, x.number ≠ y.number) ∧ 1 ≤ y.number ∧ y.number ≤ 65535) ∧
        (∀ k < 16384, s.NotOfCell k → NotOfAlerts k → t.word k = s.word k) ∧
        t = { s with alerts := t.alerts, stations := t.stations, channels := t.channels, nextNumber := t.nextNumber,
                     rewriteCount := t.rewriteCount, gallery := t.gallery, ram := t.ram, deck := t.deck, attn := t.attn }) ∧
    (∀ x ∈ s.alertOf? src .hostAlert,
      ∃ t, exec .raiseAlert s = .next t ∧ s.Answered t 0x31 0 x.number ∧ t.nextNumber = s.nextNumber ∧
        t.alerts.length = s.alerts.length ∧ t.alerts.dropLast = s.alerts.filter (fun z => z.number != x.number) ∧
        (∀ y ∈ t.alerts.getLast?, y.number = x.number ∧ y.source = src ∧ y.cause = .hostAlert ∧ y.code = code ∧ y.severity = sev ∧
          y.acked = false ∧ y.repeats = min 255 (x.repeats + 1) ∧ y.escalations = 0 ∧ y.age = 0 ∧ y.exhausted = false ∧
          y.station = s.routeOf (s.zone src))) ∧
    (s.alertOf? src .hostAlert = none → s.alerts.length = 32 → sev < 3 →
      ∃ t, exec .raiseAlert s = .next t ∧ s.Answered t 0x31 0 0 ∧
        t.gallery = { s.gallery with overflow := some (min 255 (s.gallery.overflow.getD 0 + 1)) } ∧
        (∀ k < 16384, s.NotOfCell k → t.word k = s.word k) ∧
        t = { s with gallery := t.gallery, ram := t.ram, deck := t.deck, attn := t.attn })) ∧
  (∀ (s : State) (src : SourceNo) (w2 code i : Nat), s.AtCell 0x31 src.val w2 → s.part = .run → w2 = 256 * 3 + code → code ≤ 63 →
    (∀ e, sourceExhibit src = some e → (s.exhibit e).state ≠ .off) → 1 ≤ s.nextNumber → s.nextNumber ≤ 65535 → s.AlertLaw →
    (∀ x ∈ s.alerts, x.number ≤ 65535) → s.alertOf? src .hostAlert = none → s.alerts.length = 32 →
    (∀ x, s.alerts[i]? = some x →
      (x.acked = true ∧ ∀ y ∈ s.alerts.take i, y.acked = false) ∨
        ((∀ y ∈ s.alerts, y.acked = false) ∧ x.severity = 1 ∧ ∀ y ∈ s.alerts.take i, y.severity ≠ 1) →
      ∃ t, exec .raiseAlert s = .next t ∧ s.Answered t 0x31 0 ((t.alerts.getLast?.map (·.number)).getD 0) ∧
        t.alerts.length = 32 ∧ t.alerts.dropLast = s.alerts.eraseIdx i ∧
        (∀ y ∈ t.alerts.getLast?, y.source = src ∧ y.cause = .hostAlert ∧ y.code = code ∧ y.severity = 3 ∧ y.acked = false ∧ y.repeats = 0 ∧
          y.station = s.routeOf (s.zone src) ∧ (∀ z ∈ s.alerts.eraseIdx i, z.number ≠ y.number) ∧ 1 ≤ y.number ∧ y.number ≤ 65535) ∧
        t.gallery.overflow = s.gallery.overflow ∧ (∀ k < 16384, s.NotOfCell k → NotOfAlerts k → t.word k = s.word k) ∧
        t = { s with alerts := t.alerts, stations := t.stations, channels := t.channels, nextNumber := t.nextNumber,
                     rewriteCount := t.rewriteCount, gallery := t.gallery, ram := t.ram, deck := t.deck, attn := t.attn }) ∧
    ((∀ y ∈ s.alerts, y.acked = false ∧ y.severity ≠ 1) →
      ∃ t, exec .raiseAlert s = .next t ∧ s.Answered t 0x31 0 0 ∧
        t.gallery = { s.gallery with overflow := some (min 255 (s.gallery.overflow.getD 0 + 1)) } ∧
        (∀ k < 16384, s.NotOfCell k → t.word k = s.word k) ∧
        t = { s with gallery := t.gallery, ram := t.ram, deck := t.deck, attn := t.attn })) ∧
  (∀ (s : State) (w1 w2 : Nat), s.AtCell 0x31 w1 w2 → s.part = .run →
    (48 < w1 ∨ 63 < w2 % 256 ∨ w2 / 256 < 1 ∨ 3 < w2 / 256 →
      ∃ t, exec .raiseAlert s = .next t ∧ s.Answered t 0x31 4 0 ∧ s.OnlyAnswered t) ∧
    (∀ e : ExhibitNo, w1 = e.val → w2 % 256 ≤ 63 → 1 ≤ w2 / 256 → w2 / 256 ≤ 3 → (s.exhibit e).state = .off →
      ∃ t, exec .raiseAlert s = .next t ∧ s.Answered t 0x31 3 0 ∧ s.OnlyAnswered t))

/-- ACK ALERT is answered COLD, ABSENT, NOT_NOW or TAKEN in that precedence. A taken one acts by the table of R165: it removes an entry of
VISITOR_CALL, SHOW_CALL, BUTTON_STUCK, MODEL_DISTURBED and HOST_ALERT, a GUARD_HELD whose exhibit has its guard-open attribute clear and a
GALLERY_STOP with no gallery stop in force; it leaves ACKED, with its escalation timer stopped, an AXIS_FAULT, a SHOW_FAULT, a GUARD_HELD
with that attribute set and a GALLERY_STOP while the stop is in force. REMOVE ALERT removes the entry with the number (R165, R167, R169). -/
def Obligations.AckAndRemoveAlert : Prop :=
  (∀ (s : State) (n w2 : Nat), s.AtCell 0x32 n w2 →
    (s.part = .cold → ∃ t, exec .ackAlert s = .next t ∧ s.Answered t 0x32 5 0 ∧ s.OnlyAnswered t) ∧
    (s.part = .run → s.alert? n = none → ∃ t, exec .ackAlert s = .next t ∧ s.Answered t 0x32 3 0 ∧ s.OnlyAnswered t) ∧
    (∀ x ∈ s.alert? n, s.part = .run → x.acked = true →
      ∃ t, exec .ackAlert s = .next t ∧ s.Answered t 0x32 2 0 ∧ s.OnlyAnswered t) ∧
    (∀ x ∈ s.alert? n, s.part = .run → x.acked = false →
      ∃ t, exec .ackAlert s = .next t ∧ s.Answered t 0x32 0 0 ∧
        (s.RemovedByAck x → t.alerts = s.alerts.filter (fun z => z.number != n)) ∧
        (s.AckedByAck x →
          t.alerts = s.alerts.map (fun z => if z.number = n then { x with acked := true, timer := none } else z)) ∧
        (∀ k < 16384, s.NotOfCell k → NotOfAlerts k → t.word k = s.word k) ∧
        t = { s with alerts := t.alerts, stations := t.stations, channels := t.channels, rewriteCount := t.rewriteCount,
                     ram := t.ram, deck := t.deck, attn := t.attn })) ∧
  (∀ (s : State) (n w2 : Nat), s.AtCell 0x33 n w2 → s.part = .run →
    (s.alert? n = none → ∃ t, exec .removeAlert s = .next t ∧ s.Answered t 0x33 3 0 ∧ s.OnlyAnswered t) ∧
    (s.alert? n ≠ none →
      ∃ t, exec .removeAlert s = .next t ∧ s.Answered t 0x33 0 0 ∧ t.alerts = s.alerts.filter (fun z => z.number != n) ∧
        (∀ k < 16384, s.NotOfCell k → NotOfAlerts k → t.word k = s.word k) ∧
        t = { s with alerts := t.alerts, stations := t.stations, channels := t.channels, rewriteCount := t.rewriteCount,
                     ram := t.ram, deck := t.deck, attn := t.attn }))

/-! ### Events -/

/-- A reading equal to the recognised level clears the run count, a differing one adds to it, and the one that completes the debounce count
changes the level (R25). A closure makes a button WATCHED when its entry has a long action and PLAIN otherwise, with the hold timer at 0; a
release makes it OPEN, and of a hold other than WATCHED hands nothing on (R26, R27). That the reading which completes the count is the
closure or release is the model's reading (assumption 8); that CLOSURE and RELEASE at a level that stands change nothing is its choice
(assumption 3). -/
def Obligations.ButtonReadingAndHolds : Prop :=
  (∀ (s : State) (b : ButtonNo) (closed : Bool) (f : InputFilter), (s.button b).input = f →
    (closed = f.level →
      ∃ t, exec (.buttonReading b closed) s = .next t ∧ t.button b = { s.button b with input := { pin := closed, level := f.level, run := 0 } } ∧
        (∀ c, c ≠ b → t.button c = s.button c) ∧ t = { s with buttons := t.buttons }) ∧
    (closed ≠ f.level → min 15 (f.run + 1) < s.params.debounce →
      ∃ t, exec (.buttonReading b closed) s = .next t ∧
        t.button b = { s.button b with input := { pin := closed, level := f.level, run := min 15 (f.run + 1) } } ∧
        (∀ c, c ≠ b → t.button c = s.button c) ∧ t = { s with buttons := t.buttons }) ∧
    (closed ≠ f.level → s.params.debounce ≤ min 15 (f.run + 1) →
      ∃ t, exec (.buttonReading b closed) s = .next t ∧ (t.button b).input = { pin := closed, level := closed, run := 0 } ∧
        exec (.buttonReading b closed) s = exec (if closed then .closure b else .release b) s)) ∧
  (∀ (s : State) (b : ButtonNo), (s.button b).input.level = false → s.reports = [] →
    (s.button b).entry.longAction ≠ .none ∨ (s.button b).entry.action = .none →
    ∃ t, exec (.closure b) s = .next t ∧
      t.button b = { s.button b with
        input := { pin := true, level := true, run := 0 }, holdTimer := 0,
        hold := if (s.button b).entry.longAction = .none then .plain else .watched } ∧
      (∀ c, c ≠ b → t.button c = s.button c) ∧ t = { s with buttons := t.buttons }) ∧
  (∀ (s : State) (b : ButtonNo), (s.button b).input.level = true → s.reports = [] →
    (s.button b).hold ≠ .watched ∨ (s.button b).entry.action = .none →
    ∃ t, exec (.release b) s = .next t ∧
      t.button b = { s.button b with input := { pin := false, level := false, run := 0 }, holdTimer := 0, hold := .opened } ∧
      (∀ c, c ≠ b → t.button c = s.button c) ∧ t = { s with buttons := t.buttons }) ∧
  (∀ (s : State) (b : ButtonNo), ((s.button b).input.level = true → exec (.closure b) s = .next s) ∧
    ((s.button b).input.level = false → exec (.release b) s = .next s))

/-- The long threshold makes a WATCHED button LONG_GIVEN and gives its long press: a CALL raises VISITOR_CALL and starts the lockout, or,
within the lockout, is dropped and counted. Where the hold is not WATCHED nothing changes (R28, R36, R41). The stuck time makes a PLAIN or
LONG_GIVEN button STUCK and, unless the part is COLD, raises BUTTON_STUCK, severity 1, with the source of Table 2-2: the exhibit of a START
or CALL action when it is not OFF, otherwise that of a long action CALL when it is not OFF, and otherwise the gallery (R29, R30). That the
two events assert that their time has come is the model's choice (assumption 3). -/
def Obligations.LongAndStuck : Prop :=
  (∀ (s : State) (b : ButtonNo) (e : ExhibitNo), (s.button b).hold = .watched → (s.button b).entry.longAction = .call e → s.reports = [] →
    s.part = .run →
    ((s.button b).lockout = none → (s.exhibit e).state ≠ .off → (s.exhibit e).state ≠ .locked →
      s.alertOf? (exhibitSource e) .visitorCall = none → s.alerts.length < 32 →
      ∃ t, exec (.longPress b) s = .next t ∧ (t.button b).hold = .longGiven ∧
        (t.button b).lockout = (if 0 < (s.button b).entry.lockout then some ((s.button b).entry.lockout * 100) else none) ∧
        t.alerts.length = s.alerts.length + 1 ∧ t.alerts.take s.alerts.length = s.alerts ∧
        (∀ y ∈ t.alerts.getLast?, y.source = exhibitSource e ∧ y.cause = .visitorCall ∧ y.severity = 1 ∧ y.code = 0 ∧ y.acked = false ∧
          y.station = s.routeOf (s.zone (exhibitSource e))) ∧
        (∀ c, c ≠ b → t.button c = s.button c) ∧ (∀ k < 16384, NotOfAlerts k → t.word k = s.word k) ∧
        t = { s with buttons := t.buttons, alerts := t.alerts, stations := t.stations, channels := t.channels,
                     nextNumber := t.nextNumber, rewriteCount := t.rewriteCount, gallery := t.gallery, ram := t.ram }) ∧
    ((s.button b).lockout ≠ none →
      ∃ t, exec (.longPress b) s = .next t ∧ (t.button b).hold = .longGiven ∧ (t.button b).lockout = (s.button b).lockout ∧
        t.exhibit e = { s.exhibit e with ignored := min 65535 ((s.exhibit e).ignored + 1) } ∧
        (∀ f, f ≠ e → t.exhibit f = s.exhibit f) ∧ (∀ c, c ≠ b → t.button c = s.button c) ∧
        (∀ k < 16384, OutsideExhibit e k → t.word k = s.word k) ∧
        t = { s with buttons := t.buttons, exhibits := t.exhibits, ram := t.ram })) ∧
  (∀ (s : State) (b : ButtonNo), (s.button b).hold ≠ .watched → exec (.longPress b) s = .next s) ∧
  (∀ (s : State) (b : ButtonNo), (s.button b).hold = .plain ∨ (s.button b).hold = .longGiven →
    (s.part = .cold →
      ∃ t, exec (.stuck b) s = .next t ∧ t.button b = { s.button b with hold := .stuck, holdTimer := (t.button b).holdTimer } ∧
        (∀ c, c ≠ b → t.button c = s.button c) ∧ t = { s with buttons := t.buttons }) ∧
    (s.part = .run →
      (∀ e, (s.button b).entry.action = .start e ∨ (s.button b).entry.action = .call e ∨ (s.button b).entry.longAction = .call e →
        (s.exhibit e).state = .off) → s.alertOf? gallerySource .buttonStuck = none →
      s.alerts.length < 32 →
      ∃ t, exec (.stuck b) s = .next t ∧ t.button b = { s.button b with hold := .stuck, holdTimer := (t.button b).holdTimer } ∧
        t.alerts.length = s.alerts.length + 1 ∧
        (∀ y ∈ t.alerts.getLast?, y.source = gallerySource ∧ y.cause = .buttonStuck ∧ y.severity = 1 ∧ y.acked = false) ∧
        (∀ c, c ≠ b → t.button c = s.button c) ∧ (∀ k < 16384, NotOfAlerts k → t.word k = s.word k) ∧
        t = { s with buttons := t.buttons, alerts := t.alerts, stations := t.stations, channels := t.channels,
                     nextNumber := t.nextNumber, rewriteCount := t.rewriteCount, gallery := t.gallery, ram := t.ram }) ∧
    (∀ e : ExhibitNo, s.part = .run → (s.exhibit e).state ≠ .off →
      (s.button b).entry.action = .start e ∨ (s.button b).entry.action = .call e ∨
        ((s.button b).entry.longAction = .call e ∧
          ∀ f, (s.button b).entry.action = .start f ∨ (s.button b).entry.action = .call f → (s.exhibit f).state = .off) →
      s.alertOf? (exhibitSource e) .buttonStuck = none → s.alerts.length < 32 →
      ∃ t, exec (.stuck b) s = .next t ∧ t.button b = { s.button b with hold := .stuck, holdTimer := (t.button b).holdTimer } ∧
        t.alerts.length = s.alerts.length + 1 ∧ t.alerts.take s.alerts.length = s.alerts ∧
        (∀ y ∈ t.alerts.getLast?, y.source = exhibitSource e ∧ y.cause = .buttonStuck ∧ y.severity = 1 ∧ y.acked = false ∧
          y.station = s.routeOf (s.zone (exhibitSource e))) ∧
        (∀ c, c ≠ b → t.button c = s.button c) ∧ (∀ k < 16384, NotOfAlerts k → t.word k = s.word k) ∧
        t = { s with buttons := t.buttons, alerts := t.alerts, stations := t.stations, channels := t.channels,
                     nextNumber := t.nextNumber, rewriteCount := t.rewriteCount, gallery := t.gallery, ram := t.ram })) ∧
  (∀ (s : State) (b : ButtonNo), (s.button b).hold ≠ .plain → (s.button b).hold ≠ .longGiven → exec (.stuck b) s = .next s)

/-- The three kinds of press, the press at a closure, the short press at the release of a WATCHED button and the long press at its
threshold, which a CALL or an ACK may be, are judged alike by their action. A START press is judged by Table 2-5: ignored within a lockout,
with the guard open, under the gallery stop, in the states that take none and under IGNORE; completing a WAIT_PRESS; setting the encore flag
under ENCORE; starting the default show in READY. At an OFF exhibit it is ignored and counted (R26, R27, R35 to R38). A GROUP press, at a
closure or short, starts every READY member with its guard closed, outside a gallery stop, and counts ignored at every other; dropped by the
lockout it counts ignored at every member. A CALL press, at a closure, short or long, is ignored and counted at an OFF or LOCKED exhibit and
within the lockout, and otherwise raises VISITOR_CALL, severity 1: it enters or merges and starts the lockout, or finds the list full and
counts an overflow. An ACK press, of the same three kinds, acknowledges the alert its station shows, by the table of R165, once the holdoff
has run out, and is dropped otherwise (R36, R40 to R42, R157 to R159, R165, R166). That the long press asserts that its time has come is the
model's choice (assumption 3). -/
def Obligations.StartPressJudged : Prop :=
  (∀ (s : State) (b : ButtonNo) (p : Instr) (x : Button) (e : ExhibitNo) (c : ExhibitConfig) (d : Nat), s.GivesPress b p (.start e) x →
    s.reports = [] → (s.exhibit e).config = some c →
    ((s.button b).lockout ≠ none ∨ s.stopInForce = true ∨ (s.exhibit e).guardOpen = true ∨
        ((s.exhibit e).state ≠ .running ∧ (s.exhibit e).state ≠ .resting ∧ (s.exhibit e).state ≠ .ready) ∨
        (((s.exhibit e).state = .resting ∨ ((s.exhibit e).state = .running ∧ (s.slot e).awaitsPress = false)) ∧ c.policy = .ignore) →
      ∃ t, exec p s = .next t ∧ s.OnlyButton t b x ∧ s.OnlyIgnored t e ∧ (∀ k < 16384, OutsideExhibit e k → t.word k = s.word k) ∧
        t = { s with buttons := t.buttons, exhibits := t.exhibits, ram := t.ram }) ∧
    ((s.button b).lockout = none → s.stopInForce = false → (s.exhibit e).guardOpen = false →
      ((s.exhibit e).state = .resting ∨ ((s.exhibit e).state = .running ∧ (s.slot e).awaitsPress = false)) → c.policy = .encore →
      ∃ t, exec p s = .next t ∧ s.OnlyButton t b x.lockedOut ∧
        t.exhibit e = { s.exhibit e with encore := true, accepted := min 65535 ((s.exhibit e).accepted + 1) } ∧
        (∀ f, f ≠ e → t.exhibit f = s.exhibit f) ∧ (∀ k < 16384, OutsideExhibit e k → t.word k = s.word k) ∧
        t = { s with buttons := t.buttons, exhibits := t.exhibits, ram := t.ram }) ∧
    ((s.button b).lockout = none → s.stopInForce = false → (s.exhibit e).guardOpen = false → (s.exhibit e).state = .ready →
      s.TimeStepAt c.defaultShow d →
      ∃ t, exec p s = .next t ∧ s.OnlyButton t b x.lockedOut ∧ (t.exhibit e).state = .running ∧
        (t.exhibit e).accepted = min 65535 ((s.exhibit e).accepted + 1) ∧ (t.exhibit e).ignored = (s.exhibit e).ignored ∧
        (t.slot e).WaitsTime c.defaultShow d ∧ s.OtherExhibits t e ∧ (∀ k < 16384, OutsideExhibit e k → t.word k = s.word k) ∧
        t = { s with buttons := t.buttons, exhibits := t.exhibits, slots := t.slots, channels := t.channels, ram := t.ram }) ∧
    (∀ a < 12287, (s.button b).lockout = none → s.stopInForce = false → (s.exhibit e).guardOpen = false → (s.exhibit e).state = .running →
      (s.slot e).awaitsPress = true → (s.slot e).frozen = false → (s.slot e).current = some a → s.TimeStepAt (a + 2) d →
      ∃ t, exec p s = .next t ∧ s.OnlyButton t b x ∧ t.exhibit e = { s.exhibit e with accepted := min 65535 ((s.exhibit e).accepted + 1) } ∧
        (t.slot e).WaitsTime (a + 2) d ∧ s.OtherExhibits t e ∧ (∀ k < 16384, OutsideExhibit e k → t.word k = s.word k) ∧
        t = { s with buttons := t.buttons, exhibits := t.exhibits, slots := t.slots, ram := t.ram })) ∧
  (∀ (s : State) (b : ButtonNo) (p : Instr) (x : Button) (e : ExhibitNo), s.GivesPress b p (.start e) x → s.reports = [] →
    (s.exhibit e).state = .off →
    ∃ t, exec p s = .next t ∧ s.OnlyButton t b x ∧ s.OnlyIgnored t e ∧ (∀ k < 16384, OutsideExhibit e k → t.word k = s.word k) ∧
      t = { s with buttons := t.buttons, exhibits := t.exhibits, ram := t.ram }) ∧
  (∀ (s : State) (b : ButtonNo) (p : Instr) (x : Button) (g : Fin 8), s.GivesPress b p (.group g) x → s.reports = [] →
    ((s.button b).lockout = none →
      (∀ e, s.isMember g e = true → s.GroupStarts e → ∃ c ∈ (s.exhibit e).config, s.TimeStepAt c.defaultShow (s.storeWord (c.defaultShow + 1)).toNat) →
      ∃ t, exec p s = .next t ∧ s.OnlyButton t b (if ∃ e, s.isMember g e = true ∧ s.GroupStarts e then x.lockedOut else x) ∧
        (∀ e, s.isMember g e = true → s.GroupStarts e → (t.exhibit e).state = .running ∧
          (t.exhibit e).accepted = min 65535 ((s.exhibit e).accepted + 1) ∧ (t.exhibit e).ignored = (s.exhibit e).ignored ∧
          ∀ c ∈ (s.exhibit e).config, (t.slot e).WaitsTime c.defaultShow (s.storeWord (c.defaultShow + 1)).toNat) ∧
        (∀ e, s.isMember g e = true → ¬ s.GroupStarts e →
          t.exhibit e = { s.exhibit e with ignored := min 65535 ((s.exhibit e).ignored + 1) } ∧ t.slot e = s.slot e) ∧
        (∀ e, s.isMember g e = false → t.exhibit e = s.exhibit e ∧ t.slot e = s.slot e) ∧
        (∀ k < 16384, (∀ e, OutsideExhibit e k) → t.word k = s.word k) ∧
        t = { s with buttons := t.buttons, exhibits := t.exhibits, slots := t.slots, channels := t.channels, ram := t.ram }) ∧
    ((s.button b).lockout ≠ none →
      ∃ t, exec p s = .next t ∧ s.OnlyButton t b x ∧
        (∀ e, t.exhibit e = if s.isMember g e = true then { s.exhibit e with ignored := min 65535 ((s.exhibit e).ignored + 1) }
          else s.exhibit e) ∧
        (∀ k < 16384, (∀ e, OutsideExhibit e k) → t.word k = s.word k) ∧
        t = { s with buttons := t.buttons, exhibits := t.exhibits, ram := t.ram })) ∧
  (∀ (s : State) (b : ButtonNo) (p : Instr) (x : Button) (e : ExhibitNo), s.GivesPress b p (.call e) x → s.reports = [] →
    ((s.button b).lockout ≠ none ∨ (s.exhibit e).state = .off ∨ (s.exhibit e).state = .locked →
      ∃ t, exec p s = .next t ∧ s.OnlyButton t b x ∧ s.OnlyIgnored t e ∧ (∀ k < 16384, OutsideExhibit e k → t.word k = s.word k) ∧
        t = { s with buttons := t.buttons, exhibits := t.exhibits, ram := t.ram }) ∧
    ((s.button b).lockout = none → (s.exhibit e).state ≠ .off → (s.exhibit e).state ≠ .locked → s.part = .run →
      (s.alertOf? (exhibitSource e) .visitorCall = none → s.alerts.length < 32 →
        ∃ t, exec p s = .next t ∧ s.OnlyButton t b x.lockedOut ∧ t.alerts.length = s.alerts.length + 1 ∧
          t.alerts.take s.alerts.length = s.alerts ∧
          (∀ y ∈ t.alerts.getLast?, y.source = exhibitSource e ∧ y.cause = .visitorCall ∧ y.severity = 1 ∧ y.code = 0 ∧ y.acked = false ∧
            y.repeats = 0 ∧ y.station = s.routeOf (s.zone (exhibitSource e))) ∧
          (∀ k < 16384, NotOfAlerts k → t.word k = s.word k) ∧
          t = { s with buttons := t.buttons, alerts := t.alerts, stations := t.stations, channels := t.channels,
                       nextNumber := t.nextNumber, rewriteCount := t.rewriteCount, gallery := t.gallery, ram := t.ram }) ∧
      (∀ z ∈ s.alertOf? (exhibitSource e) .visitorCall, s.AlertLaw →
        ∃ t, exec p s = .next t ∧ s.OnlyButton t b x.lockedOut ∧ t.alerts.length = s.alerts.length ∧
          t.alerts.dropLast = s.alerts.filter (fun y => y.number != z.number) ∧
          (∀ y ∈ t.alerts.getLast?, y.number = z.number ∧ y.source = exhibitSource e ∧ y.cause = .visitorCall ∧ y.severity = 1 ∧ y.code = 0 ∧
            y.acked = false ∧ y.repeats = min 255 (z.repeats + 1) ∧ y.escalations = 0 ∧ y.age = 0 ∧
            y.station = s.routeOf (s.zone (exhibitSource e))) ∧
          (∀ k < 16384, NotOfAlerts k → t.word k = s.word k) ∧
          t = { s with buttons := t.buttons, alerts := t.alerts, stations := t.stations, channels := t.channels,
                       rewriteCount := t.rewriteCount, gallery := t.gallery, ram := t.ram }) ∧
      (s.alertOf? (exhibitSource e) .visitorCall = none → s.alerts.length = 32 →
        ∃ t, exec p s = .next t ∧ s.OnlyButton t b x ∧
          t.gallery = { s.gallery with overflow := some (min 255 (s.gallery.overflow.getD 0 + 1)) } ∧
          t = { s with buttons := t.buttons, gallery := t.gallery }))) ∧
  (∀ (s : State) (b : ButtonNo) (p : Instr) (x : Button) (st : StationNo), s.GivesPress b p (.ack st) x → s.reports = [] →
    ((s.button b).lockout ≠ none ∨ (s.station st).holdoff ≠ none ∨ (s.station st).shown = none →
      ∃ t, exec p s = .next t ∧ s.OnlyButton t b x ∧ t = { s with buttons := t.buttons }) ∧
    (∀ y ∈ s.alerts, (s.button b).lockout = none → (s.station st).holdoff = none → (s.station st).shown = some y.number →
      (s.alerts.map (·.number)).Nodup →
      ∃ t, exec p s = .next t ∧ s.OnlyButton t b x.lockedOut ∧
        (s.RemovedByAck y → t.alerts = s.alerts.filter (fun z => z.number != y.number)) ∧
        (s.AckedByAck y → t.alerts = s.alerts.map (fun z => if z.number = y.number then { y with acked := true, timer := none } else z)) ∧
        (t.station st).shown ≠ some y.number ∧ (t.station st).holdoff = some 1000 ∧ (∀ k < 16384, NotOfAlerts k → t.word k = s.word k) ∧
        t = { s with buttons := t.buttons, alerts := t.alerts, stations := t.stations, channels := t.channels,
                     rewriteCount := t.rewriteCount, ram := t.ram }))

/-- The next step of a show, reached as a TIME wait at address a runs out. JUMP goes on at its target, REPEAT opens a loop, NEXT counts it
down and closes it at 0, SIGNAL sets its condition; a WAIT_TIME found next waits. A step that fails its checks, a store that ends, and a
JUMP to itself, whose 64th execution raises the runaway count to its limit, end the show with their fault at that step's address (R48 to
R50, R53, R62 to R64). More steps of a RUNNING show, reached as a TIME wait at address a runs out. END rests, becomes READY or runs the
encore. WAIT_PRESS waits, with its timeout or with none. MOVE and HOME are judged by the axis state. A MOVE starts, joins the list, replaces
the request that waits, retargets ahead, stops first with the request pending, or completes at once; a HOME starts or joins the list; the
step waits for the motion, or goes on with NOWAIT or a completion at once. Otherwise it ends the show with the fault that the state gives,
the axis itself brought to rest. WAIT_AXIS and WAIT_MARK wait. LAMP sets its layer, CALL raises SHOW_CALL. A SUSPEND mark holds the step
where the exhibit allows it and has no effect elsewhere (R6, R8, R51, R54 to R58, R60, R61, R65, R70, R82, R84 to R86, R104, R118). That an
expiry asserts that its time has come is the model's choice (assumption 3). -/
def Obligations.ShowStepsAct : Prop :=
  (∀ (s : State) (e : ExhibitNo) (a r d n : Nat), (s.slot e).current = some a → (s.slot e).status = some .waiting → (s.slot e).frozen = false →
    (s.slot e).wait = some (.time r) → s.reports = [] → bit (s.storeWord (a + 2)) 9 = false → (s.slot e).runaway = 0 →
    (bits (s.storeWord (a + 2)) 10 6 = 10 → a + 4 ≤ 12288 → (s.storeWord (a + 3)).toNat = n → s.TimeStepAt n d →
      ∃ t, exec (.timeWaitExpiry e) s = .next t ∧ (t.slot e).WaitsTime n d ∧ (t.slot e).loopCount = (s.slot e).loopCount ∧
        (t.slot e).loopStart = (s.slot e).loopStart ∧ s.OtherExhibits t e ∧
        (∀ k < 16384, OutsideExhibit e k → t.word k = s.word k) ∧ t = { s with slots := t.slots, ram := t.ram }) ∧
    (bits (s.storeWord (a + 2)) 10 6 = 8 → bits (s.storeWord (a + 2)) 0 8 = n → n ≠ 0 → (s.slot e).loopCount = 0 → s.TimeStepAt (a + 3) d →
      ∃ t, exec (.timeWaitExpiry e) s = .next t ∧ (t.slot e).WaitsTime (a + 3) d ∧ (t.slot e).loopCount = n ∧ (t.slot e).loopStart = a + 3 ∧
        s.OtherExhibits t e ∧ (∀ k < 16384, OutsideExhibit e k → t.word k = s.word k) ∧ t = { s with slots := t.slots, ram := t.ram }) ∧
    (bits (s.storeWord (a + 2)) 10 6 = 9 → a + 3 ≤ 12288 → (s.slot e).loopCount = n + 1 →
      s.TimeStepAt (if n = 0 then a + 3 else (s.slot e).loopStart) d →
      ∃ t, exec (.timeWaitExpiry e) s = .next t ∧ (t.slot e).WaitsTime (if n = 0 then a + 3 else (s.slot e).loopStart) d ∧
        (t.slot e).loopCount = n ∧ (t.slot e).loopStart = (s.slot e).loopStart ∧
        s.OtherExhibits t e ∧ (∀ k < 16384, OutsideExhibit e k → t.word k = s.word k) ∧ t = { s with slots := t.slots, ram := t.ram }) ∧
    (bits (s.storeWord (a + 2)) 10 6 = 11 → s.TimeStepAt (a + 3) d →
      ∃ t, exec (.timeWaitExpiry e) s = .next t ∧ (t.slot e).WaitsTime (a + 3) d ∧
        t.source e = { s.source e with
          signal := some { code := bits (s.storeWord (a + 2)) 0 8, count := min 255 (((s.source e).signal.map (·.count)).getD 0 + 1) } } ∧
        (t.slot e).loopCount = (s.slot e).loopCount ∧ s.OtherExhibits t e ∧
        (∀ k < 16384, OutsideExhibit e k → t.word k = s.word k) ∧ t = { s with slots := t.slots, sources := t.sources, ram := t.ram }) ∧
    (∀ f : ShowFault,
      (f = .storeEnd ∧ a + 2 = 12288) ∨
      (f = .stepInvalid ∧ a + 3 ≤ 12288 ∧ 12 < bits (s.storeWord (a + 2)) 10 6) ∨
      (f = .stepInvalid ∧ a + 3 ≤ 12288 ∧ bits (s.storeWord (a + 2)) 10 6 = 9 ∧ (s.slot e).loopCount = 0) ∨
      (f = .stepInvalid ∧ a + 3 ≤ 12288 ∧ bits (s.storeWord (a + 2)) 10 6 = 8 ∧ bits (s.storeWord (a + 2)) 0 8 = 0) ∨
      (f = .loopNest ∧ a + 3 ≤ 12288 ∧ bits (s.storeWord (a + 2)) 10 6 = 8 ∧ bits (s.storeWord (a + 2)) 0 8 ≠ 0 ∧ (s.slot e).loopCount ≠ 0) ∨
      (f = .runaway ∧ a + 4 ≤ 12288 ∧ bits (s.storeWord (a + 2)) 10 6 = 10 ∧ (s.storeWord (a + 3)).toNat = a + 2) →
      (s.slot e).firstFault = none → s.someAxisBusy e = false → s.pool.waiting = [] →
      ∃ t, exec (.timeWaitExpiry e) s = .next t ∧ (t.exhibit e).state = .faulted ∧ (t.exhibit e).encore = false ∧ (t.slot e).current = none ∧
        (t.slot e).firstFault = some { code := f, address := a + 2 } ∧
        t.source e = { s.source e with faulted := some { code := some f, address := a + 2 } } ∧ s.OtherExhibits t e ∧
        s.OnlyResumeDropped t (s.boundAxes e) ∧ t.pool = s.pool)) ∧
  (∀ (s : State) (e : ExhibitNo) (c : ExhibitConfig) (a r d : Nat) (w0 : Word), (s.exhibit e).state = .running → (s.exhibit e).config = some c →
    (s.slot e).current = some a → (s.slot e).status = some .waiting → (s.slot e).frozen = false → (s.slot e).wait = some (.time r) →
    s.reports = [] → (s.slot e).runaway = 0 → s.storeWord (a + 2) = w0 →
    (bits w0 10 6 = 0 → bit w0 9 = false → a + 3 ≤ 12288 → 0 < c.restTime ∨ (s.exhibit e).encore = false →
      ∃ t, exec (.timeWaitExpiry e) s = .next t ∧
        t.exhibit e = { s.exhibit e with
          state := if 0 < c.restTime then .resting else .ready, rest := if 0 < c.restTime then some (c.restTime * 1000) else none,
          encore := decide (0 < c.restTime) && (s.exhibit e).encore, guardAlert := none, returnState := none,
          completed := min 65535 ((s.exhibit e).completed + 1) } ∧
        t.slot e = { s.slot e with current := none, status := none, wait := none, loopCount := 0, runaway := 0, frozen := false } ∧
        t.source e = { s.source e with ended := some (min 255 ((s.source e).ended.getD 0 + 1)) } ∧ s.OtherExhibits t e ∧
        (∀ ch, c.namesShowLamp ch = true → (t.channel ch).showLayer.setting = .idle) ∧
        (∀ ch, c.namesChannel ch = false → t.channel ch = s.channel ch) ∧ (∀ k < 16384, OutsideExhibit e k → t.word k = s.word k) ∧
        t = { s with exhibits := t.exhibits, slots := t.slots, sources := t.sources, channels := t.channels, ram := t.ram }) ∧
    (bits w0 10 6 = 0 → bit w0 9 = false → a + 3 ≤ 12288 → c.restTime = 0 → (s.exhibit e).encore = true → s.TimeStepAt c.defaultShow d →
      ∃ t, exec (.timeWaitExpiry e) s = .next t ∧
        t.exhibit e = { s.exhibit e with encore := false, completed := min 65535 ((s.exhibit e).completed + 1) } ∧
        (t.slot e).WaitsTime c.defaultShow d ∧ (t.slot e).firstFault = none ∧
        t.source e = { s.source e with ended := some (min 255 ((s.source e).ended.getD 0 + 1)) } ∧ s.OtherExhibits t e ∧
        (∀ k < 16384, OutsideExhibit e k → t.word k = s.word k) ∧
        t = { s with exhibits := t.exhibits, slots := t.slots, sources := t.sources, channels := t.channels, ram := t.ram }) ∧
    (bits w0 10 6 = 6 → bit w0 9 = false → a + 4 ≤ 12288 →
      ∃ t, exec (.timeWaitExpiry e) s = .next t ∧
        t.slot e = { s.slot e with
          current := some (a + 2),
          wait := some (.press (if (s.storeWord (a + 3)).toNat = 0 then none else some (10 * (s.storeWord (a + 3)).toNat))) } ∧
        t.exhibit e = s.exhibit e ∧ s.OtherExhibits t e ∧ (∀ k < 16384, OutsideExhibit e k → t.word k = s.word k) ∧
        t = { s with slots := t.slots, ram := t.ram }) ∧
    (∀ (x : AxisNo) (y : AxisConfig) (i : Fin 4) (target raw off : Int), bits w0 10 6 = 1 → bit w0 9 = false → a + 5 ≤ 12288 →
      tget c.axes (Fin.ofNat 4 (bits w0 0 2)) = some x → s.axisOwner x = some e → (s.axis x).config = some y → i = Fin.ofNat 4 (bits w0 2 2) →
      off = signed24 (65536 * bits (s.storeWord (a + 3)) 0 8 + (s.storeWord (a + 4)).toNat) →
      raw = (if bit w0 4 then (s.axis x).pos + off else off) → target = max y.low (min y.high raw) →
      ((s.axis x).state = .idle → target ≠ (s.axis x).pos → (bit w0 8 = true → s.TimeStepAt (a + 5) d) →
        ∃ t, exec (.timeWaitExpiry e) s = .next t ∧ (t.slot e).AfterMotionStep (bit w0 8) (a + 2) (.motion x .move) (a + 5) d ∧
          s.OtherExhibits t e ∧ s.OtherAxes t x ∧ t.exhibit e = s.exhibit e ∧ (t.axis x).clamped = decide (target ≠ raw) ∧
          (s.pool.waiting = [] ∧ y.draw ≤ s.pool.free → (t.axis x).state = .moving ∧
            (t.axis x).move = some { target := target, speedSet := i } ∧ (t.axis x).vel = (tget y.sets i).vs ∧
            tget t.pool.held x = tget s.pool.held x + y.draw) ∧
          (s.pool.waiting ≠ [] ∨ s.pool.free < y.draw → (t.axis x).state = .awaitPower ∧ (t.axis x).request = some (.move target i) ∧
            t.pool.waiting = s.pool.waiting ++ [{ axis := x, draw := y.draw }]) ∧
          t = { s with slots := t.slots, axes := t.axes, pool := t.pool, ram := t.ram }) ∧
      ((s.axis x).state = .idle → target = (s.axis x).pos → s.TimeStepAt (a + 5) d →
        ∃ t, exec (.timeWaitExpiry e) s = .next t ∧ (t.slot e).WaitsTime (a + 5) d ∧
          t.axis x = { s.axis x with clamped := decide (target ≠ raw), imageStale := (t.axis x).imageStale } ∧
          s.OtherExhibits t e ∧ s.OtherAxes t x ∧ t = { s with slots := t.slots, axes := t.axes, ram := t.ram }) ∧
      ((s.axis x).state = .stopping ∨
          ((s.axis x).state = .awaitPower ∧ (∃ r ∈ (s.axis x).request, r ≠ .home) ∧ target ≠ (s.axis x).pos) →
        (bit w0 8 = true → s.TimeStepAt (a + 5) d) →
        ∃ t, exec (.timeWaitExpiry e) s = .next t ∧ (t.slot e).AfterMotionStep (bit w0 8) (a + 2) (.motion x .move) (a + 5) d ∧
          t.axis x = { s.axis x with
            clamped := decide (target ≠ raw), request := some (.move target i), imageStale := (t.axis x).imageStale } ∧
          s.OtherExhibits t e ∧ s.OtherAxes t x ∧ t = { s with slots := t.slots, axes := t.axes, ram := t.ram }) ∧
      ((s.axis x).state = .awaitPower → (∃ r ∈ (s.axis x).request, r ≠ .home) → target = (s.axis x).pos →
        s.pool.waiting.map (·.axis) = [x] → s.TimeStepAt (a + 5) d →
        ∃ t, exec (.timeWaitExpiry e) s = .next t ∧ (t.slot e).WaitsTime (a + 5) d ∧
          t.axis x = { s.axis x with
            clamped := decide (target ≠ raw), state := .idle, request := none, imageStale := (t.axis x).imageStale } ∧
          t.pool = { s.pool with waiting := [] } ∧ s.OtherExhibits t e ∧ s.OtherAxes t x ∧
          t = { s with slots := t.slots, axes := t.axes, pool := t.pool, ram := t.ram }) ∧
      ((s.axis x).state = .moving → (bit w0 8 = true → s.TimeStepAt (a + 5) d) →
        ∃ t, exec (.timeWaitExpiry e) s = .next t ∧ (t.slot e).AfterMotionStep (bit w0 8) (a + 2) (.motion x .move) (a + 5) d ∧
          ((s.axis x).isAhead target = true → t.axis x = { s.axis x with
            clamped := decide (target ≠ raw), move := some { target := target, speedSet := i },
            vel := min (max (s.axis x).vel (tget y.sets i).vs) (tget y.sets i).vmax, imageStale := (t.axis x).imageStale }) ∧
          ((s.axis x).isAhead target = false → t.axis x = { s.axis x with
            clamped := decide (target ≠ raw), state := .stopping, stopBound := (s.axis x).boundOfStop, request := some (.move target i),
            imageStale := (t.axis x).imageStale }) ∧
          s.OtherExhibits t e ∧ s.OtherAxes t x ∧ t = { s with slots := t.slots, axes := t.axes, ram := t.ram })) ∧
    (∀ (x : AxisNo) (y : AxisConfig), bits w0 10 6 = 2 → bit w0 9 = false → a + 3 ≤ 12288 →
      tget c.axes (Fin.ofNat 4 (bits w0 0 2)) = some x → s.axisOwner x = some e → (s.axis x).config = some y →
      (s.axis x).state = .unhomed ∨ (s.axis x).state = .idle → (bit w0 8 = true → s.TimeStepAt (a + 3) d) →
      ∃ t, exec (.timeWaitExpiry e) s = .next t ∧ (t.slot e).AfterMotionStep (bit w0 8) (a + 2) (.motion x .home) (a + 3) d ∧
        s.OtherExhibits t e ∧ s.OtherAxes t x ∧ t.exhibit e = s.exhibit e ∧
        ((s.axis x).state = .unhomed → (t.axis x).pos = y.homeValue ∧ (t.axis x).encoder = y.homeValue) ∧
        ((s.axis x).state = .idle → (t.axis x).pos = (s.axis x).pos ∧ (t.axis x).encoder = (s.axis x).encoder) ∧
        (s.pool.waiting = [] ∧ y.draw ≤ s.pool.free → (t.axis x).state = .homing ∧ (t.axis x).homed = false ∧
          tget t.pool.held x = tget s.pool.held x + y.draw) ∧
        (s.pool.waiting ≠ [] ∨ s.pool.free < y.draw → (t.axis x).state = .awaitPower ∧ (t.axis x).request = some .home ∧
          (t.axis x).homed = (s.axis x).homed ∧ t.pool = { s.pool with waiting := s.pool.waiting ++ [{ axis := x, draw := y.draw }] }) ∧
        t = { s with slots := t.slots, axes := t.axes, pool := t.pool, ram := t.ram }) ∧
    (∀ (x : AxisNo) (f : ShowFault), bit w0 9 = false → tget c.axes (Fin.ofNat 4 (bits w0 0 2)) = some x →
      (bits w0 10 6 = 1 ∧ a + 5 ≤ 12288 ∧
          ((f = .axisUnusable ∧ ((s.axis x).state = .off ∨ (s.axis x).state = .faulted)) ∨ (f = .axisUnhomed ∧ (s.axis x).state = .unhomed) ∨
            (f = .axisBusy ∧ ((s.axis x).state = .homing ∨ ((s.axis x).state = .awaitPower ∧ (s.axis x).request = some .home))))) ∨
        (bits w0 10 6 = 2 ∧ a + 3 ≤ 12288 ∧
          ((f = .axisUnusable ∧ ((s.axis x).state = .off ∨ (s.axis x).state = .faulted)) ∨
            (f = .axisBusy ∧ (s.axis x).state.busy = true))) →
      (s.slot e).firstFault = none → (∀ y ∈ s.boundAxes e, y ≠ x → (s.axis y).state ≠ .homing ∧ (s.axis y).state ≠ .awaitPower) →
      (∀ w ∈ s.pool.waiting, w.axis = x ∧ (s.axis x).state = .awaitPower) →
      ((s.axis x).state = .homing ∨ (s.axis x).state = .awaitPower → s.axisOwner x = some e) →
      ∃ t, exec (.timeWaitExpiry e) s = .next t ∧ (t.exhibit e).state = .faulted ∧ (t.slot e).current = none ∧
        (t.slot e).firstFault = some { code := f, address := a + 2 } ∧
        t.source e = { s.source e with faulted := some { code := some f, address := a + 2 } } ∧
        (s.part = .run → s.alerts.length < 32 → ∃ y ∈ t.alerts, y.source = exhibitSource e ∧ y.cause = .showFault ∧ y.severity = 1) ∧
        ((s.axis x).state = .homing → (t.axis x).state = .unhomed ∧ (t.axis x).homed = false ∧ (t.axis x).pos = (s.axis x).encoder ∧
          tget t.pool.held x = 0) ∧
        ((s.axis x).state = .awaitPower → (t.axis x).state = (if (s.axis x).homed then .idle else .unhomed) ∧ (t.axis x).request = none ∧
          t.pool.waiting = []) ∧
        ((s.axis x).state = .moving ∨ (s.axis x).state = .stopping → (t.axis x).state = .stopping ∧ (t.axis x).request = none ∧
          (t.axis x).vel = (s.axis x).vel) ∧
        s.OtherExhibits t e) ∧
    (∀ (x : AxisNo), tget c.axes (Fin.ofNat 4 (bits w0 0 2)) = some x → bit w0 9 = false → a + 3 ≤ 12288 →
      (bits w0 10 6 = 3 → (s.axis x).state.busy = true →
        ∃ t, exec (.timeWaitExpiry e) s = .next t ∧ (t.slot e).current = some (a + 2) ∧ (t.slot e).status = some .waiting ∧
          (t.slot e).wait = some (.axisRest x) ∧ s.OtherExhibits t e ∧ t = { s with slots := t.slots, ram := t.ram }) ∧
      (bits w0 10 6 = 3 → (s.axis x).state.busy = false → s.TimeStepAt (a + 3) d →
        ∃ t, exec (.timeWaitExpiry e) s = .next t ∧ (t.slot e).WaitsTime (a + 3) d ∧ s.OtherExhibits t e ∧
          t = { s with slots := t.slots, ram := t.ram }) ∧
      (∀ sense : Sense, bits w0 10 6 = 4 → (tget (s.axis x).marks (Fin.ofNat 4 (bits w0 2 2))).isSome = true →
        (sense = .up ∧ bits w0 4 2 = 0) ∨ (sense = .down ∧ bits w0 4 2 = 1) ∨ (sense = .either ∧ bits w0 4 2 = 2) →
        ∃ t, exec (.timeWaitExpiry e) s = .next t ∧ (t.slot e).current = some (a + 2) ∧ (t.slot e).status = some .waiting ∧
          (t.slot e).wait = some (.mark x (Fin.ofNat 4 (bits w0 2 2)) sense) ∧ s.OtherExhibits t e ∧
          t = { s with slots := t.slots, ram := t.ram })) ∧
    (∀ (ch : ChannelNo) (p : Nat), bits w0 10 6 = 7 → bit w0 9 = false → a + 4 ≤ 12288 → tget c.showLamps (Fin.ofNat 8 (bits w0 0 3)) = some ch →
      (s.storeWord (a + 3)).toNat = p → p ≤ 31 ∨ p = 65535 → s.TimeStepAt (a + 4) d →
      ∃ t, exec (.timeWaitExpiry e) s = .next t ∧ (t.slot e).WaitsTime (a + 4) d ∧
        (p = 65535 → (t.channel ch).showLayer = { setting := .idle, phase := .constant }) ∧
        (∀ q : Fin 32, p = q.val → (t.channel ch).showLayer = { setting := .table q, phase := (tget s.patterns q).startPhase }) ∧
        t.channel ch = { s.channel ch with showLayer := (t.channel ch).showLayer, brightness := combined s.patterns (t.channel ch) } ∧
        (∀ x, x ≠ ch → t.channel x = s.channel x) ∧ s.OtherExhibits t e ∧
        (∀ k < 16384, OutsideExhibit e k → t.word k = s.word k) ∧ t = { s with slots := t.slots, channels := t.channels, ram := t.ram }) ∧
    (bits w0 10 6 = 12 → bit w0 9 = false → bits w0 6 2 ≠ 0 → s.part = .run → s.alertOf? (exhibitSource e) .showCall = none → s.alerts.length < 32 →
      s.TimeStepAt (a + 3) d →
      ∃ t, exec (.timeWaitExpiry e) s = .next t ∧ (t.slot e).WaitsTime (a + 3) d ∧ t.alerts.length = s.alerts.length + 1 ∧
        t.alerts.take s.alerts.length = s.alerts ∧
        (∀ y ∈ t.alerts.getLast?, y.source = exhibitSource e ∧ y.cause = .showCall ∧ y.code = bits w0 0 6 ∧ y.severity = bits w0 6 2 ∧
          y.acked = false ∧ y.station = s.routeOf (s.zone (exhibitSource e))) ∧
        s.OtherExhibits t e ∧ (∀ k < 16384, NotOfAlerts k → OutsideExhibit e k → t.word k = s.word k) ∧
        t = { s with slots := t.slots, alerts := t.alerts, stations := t.stations, channels := t.channels, nextNumber := t.nextNumber,
                     rewriteCount := t.rewriteCount, gallery := t.gallery, ram := t.ram }) ∧
    (bit w0 9 = true →
      (s.PassesChecks e c (a + 2) → c.suspendAllowed = true →
        ∃ t, exec (.timeWaitExpiry e) s = .next t ∧
          t.exhibit e = { s.exhibit e with state := .suspended, rest := none, guardAlert := none, returnState := none } ∧
          (t.slot e).current = some (a + 2) ∧ (t.slot e).status = some .held ∧ (t.slot e).wait = none ∧ (t.slot e).runaway = 0 ∧
          (t.slot e).loopCount = (s.slot e).loopCount ∧ t.source e = { s.source e with suspended := true } ∧ s.OtherExhibits t e ∧
          (∀ ch, c.readyLamp ≠ some ch → t.channel ch = s.channel ch) ∧ (∀ k < 16384, OutsideExhibit e k → t.word k = s.word k) ∧
          t = { s with exhibits := t.exhibits, slots := t.slots, sources := t.sources, channels := t.channels, ram := t.ram }) ∧
      (c.suspendAllowed = false → bits w0 10 6 = 11 → s.TimeStepAt (a + 3) d →
        ∃ t, exec (.timeWaitExpiry e) s = .next t ∧ (t.slot e).WaitsTime (a + 3) d ∧ t.exhibit e = s.exhibit e ∧
          t.source e = { s.source e with
            signal := some { code := bits w0 0 8, count := min 255 (((s.source e).signal.map (·.count)).getD 0 + 1) } })))

/-- A TIME wait that runs out goes on at the step's successor; a PRESS wait that times out skips its successor unread but for its length,
here one of one word, an END among them. A frozen slot is not reached (R59, R60, R67). The rest timer's expiry starts the encore show when
the flag is set, the guard closed and no gallery stop in force, and leads to READY in every other case, the flag cleared in both (R6). The
expiry of a lockout and of an acknowledge holdoff stop that timer and change nothing else (R36, R163). A MOTION wait completes as its move
or its homing does, an AXIS_REST wait as its axis comes to rest, a MARK wait at a matching crossing, and the show goes on at the step's
successor; a crossing in the other sense leaves the wait. A STOPPING axis that comes to rest in a HALTING exhibit puts it in READY, with
HALTED set, when no other bound axis is on its way, and leaves it HALTING otherwise; in a show it completes an AXIS_REST wait, and a MOTION
wait when its pending move is to P. A MOVING axis that completes its move ends a halt in the same way (R10, R55 to R58, R66, R88, R114).
That an expiry asserts that its time has come is the model's choice (assumption 3), and what one update contains is its reading (assumption
9). -/
def Obligations.TimersExpire : Prop :=
  (∀ (s : State) (e : ExhibitNo) (a r d : Nat), (s.slot e).current = some a → (s.slot e).status = some .waiting → (s.slot e).frozen = false →
    (s.slot e).wait = some (.time r) → s.reports = [] → s.TimeStepAt (a + 2) d →
    ∃ t, exec (.timeWaitExpiry e) s = .next t ∧ (t.slot e).WaitsTime (a + 2) d ∧ (t.slot e).loopCount = (s.slot e).loopCount ∧
      (t.slot e).firstFault = (s.slot e).firstFault ∧ s.OtherExhibits t e ∧
      (∀ k < 16384, OutsideExhibit e k → t.word k = s.word k) ∧ t = { s with slots := t.slots, ram := t.ram }) ∧
  (∀ (s : State) (e : ExhibitNo) (a r d : Nat), (s.slot e).current = some a → (s.slot e).status = some .waiting → (s.slot e).frozen = false →
    (s.slot e).wait = some (.press (some r)) → s.reports = [] → bits (s.storeWord (a + 2)) 10 6 ∈ [0, 2, 3, 4, 8, 9, 11, 12] →
    s.TimeStepAt (a + 3) d →
    ∃ t, exec (.pressTimeout e) s = .next t ∧ (t.slot e).WaitsTime (a + 3) d ∧ (t.slot e).loopCount = (s.slot e).loopCount ∧
      (t.slot e).firstFault = (s.slot e).firstFault ∧ s.OtherExhibits t e ∧
      (∀ k < 16384, OutsideExhibit e k → t.word k = s.word k) ∧ t = { s with slots := t.slots, ram := t.ram }) ∧
  (∀ (s : State) (e : ExhibitNo), (s.slot e).frozen = true → exec (.timeWaitExpiry e) s = .next s ∧ exec (.pressTimeout e) s = .next s) ∧
  (∀ (s : State) (e : ExhibitNo) (c : ExhibitConfig) (d : Nat), (s.exhibit e).state = .resting → (s.exhibit e).rest ≠ none → s.reports = [] →
    (s.exhibit e).config = some c →
    ((s.exhibit e).encore = false ∨ (s.exhibit e).guardOpen = true ∨ s.stopInForce = true →
      ∃ t, exec (.restExpiry e) s = .next t ∧
        t.exhibit e = { s.exhibit e with state := .ready, encore := false, rest := none, guardAlert := none, returnState := none } ∧
        s.OtherExhibits t e ∧ (∀ ch, c.readyLamp ≠ some ch → t.channel ch = s.channel ch) ∧
        (∀ k < 16384, OutsideExhibit e k → t.word k = s.word k) ∧
        t = { s with exhibits := t.exhibits, channels := t.channels, ram := t.ram }) ∧
    ((s.exhibit e).encore = true → (s.exhibit e).guardOpen = false → s.stopInForce = false → s.TimeStepAt c.defaultShow d →
      ∃ t, exec (.restExpiry e) s = .next t ∧
        t.exhibit e = { s.exhibit e with state := .running, encore := false, rest := none, guardAlert := none, returnState := none } ∧
        (t.slot e).WaitsTime c.defaultShow d ∧ s.OtherExhibits t e ∧
        (∀ k < 16384, OutsideExhibit e k → t.word k = s.word k) ∧
        t = { s with exhibits := t.exhibits, slots := t.slots, channels := t.channels, ram := t.ram })) ∧
  (∀ (s : State) (b : ButtonNo), ∃ t, exec (.lockoutExpiry b) s = .next t ∧ t.button b = { s.button b with lockout := none } ∧
    (∀ c, c ≠ b → t.button c = s.button c) ∧ t = { s with buttons := t.buttons }) ∧
  (∀ (s : State) (st : StationNo), ∃ t, exec (.holdoffExpiry st) s = .next t ∧ t.station st = { s.station st with holdoff := none } ∧
    (∀ u, u ≠ st → t.station u = s.station u) ∧ t = { s with stations := t.stations }) ∧
  (∀ (s : State) (x : AxisNo) (e : ExhibitNo) (y : AxisConfig) (m : MoveRecord) (v n r d ad : Nat) (p : Int), (s.axis x).state = .moving →
    (s.axis x).config = some y → (s.axis x).move = some m → (s.axis x).limitAhead = false → s.axisOwner x = some e → s.reports = [] →
    (s.axis x).ProfileStep (tget y.sets m.speedSet) m.target v n p → (s.axis x).RunAfter y p r → r = 0 ∨ r < y.stallTime → s.pool.waiting = [] →
    (∀ (w : Wait), p = m.target → (w = .motion x .move ∨ w = .axisRest x) → (s.slot e).wait = some w → (s.slot e).status = some .waiting →
      (s.slot e).frozen = false → (s.slot e).current = some ad → (s.exhibit e).state ≠ .halting → s.TimeStepAt (ad + w.stepLength) d →
      ∃ t, exec (.axisUpdate x) s = .next t ∧ (t.axis x).state = .idle ∧ (t.axis x).pos = m.target ∧
        (t.slot e).WaitsTime (ad + w.stepLength) d ∧ (t.slot e).loopCount = (s.slot e).loopCount ∧ s.OtherExhibits t e ∧ s.OtherAxes t x ∧
        t = { s with slots := t.slots, axes := t.axes, pool := t.pool, ram := t.ram }) ∧
    (p = m.target → (s.exhibit e).state = .halting → (s.slot e).current = none → (s.slot e).wait = none →
      (∀ b ∈ s.boundAxes e, b ≠ x → (s.axis b).state.busy = false) →
      ∃ t, exec (.axisUpdate x) s = .next t ∧ (t.axis x).state = .idle ∧ (t.exhibit e).state = .ready ∧
        t.source e = { s.source e with halted := true } ∧ s.OtherExhibits t e ∧ s.OtherAxes t x ∧
        t = { s with exhibits := t.exhibits, sources := t.sources, channels := t.channels, axes := t.axes, pool := t.pool, ram := t.ram }) ∧
    (∀ (k : Fin 4) (sense : Sense) (q : Int), p ≠ m.target → (s.slot e).wait = some (.mark x k sense) → (s.slot e).status = some .waiting →
      (s.slot e).frozen = false → (s.slot e).current = some ad → (s.exhibit e).state ≠ .halting →
      tget y.marks k = some q → tget (s.axis x).sides k = some (sideOf q (s.axis x).pos) →
      ((sense ≠ .down ∧ (s.axis x).pos < q ∧ q ≤ p) ∨ (sense ≠ .up ∧ p < q ∧ q ≤ (s.axis x).pos) → s.TimeStepAt (ad + 1) d →
        ∃ t, exec (.axisUpdate x) s = .next t ∧ (t.slot e).WaitsTime (ad + 1) d ∧ (t.axis x).pos = p ∧ (t.axis x).state = .moving ∧
          tget (t.axis x).sides k = some (sideOf q p) ∧ s.OtherExhibits t e ∧ s.OtherAxes t x ∧
          t = { s with slots := t.slots, axes := t.axes, ram := t.ram }) ∧
      ((sense = .down ∧ (s.axis x).pos < q ∧ q ≤ p) ∨ (sense = .up ∧ p < q ∧ q ≤ (s.axis x).pos) →
        ∃ t, exec (.axisUpdate x) s = .next t ∧ t.slot e = s.slot e ∧ (t.axis x).pos = p ∧ s.OtherAxes t x ∧
          t = { s with axes := t.axes, ram := t.ram }))) ∧
  (∀ (s : State) (x : AxisNo) (e : ExhibitNo) (y : AxisConfig) (m : MoveRecord) (b p : Int) (dr : Dir) (v n r d ad : Nat), (s.axis x).state = .stopping →
    (s.axis x).config = some y → (s.axis x).move = some m → (s.axis x).stopBound = some b → (s.axis x).dir = some dr →
    (s.axis x).limitAhead = false → s.axisOwner x = some e → s.reports = [] →
    v = (s.axis x).vel - (tget y.sets m.speedSet).accel → n = min (((s.axis x).acc + v) / 1000) (b - (s.axis x).pos).natAbs →
    p = (if dr = .towardHigh then (s.axis x).pos + n else (s.axis x).pos - n) → (s.axis x).RunAfter y p r → r = 0 ∨ r < y.stallTime →
    s.pool.waiting = [] → v = 0 ∨ n = (b - (s.axis x).pos).natAbs →
    ((s.axis x).request = none → (s.exhibit e).state = .halting → (s.slot e).current = none → (s.slot e).wait = none →
      ∃ t, exec (.axisUpdate x) s = .next t ∧
        t.axis x = { s.axis x with
          state := .idle, move := none, stopBound := none, vel := 0, acc := 0, dir := none, pos := p, pulses := n, followRun := r,
          sides := sidesAt y.marks p, imageStale := (t.axis x).imageStale } ∧
        t.pool.free = s.pool.free + tget s.pool.held x ∧ tget t.pool.held x = 0 ∧ t.pool.waiting = [] ∧
        ((∀ c ∈ s.boundAxes e, c ≠ x → (s.axis c).state.busy = false) →
          t.exhibit e = { s.exhibit e with state := .ready, encore := false, rest := none, guardAlert := none, returnState := none } ∧
          t.source e = { s.source e with halted := true }) ∧
        ((∃ c ∈ s.boundAxes e, c ≠ x ∧ (s.axis c).state.busy = true) → t.exhibit e = s.exhibit e ∧ t.source e = s.source e) ∧
        t.slot e = s.slot e ∧ s.OtherExhibits t e ∧ s.OtherAxes t x ∧
        (∀ ch, (s.exhibit e).config.bind (·.readyLamp) ≠ some ch → t.channel ch = s.channel ch) ∧
        (∀ k < 16384, OutsideExhibit e k → OutsideAxis x k → t.word k = s.word k) ∧
        t = { s with exhibits := t.exhibits, sources := t.sources, channels := t.channels, axes := t.axes, pool := t.pool, ram := t.ram }) ∧
    (∀ (w : Wait), (w = .axisRest x ∧ (s.axis x).request = none) ∨
        ((w = .axisRest x ∨ w = .motion x .move) ∧ ∃ i, (s.axis x).request = some (.move p i)) →
      (s.slot e).wait = some w → (s.slot e).status = some .waiting → (s.slot e).frozen = false → (s.slot e).current = some ad →
      (s.exhibit e).state ≠ .halting → s.TimeStepAt (ad + w.stepLength) d →
      ∃ t, exec (.axisUpdate x) s = .next t ∧ (t.axis x).state = .idle ∧ (t.axis x).pos = p ∧ (t.axis x).request = none ∧
        (t.slot e).WaitsTime (ad + w.stepLength) d ∧ (t.slot e).loopCount = (s.slot e).loopCount ∧ s.OtherExhibits t e ∧ s.OtherAxes t x ∧
        t = { s with slots := t.slots, axes := t.axes, pool := t.pool, ram := t.ram })) ∧
  (∀ (s : State) (x : AxisNo) (e : ExhibitNo) (y : AxisConfig) (d ad : Nat), (s.axis x).state = .homing → (s.axis x).phase = some .creep →
    (s.axis x).config = some y → s.axisOwner x = some e → s.reports = [] → s.pool.waiting = [] →
    (s.slot e).wait = some (.motion x .home) → (s.slot e).status = some .waiting → (s.slot e).frozen = false → (s.slot e).current = some ad →
    s.TimeStepAt (ad + 1) d →
    ∃ t, exec (.indexEvent x) s = .next t ∧ (t.axis x).state = .idle ∧ (t.axis x).homed = true ∧ (t.slot e).WaitsTime (ad + 1) d ∧
      s.OtherExhibits t e ∧ s.OtherAxes t x)

/-- The update of a MOVING axis runs the profile's steps: V by the braking distance, R and the step count, P toward the target and never
past it; on reaching it the axis enters IDLE and returns its units. The following-error run grows or ends after the steps, and a run that
reaches the stall time stalls the axis (R87, R90, R91). The update of a STOPPING axis lowers V by A and does not pass the stop bound, toward
either end; at rest it starts its pending move, or enters IDLE and returns its units. The update of a HOMING axis goes on at its speed
within the home search distance and the position range, toward either end, and fails the homing where one of them is spent. A run of
following error grows until it stalls the axis; of an axis at rest it is then the disturbance. An OFF, UNHOMED or FAULTED axis issues no
pulse and keeps no run. An update that goes on does so whatever show or halt waits for the axis, if none waits for a crossing of it (R88,
R90, R91, R107, R109). What one update contains is the model's reading (assumption 9); that no pulse goes out in the update that fails a
homing, and that DIR turns at once for a pending move that starts over the pulses of its update, is its choice (assumptions 43 and 45). -/
def Obligations.UpdateRunsAxis : Prop :=
  (∀ (s : State) (a : AxisNo) (c : AxisConfig) (m : MoveRecord) (v n r : Nat) (p : Int), (s.axis a).state = .moving →
    (s.axis a).config = some c → (s.axis a).move = some m → (s.axis a).limitAhead = false → s.Uncrossed a → s.reports = [] →
    (s.axis a).ProfileStep (tget c.sets m.speedSet) m.target v n p → (s.axis a).RunAfter c p r →
    (p ≠ m.target → r = 0 ∨ r < c.stallTime →
      ∃ t, exec (.axisUpdate a) s = .next t ∧
        t.axis a = { s.axis a with
          vel := v, acc := ((s.axis a).acc + v) % 1000, pos := p, pulses := n, followRun := r, sides := sidesAt c.marks p,
          imageStale := (t.axis a).imageStale } ∧
        s.OtherAxes t a ∧ (∀ k < 16384, OutsideAxis a k → t.word k = s.word k) ∧ t = { s with axes := t.axes, ram := t.ram }) ∧
    (p ≠ m.target → r ≠ 0 → c.stallTime ≤ r → s.axisOwner a = none → s.pool.waiting = [] →
      ∃ t, exec (.axisUpdate a) s = .next t ∧ (t.axis a).state = .faulted ∧ (t.axis a).cause = some .stall ∧
        (t.axis a).homed = (s.axis a).homed ∧ (t.axis a).pos = (s.axis a).encoder ∧ (t.axis a).vel = 0 ∧
        t.pool.free = s.pool.free + tget s.pool.held a ∧ tget t.pool.held a = 0 ∧
        t.gallery.axisFault = s.gallery.axisFault ||| (1#16 <<< a.val) ∧ s.OtherAxes t a) ∧
    (p = m.target → s.Unwatched a → r = 0 ∨ r < c.stallTime → s.pool.waiting = [] →
      ∃ t, exec (.axisUpdate a) s = .next t ∧ (t.axis a).state = .idle ∧ (t.axis a).pos = m.target ∧ (t.axis a).vel = 0 ∧
        (t.axis a).acc = 0 ∧ (t.axis a).dir = none ∧ (t.axis a).pulses = n ∧ (t.axis a).followRun = r ∧
        t.pool.free = s.pool.free + tget s.pool.held a ∧ tget t.pool.held a = 0 ∧ s.OtherAxes t a ∧
        (∀ k < 16384, OutsideAxis a k → t.word k = s.word k) ∧ t = { s with axes := t.axes, pool := t.pool, ram := t.ram })) ∧
  (∀ (s : State) (a : AxisNo) (c : AxisConfig) (m : MoveRecord) (b p : Int) (d : Dir) (v n r : Nat), (s.axis a).state = .stopping →
    (s.axis a).config = some c → (s.axis a).move = some m → (s.axis a).stopBound = some b → (s.axis a).dir = some d →
    (s.axis a).limitAhead = false → s.Uncrossed a → s.reports = [] →
    v = (s.axis a).vel - (tget c.sets m.speedSet).accel → n = min (((s.axis a).acc + v) / 1000) (b - (s.axis a).pos).natAbs →
    p = (if d = .towardHigh then (s.axis a).pos + n else (s.axis a).pos - n) → (s.axis a).RunAfter c p r →
    (v ≠ 0 → n ≠ (b - (s.axis a).pos).natAbs → r = 0 ∨ r < c.stallTime →
      ∃ t, exec (.axisUpdate a) s = .next t ∧
        t.axis a = { s.axis a with
          vel := v, acc := ((s.axis a).acc + v) % 1000, pos := p, pulses := n, followRun := r, sides := sidesAt c.marks p,
          imageStale := (t.axis a).imageStale } ∧
        s.OtherAxes t a ∧ (∀ k < 16384, OutsideAxis a k → t.word k = s.word k) ∧ t = { s with axes := t.axes, ram := t.ram }) ∧
    (v ≠ 0 → n ≠ (b - (s.axis a).pos).natAbs → r ≠ 0 → c.stallTime ≤ r → s.axisOwner a = none → s.pool.waiting = [] →
      ∃ t, exec (.axisUpdate a) s = .next t ∧ (t.axis a).state = .faulted ∧ (t.axis a).cause = some .stall ∧
        (t.axis a).pos = (s.axis a).encoder ∧ tget t.pool.held a = 0 ∧ s.OtherAxes t a) ∧
    (v = 0 ∨ n = (b - (s.axis a).pos).natAbs → r = 0 ∨ r < c.stallTime →
      (∀ (target : Int) (i : Fin 4), (s.axis a).request = some (.move target i) → target ≠ p →
        ∃ t, exec (.axisUpdate a) s = .next t ∧
          t.axis a = { s.axis a with
            state := .moving, move := some { target := target, speedSet := i }, request := none, stopBound := none,
            vel := (tget c.sets i).vs, acc := 0, pos := p, pulses := n, followRun := r, sides := sidesAt c.marks p,
            dir := some (if p < target then .towardHigh else .towardLow), dirOut := some (if p < target then .towardHigh else .towardLow),
            imageStale := (t.axis a).imageStale } ∧
          s.OtherAxes t a ∧ (∀ k < 16384, OutsideAxis a k → t.word k = s.word k) ∧ t = { s with axes := t.axes, ram := t.ram }) ∧
      ((∀ (target : Int) (i : Fin 4), (s.axis a).request = some (.move target i) → target = p) → s.Unwatched a → s.pool.waiting = [] →
        ∃ t, exec (.axisUpdate a) s = .next t ∧
          t.axis a = { s.axis a with
            state := .idle, move := none, request := none, stopBound := none, vel := 0, acc := 0, dir := none, pos := p, pulses := n,
            followRun := r, sides := sidesAt c.marks p, imageStale := (t.axis a).imageStale } ∧
          t.pool.free = s.pool.free + tget s.pool.held a ∧ tget t.pool.held a = 0 ∧
          (∀ b, b ≠ a → tget t.pool.held b = tget s.pool.held b) ∧ t.pool.waiting = [] ∧ s.OtherAxes t a ∧
          (∀ k < 16384, OutsideAxis a k → t.word k = s.word k) ∧ t = { s with axes := t.axes, pool := t.pool, ram := t.ram }))) ∧
  (∀ (s : State) (a : AxisNo) (c : AxisConfig) (d : Dir) (room n r : Nat) (p : Int), (s.axis a).state = .homing → (s.axis a).config = some c →
    (s.axis a).dir = some d → (s.axis a).limitAhead = false → s.Uncrossed a → s.reports = [] →
    room = (if d = .towardHigh then (8388607 - (s.axis a).pos).toNat else ((s.axis a).pos + 8388608).toNat) →
    n = min (((s.axis a).acc + (s.axis a).vel) / 1000) (min (c.searchDistance - (s.axis a).travelled) room) →
    p = (if d = .towardHigh then (s.axis a).pos + n else (s.axis a).pos - n) → (s.axis a).RunAfter c p r →
    ((s.axis a).travelled < c.searchDistance → room ≠ 0 → r = 0 ∨ r < c.stallTime →
      ∃ t, exec (.axisUpdate a) s = .next t ∧
        t.axis a = { s.axis a with
          acc := ((s.axis a).acc + (s.axis a).vel) % 1000, pos := p, travelled := (s.axis a).travelled + n, pulses := n, followRun := r,
          sides := sidesAt c.marks p, imageStale := (t.axis a).imageStale } ∧
        s.OtherAxes t a ∧ (∀ k < 16384, OutsideAxis a k → t.word k = s.word k) ∧ t = { s with axes := t.axes, ram := t.ram }) ∧
    ((s.axis a).travelled = c.searchDistance ∨ room = 0 ∨ (r ≠ 0 ∧ c.stallTime ≤ r ∧ (s.axis a).travelled < c.searchDistance) →
      s.axisOwner a = none → s.pool.waiting = [] →
      ∃ t, exec (.axisUpdate a) s = .next t ∧ (t.axis a).state = .faulted ∧ (t.axis a).cause = some .homeFail ∧ (t.axis a).homed = false ∧
        (t.axis a).pos = (s.axis a).encoder ∧ (t.axis a).pulses = 0 ∧ tget t.pool.held a = 0 ∧
        t.gallery.axisFault = s.gallery.axisFault ||| (1#16 <<< a.val) ∧ s.OtherAxes t a)) ∧
  (∀ (s : State) (a : AxisNo) (c : AxisConfig) (r : Nat), (s.axis a).state = .idle ∨ (s.axis a).state = .awaitPower →
    (s.axis a).config = some c → s.reports = [] → (s.axis a).RunAfter c (s.axis a).pos r →
    (r = 0 ∨ r < c.stallTime →
      ∃ t, exec (.axisUpdate a) s = .next t ∧ t.axis a = { s.axis a with pulses := 0, followRun := r } ∧ s.OtherAxes t a ∧
        t = { s with axes := t.axes }) ∧
    (r ≠ 0 → c.stallTime ≤ r →
      exec (.axisUpdate a) s = exec (.disturbance a) (s.setAxis a { s.axis a with pulses := 0, followRun := r }))) ∧
  (∀ (s : State) (a : AxisNo), (s.axis a).state = .off ∨ (s.axis a).state = .unhomed ∨ (s.axis a).state = .faulted → s.reports = [] →
    ∃ t, exec (.axisUpdate a) s = .next t ∧
      t.axis a = { s.axis a with pulses := 0, followRun := if (s.axis a).config = none then (s.axis a).followRun else 0 } ∧
      s.OtherAxes t a ∧ t = { s with axes := t.axes })

/-- A disturbance re-syncs an unbound axis at rest, marks it in the gallery record and raises MODEL_DISTURBED; outside the travel window the
axis faults with cause TRAVEL. An axis not at rest has none (R90). A disturbance of a bound axis re-syncs it and raises MODEL_DISTURBED with
its exhibit as source; the gallery record does not change, nor does the exhibit (R90). That the event asserts the run, and that it does
nothing elsewhere, is the model's choice (assumption 3). -/
def Obligations.DisturbanceResyncs : Prop :=
  (∀ (s : State) (a : AxisNo), (s.axis a).state = .idle → s.axisOwner a = none → s.reports = [] → s.part = .run →
    s.alertOf? gallerySource .modelDisturbed = none → s.alerts.length < 32 →
    ((s.axis a).inWindow (s.axis a).encoder = true →
      ∃ t, exec (.disturbance a) s = .next t ∧
        t.axis a = { s.axis a with pos := (s.axis a).encoder, followRun := 0, imageStale := false,
                                    sides := sidesAt (s.axis a).marks (s.axis a).encoder } ∧
        t.gallery.disturbed = s.gallery.disturbed ||| (1#16 <<< a.val) ∧ t.alerts.length = s.alerts.length + 1 ∧
        (∀ y ∈ t.alerts.getLast?, y.source = gallerySource ∧ y.cause = .modelDisturbed ∧ y.severity = 1) ∧ s.OtherAxes t a ∧
        (∀ k < 16384, NotOfAlerts k → OutsideAxis a k → t.word k = s.word k) ∧
        t = { s with axes := t.axes, alerts := t.alerts, stations := t.stations, channels := t.channels, nextNumber := t.nextNumber,
                     rewriteCount := t.rewriteCount, gallery := t.gallery, ram := t.ram }) ∧
    ((s.axis a).inWindow (s.axis a).encoder = false → s.pool.waiting = [] →
      ∃ t, exec (.disturbance a) s = .next t ∧ (t.axis a).state = .faulted ∧ (t.axis a).cause = some .travel ∧
        (t.axis a).pos = (s.axis a).encoder ∧ (t.axis a).homed = (s.axis a).homed ∧
        t.gallery.disturbed = s.gallery.disturbed ||| (1#16 <<< a.val) ∧
        t.gallery.axisFault = s.gallery.axisFault ||| (1#16 <<< a.val) ∧ s.OtherAxes t a ∧ t.pool = s.pool)) ∧
  (∀ (s : State) (a : AxisNo), (s.axis a).state ≠ .idle → (s.axis a).state ≠ .awaitPower → exec (.disturbance a) s = .next s) ∧
  (∀ (s : State) (a : AxisNo) (e : ExhibitNo), (s.axis a).state = .idle ∨ (s.axis a).state = .awaitPower → s.axisOwner a = some e →
    s.Unwatched a → s.reports = [] → s.part = .run → (s.axis a).inWindow (s.axis a).encoder = true →
    s.alertOf? (exhibitSource e) .modelDisturbed = none → s.alerts.length < 32 →
    ∃ t, exec (.disturbance a) s = .next t ∧
      t.axis a = { s.axis a with
        pos := (s.axis a).encoder, followRun := 0, imageStale := false, sides := sidesAt (s.axis a).marks (s.axis a).encoder } ∧
      t.gallery.disturbed = s.gallery.disturbed ∧ t.alerts.length = s.alerts.length + 1 ∧
      (∀ y ∈ t.alerts.getLast?, y.source = exhibitSource e ∧ y.cause = .modelDisturbed ∧ y.severity = 1) ∧ s.OtherAxes t a ∧
      (∀ k < 16384, NotOfAlerts k → OutsideAxis a k → t.word k = s.word k) ∧
      t = { s with axes := t.axes, alerts := t.alerts, stations := t.stations, channels := t.channels, nextNumber := t.nextNumber,
                   rewriteCount := t.rewriteCount, gallery := t.gallery, ram := t.ram })

/-- A stall, a limit switch asserted ahead, a spent home search and a home switch opening in CREEP fault an unbound driving axis: a quick
stop at the encoder count, the units returned, the axis marked in the gallery record; HOME_FAIL from HOMING, else STALL or LIMIT (R91 to
R93, R109). The fault of a bound axis meets its exhibit by its state. READY and RESTING: FAULTED, with the fault as first fault at address
0xFFFF. RUNNING, SUSPENDED and GUARDED: the show ends at its step address, its other moving axes stop, and the exhibit is FAULTED. HALTING:
FAULTED, without HALTED. LOCKED and FAULTED stay; LOCKED records the first fault and sets no condition. AXIS_FAULT, severity 2, is raised
with the exhibit as source and the gallery record stays (R9, R68, R69, R93). A limit switch asserted on an axis not travelling toward it, a
limit switch released, and a home switch opening outside CREEP change the recognised level and nothing else; an index event outside CREEP, a
spent search outside HOMING and a stall of an axis at rest change nothing (R92, R103, R108). That an event that cannot arise changes nothing
is the model's choice (assumption 3), and the address of a first fault while LOCKED is too (assumption 34). -/
def Obligations.AxisFaultsAndSwitches : Prop :=
  (∀ (s : State) (a : AxisNo) (ev : Instr) (cause : FaultCause), (s.axis a).state.drives = true → s.axisOwner a = none → s.reports = [] →
    s.pool.waiting = [] →
    (ev = .stall a ∧ cause = (if (s.axis a).state = .homing then .homeFail else .stall)) ∨
      (ev = .limitAsserted a .low ∧ (s.axis a).limitLow.level = false ∧ (s.axis a).dir = some .towardLow ∧
        cause = (if (s.axis a).state = .homing then .homeFail else .limit)) ∨
      (ev = .limitAsserted a .high ∧ (s.axis a).limitHigh.level = false ∧ (s.axis a).dir = some .towardHigh ∧
        cause = (if (s.axis a).state = .homing then .homeFail else .limit)) ∨
      (ev = .homeSearchExhausted a ∧ (s.axis a).state = .homing ∧ cause = .homeFail) ∨
      (ev = .homeSwitchOpening a ∧ (s.axis a).state = .homing ∧ (s.axis a).phase = some .creep ∧ (s.axis a).homeSwitch.level = true ∧
        cause = .homeFail) →
    ∃ t, exec ev s = .next t ∧ (t.axis a).state = .faulted ∧ (t.axis a).cause = some cause ∧
      (t.axis a).homed = ((s.axis a).homed && cause != .homeFail) ∧ (t.axis a).pos = (s.axis a).encoder ∧
      (t.axis a).encoder = (s.axis a).encoder ∧ (t.axis a).vel = 0 ∧ (t.axis a).acc = 0 ∧ (t.axis a).dir = none ∧ (t.axis a).move = none ∧
      (t.axis a).request = none ∧ t.pool.free = s.pool.free + tget s.pool.held a ∧ tget t.pool.held a = 0 ∧
      (∀ b, b ≠ a → tget t.pool.held b = tget s.pool.held b) ∧ t.gallery.axisFault = s.gallery.axisFault ||| (1#16 <<< a.val) ∧
      s.OtherAxes t a ∧ (∀ k < 16384, NotOfAlerts k → OutsideAxis a k → t.word k = s.word k) ∧
      t = { s with axes := t.axes, pool := t.pool, alerts := t.alerts, stations := t.stations, channels := t.channels,
                   nextNumber := t.nextNumber, rewriteCount := t.rewriteCount, gallery := t.gallery, ram := t.ram }) ∧
  (∀ (s : State) (a : AxisNo) (e : ExhibitNo) (c : ExhibitConfig) (ev : Instr) (cause : FaultCause), s.axisOwner a = some e →
    (s.exhibit e).config = some c → s.reports = [] → s.pool.waiting = [] → (∀ m up, (s.slot e).awaitsCrossing a m up = false) →
    (∀ b ∈ s.boundAxes e, b ≠ a → (s.axis b).state ≠ .homing ∧ (s.axis b).state ≠ .awaitPower) →
    (ev = .stall a ∧ (s.axis a).state.drives = true ∧ cause = (if (s.axis a).state = .homing then .homeFail else .stall)) ∨
      (ev = .limitAsserted a .high ∧ (s.axis a).limitHigh.level = false ∧ (s.axis a).dir = some .towardHigh ∧ (s.axis a).state.drives = true ∧
        cause = (if (s.axis a).state = .homing then .homeFail else .limit)) ∨
      (ev = .homeSearchExhausted a ∧ (s.axis a).state = .homing ∧ cause = .homeFail) ∨
      (ev = .disturbance a ∧ (s.axis a).state = .idle ∧ (s.axis a).inWindow (s.axis a).encoder = false ∧ cause = .travel) →
    ∃ t, exec ev s = .next t ∧ (t.axis a).state = .faulted ∧ (t.axis a).cause = some cause ∧ (t.axis a).pos = (s.axis a).encoder ∧
      (ev ≠ .disturbance a → tget t.pool.held a = 0) ∧ t.gallery.axisFault = s.gallery.axisFault ∧ s.OtherExhibits t e ∧
      (s.part = .run → s.alerts.length < 31 →
        ∃ y ∈ t.alerts, y.source = exhibitSource e ∧ y.cause = .axisFault ∧ y.severity = 2 ∧ y.acked = false) ∧
      ((s.exhibit e).state = .ready ∨ (s.exhibit e).state = .resting ∨ (s.exhibit e).state = .halting →
        (t.exhibit e).state = .faulted ∧ (t.exhibit e).encore = false ∧ (t.exhibit e).rest = none ∧
        (t.slot e).firstFault = some ((s.slot e).firstFault.getD { code := cause.showFault, address := 0xFFFF }) ∧
        t.source e = { s.source e with faulted := (t.slot e).firstFault.map fun f => { code := some f.code, address := f.address } } ∧
        (∀ b, b ≠ a → b ∈ s.boundAxes e → t.axis b = { s.axis b with resume := none })) ∧
      (∀ ad, (s.exhibit e).state = .running ∨ (s.exhibit e).state = .suspended ∨ (s.exhibit e).state = .guarded →
        (s.slot e).current = some ad →
        (t.exhibit e).state = .faulted ∧ (t.exhibit e).encore = false ∧ (t.slot e).current = none ∧
        (t.slot e).firstFault = some ((s.slot e).firstFault.getD { code := cause.showFault, address := ad }) ∧
        t.source e = { s.source e with faulted := (t.slot e).firstFault.map fun f => { code := some f.code, address := f.address } } ∧
        (∀ ch, c.namesShowLamp ch = true → (t.channel ch).showLayer.setting = .idle) ∧
        (∀ b ∈ s.boundAxes e, b ≠ a → (s.axis b).state = .moving ∨ (s.axis b).state = .stopping →
          (t.axis b).state = .stopping ∧ (t.axis b).request = none ∧ (t.axis b).vel = (s.axis b).vel)) ∧
      ((s.exhibit e).state = .locked → t.exhibit e = s.exhibit e ∧ t.source e = s.source e ∧
        (t.slot e).firstFault = some ((s.slot e).firstFault.getD { code := cause.showFault, address := 0xFFFF })) ∧
      ((s.exhibit e).state = .faulted → t.exhibit e = s.exhibit e ∧ t.source e = s.source e ∧ t.slot e = s.slot e) ∧
      (∀ b, b ≠ a → b ∉ s.boundAxes e → t.axis b = s.axis b)) ∧
  (∀ (s : State) (a : AxisNo), s.reports = [] →
    ((s.axis a).limitHigh.level = false → (s.axis a).state.drives = false ∨ (s.axis a).dir ≠ some .towardHigh →
      ∃ t, exec (.limitAsserted a .high) s = .next t ∧
        t.axis a = { s.axis a with limitHigh := { pin := true, level := true, run := 0 } } ∧ s.OtherAxes t a ∧ t = { s with axes := t.axes }) ∧
    ((s.axis a).limitLow.level = false → (s.axis a).state.drives = false ∨ (s.axis a).dir ≠ some .towardLow →
      ∃ t, exec (.limitAsserted a .low) s = .next t ∧
        t.axis a = { s.axis a with limitLow := { pin := true, level := true, run := 0 } } ∧ s.OtherAxes t a ∧ t = { s with axes := t.axes }) ∧
    ((s.axis a).limitHigh.level = true →
      ∃ t, exec (.limitReleased a .high) s = .next t ∧
        t.axis a = { s.axis a with limitHigh := { pin := false, level := false, run := 0 } } ∧ s.OtherAxes t a ∧ t = { s with axes := t.axes }) ∧
    ((s.axis a).limitLow.level = true →
      ∃ t, exec (.limitReleased a .low) s = .next t ∧
        t.axis a = { s.axis a with limitLow := { pin := false, level := false, run := 0 } } ∧ s.OtherAxes t a ∧ t = { s with axes := t.axes }) ∧
    ((s.axis a).homeSwitch.level = true → (s.axis a).state ≠ .homing ∨ (s.axis a).phase ≠ some .creep →
      ∃ t, exec (.homeSwitchOpening a) s = .next t ∧
        t.axis a = { s.axis a with homeSwitch := { pin := false, level := false, run := 0 } } ∧ s.OtherAxes t a ∧ t = { s with axes := t.axes })) ∧
  (∀ (s : State) (a : AxisNo), (s.reports = [] → (s.axis a).state ≠ .homing ∨ (s.axis a).phase ≠ some .creep → exec (.indexEvent a) s = .next s) ∧
    ((s.axis a).state ≠ .homing → exec (.homeSearchExhausted a) s = .next s) ∧
    ((s.axis a).state.drives = false → exec (.stall a) s = .next s))

/-- A home switch closing in SEEK turns the homing to CREEP at the creep speed; an index event in CREEP loads HOME_VALUE into P and the
encoder count, sets the homed flag, returns the units and leaves the axis IDLE (R95, R103, R108, R111). That the arrival sets the pulse
count of an update of its millisecond to 0 is the model's choice (assumption 44). -/
def Obligations.HomingArrives : Prop :=
  (∀ (s : State) (a : AxisNo) (c : AxisConfig), (s.axis a).homeSwitch.level = false → (s.axis a).config = some c →
    ((s.axis a).state = .homing → (s.axis a).phase = some .seek →
      ∃ t, exec (.homeSwitchClosing a) s = .next t ∧
        t.axis a = { s.axis a with
          homeSwitch := { pin := true, level := true, run := 0 }, phase := some .creep, vel := c.creepSpeed, imageStale := (t.axis a).imageStale } ∧
        s.OtherAxes t a ∧ t = { s with axes := t.axes, ram := t.ram } ∧ (∀ k < 16384, OutsideAxis a k → t.word k = s.word k)) ∧
    ((s.axis a).state ≠ .homing →
      ∃ t, exec (.homeSwitchClosing a) s = .next t ∧ t.axis a = { s.axis a with homeSwitch := { pin := true, level := true, run := 0 } } ∧
        s.OtherAxes t a ∧ t = { s with axes := t.axes })) ∧
  (∀ (s : State) (a : AxisNo) (c : AxisConfig), (s.axis a).state = .homing → (s.axis a).phase = some .creep → (s.axis a).config = some c →
    s.axisOwner a = none → s.reports = [] → s.pool.waiting = [] →
    ∃ t, exec (.indexEvent a) s = .next t ∧
      t.axis a = { s.axis a with
        state := .idle, vel := 0, acc := 0, dir := none, request := none, phase := none, homed := true, pulses := 0, followRun := 0,
        pos := c.homeValue, encoder := c.homeValue, speedRef := (s.axis a).speedRef + (c.homeValue - (s.axis a).encoder),
        sides := sidesAt c.marks c.homeValue, imageStale := (t.axis a).imageStale } ∧
      t.pool.free = s.pool.free + tget s.pool.held a ∧ tget t.pool.held a = 0 ∧ t.pool.waiting = [] ∧ s.OtherAxes t a ∧
      (∀ k < 16384, OutsideAxis a k → t.word k = s.word k) ∧ t = { s with axes := t.axes, pool := t.pool, ram := t.ram })

/-- The encoder count follows the quadrature input up to the ends of its range; P follows it in OFF and UNHOMED and is held in every other
state, of an unbound axis and of one whose exhibit waits for no crossing of it (R80). That one command carries several counts is the model's
choice (assumption 10). -/
def Obligations.EncoderCountFollowed : Prop :=
  ∀ (s : State) (a : AxisNo) (delta n : Int), s.reports = [] →
    (∀ e ∈ s.axisOwner a, ∀ m up, (s.slot e).awaitsCrossing a m up = false) → -8388608 ≤ (s.axis a).encoder → (s.axis a).encoder ≤ 8388607 →
    n = max (-8388608) (min 8388607 ((s.axis a).encoder + delta)) →
    ((s.axis a).state = .off ∨ (s.axis a).state = .unhomed → (s.axis a).pos = (s.axis a).encoder →
      ∃ t, exec (.encoderCountChange a delta) s = .next t ∧ (t.axis a).encoder = n ∧ (t.axis a).pos = n ∧ (t.axis a).state = (s.axis a).state ∧
        s.OtherAxes t a ∧ (∀ k < 16384, OutsideAxis a k → t.word k = s.word k) ∧ t = { s with axes := t.axes, ram := t.ram }) ∧
    ((s.axis a).state ≠ .off → (s.axis a).state ≠ .unhomed →
      ∃ t, exec (.encoderCountChange a delta) s = .next t ∧
        t.axis a = { s.axis a with encoder := n, imageStale := (t.axis a).imageStale } ∧ s.OtherAxes t a ∧
        (∀ k < 16384, OutsideAxis a k → t.word k = s.word k) ∧ t = { s with axes := t.axes, ram := t.ram })

/-- The measured speed is ten times the counts since the reference count, up to 65535; the reference count becomes the encoder count; and
the part's clock makes the measurement of every axis due every 100 ms (R95). A refresh writes the eight words of the axis image with the
values the axis holds, and nothing else (R96). The clock that makes the measurement due is the model's (assumption 2). -/
def Obligations.SpeedAndImage : Prop :=
  (∀ (s : State) (a : AxisNo), ∃ t, exec (.speedMeasurement a) s = .next t ∧
    t.axis a = { s.axis a with
      measuredSpeed := min 65535 (((s.axis a).encoder - (s.axis a).speedRef).natAbs * 10), speedRef := (s.axis a).encoder, imageStale := false } ∧
    s.OtherAxes t a ∧ (∀ k < 16384, OutsideAxis a k → t.word k = s.word k) ∧ t = { s with axes := t.axes, ram := t.ram }) ∧
  (∀ s : State, s.pending = [] → ∃ t, step s = .next t ∧
    ((s.cadence.quarter = 3 ∧ s.cadence.speed = 99) → t.cadence.speed = 0 ∧ ∀ a, .speedMeasurement a ∈ t.pending) ∧
    ((s.cadence.quarter = 3 ∧ s.cadence.speed < 99) → t.cadence.speed = s.cadence.speed + 1 ∧ ∀ a, .speedMeasurement a ∉ t.pending) ∧
    (s.cadence.quarter ≠ 3 → t.cadence.speed = s.cadence.speed ∧ ∀ a, .speedMeasurement a ∉ t.pending)) ∧
  (∀ (s : State) (a : AxisNo), ∃ t, exec (.axisImageRefresh a) s = .next t ∧ (∀ k < 8, t.word (addrAxisImage a + k) = ((axisImage (s.axis a))[k]?).getD 0) ∧
    (∀ k < 16384, OutsideAxis a k → t.word k = s.word k) ∧ t.axis a = { s.axis a with imageStale := false } ∧ s.OtherAxes t a ∧
    t = { s with axes := t.axes, ram := t.ram })

/-- A guard opening sets the guard-open attribute and stops the settle timer of each exhibit that names the line. A READY exhibit's ready
lamp shows READY GUARD; a RUNNING show is frozen, its exhibit GUARDED with the episode marked and the guard-alert timer started. A reopening
while GUARDED does nothing more: the frozen slot, the resume records and the guard-alert timer stay as they are (R67, R128, R129, R133). The
freeze of a RUNNING or SUSPENDED exhibit at an opening deals with each bound axis by its state: one on its way is quick-stopped where its
model is, one that waits leaves the list, one at rest stays, and each gets the resume record of R129. A model found outside its window
faults its axis with TRAVEL, which ends the frozen show, GUARDED not set and every resume record gone. At a HALTING exhibit the STOPPING
axes quick-stop and it enters READY with HALTED set, or FAULTED without when a model is outside (R10, R128, R129). The order among exhibits
and axes is the model's reading (assumptions 13 and 14). -/
def Obligations.GuardOpeningFreezes : Prop :=
  (∀ (s : State) (g : GuardNo) (e : ExhibitNo) (c : ExhibitConfig) (a : AxisNo) (m : MoveRecord), (s.guardLine g).level = false → s.namesGuard e g = true →
    (∀ f, f ≠ e → s.namesGuard f g = false) → (s.exhibit e).config = some c → s.reports = [] →
    ((s.exhibit e).state = .ready ∨ (s.exhibit e).state = .resting ∨ (s.exhibit e).state = .faulted ∨
        (s.exhibit e).state = .locked ∨ (s.exhibit e).state = .guarded →
      ∃ t, exec (.guardOpening g) s = .next t ∧ t.guardLine g = { pin := true, level := true, run := 0 } ∧
        (∀ h, h ≠ g → t.guardLine h = s.guardLine h) ∧ t.exhibit e = { s.exhibit e with guardOpen := true, settle := none } ∧
        (∀ f, f ≠ e → t.exhibit f = s.exhibit f) ∧ (∀ ch, c.readyLamp = some ch → (t.channel ch).readyLayer.setting = .fixed .readyGuard) ∧
        (∀ ch, c.readyLamp ≠ some ch → t.channel ch = s.channel ch) ∧ (∀ k < 16384, OutsideExhibit e k → t.word k = s.word k) ∧
        t = { s with guards := t.guards, exhibits := t.exhibits, channels := t.channels, ram := t.ram }) ∧
    ((s.exhibit e).state = .running → s.someAxisBusy e = false → s.pool.waiting = [] →
      ∃ t, exec (.guardOpening g) s = .next t ∧
        t.exhibit e = { s.exhibit e with
          state := .guarded, guardOpen := true, settle := none, rest := none, returnState := some .running,
          guardAlert := some (c.guardAlertTime * 1000) } ∧
        t.slot e = { s.slot e with frozen := true } ∧ t.source e = { s.source e with guarded := true } ∧ s.OtherExhibits t e ∧
        s.OnlyResumeDropped t (s.boundAxes e) ∧ (∀ ch, c.readyLamp = some ch → (t.channel ch).readyLayer.setting = .fixed .readyGuard) ∧
        (∀ k < 16384, OutsideExhibit e k → t.word k = s.word k) ∧
        t = { s with guards := t.guards, exhibits := t.exhibits, slots := t.slots, sources := t.sources, axes := t.axes,
                     channels := t.channels, ram := t.ram }) ∧
    ((s.exhibit e).state = .running → s.boundAxes e = [a] → (s.axis a).state = .moving → s.pool.waiting = [] →
      (s.axis a).move = some m → (s.axis a).inWindow (s.axis a).encoder = true → s.axisOwner a = some e →
      ∃ t, exec (.guardOpening g) s = .next t ∧ (t.exhibit e).state = .guarded ∧ (t.slot e).frozen = true ∧
        (t.slot e).wait = (s.slot e).wait ∧ (t.axis a).state = .idle ∧ (t.axis a).pos = (s.axis a).encoder ∧
        (t.axis a).resume = some (.move m.target m.speedSet) ∧ t.pool.free = s.pool.free + tget s.pool.held a ∧
        tget t.pool.held a = 0 ∧ s.OtherAxes t a ∧ s.OtherExhibits t e)) ∧
  (∀ (s : State) (g : GuardNo) (e : ExhibitNo) (c : ExhibitConfig), (s.guardLine g).level = false → s.namesGuard e g = true →
    (∀ f, f ≠ e → s.namesGuard f g = false) → (s.exhibit e).config = some c → s.reports = [] →
    (∀ a ∈ s.boundAxes e, s.axisOwner a = some e) → (s.boundAxes e).Nodup → s.WaitLaw →
    ((s.exhibit e).state = .running ∨ (s.exhibit e).state = .suspended → (∀ w ∈ s.pool.waiting, w.axis ∈ s.boundAxes e) →
      (∀ a ∈ s.boundAxes e, (s.axis a).state = .moving ∨ (s.axis a).state = .stopping → (s.axis a).inWindow (s.axis a).encoder = true) →
      ∃ t, exec (.guardOpening g) s = .next t ∧ t.guardLine g = { pin := true, level := true, run := 0 } ∧
        t.exhibit e = { s.exhibit e with
          state := .guarded, guardOpen := true, settle := none, rest := none,
          returnState := some (if (s.exhibit e).state = .running then .running else .suspended),
          guardAlert := some (c.guardAlertTime * 1000) } ∧
        t.slot e = { s.slot e with frozen := true } ∧ t.source e = { s.source e with guarded := true } ∧ s.OtherExhibits t e ∧
        (∀ a ∈ s.boundAxes e, s.FrozenAxis t a) ∧ (∀ a, a ∉ s.boundAxes e → t.axis a = s.axis a) ∧ t.pool.waiting = [] ∧
        (∀ a, tget t.pool.held a = (if a ∈ s.boundAxes e ∧ (s.axis a).state.drives = true then 0 else tget s.pool.held a)) ∧
        t.pool.free + t.unitsHeld = s.pool.free + s.unitsHeld ∧
        (∀ ch, c.readyLamp = some ch → (t.channel ch).readyLayer.setting = .fixed .readyGuard) ∧
        (∀ ch, c.readyLamp ≠ some ch → t.channel ch = s.channel ch) ∧
        (∀ k < 16384, OutsideExhibit e k → (∀ a ∈ s.boundAxes e, OutsideAxis a k) → t.word k = s.word k) ∧
        t = { s with guards := t.guards, exhibits := t.exhibits, slots := t.slots, sources := t.sources, axes := t.axes, pool := t.pool,
                     channels := t.channels, ram := t.ram }) ∧
    (∀ (b : AxisNo) (ad : Nat), (s.exhibit e).state = .running ∨ (s.exhibit e).state = .suspended →
      (∀ w ∈ s.pool.waiting, w.axis ∈ s.boundAxes e) → (s.slot e).current = some ad → b ∈ s.boundAxes e →
      (s.axis b).state = .moving ∨ (s.axis b).state = .stopping → (s.axis b).inWindow (s.axis b).encoder = false →
      ∃ t, exec (.guardOpening g) s = .next t ∧ (t.exhibit e).state = .faulted ∧ (t.exhibit e).guardOpen = true ∧
        (t.exhibit e).guardAlert = none ∧ (t.exhibit e).encore = false ∧ (t.slot e).current = none ∧ (t.slot e).frozen = false ∧
        (t.slot e).firstFault = some ((s.slot e).firstFault.getD { code := .axisTravel, address := ad }) ∧
        t.source e = { s.source e with faulted := (t.slot e).firstFault.map fun f => { code := some f.code, address := f.address } } ∧
        (t.axis b).state = .faulted ∧ (t.axis b).cause = some .travel ∧ (t.axis b).pos = (s.axis b).encoder ∧
        (∀ a ∈ s.boundAxes e, (t.axis a).resume = none ∧ (t.axis a).state.busy = false ∧
          ((s.axis a).state.drives = true → tget t.pool.held a = 0)) ∧
        (∀ a, a ∉ s.boundAxes e → t.axis a = s.axis a) ∧ t.pool.waiting = [] ∧ t.gallery.axisFault = s.gallery.axisFault ∧
        s.OtherExhibits t e ∧
        (s.part = .run → s.alerts.length < 32 →
          ∃ y ∈ t.alerts, y.source = exhibitSource e ∧ y.cause = .axisFault ∧ y.severity = 2 ∧ y.acked = false)) ∧
    ((s.exhibit e).state = .halting → (s.slot e).current = none → s.pool.waiting = [] →
      (∀ a ∈ s.boundAxes e, (s.axis a).state = .stopping → (s.axis a).inWindow (s.axis a).encoder = true) →
      ∃ t, exec (.guardOpening g) s = .next t ∧ t.guardLine g = { pin := true, level := true, run := 0 } ∧
        t.exhibit e = { s.exhibit e with
          state := .ready, encore := false, guardOpen := true, settle := none, rest := none, guardAlert := none, returnState := none } ∧
        t.slot e = s.slot e ∧ t.source e = { s.source e with halted := true } ∧ s.OtherExhibits t e ∧
        (∀ a, (a ∈ s.boundAxes e ∧ (s.axis a).state = .stopping → (t.axis a).state = .idle ∧ (t.axis a).pos = (s.axis a).encoder ∧
            (t.axis a).vel = 0 ∧ (t.axis a).request = none ∧ (t.axis a).resume = (s.axis a).resume ∧ tget t.pool.held a = 0) ∧
          (a ∉ s.boundAxes e ∨ (s.axis a).state ≠ .stopping → t.axis a = s.axis a ∧ tget t.pool.held a = tget s.pool.held a)) ∧
        t.pool.waiting = [] ∧ t.pool.free + t.unitsHeld = s.pool.free + s.unitsHeld ∧
        (∀ ch, c.readyLamp = some ch → (t.channel ch).readyLayer.setting = .fixed .readyGuard) ∧
        (∀ ch, c.readyLamp ≠ some ch → t.channel ch = s.channel ch) ∧
        (∀ k < 16384, OutsideExhibit e k → (∀ a ∈ s.boundAxes e, OutsideAxis a k) → t.word k = s.word k) ∧
        t = { s with guards := t.guards, exhibits := t.exhibits, sources := t.sources, axes := t.axes, pool := t.pool,
                     channels := t.channels, ram := t.ram }) ∧
    (∀ b : AxisNo, (s.exhibit e).state = .halting → (s.slot e).current = none → s.pool.waiting = [] → b ∈ s.boundAxes e →
      (s.axis b).state = .stopping → (s.axis b).inWindow (s.axis b).encoder = false →
      ∃ t, exec (.guardOpening g) s = .next t ∧ (t.exhibit e).state = .faulted ∧ (t.exhibit e).guardOpen = true ∧
        (t.slot e).firstFault = some ((s.slot e).firstFault.getD { code := .axisTravel, address := 0xFFFF }) ∧
        t.source e = { s.source e with faulted := (t.slot e).firstFault.map fun f => { code := some f.code, address := f.address } } ∧
        (t.axis b).state = .faulted ∧ (t.axis b).cause = some .travel ∧ (t.axis b).pos = (s.axis b).encoder ∧
        (∀ a ∈ s.boundAxes e, (t.axis a).state ≠ .stopping) ∧ s.OtherExhibits t e ∧
        (s.part = .run → s.alerts.length < 32 →
          ∃ y ∈ t.alerts, y.source = exhibitSource e ∧ y.cause = .axisFault ∧ y.severity = 2 ∧ y.acked = false)))

/-- A guard closing starts the settle timer of each exhibit that names the line and has the guard-open attribute set, and changes no other
(R130). A settle expiry clears the guard-open attribute and removes an ACKED GUARD_HELD entry; a GUARDED exhibit returns to its return state
with its slot thawed, and a move or a home kept in a resume record is requested anew: it starts when the units are free and the list empty,
and joins the list otherwise; a move whose target is P completes at once, and with it a MOTION wait; a home from UNHOMED loads HOME_VALUE
(R104, R130, R131, R133). That an expiry asserts that its time has come is the model's choice (assumption 3). -/
def Obligations.GuardClosesAndResumes : Prop :=
  (∀ (s : State) (g : GuardNo), (s.guardLine g).level = true →
    ∃ t, exec (.guardClosing g) s = .next t ∧ t.guardLine g = { pin := false, level := false, run := 0 } ∧
      (∀ h, h ≠ g → t.guardLine h = s.guardLine h) ∧
      (∀ e, t.exhibit e = if s.namesGuard e g = true ∧ (s.exhibit e).guardOpen = true
        then { s.exhibit e with settle := (s.exhibit e).config.map (fun c => c.guardSettle * 100) } else s.exhibit e) ∧
      t = { s with guards := t.guards, exhibits := t.exhibits, ram := t.ram } ∧
      (∀ k < 16384, (∀ e, OutsideExhibit e k) → t.word k = s.word k)) ∧
  (∀ (s : State) (g : GuardNo), (s.guardLine g).level = false → exec (.guardClosing g) s = .next s) ∧
  (∀ (s : State) (e : ExhibitNo) (c : ExhibitConfig) (a : AxisNo) (x : AxisConfig) (p : Int) (i : Fin 4), (s.exhibit e).settle ≠ none → (s.exhibit e).config = some c → s.reports = [] →
    ((s.exhibit e).state ≠ .guarded → (s.exhibit e).state ≠ .off →
      ∃ t, exec (.settleExpiry e) s = .next t ∧ t.exhibit e = { s.exhibit e with settle := none, guardOpen := false } ∧
        s.OtherExhibits t e ∧
        t.alerts = s.alerts.filter (fun x => !(x.source == exhibitSource e && x.cause == .guardHeld && x.acked)) ∧
        (∀ k < 16384, NotOfAlerts k → OutsideExhibit e k → t.word k = s.word k) ∧
        t = { s with exhibits := t.exhibits, channels := t.channels, alerts := t.alerts, stations := t.stations,
                     rewriteCount := t.rewriteCount, ram := t.ram }) ∧
    ((s.exhibit e).state = .guarded → (∀ a ∈ s.boundAxes e, (s.axis a).resume = none) →
      (∀ r, (s.slot e).wait ≠ some (.axisRest r)) →
      ∃ t, exec (.settleExpiry e) s = .next t ∧
        t.exhibit e = { s.exhibit e with
          state := ((s.exhibit e).returnState.getD .running).state, settle := none, guardOpen := false, rest := none, guardAlert := none,
          returnState := none } ∧
        t.slot e = { s.slot e with frozen := false } ∧ t.sources = s.sources ∧ s.OtherExhibits t e ∧ t.axes = s.axes ∧ t.pool = s.pool) ∧
    ((s.exhibit e).state = .guarded → s.boundAxes e = [a] →
      (s.axis a).resume = some (.move p i) → (s.axis a).state = .idle → (s.axis a).homed = true → (s.axis a).config = some x →
      x.Holds p → p ≠ (s.axis a).pos → s.pool.waiting = [] → x.draw ≤ s.pool.free → (∀ r, (s.slot e).wait ≠ some (.axisRest r)) →
      ∃ t, exec (.settleExpiry e) s = .next t ∧ (t.exhibit e).state = ((s.exhibit e).returnState.getD .running).state ∧
        (t.slot e).frozen = false ∧ (t.axis a).state = .moving ∧ (t.axis a).move = some { target := p, speedSet := i } ∧
        (t.axis a).vel = (tget x.sets i).vs ∧ (t.axis a).pos = (s.axis a).pos ∧ (t.axis a).resume = none ∧
        tget t.pool.held a = tget s.pool.held a + x.draw ∧ s.OtherAxes t a ∧ s.OtherExhibits t e) ∧
    ((s.exhibit e).state = .guarded → s.boundAxes e = [a] →
      (s.axis a).resume = some (.move p i) → (s.axis a).state = .idle → (s.axis a).homed = true → (s.axis a).config = some x →
      x.Holds p → p ≠ (s.axis a).pos → s.pool.waiting ≠ [] ∨ s.pool.free < x.draw → (∀ r, (s.slot e).wait ≠ some (.axisRest r)) →
      ∃ t, exec (.settleExpiry e) s = .next t ∧ (t.exhibit e).state = ((s.exhibit e).returnState.getD .running).state ∧
        t.slot e = { s.slot e with frozen := false } ∧ (t.axis a).state = .awaitPower ∧ (t.axis a).request = some (.move p i) ∧
        (t.axis a).pos = (s.axis a).pos ∧ (t.axis a).resume = none ∧
        t.pool = { s.pool with waiting := s.pool.waiting ++ [{ axis := a, draw := x.draw }] } ∧ s.OtherAxes t a ∧ s.OtherExhibits t e) ∧
    ((s.exhibit e).state = .guarded → s.boundAxes e = [a] → s.axisOwner a = some e →
      (s.axis a).resume = some (.move p i) → (s.axis a).state = .idle → (s.axis a).homed = true → (s.axis a).config = some x →
      x.Holds p → p = (s.axis a).pos →
      ((∀ r, (s.slot e).wait ≠ some (.axisRest r)) → (s.slot e).wait ≠ some (.motion a .move) →
        ∃ t, exec (.settleExpiry e) s = .next t ∧ (t.exhibit e).state = ((s.exhibit e).returnState.getD .running).state ∧
          t.slot e = { s.slot e with frozen := false } ∧ (t.axis a).state = .idle ∧ (t.axis a).pos = p ∧ (t.axis a).resume = none ∧
          t.pool = s.pool ∧ s.OtherAxes t a ∧ s.OtherExhibits t e) ∧
      (∀ (ad d : Nat), (s.slot e).wait = some (.motion a .move) → (s.slot e).status = some .waiting → (s.slot e).current = some ad →
        s.TimeStepAt (ad + 3) d →
        ∃ t, exec (.settleExpiry e) s = .next t ∧ (t.exhibit e).state = ((s.exhibit e).returnState.getD .running).state ∧
          (t.slot e).WaitsTime (ad + 3) d ∧ (t.axis a).state = .idle ∧ (t.axis a).pos = p ∧ (t.axis a).resume = none ∧
          t.pool = s.pool ∧ s.OtherAxes t a ∧ s.OtherExhibits t e)) ∧
    ((s.exhibit e).state = .guarded → s.boundAxes e = [a] → s.axisOwner a = some e → (s.slot e).frozen = true →
      (s.axis a).resume = some .home → (s.axis a).state = .unhomed ∨ (s.axis a).state = .idle → (s.axis a).config = some x →
      (∀ r, (s.slot e).wait ≠ some (.axisRest r)) →
      (s.pool.waiting = [] → x.draw ≤ s.pool.free →
        ∃ t, exec (.settleExpiry e) s = .next t ∧ (t.exhibit e).state = ((s.exhibit e).returnState.getD .running).state ∧
          t.slot e = { s.slot e with frozen := false } ∧ (t.axis a).state = .homing ∧ (t.axis a).homed = false ∧
          (t.axis a).pos = (if (s.axis a).state = .unhomed then x.homeValue else (s.axis a).pos) ∧
          (t.axis a).encoder = (if (s.axis a).state = .unhomed then x.homeValue else (s.axis a).encoder) ∧
          (t.axis a).phase = some (if (s.axis a).homeSwitch.level then .creep else .seek) ∧
          (t.axis a).vel = (if (s.axis a).homeSwitch.level then x.creepSpeed else x.seekSpeed) ∧ (t.axis a).dir = some x.homeDir ∧
          (t.axis a).request = none ∧ (t.axis a).resume = none ∧ t.pool.free = s.pool.free - x.draw ∧
          tget t.pool.held a = tget s.pool.held a + x.draw ∧ t.pool.waiting = [] ∧ s.OtherAxes t a ∧ s.OtherExhibits t e) ∧
      (s.pool.waiting ≠ [] ∨ s.pool.free < x.draw →
        ∃ t, exec (.settleExpiry e) s = .next t ∧ (t.exhibit e).state = ((s.exhibit e).returnState.getD .running).state ∧
          t.slot e = { s.slot e with frozen := false } ∧ (t.axis a).state = .awaitPower ∧ (t.axis a).request = some .home ∧
          (t.axis a).homed = (s.axis a).homed ∧ (t.axis a).resume = none ∧
          ((s.axis a).state = .unhomed → (t.axis a).pos = x.homeValue ∧ (t.axis a).encoder = x.homeValue) ∧
          t.pool = { s.pool with waiting := s.pool.waiting ++ [{ axis := a, draw := x.draw }] } ∧ s.OtherAxes t a ∧ s.OtherExhibits t e)))

/-- The guard-alert timer's expiry stops the timer and raises GUARD_HELD, severity 2, with the exhibit as source (R133). That an expiry
asserts that its time has come is the model's choice (assumption 3). -/
def Obligations.GuardAlertRaised : Prop :=
  (∀ (s : State) (e : ExhibitNo), (s.exhibit e).guardAlert ≠ none → s.part = .run → s.alertOf? (exhibitSource e) .guardHeld = none →
    s.alerts.length < 32 →
    ∃ t, exec (.guardAlertExpiry e) s = .next t ∧ t.exhibit e = { s.exhibit e with guardAlert := none } ∧
      (∀ f, f ≠ e → t.exhibit f = s.exhibit f) ∧ t.alerts.length = s.alerts.length + 1 ∧ t.alerts.take s.alerts.length = s.alerts ∧
      (∀ y ∈ t.alerts.getLast?, y.source = exhibitSource e ∧ y.cause = .guardHeld ∧ y.severity = 2 ∧ y.acked = false ∧
        y.station = s.routeOf (s.zone (exhibitSource e))) ∧
      (∀ k < 16384, NotOfAlerts k → OutsideExhibit e k → t.word k = s.word k) ∧
      t = { s with exhibits := t.exhibits, channels := t.channels, alerts := t.alerts, stations := t.stations, nextNumber := t.nextNumber,
                   rewriteCount := t.rewriteCount, gallery := t.gallery, ram := t.ram }) ∧
  (∀ (s : State) (e : ExhibitNo), (s.exhibit e).guardAlert = none → exec (.guardAlertExpiry e) s = .next s)

/-- An E-STOP assertion and a write of 1 to STOP begin the gallery stop: shows and halts end with STOPPED set, encores drop, every axis
comes to rest with all units returned, STOP_CHANGE and, in RUN, STOP_ON are set; under a stop in force they only withdraw the host's release
(R134 to R136, R139). A model that a quick stop of the beginning finds outside its window faults its axis with cause TRAVEL, against the
state the stop left: an exhibit made READY by it, and one READY or RESTING, is FAULTED with AXIS_TRAVEL at address 0xFFFF, with STOPPED
pending beside FAULTED where its show was ended. In RUN the stop raises GALLERY_STOP, severity 3, and each such fault AXIS_FAULT (R136 steps
5 and 6). The order among axes is the model's reading (assumption 14). -/
def Obligations.GalleryStopBegins : Prop :=
  (∀ (s : State) (ev : Instr), (ev = .estopAssertion ∧ s.estop.level = false) ∨ (ev = .stopRequest ∧ s.clearing = none) →
    s.stopInForce = false → s.reports = [] → s.SlotLaw → s.HeldLaw → s.UnitLaw →
    (∀ a, (s.axis a).state.drives = true → (s.axis a).inWindow (s.axis a).encoder = true) →
    ∃ t, exec ev s = .next t ∧ t.stopInForce = true ∧ t.releaseWritten = false ∧ t.attn = s.attn ||| 8#4 ∧
      (∀ e, ((s.exhibit e).state ∈ [ExhibitState.running, .suspended, .guarded, .halting] →
          (t.exhibit e).state = .ready ∧ (t.source e).stopped = true ∧ (t.slot e).current = none) ∧
        ((s.exhibit e).state ∉ [ExhibitState.running, .suspended, .guarded, .halting] →
          (t.exhibit e).state = (s.exhibit e).state ∧ (t.exhibit e).rest = (s.exhibit e).rest ∧ t.source e = s.source e ∧ t.slot e = s.slot e) ∧
        (t.exhibit e).encore = false ∧ (t.exhibit e).guardOpen = (s.exhibit e).guardOpen) ∧
      (∀ a, (t.axis a).state.busy = false ∧ ((s.axis a).state.busy = false → t.axis a = { s.axis a with
          resume := if ∃ e, (s.exhibit e).state ∈ [ExhibitState.running, .suspended, .guarded, .halting] ∧ a ∈ s.boundAxes e then none
            else (s.axis a).resume }) ∧
        ((s.axis a).state.drives = true → (t.axis a).pos = (s.axis a).encoder)) ∧
      t.pool.free = 32 ∧ t.pool.waiting = [] ∧ (∀ a, tget t.pool.held a = 0) ∧
      t.gallery = { s.gallery with
        stopOn := s.gallery.stopOn || s.part == .run, overflow := t.gallery.overflow, unrouted := t.gallery.unrouted } ∧ t.estop.level = (s.estop.level || ev == .estopAssertion) ∧
      (∀ k < 16384, NotOfAlerts k → (∀ e, OutsideExhibit e k) → (∀ a, OutsideAxis a k) → t.word k = s.word k) ∧
      t = { s with exhibits := t.exhibits, slots := t.slots, sources := t.sources, gallery := t.gallery, axes := t.axes, pool := t.pool,
                   channels := t.channels, alerts := t.alerts, stations := t.stations, nextNumber := t.nextNumber,
                   rewriteCount := t.rewriteCount, stopInForce := t.stopInForce, releaseWritten := t.releaseWritten, attn := t.attn,
                   estop := t.estop, ram := t.ram }) ∧
  (∀ s : State, s.stopInForce = true →
    (s.clearing = none → ∃ t, exec .stopRequest s = .next t ∧ t = { s with releaseWritten := false }) ∧
    (s.estop.level = false → ∃ t, exec .estopAssertion s = .next t ∧
      t = { s with releaseWritten := false, estop := { pin := true, level := true, run := 0 } })) ∧
  (∀ (s : State) (ev : Instr), (ev = .estopAssertion ∧ s.estop.level = false) ∨ (ev = .stopRequest ∧ s.clearing = none) →
    s.stopInForce = false → s.reports = [] → s.SlotLaw → s.HeldLaw → s.UnitLaw →
    ∃ t, exec ev s = .next t ∧ t.stopInForce = true ∧ t.releaseWritten = false ∧ t.attn = s.attn ||| 8#4 ∧
      (∀ a, (t.axis a).state.busy = false ∧
        ((s.axis a).state = .moving ∨ (s.axis a).state = .stopping → (t.axis a).pos = (s.axis a).encoder ∧
          (t.axis a).state = (if (s.axis a).inWindow (s.axis a).encoder then .idle else .faulted) ∧
          ((s.axis a).inWindow (s.axis a).encoder = false → (t.axis a).cause = some .travel ∧
            (s.axisOwner a = none → t.gallery.axisFault &&& (1#16 <<< a.val) ≠ 0))) ∧
        ((s.axis a).state = .homing → (t.axis a).state = .unhomed ∧ (t.axis a).homed = false ∧ (t.axis a).pos = (s.axis a).encoder) ∧
        ((s.axis a).state = .awaitPower → (t.axis a).state = (if (s.axis a).homed then .idle else .unhomed) ∧ (t.axis a).request = none)) ∧
      (∀ (e : ExhibitNo) (a : AxisNo), s.axisOwner a = some e → (s.axis a).state = .moving ∨ (s.axis a).state = .stopping →
        (s.axis a).inWindow (s.axis a).encoder = false →
        ((s.exhibit e).state ∉ [ExhibitState.off, .faulted, .locked] → (t.exhibit e).state = .faulted ∧
          (t.slot e).firstFault = some ((s.slot e).firstFault.getD { code := .axisTravel, address := 0xFFFF }) ∧
          (t.source e).faulted = (t.slot e).firstFault.map (fun f => { code := some f.code, address := f.address })) ∧
        ((s.exhibit e).state ∈ [ExhibitState.faulted, .locked] → (t.exhibit e).state = (s.exhibit e).state ∧ t.source e = s.source e) ∧
        (s.part = .run → s.alerts.length ≤ 15 →
          ∃ y ∈ t.alerts, y.source = exhibitSource e ∧ y.cause = .axisFault ∧ y.severity = 2 ∧ y.acked = false)) ∧
      (∀ e, (s.exhibit e).state ∈ [ExhibitState.running, .suspended, .guarded, .halting] → (t.source e).stopped = true ∧ (t.slot e).current = none) ∧
      (s.part = .run → s.alerts.length ≤ 15 → ∃ y ∈ t.alerts, y.source = gallerySource ∧ y.cause = .galleryStop ∧ y.severity = 3 ∧ y.acked = false) ∧
      t.pool.free = 32 ∧ t.pool.waiting = [])

/-- The gallery stop ends at the second half of its release, an E-STOP release after a write of 2 or a write of 2 with the pin released:
STOP_CHANGE and, in RUN, STOP_OFF are set, an ACKED GALLERY_STOP entry leaves the list, and no exhibit or axis changes; a first half alone
is kept (R134, R135, R138). -/
def Obligations.GalleryStopEnds : Prop :=
  (∀ (s : State) (ev : Instr), (ev = .estopRelease ∧ s.estop.level = true ∧ s.releaseWritten = true) ∨
      (ev = .releaseRequest ∧ s.clearing = none ∧ s.estop.level = false) →
    s.stopInForce = true →
    ∃ t, exec ev s = .next t ∧ t.stopInForce = false ∧ t.releaseWritten = false ∧ t.attn = s.attn ||| 8#4 ∧ t.estop.level = false ∧
      t.gallery = { s.gallery with stopOff := s.gallery.stopOff || s.part == .run } ∧
      t.alerts = s.alerts.filter (fun x => !(x.source == gallerySource && x.cause == .galleryStop && x.acked)) ∧
      (∀ k < 16384, NotOfAlerts k → t.word k = s.word k) ∧
      t = { s with gallery := t.gallery, channels := t.channels, alerts := t.alerts, stations := t.stations, rewriteCount := t.rewriteCount,
                   stopInForce := t.stopInForce, releaseWritten := t.releaseWritten, attn := t.attn, estop := t.estop, ram := t.ram }) ∧
  (∀ s : State, s.clearing = none →
    (s.stopInForce = true → s.estop.level = true →
      ∃ t, exec .releaseRequest s = .next t ∧ t = { s with releaseWritten := true }) ∧
    (s.stopInForce = false → exec .releaseRequest s = .next s) ∧
    (s.estop.level = true → s.stopInForce = false ∨ s.releaseWritten = false →
      ∃ t, exec .estopRelease s = .next t ∧ t = { s with estop := { pin := false, level := false, run := 0 } }))

/-- A BLINK phase is followed by the other phase for its whole time, an ENVELOPE period moves the envelope value by one toward the end of
its sweep, and an idle layer has no phase step; the channel's brightness follows (R142, R145, R146). At the end of a sweep the pattern acts
by its REPEAT, KEEP and BOUNCE fields as Table 8-4 gives (R147). The phase step that ends a sweep acts as Table 8-4 gives by REPEAT, KEEP
and BOUNCE: hold at the end value, at 0 or at the start value, a new sweep in the same direction, or one of 15 periods back. A held
envelope, STEADY and OFF have no phase step (R144, R147). That a phase step asserts that its time has come is the model's choice (assumption
3). -/
def Obligations.PhasesAndSweeps : Prop :=
  (∀ (s : State) (ch : ChannelNo) (name : LayerName) (p : Pattern) (ph next : LampPhase) (v n l : Nat),
    patternOf s.patterns ((s.channel ch).layer name).setting = some p → ((s.channel ch).layer name).phase = ph →
    (ph = .blinkOn l ∧ next = .blinkOff (p.offTime * 100)) ∨ (ph = .blinkOff l ∧ next = .blinkOn (p.onTime * 100)) ∨
      (ph = .sweep v true n l ∧ 1 < n ∧ next = .sweep (v + 1) true (n - 1) (p.period * 10)) ∨
      (ph = .sweep v false n l ∧ 1 < n ∧ next = .sweep (v - 1) false (n - 1) (p.period * 10)) →
    ∃ t, exec (.lampPhaseStep ch name) s = .next t ∧
      (t.channel ch).layer name = { setting := ((s.channel ch).layer name).setting, phase := next } ∧
      (∀ other ∈ [LayerName.alertLayer, .showLayer, .readyLayer], other ≠ name → (t.channel ch).layer other = (s.channel ch).layer other) ∧
      (t.channel ch).brightness = combined s.patterns (t.channel ch) ∧ (t.channel ch).output = (s.channel ch).output ∧
      (∀ c, c ≠ ch → t.channel c = s.channel c) ∧ t = { s with channels := t.channels }) ∧
  (∀ (s : State) (ch : ChannelNo) (name : LayerName), ((s.channel ch).layer name).setting = .idle → exec (.lampPhaseStep ch name) s = .next s) ∧
  (∀ (p : Pattern) (v : Nat) (rising : Bool) (l : Nat), p.kind = .envelope → v = (if rising then 15 else 0) →
    (p.repeats = false → p.keep = true → p.stepPhase (.sweep v rising 1 l) = .hold v) ∧
    (p.repeats = false → p.keep = false → p.stepPhase (.sweep v rising 1 l) = .hold 0) ∧
    (p.repeats = true → p.keep = false → p.bounce = false →
      p.stepPhase (.sweep v rising 1 l) = .sweep (if p.rise then 0 else 15) p.rise 16 (p.period * 10)) ∧
    (p.repeats = true → p.keep = false → p.bounce = true →
      p.stepPhase (.sweep v rising 1 l) = .sweep (if rising then 14 else 1) (!rising) 15 (p.period * 10)) ∧
    (p.repeats = true → p.keep = true → p.bounce = false → p.stepPhase (.sweep v rising 1 l) = .hold v) ∧
    (p.repeats = true → p.keep = true → p.bounce = true → p.stepPhase (.sweep v rising 1 l) = .hold (if p.rise then 0 else 15))) ∧
  (∀ (s : State) (ch : ChannelNo) (name : LayerName) (p : Pattern) (v l : Nat) (rising : Bool) (next : LampPhase),
    patternOf s.patterns ((s.channel ch).layer name).setting = some p → ((s.channel ch).layer name).phase = .sweep v rising 1 l →
    v = (if rising then 15 else 0) →
    (p.repeats = false ∧ p.keep = true ∧ next = .hold v) ∨ (p.repeats = false ∧ p.keep = false ∧ next = .hold 0) ∨
      (p.repeats = true ∧ p.keep = false ∧ p.bounce = false ∧ next = .sweep (if p.rise then 0 else 15) p.rise 16 (p.period * 10)) ∨
      (p.repeats = true ∧ p.keep = false ∧ p.bounce = true ∧ next = .sweep (if rising then 14 else 1) (!rising) 15 (p.period * 10)) ∨
      (p.repeats = true ∧ p.keep = true ∧ p.bounce = false ∧ next = .hold v) ∨
      (p.repeats = true ∧ p.keep = true ∧ p.bounce = true ∧ next = .hold (if p.rise then 0 else 15)) →
    ∃ t, exec (.lampPhaseStep ch name) s = .next t ∧
      (t.channel ch).layer name = { setting := ((s.channel ch).layer name).setting, phase := next } ∧
      (∀ other ∈ [LayerName.alertLayer, .showLayer, .readyLayer], other ≠ name → (t.channel ch).layer other = (s.channel ch).layer other) ∧
      (t.channel ch).brightness = combined s.patterns (t.channel ch) ∧ (t.channel ch).output = (s.channel ch).output ∧
      (∀ c, c ≠ ch → t.channel c = s.channel c) ∧ t = { s with channels := t.channels }) ∧
  (∀ (s : State) (ch : ChannelNo) (name : LayerName) (v : Nat),
    ((s.channel ch).layer name).phase = .hold v ∨ ((s.channel ch).layer name).phase = .constant → exec (.lampPhaseStep ch name) s = .next s) ∧
  (∀ (s : State) (ch : ChannelNo) (w1 w2 : Nat) (p : Fin 32), s.AtCell 0x30 w1 w2 → s.part = .run → w1 = ch.val → w2 = p.val →
    s.channelOwner ch = none → (tget s.patterns p).kind = .off ∨ (tget s.patterns p).kind = .steady →
    ∃ t, exec .setLamp s = .next t ∧ s.Answered t 0x30 0 0 ∧ (t.channel ch).showLayer = { setting := .table p, phase := .constant } ∧
      exec (.lampPhaseStep ch .showLayer) t = .next t)

/-- Every millisecond a PWM period starts for all 64 outputs together; an output of brightness b is on for the first b of its 255 slices
(R143). The clock that starts the periods is the model's (assumption 2). -/
def Obligations.PwmPeriodTakesBrightness : Prop :=
  (∀ s : State, ∃ t, exec .pwmPeriod s = .next t ∧
    (∀ ch, t.channel ch = { s.channel ch with output := (s.channel ch).brightness } ∧
      (∀ k : Fin 255, (t.channel ch).lampOn k = true ↔ k.val < (s.channel ch).brightness) ∧
      ((s.channel ch).brightness = 0 → ∀ k : Fin 255, (t.channel ch).lampOn k = false) ∧
      ((s.channel ch).brightness = 255 → ∀ k : Fin 255, (t.channel ch).lampOn k = true)) ∧
    t = { s with channels := t.channels }) ∧
  (∀ s : State, s.pending = [] → ∃ t, step s = .next t ∧ (.pwmPeriod ∈ t.pending ↔ s.cadence.quarter = 3) ∧
    t.cadence.quarter = s.cadence.quarter + 1)

/-- The law of R161 and R162 on what stations show is kept by every step: a station shows a RAISED entry routed to it, one of severity 3
where one is routed to it, and nothing only where no RAISED entry is routed to it. The display buses and call lamps present what their
stations show (R164), through every step. The premises keep the numbers of entries apart and the call lamps apart from each other and from
the exhibits' lamps, and are kept with it. After an acknowledgement or a removal by order, and after a raise, a station keeps the entry it
showed while that is still RAISED, routed to it, not made or re-raised in the act, and not to give way to severity 3; otherwise it takes the
most severe, the oldest in list order among equals. Its holdoff starts at 1 s when what it shows has changed or was re-raised, and runs on
otherwise (R161 to R163). The order rows take the cell at the walk position (assumption 5). -/
def Obligations.ShownAlertSelected : Prop :=
  (∀ s t : State, s.ShownLaw → step s = .next t → t.ShownLaw) ∧
  (∀ s t : State, s.AlertLaw ∧ s.ShownLaw ∧ s.SlotLaw ∧ s.BindLaw ∧ s.PresentLaw → step s = .next t →
    t.AlertLaw ∧ t.ShownLaw ∧ t.SlotLaw ∧ t.BindLaw ∧ t.PresentLaw) ∧
  (∀ (s : State) (code w1 w2 : Nat) (fresh : Option Nat), s.AtCell code w1 w2 → s.part = .run → s.AlertLaw → (∀ x ∈ s.alerts, x.number ≤ 65535) →
    1 ≤ s.nextNumber → s.nextNumber ≤ 65535 →
    (code = 0x32 ∧ fresh = none) ∨ (code = 0x33 ∧ fresh = none) ∨
      (code = 0x31 ∧ (∃ src : SourceNo, w1 = src.val ∧ (∀ e, sourceExhibit src = some e → (s.exhibit e).state ≠ .off) ∧
        fresh = some (s.raiseNumber src .hostAlert (w2 / 256)) ∧
        ((s.alertOf? src .hostAlert).isSome = true ∨ s.alerts.length < 32)) ∧ 256 ≤ w2 ∧ w2 < 1024 ∧ w2 % 256 ≤ 63) →
    ∃ t, exec (orderRow code) s = .next t ∧ (∀ n ∈ fresh, t.alerts.getLast?.map (·.number) = some n) ∧
      (∀ (st : StationNo),
        (∀ x ∈ t.alerts, (s.station st).shown = some x.number → x.acked = false → x.station = some st → fresh ≠ some x.number →
          (3 ≤ x.severity ∨ ∀ y ∈ t.alerts, y.acked = false → y.station = some st → y.severity < 3) →
          (t.station st).shown = some x.number) ∧
        ((t.station st).shown ≠ (s.station st).shown ∨ (fresh.isSome = true ∧ (t.station st).shown = fresh) →
          (t.station st).holdoff = some 1000 ∧
          ∀ n ∈ (t.station st).shown, ∃ i < t.alerts.length, (∀ x ∈ t.alerts[i]?, x.number = n ∧ x.acked = false ∧ x.station = some st ∧
            (∀ y ∈ t.alerts, y.acked = false → y.station = some st → y.severity ≤ x.severity) ∧
            (∀ y ∈ t.alerts.take i, y.acked = false → y.station = some st → y.severity < x.severity))) ∧
        ((t.station st).shown = (s.station st).shown → fresh = none ∨ (t.station st).shown ≠ fresh →
          (t.station st).holdoff = (s.station st).holdoff)))

/-- The expiry of an escalation timer moves the entry to its station's target with the timer started there, or, without a target or at 3
escalations, stops the timer, sets the exhausted mark and, the first time, ESCALATED (R170, R171). The age step adds 1 to the age of every
entry, up to 65535, and rewrites the alert image with one count of IMAGE_SEQ; with the list empty it changes nothing. A frame carries the
number and severity its station presents (R176, R181, R194). A frame is sent most significant bit first, the number in its first eight bits
and the severity in its last two, and one becomes due on every bus every 10 ms, the 40th quarter of a millisecond after the last (R194).
That an expiry asserts that its time has come is the model's choice (assumption 3), and the clock that makes a frame due is the model's
(assumption 2). -/
def Obligations.EscalationAgeDisplay : Prop :=
  (∀ (s : State) (n : Nat), ∀ x ∈ s.alert? n, x.timer ≠ none →
    (∀ st u : StationNo, x.station = some st → (s.station st).target = some u → x.escalations < 3 →
      ∃ t, exec (.escalationExpiry n) s = .next t ∧
        t.alerts = s.alerts.map (fun z => if z.number = n then { x with
          station := some u, escalations := x.escalations + 1, timer := some ((s.station u).escalationTime * 1000) } else z) ∧
        (∀ k < 16384, NotOfAlerts k → t.word k = s.word k) ∧
        t = { s with alerts := t.alerts, stations := t.stations, channels := t.channels, rewriteCount := t.rewriteCount, ram := t.ram }) ∧
    (x.escalations ≥ 3 ∨ x.station.bind (fun st => (s.station st).target) = none →
      ∃ t, exec (.escalationExpiry n) s = .next t ∧
        t.alerts = s.alerts.map (fun z => if z.number = n then { x with timer := none, exhausted := true } else z) ∧
        t.gallery = { s.gallery with escalated := s.gallery.escalated || !x.exhausted } ∧
        (∀ k < 16384, NotOfAlerts k → t.word k = s.word k) ∧
        t = { s with alerts := t.alerts, stations := t.stations, channels := t.channels, rewriteCount := t.rewriteCount,
                     gallery := t.gallery, ram := t.ram })) ∧
  (∀ s : State, s.alerts ≠ [] →
    ∃ t, exec .ageStep s = .next t ∧ t.alerts = s.alerts.map (fun x => { x with age := min 65535 (x.age + 1) }) ∧
      t.rewriteCount = s.rewriteCount + 1 ∧ t.word addrImageSeq = t.rewriteCount ∧
      (∀ k < 256, t.word (addrAlertImage + k) = ((t.alertImage)[k]?).getD 0) ∧ (∀ k < 16384, NotOfAlerts k → t.word k = s.word k) ∧
      t = { s with alerts := t.alerts, rewriteCount := t.rewriteCount, ram := t.ram }) ∧
  (∀ s : State, s.alerts = [] → exec .ageStep s = .next s) ∧
  (∀ (s : State) (st : StationNo), (s.station st).displayNumber ≤ 49 → (s.station st).displaySeverity ≤ 3 →
    ∃ t, exec (.displayFrame st) s = .next t ∧ (t.station st).frame.toNat / 256 = (s.station st).displayNumber ∧
      (t.station st).frame.toNat % 256 = (s.station st).displaySeverity ∧ t.station st = { s.station st with frame := (t.station st).frame } ∧
      (∀ u, u ≠ st → t.station u = s.station u) ∧ t = { s with stations := t.stations }) ∧
  (∀ (s : State) (st : StationNo), ∃ t, exec (.displayFrame st) s = .next t ∧ ∀ n : Fin 16,
    (t.station st).frameBit n = (256 * (s.station st).displayNumber + (s.station st).displaySeverity).testBit (15 - n.val)) ∧
  (∀ s : State, s.pending = [] → ∃ t, step s = .next t ∧
    (39 ≤ s.cadence.frame → t.cadence.frame = 0 ∧ ∀ st, .displayFrame st ∈ t.pending) ∧
    (s.cadence.frame < 39 → t.cadence.frame = s.cadence.frame + 1 ∧ ∀ st, .displayFrame st ∉ t.pending))
end

