-- ==== Sys2Proof/Laws/State.lean ====
section
/-! SUPPORT. What each update of the state does to each of its fields: one lemma per field per update. -/

namespace Sys2Proof.Machine

variable (s : State)

@[simp] theorem State.writeWords_ram (a : Nat) (ws : List Word) : (s.writeWords a ws).ram = Memory.writeRange s.ram a ws := rfl
@[simp] theorem State.writeWords_part (a : Nat) (ws : List Word) : (s.writeWords a ws).part = s.part := rfl
@[simp] theorem State.writeWords_clearing (a : Nat) (ws : List Word) : (s.writeWords a ws).clearing = s.clearing := rfl
@[simp] theorem State.writeWords_mask (a : Nat) (ws : List Word) : (s.writeWords a ws).mask = s.mask := rfl
@[simp] theorem State.writeWords_attn (a : Nat) (ws : List Word) : (s.writeWords a ws).attn = s.attn := rfl
@[simp] theorem State.writeWords_rewriteCount (a : Nat) (ws : List Word) : (s.writeWords a ws).rewriteCount = s.rewriteCount := rfl
@[simp] theorem State.writeWords_deck (a : Nat) (ws : List Word) : (s.writeWords a ws).deck = s.deck := rfl
@[simp] theorem State.writeWords_notice (a : Nat) (ws : List Word) : (s.writeWords a ws).notice = s.notice := rfl
@[simp] theorem State.writeWords_params (a : Nat) (ws : List Word) : (s.writeWords a ws).params = s.params := rfl
@[simp] theorem State.writeWords_row (a : Nat) (ws : List Word) : (s.writeWords a ws).row = s.row := rfl
@[simp] theorem State.writeWords_buttons (a : Nat) (ws : List Word) : (s.writeWords a ws).buttons = s.buttons := rfl
@[simp] theorem State.writeWords_groups (a : Nat) (ws : List Word) : (s.writeWords a ws).groups = s.groups := rfl
@[simp] theorem State.writeWords_guards (a : Nat) (ws : List Word) : (s.writeWords a ws).guards = s.guards := rfl
@[simp] theorem State.writeWords_estop (a : Nat) (ws : List Word) : (s.writeWords a ws).estop = s.estop := rfl
@[simp] theorem State.writeWords_exhibits (a : Nat) (ws : List Word) : (s.writeWords a ws).exhibits = s.exhibits := rfl
@[simp] theorem State.writeWords_slots (a : Nat) (ws : List Word) : (s.writeWords a ws).slots = s.slots := rfl
@[simp] theorem State.writeWords_sources (a : Nat) (ws : List Word) : (s.writeWords a ws).sources = s.sources := rfl
@[simp] theorem State.writeWords_gallery (a : Nat) (ws : List Word) : (s.writeWords a ws).gallery = s.gallery := rfl
@[simp] theorem State.writeWords_axes (a : Nat) (ws : List Word) : (s.writeWords a ws).axes = s.axes := rfl
@[simp] theorem State.writeWords_pool (a : Nat) (ws : List Word) : (s.writeWords a ws).pool = s.pool := rfl
@[simp] theorem State.writeWords_patterns (a : Nat) (ws : List Word) : (s.writeWords a ws).patterns = s.patterns := rfl
@[simp] theorem State.writeWords_channels (a : Nat) (ws : List Word) : (s.writeWords a ws).channels = s.channels := rfl
@[simp] theorem State.writeWords_alerts (a : Nat) (ws : List Word) : (s.writeWords a ws).alerts = s.alerts := rfl
@[simp] theorem State.writeWords_stations (a : Nat) (ws : List Word) : (s.writeWords a ws).stations = s.stations := rfl
@[simp] theorem State.writeWords_nextNumber (a : Nat) (ws : List Word) : (s.writeWords a ws).nextNumber = s.nextNumber := rfl
@[simp] theorem State.writeWords_stopInForce (a : Nat) (ws : List Word) : (s.writeWords a ws).stopInForce = s.stopInForce := rfl
@[simp] theorem State.writeWords_releaseWritten (a : Nat) (ws : List Word) : (s.writeWords a ws).releaseWritten = s.releaseWritten := rfl
@[simp] theorem State.writeWords_cadence (a : Nat) (ws : List Word) : (s.writeWords a ws).cadence = s.cadence := rfl
@[simp] theorem State.writeWords_reports (a : Nat) (ws : List Word) : (s.writeWords a ws).reports = s.reports := rfl
@[simp] theorem State.writeWords_pending (a : Nat) (ws : List Word) : (s.writeWords a ws).pending = s.pending := rfl

@[simp] theorem State.setButton_ram (i : ButtonNo) (x : Button) : (s.setButton i x).ram = s.ram := rfl
@[simp] theorem State.setButton_part (i : ButtonNo) (x : Button) : (s.setButton i x).part = s.part := rfl
@[simp] theorem State.setButton_clearing (i : ButtonNo) (x : Button) : (s.setButton i x).clearing = s.clearing := rfl
@[simp] theorem State.setButton_mask (i : ButtonNo) (x : Button) : (s.setButton i x).mask = s.mask := rfl
@[simp] theorem State.setButton_attn (i : ButtonNo) (x : Button) : (s.setButton i x).attn = s.attn := rfl
@[simp] theorem State.setButton_rewriteCount (i : ButtonNo) (x : Button) : (s.setButton i x).rewriteCount = s.rewriteCount := rfl
@[simp] theorem State.setButton_deck (i : ButtonNo) (x : Button) : (s.setButton i x).deck = s.deck := rfl
@[simp] theorem State.setButton_notice (i : ButtonNo) (x : Button) : (s.setButton i x).notice = s.notice := rfl
@[simp] theorem State.setButton_params (i : ButtonNo) (x : Button) : (s.setButton i x).params = s.params := rfl
@[simp] theorem State.setButton_row (i : ButtonNo) (x : Button) : (s.setButton i x).row = s.row := rfl
@[simp] theorem State.setButton_buttons (i : ButtonNo) (x : Button) : (s.setButton i x).buttons = tset s.buttons i x := rfl
@[simp] theorem State.setButton_groups (i : ButtonNo) (x : Button) : (s.setButton i x).groups = s.groups := rfl
@[simp] theorem State.setButton_guards (i : ButtonNo) (x : Button) : (s.setButton i x).guards = s.guards := rfl
@[simp] theorem State.setButton_estop (i : ButtonNo) (x : Button) : (s.setButton i x).estop = s.estop := rfl
@[simp] theorem State.setButton_exhibits (i : ButtonNo) (x : Button) : (s.setButton i x).exhibits = s.exhibits := rfl
@[simp] theorem State.setButton_slots (i : ButtonNo) (x : Button) : (s.setButton i x).slots = s.slots := rfl
@[simp] theorem State.setButton_sources (i : ButtonNo) (x : Button) : (s.setButton i x).sources = s.sources := rfl
@[simp] theorem State.setButton_gallery (i : ButtonNo) (x : Button) : (s.setButton i x).gallery = s.gallery := rfl
@[simp] theorem State.setButton_axes (i : ButtonNo) (x : Button) : (s.setButton i x).axes = s.axes := rfl
@[simp] theorem State.setButton_pool (i : ButtonNo) (x : Button) : (s.setButton i x).pool = s.pool := rfl
@[simp] theorem State.setButton_patterns (i : ButtonNo) (x : Button) : (s.setButton i x).patterns = s.patterns := rfl
@[simp] theorem State.setButton_channels (i : ButtonNo) (x : Button) : (s.setButton i x).channels = s.channels := rfl
@[simp] theorem State.setButton_alerts (i : ButtonNo) (x : Button) : (s.setButton i x).alerts = s.alerts := rfl
@[simp] theorem State.setButton_stations (i : ButtonNo) (x : Button) : (s.setButton i x).stations = s.stations := rfl
@[simp] theorem State.setButton_nextNumber (i : ButtonNo) (x : Button) : (s.setButton i x).nextNumber = s.nextNumber := rfl
@[simp] theorem State.setButton_stopInForce (i : ButtonNo) (x : Button) : (s.setButton i x).stopInForce = s.stopInForce := rfl
@[simp] theorem State.setButton_releaseWritten (i : ButtonNo) (x : Button) : (s.setButton i x).releaseWritten = s.releaseWritten := rfl
@[simp] theorem State.setButton_cadence (i : ButtonNo) (x : Button) : (s.setButton i x).cadence = s.cadence := rfl
@[simp] theorem State.setButton_reports (i : ButtonNo) (x : Button) : (s.setButton i x).reports = s.reports := rfl
@[simp] theorem State.setButton_pending (i : ButtonNo) (x : Button) : (s.setButton i x).pending = s.pending := rfl

@[simp] theorem State.setGuardLine_ram (i : GuardNo) (x : InputFilter) : (s.setGuardLine i x).ram = s.ram := rfl
@[simp] theorem State.setGuardLine_part (i : GuardNo) (x : InputFilter) : (s.setGuardLine i x).part = s.part := rfl
@[simp] theorem State.setGuardLine_clearing (i : GuardNo) (x : InputFilter) : (s.setGuardLine i x).clearing = s.clearing := rfl
@[simp] theorem State.setGuardLine_mask (i : GuardNo) (x : InputFilter) : (s.setGuardLine i x).mask = s.mask := rfl
@[simp] theorem State.setGuardLine_attn (i : GuardNo) (x : InputFilter) : (s.setGuardLine i x).attn = s.attn := rfl
@[simp] theorem State.setGuardLine_rewriteCount (i : GuardNo) (x : InputFilter) : (s.setGuardLine i x).rewriteCount = s.rewriteCount := rfl
@[simp] theorem State.setGuardLine_deck (i : GuardNo) (x : InputFilter) : (s.setGuardLine i x).deck = s.deck := rfl
@[simp] theorem State.setGuardLine_notice (i : GuardNo) (x : InputFilter) : (s.setGuardLine i x).notice = s.notice := rfl
@[simp] theorem State.setGuardLine_params (i : GuardNo) (x : InputFilter) : (s.setGuardLine i x).params = s.params := rfl
@[simp] theorem State.setGuardLine_row (i : GuardNo) (x : InputFilter) : (s.setGuardLine i x).row = s.row := rfl
@[simp] theorem State.setGuardLine_buttons (i : GuardNo) (x : InputFilter) : (s.setGuardLine i x).buttons = s.buttons := rfl
@[simp] theorem State.setGuardLine_groups (i : GuardNo) (x : InputFilter) : (s.setGuardLine i x).groups = s.groups := rfl
@[simp] theorem State.setGuardLine_guards (i : GuardNo) (x : InputFilter) : (s.setGuardLine i x).guards = tset s.guards i x := rfl
@[simp] theorem State.setGuardLine_estop (i : GuardNo) (x : InputFilter) : (s.setGuardLine i x).estop = s.estop := rfl
@[simp] theorem State.setGuardLine_exhibits (i : GuardNo) (x : InputFilter) : (s.setGuardLine i x).exhibits = s.exhibits := rfl
@[simp] theorem State.setGuardLine_slots (i : GuardNo) (x : InputFilter) : (s.setGuardLine i x).slots = s.slots := rfl
@[simp] theorem State.setGuardLine_sources (i : GuardNo) (x : InputFilter) : (s.setGuardLine i x).sources = s.sources := rfl
@[simp] theorem State.setGuardLine_gallery (i : GuardNo) (x : InputFilter) : (s.setGuardLine i x).gallery = s.gallery := rfl
@[simp] theorem State.setGuardLine_axes (i : GuardNo) (x : InputFilter) : (s.setGuardLine i x).axes = s.axes := rfl
@[simp] theorem State.setGuardLine_pool (i : GuardNo) (x : InputFilter) : (s.setGuardLine i x).pool = s.pool := rfl
@[simp] theorem State.setGuardLine_patterns (i : GuardNo) (x : InputFilter) : (s.setGuardLine i x).patterns = s.patterns := rfl
@[simp] theorem State.setGuardLine_channels (i : GuardNo) (x : InputFilter) : (s.setGuardLine i x).channels = s.channels := rfl
@[simp] theorem State.setGuardLine_alerts (i : GuardNo) (x : InputFilter) : (s.setGuardLine i x).alerts = s.alerts := rfl
@[simp] theorem State.setGuardLine_stations (i : GuardNo) (x : InputFilter) : (s.setGuardLine i x).stations = s.stations := rfl
@[simp] theorem State.setGuardLine_nextNumber (i : GuardNo) (x : InputFilter) : (s.setGuardLine i x).nextNumber = s.nextNumber := rfl
@[simp] theorem State.setGuardLine_stopInForce (i : GuardNo) (x : InputFilter) : (s.setGuardLine i x).stopInForce = s.stopInForce := rfl
@[simp] theorem State.setGuardLine_releaseWritten (i : GuardNo) (x : InputFilter) : (s.setGuardLine i x).releaseWritten = s.releaseWritten := rfl
@[simp] theorem State.setGuardLine_cadence (i : GuardNo) (x : InputFilter) : (s.setGuardLine i x).cadence = s.cadence := rfl
@[simp] theorem State.setGuardLine_reports (i : GuardNo) (x : InputFilter) : (s.setGuardLine i x).reports = s.reports := rfl
@[simp] theorem State.setGuardLine_pending (i : GuardNo) (x : InputFilter) : (s.setGuardLine i x).pending = s.pending := rfl

@[simp] theorem State.setExhibit_ram (i : ExhibitNo) (x : Exhibit) : (s.setExhibit i x).ram = s.ram := rfl
@[simp] theorem State.setExhibit_part (i : ExhibitNo) (x : Exhibit) : (s.setExhibit i x).part = s.part := rfl
@[simp] theorem State.setExhibit_clearing (i : ExhibitNo) (x : Exhibit) : (s.setExhibit i x).clearing = s.clearing := rfl
@[simp] theorem State.setExhibit_mask (i : ExhibitNo) (x : Exhibit) : (s.setExhibit i x).mask = s.mask := rfl
@[simp] theorem State.setExhibit_attn (i : ExhibitNo) (x : Exhibit) : (s.setExhibit i x).attn = s.attn := rfl
@[simp] theorem State.setExhibit_rewriteCount (i : ExhibitNo) (x : Exhibit) : (s.setExhibit i x).rewriteCount = s.rewriteCount := rfl
@[simp] theorem State.setExhibit_deck (i : ExhibitNo) (x : Exhibit) : (s.setExhibit i x).deck = s.deck := rfl
@[simp] theorem State.setExhibit_notice (i : ExhibitNo) (x : Exhibit) : (s.setExhibit i x).notice = s.notice := rfl
@[simp] theorem State.setExhibit_params (i : ExhibitNo) (x : Exhibit) : (s.setExhibit i x).params = s.params := rfl
@[simp] theorem State.setExhibit_row (i : ExhibitNo) (x : Exhibit) : (s.setExhibit i x).row = s.row := rfl
@[simp] theorem State.setExhibit_buttons (i : ExhibitNo) (x : Exhibit) : (s.setExhibit i x).buttons = s.buttons := rfl
@[simp] theorem State.setExhibit_groups (i : ExhibitNo) (x : Exhibit) : (s.setExhibit i x).groups = s.groups := rfl
@[simp] theorem State.setExhibit_guards (i : ExhibitNo) (x : Exhibit) : (s.setExhibit i x).guards = s.guards := rfl
@[simp] theorem State.setExhibit_estop (i : ExhibitNo) (x : Exhibit) : (s.setExhibit i x).estop = s.estop := rfl
@[simp] theorem State.setExhibit_exhibits (i : ExhibitNo) (x : Exhibit) : (s.setExhibit i x).exhibits = tset s.exhibits i x := rfl
@[simp] theorem State.setExhibit_slots (i : ExhibitNo) (x : Exhibit) : (s.setExhibit i x).slots = s.slots := rfl
@[simp] theorem State.setExhibit_sources (i : ExhibitNo) (x : Exhibit) : (s.setExhibit i x).sources = s.sources := rfl
@[simp] theorem State.setExhibit_gallery (i : ExhibitNo) (x : Exhibit) : (s.setExhibit i x).gallery = s.gallery := rfl
@[simp] theorem State.setExhibit_axes (i : ExhibitNo) (x : Exhibit) : (s.setExhibit i x).axes = s.axes := rfl
@[simp] theorem State.setExhibit_pool (i : ExhibitNo) (x : Exhibit) : (s.setExhibit i x).pool = s.pool := rfl
@[simp] theorem State.setExhibit_patterns (i : ExhibitNo) (x : Exhibit) : (s.setExhibit i x).patterns = s.patterns := rfl
@[simp] theorem State.setExhibit_channels (i : ExhibitNo) (x : Exhibit) : (s.setExhibit i x).channels = s.channels := rfl
@[simp] theorem State.setExhibit_alerts (i : ExhibitNo) (x : Exhibit) : (s.setExhibit i x).alerts = s.alerts := rfl
@[simp] theorem State.setExhibit_stations (i : ExhibitNo) (x : Exhibit) : (s.setExhibit i x).stations = s.stations := rfl
@[simp] theorem State.setExhibit_nextNumber (i : ExhibitNo) (x : Exhibit) : (s.setExhibit i x).nextNumber = s.nextNumber := rfl
@[simp] theorem State.setExhibit_stopInForce (i : ExhibitNo) (x : Exhibit) : (s.setExhibit i x).stopInForce = s.stopInForce := rfl
@[simp] theorem State.setExhibit_releaseWritten (i : ExhibitNo) (x : Exhibit) : (s.setExhibit i x).releaseWritten = s.releaseWritten := rfl
@[simp] theorem State.setExhibit_cadence (i : ExhibitNo) (x : Exhibit) : (s.setExhibit i x).cadence = s.cadence := rfl
@[simp] theorem State.setExhibit_reports (i : ExhibitNo) (x : Exhibit) : (s.setExhibit i x).reports = s.reports := rfl
@[simp] theorem State.setExhibit_pending (i : ExhibitNo) (x : Exhibit) : (s.setExhibit i x).pending = s.pending := rfl

@[simp] theorem State.setSlot_ram (i : ExhibitNo) (x : Slot) : (s.setSlot i x).ram = s.ram := rfl
@[simp] theorem State.setSlot_part (i : ExhibitNo) (x : Slot) : (s.setSlot i x).part = s.part := rfl
@[simp] theorem State.setSlot_clearing (i : ExhibitNo) (x : Slot) : (s.setSlot i x).clearing = s.clearing := rfl
@[simp] theorem State.setSlot_mask (i : ExhibitNo) (x : Slot) : (s.setSlot i x).mask = s.mask := rfl
@[simp] theorem State.setSlot_attn (i : ExhibitNo) (x : Slot) : (s.setSlot i x).attn = s.attn := rfl
@[simp] theorem State.setSlot_rewriteCount (i : ExhibitNo) (x : Slot) : (s.setSlot i x).rewriteCount = s.rewriteCount := rfl
@[simp] theorem State.setSlot_deck (i : ExhibitNo) (x : Slot) : (s.setSlot i x).deck = s.deck := rfl
@[simp] theorem State.setSlot_notice (i : ExhibitNo) (x : Slot) : (s.setSlot i x).notice = s.notice := rfl
@[simp] theorem State.setSlot_params (i : ExhibitNo) (x : Slot) : (s.setSlot i x).params = s.params := rfl
@[simp] theorem State.setSlot_row (i : ExhibitNo) (x : Slot) : (s.setSlot i x).row = s.row := rfl
@[simp] theorem State.setSlot_buttons (i : ExhibitNo) (x : Slot) : (s.setSlot i x).buttons = s.buttons := rfl
@[simp] theorem State.setSlot_groups (i : ExhibitNo) (x : Slot) : (s.setSlot i x).groups = s.groups := rfl
@[simp] theorem State.setSlot_guards (i : ExhibitNo) (x : Slot) : (s.setSlot i x).guards = s.guards := rfl
@[simp] theorem State.setSlot_estop (i : ExhibitNo) (x : Slot) : (s.setSlot i x).estop = s.estop := rfl
@[simp] theorem State.setSlot_exhibits (i : ExhibitNo) (x : Slot) : (s.setSlot i x).exhibits = s.exhibits := rfl
@[simp] theorem State.setSlot_slots (i : ExhibitNo) (x : Slot) : (s.setSlot i x).slots = tset s.slots i x := rfl
@[simp] theorem State.setSlot_sources (i : ExhibitNo) (x : Slot) : (s.setSlot i x).sources = s.sources := rfl
@[simp] theorem State.setSlot_gallery (i : ExhibitNo) (x : Slot) : (s.setSlot i x).gallery = s.gallery := rfl
@[simp] theorem State.setSlot_axes (i : ExhibitNo) (x : Slot) : (s.setSlot i x).axes = s.axes := rfl
@[simp] theorem State.setSlot_pool (i : ExhibitNo) (x : Slot) : (s.setSlot i x).pool = s.pool := rfl
@[simp] theorem State.setSlot_patterns (i : ExhibitNo) (x : Slot) : (s.setSlot i x).patterns = s.patterns := rfl
@[simp] theorem State.setSlot_channels (i : ExhibitNo) (x : Slot) : (s.setSlot i x).channels = s.channels := rfl
@[simp] theorem State.setSlot_alerts (i : ExhibitNo) (x : Slot) : (s.setSlot i x).alerts = s.alerts := rfl
@[simp] theorem State.setSlot_stations (i : ExhibitNo) (x : Slot) : (s.setSlot i x).stations = s.stations := rfl
@[simp] theorem State.setSlot_nextNumber (i : ExhibitNo) (x : Slot) : (s.setSlot i x).nextNumber = s.nextNumber := rfl
@[simp] theorem State.setSlot_stopInForce (i : ExhibitNo) (x : Slot) : (s.setSlot i x).stopInForce = s.stopInForce := rfl
@[simp] theorem State.setSlot_releaseWritten (i : ExhibitNo) (x : Slot) : (s.setSlot i x).releaseWritten = s.releaseWritten := rfl
@[simp] theorem State.setSlot_cadence (i : ExhibitNo) (x : Slot) : (s.setSlot i x).cadence = s.cadence := rfl
@[simp] theorem State.setSlot_reports (i : ExhibitNo) (x : Slot) : (s.setSlot i x).reports = s.reports := rfl
@[simp] theorem State.setSlot_pending (i : ExhibitNo) (x : Slot) : (s.setSlot i x).pending = s.pending := rfl

@[simp] theorem State.setSource_ram (i : ExhibitNo) (x : SourceRecord) : (s.setSource i x).ram = s.ram := rfl
@[simp] theorem State.setSource_part (i : ExhibitNo) (x : SourceRecord) : (s.setSource i x).part = s.part := rfl
@[simp] theorem State.setSource_clearing (i : ExhibitNo) (x : SourceRecord) : (s.setSource i x).clearing = s.clearing := rfl
@[simp] theorem State.setSource_mask (i : ExhibitNo) (x : SourceRecord) : (s.setSource i x).mask = s.mask := rfl
@[simp] theorem State.setSource_attn (i : ExhibitNo) (x : SourceRecord) : (s.setSource i x).attn = s.attn := rfl
@[simp] theorem State.setSource_rewriteCount (i : ExhibitNo) (x : SourceRecord) : (s.setSource i x).rewriteCount = s.rewriteCount := rfl
@[simp] theorem State.setSource_deck (i : ExhibitNo) (x : SourceRecord) : (s.setSource i x).deck = s.deck := rfl
@[simp] theorem State.setSource_notice (i : ExhibitNo) (x : SourceRecord) : (s.setSource i x).notice = s.notice := rfl
@[simp] theorem State.setSource_params (i : ExhibitNo) (x : SourceRecord) : (s.setSource i x).params = s.params := rfl
@[simp] theorem State.setSource_row (i : ExhibitNo) (x : SourceRecord) : (s.setSource i x).row = s.row := rfl
@[simp] theorem State.setSource_buttons (i : ExhibitNo) (x : SourceRecord) : (s.setSource i x).buttons = s.buttons := rfl
@[simp] theorem State.setSource_groups (i : ExhibitNo) (x : SourceRecord) : (s.setSource i x).groups = s.groups := rfl
@[simp] theorem State.setSource_guards (i : ExhibitNo) (x : SourceRecord) : (s.setSource i x).guards = s.guards := rfl
@[simp] theorem State.setSource_estop (i : ExhibitNo) (x : SourceRecord) : (s.setSource i x).estop = s.estop := rfl
@[simp] theorem State.setSource_exhibits (i : ExhibitNo) (x : SourceRecord) : (s.setSource i x).exhibits = s.exhibits := rfl
@[simp] theorem State.setSource_slots (i : ExhibitNo) (x : SourceRecord) : (s.setSource i x).slots = s.slots := rfl
@[simp] theorem State.setSource_sources (i : ExhibitNo) (x : SourceRecord) : (s.setSource i x).sources = tset s.sources i x := rfl
@[simp] theorem State.setSource_gallery (i : ExhibitNo) (x : SourceRecord) : (s.setSource i x).gallery = s.gallery := rfl
@[simp] theorem State.setSource_axes (i : ExhibitNo) (x : SourceRecord) : (s.setSource i x).axes = s.axes := rfl
@[simp] theorem State.setSource_pool (i : ExhibitNo) (x : SourceRecord) : (s.setSource i x).pool = s.pool := rfl
@[simp] theorem State.setSource_patterns (i : ExhibitNo) (x : SourceRecord) : (s.setSource i x).patterns = s.patterns := rfl
@[simp] theorem State.setSource_channels (i : ExhibitNo) (x : SourceRecord) : (s.setSource i x).channels = s.channels := rfl
@[simp] theorem State.setSource_alerts (i : ExhibitNo) (x : SourceRecord) : (s.setSource i x).alerts = s.alerts := rfl
@[simp] theorem State.setSource_stations (i : ExhibitNo) (x : SourceRecord) : (s.setSource i x).stations = s.stations := rfl
@[simp] theorem State.setSource_nextNumber (i : ExhibitNo) (x : SourceRecord) : (s.setSource i x).nextNumber = s.nextNumber := rfl
@[simp] theorem State.setSource_stopInForce (i : ExhibitNo) (x : SourceRecord) : (s.setSource i x).stopInForce = s.stopInForce := rfl
@[simp] theorem State.setSource_releaseWritten (i : ExhibitNo) (x : SourceRecord) : (s.setSource i x).releaseWritten = s.releaseWritten := rfl
@[simp] theorem State.setSource_cadence (i : ExhibitNo) (x : SourceRecord) : (s.setSource i x).cadence = s.cadence := rfl
@[simp] theorem State.setSource_reports (i : ExhibitNo) (x : SourceRecord) : (s.setSource i x).reports = s.reports := rfl
@[simp] theorem State.setSource_pending (i : ExhibitNo) (x : SourceRecord) : (s.setSource i x).pending = s.pending := rfl

@[simp] theorem State.setAxis_ram (i : AxisNo) (x : Axis) : (s.setAxis i x).ram = s.ram := rfl
@[simp] theorem State.setAxis_part (i : AxisNo) (x : Axis) : (s.setAxis i x).part = s.part := rfl
@[simp] theorem State.setAxis_clearing (i : AxisNo) (x : Axis) : (s.setAxis i x).clearing = s.clearing := rfl
@[simp] theorem State.setAxis_mask (i : AxisNo) (x : Axis) : (s.setAxis i x).mask = s.mask := rfl
@[simp] theorem State.setAxis_attn (i : AxisNo) (x : Axis) : (s.setAxis i x).attn = s.attn := rfl
@[simp] theorem State.setAxis_rewriteCount (i : AxisNo) (x : Axis) : (s.setAxis i x).rewriteCount = s.rewriteCount := rfl
@[simp] theorem State.setAxis_deck (i : AxisNo) (x : Axis) : (s.setAxis i x).deck = s.deck := rfl
@[simp] theorem State.setAxis_notice (i : AxisNo) (x : Axis) : (s.setAxis i x).notice = s.notice := rfl
@[simp] theorem State.setAxis_params (i : AxisNo) (x : Axis) : (s.setAxis i x).params = s.params := rfl
@[simp] theorem State.setAxis_row (i : AxisNo) (x : Axis) : (s.setAxis i x).row = s.row := rfl
@[simp] theorem State.setAxis_buttons (i : AxisNo) (x : Axis) : (s.setAxis i x).buttons = s.buttons := rfl
@[simp] theorem State.setAxis_groups (i : AxisNo) (x : Axis) : (s.setAxis i x).groups = s.groups := rfl
@[simp] theorem State.setAxis_guards (i : AxisNo) (x : Axis) : (s.setAxis i x).guards = s.guards := rfl
@[simp] theorem State.setAxis_estop (i : AxisNo) (x : Axis) : (s.setAxis i x).estop = s.estop := rfl
@[simp] theorem State.setAxis_exhibits (i : AxisNo) (x : Axis) : (s.setAxis i x).exhibits = s.exhibits := rfl
@[simp] theorem State.setAxis_slots (i : AxisNo) (x : Axis) : (s.setAxis i x).slots = s.slots := rfl
@[simp] theorem State.setAxis_sources (i : AxisNo) (x : Axis) : (s.setAxis i x).sources = s.sources := rfl
@[simp] theorem State.setAxis_gallery (i : AxisNo) (x : Axis) : (s.setAxis i x).gallery = s.gallery := rfl
@[simp] theorem State.setAxis_axes (i : AxisNo) (x : Axis) : (s.setAxis i x).axes = tset s.axes i x := rfl
@[simp] theorem State.setAxis_pool (i : AxisNo) (x : Axis) : (s.setAxis i x).pool = s.pool := rfl
@[simp] theorem State.setAxis_patterns (i : AxisNo) (x : Axis) : (s.setAxis i x).patterns = s.patterns := rfl
@[simp] theorem State.setAxis_channels (i : AxisNo) (x : Axis) : (s.setAxis i x).channels = s.channels := rfl
@[simp] theorem State.setAxis_alerts (i : AxisNo) (x : Axis) : (s.setAxis i x).alerts = s.alerts := rfl
@[simp] theorem State.setAxis_stations (i : AxisNo) (x : Axis) : (s.setAxis i x).stations = s.stations := rfl
@[simp] theorem State.setAxis_nextNumber (i : AxisNo) (x : Axis) : (s.setAxis i x).nextNumber = s.nextNumber := rfl
@[simp] theorem State.setAxis_stopInForce (i : AxisNo) (x : Axis) : (s.setAxis i x).stopInForce = s.stopInForce := rfl
@[simp] theorem State.setAxis_releaseWritten (i : AxisNo) (x : Axis) : (s.setAxis i x).releaseWritten = s.releaseWritten := rfl
@[simp] theorem State.setAxis_cadence (i : AxisNo) (x : Axis) : (s.setAxis i x).cadence = s.cadence := rfl
@[simp] theorem State.setAxis_reports (i : AxisNo) (x : Axis) : (s.setAxis i x).reports = s.reports := rfl
@[simp] theorem State.setAxis_pending (i : AxisNo) (x : Axis) : (s.setAxis i x).pending = s.pending := rfl

@[simp] theorem State.setChannel_ram (i : ChannelNo) (x : Channel) : (s.setChannel i x).ram = s.ram := rfl
@[simp] theorem State.setChannel_part (i : ChannelNo) (x : Channel) : (s.setChannel i x).part = s.part := rfl
@[simp] theorem State.setChannel_clearing (i : ChannelNo) (x : Channel) : (s.setChannel i x).clearing = s.clearing := rfl
@[simp] theorem State.setChannel_mask (i : ChannelNo) (x : Channel) : (s.setChannel i x).mask = s.mask := rfl
@[simp] theorem State.setChannel_attn (i : ChannelNo) (x : Channel) : (s.setChannel i x).attn = s.attn := rfl
@[simp] theorem State.setChannel_rewriteCount (i : ChannelNo) (x : Channel) : (s.setChannel i x).rewriteCount = s.rewriteCount := rfl
@[simp] theorem State.setChannel_deck (i : ChannelNo) (x : Channel) : (s.setChannel i x).deck = s.deck := rfl
@[simp] theorem State.setChannel_notice (i : ChannelNo) (x : Channel) : (s.setChannel i x).notice = s.notice := rfl
@[simp] theorem State.setChannel_params (i : ChannelNo) (x : Channel) : (s.setChannel i x).params = s.params := rfl
@[simp] theorem State.setChannel_row (i : ChannelNo) (x : Channel) : (s.setChannel i x).row = s.row := rfl
@[simp] theorem State.setChannel_buttons (i : ChannelNo) (x : Channel) : (s.setChannel i x).buttons = s.buttons := rfl
@[simp] theorem State.setChannel_groups (i : ChannelNo) (x : Channel) : (s.setChannel i x).groups = s.groups := rfl
@[simp] theorem State.setChannel_guards (i : ChannelNo) (x : Channel) : (s.setChannel i x).guards = s.guards := rfl
@[simp] theorem State.setChannel_estop (i : ChannelNo) (x : Channel) : (s.setChannel i x).estop = s.estop := rfl
@[simp] theorem State.setChannel_exhibits (i : ChannelNo) (x : Channel) : (s.setChannel i x).exhibits = s.exhibits := rfl
@[simp] theorem State.setChannel_slots (i : ChannelNo) (x : Channel) : (s.setChannel i x).slots = s.slots := rfl
@[simp] theorem State.setChannel_sources (i : ChannelNo) (x : Channel) : (s.setChannel i x).sources = s.sources := rfl
@[simp] theorem State.setChannel_gallery (i : ChannelNo) (x : Channel) : (s.setChannel i x).gallery = s.gallery := rfl
@[simp] theorem State.setChannel_axes (i : ChannelNo) (x : Channel) : (s.setChannel i x).axes = s.axes := rfl
@[simp] theorem State.setChannel_pool (i : ChannelNo) (x : Channel) : (s.setChannel i x).pool = s.pool := rfl
@[simp] theorem State.setChannel_patterns (i : ChannelNo) (x : Channel) : (s.setChannel i x).patterns = s.patterns := rfl
@[simp] theorem State.setChannel_channels (i : ChannelNo) (x : Channel) : (s.setChannel i x).channels = tset s.channels i x := rfl
@[simp] theorem State.setChannel_alerts (i : ChannelNo) (x : Channel) : (s.setChannel i x).alerts = s.alerts := rfl
@[simp] theorem State.setChannel_stations (i : ChannelNo) (x : Channel) : (s.setChannel i x).stations = s.stations := rfl
@[simp] theorem State.setChannel_nextNumber (i : ChannelNo) (x : Channel) : (s.setChannel i x).nextNumber = s.nextNumber := rfl
@[simp] theorem State.setChannel_stopInForce (i : ChannelNo) (x : Channel) : (s.setChannel i x).stopInForce = s.stopInForce := rfl
@[simp] theorem State.setChannel_releaseWritten (i : ChannelNo) (x : Channel) : (s.setChannel i x).releaseWritten = s.releaseWritten := rfl
@[simp] theorem State.setChannel_cadence (i : ChannelNo) (x : Channel) : (s.setChannel i x).cadence = s.cadence := rfl
@[simp] theorem State.setChannel_reports (i : ChannelNo) (x : Channel) : (s.setChannel i x).reports = s.reports := rfl
@[simp] theorem State.setChannel_pending (i : ChannelNo) (x : Channel) : (s.setChannel i x).pending = s.pending := rfl

@[simp] theorem State.setStation_ram (i : StationNo) (x : Station) : (s.setStation i x).ram = s.ram := rfl
@[simp] theorem State.setStation_part (i : StationNo) (x : Station) : (s.setStation i x).part = s.part := rfl
@[simp] theorem State.setStation_clearing (i : StationNo) (x : Station) : (s.setStation i x).clearing = s.clearing := rfl
@[simp] theorem State.setStation_mask (i : StationNo) (x : Station) : (s.setStation i x).mask = s.mask := rfl
@[simp] theorem State.setStation_attn (i : StationNo) (x : Station) : (s.setStation i x).attn = s.attn := rfl
@[simp] theorem State.setStation_rewriteCount (i : StationNo) (x : Station) : (s.setStation i x).rewriteCount = s.rewriteCount := rfl
@[simp] theorem State.setStation_deck (i : StationNo) (x : Station) : (s.setStation i x).deck = s.deck := rfl
@[simp] theorem State.setStation_notice (i : StationNo) (x : Station) : (s.setStation i x).notice = s.notice := rfl
@[simp] theorem State.setStation_params (i : StationNo) (x : Station) : (s.setStation i x).params = s.params := rfl
@[simp] theorem State.setStation_row (i : StationNo) (x : Station) : (s.setStation i x).row = s.row := rfl
@[simp] theorem State.setStation_buttons (i : StationNo) (x : Station) : (s.setStation i x).buttons = s.buttons := rfl
@[simp] theorem State.setStation_groups (i : StationNo) (x : Station) : (s.setStation i x).groups = s.groups := rfl
@[simp] theorem State.setStation_guards (i : StationNo) (x : Station) : (s.setStation i x).guards = s.guards := rfl
@[simp] theorem State.setStation_estop (i : StationNo) (x : Station) : (s.setStation i x).estop = s.estop := rfl
@[simp] theorem State.setStation_exhibits (i : StationNo) (x : Station) : (s.setStation i x).exhibits = s.exhibits := rfl
@[simp] theorem State.setStation_slots (i : StationNo) (x : Station) : (s.setStation i x).slots = s.slots := rfl
@[simp] theorem State.setStation_sources (i : StationNo) (x : Station) : (s.setStation i x).sources = s.sources := rfl
@[simp] theorem State.setStation_gallery (i : StationNo) (x : Station) : (s.setStation i x).gallery = s.gallery := rfl
@[simp] theorem State.setStation_axes (i : StationNo) (x : Station) : (s.setStation i x).axes = s.axes := rfl
@[simp] theorem State.setStation_pool (i : StationNo) (x : Station) : (s.setStation i x).pool = s.pool := rfl
@[simp] theorem State.setStation_patterns (i : StationNo) (x : Station) : (s.setStation i x).patterns = s.patterns := rfl
@[simp] theorem State.setStation_channels (i : StationNo) (x : Station) : (s.setStation i x).channels = s.channels := rfl
@[simp] theorem State.setStation_alerts (i : StationNo) (x : Station) : (s.setStation i x).alerts = s.alerts := rfl
@[simp] theorem State.setStation_stations (i : StationNo) (x : Station) : (s.setStation i x).stations = tset s.stations i x := rfl
@[simp] theorem State.setStation_nextNumber (i : StationNo) (x : Station) : (s.setStation i x).nextNumber = s.nextNumber := rfl
@[simp] theorem State.setStation_stopInForce (i : StationNo) (x : Station) : (s.setStation i x).stopInForce = s.stopInForce := rfl
@[simp] theorem State.setStation_releaseWritten (i : StationNo) (x : Station) : (s.setStation i x).releaseWritten = s.releaseWritten := rfl
@[simp] theorem State.setStation_cadence (i : StationNo) (x : Station) : (s.setStation i x).cadence = s.cadence := rfl
@[simp] theorem State.setStation_reports (i : StationNo) (x : Station) : (s.setStation i x).reports = s.reports := rfl
@[simp] theorem State.setStation_pending (i : StationNo) (x : Station) : (s.setStation i x).pending = s.pending := rfl

@[simp] theorem State.report_ram (r : Report) : (s.report r).ram = s.ram := rfl
@[simp] theorem State.report_part (r : Report) : (s.report r).part = s.part := rfl
@[simp] theorem State.report_clearing (r : Report) : (s.report r).clearing = s.clearing := rfl
@[simp] theorem State.report_mask (r : Report) : (s.report r).mask = s.mask := rfl
@[simp] theorem State.report_attn (r : Report) : (s.report r).attn = s.attn := rfl
@[simp] theorem State.report_rewriteCount (r : Report) : (s.report r).rewriteCount = s.rewriteCount := rfl
@[simp] theorem State.report_deck (r : Report) : (s.report r).deck = s.deck := rfl
@[simp] theorem State.report_notice (r : Report) : (s.report r).notice = s.notice := rfl
@[simp] theorem State.report_params (r : Report) : (s.report r).params = s.params := rfl
@[simp] theorem State.report_row (r : Report) : (s.report r).row = s.row := rfl
@[simp] theorem State.report_buttons (r : Report) : (s.report r).buttons = s.buttons := rfl
@[simp] theorem State.report_groups (r : Report) : (s.report r).groups = s.groups := rfl
@[simp] theorem State.report_guards (r : Report) : (s.report r).guards = s.guards := rfl
@[simp] theorem State.report_estop (r : Report) : (s.report r).estop = s.estop := rfl
@[simp] theorem State.report_exhibits (r : Report) : (s.report r).exhibits = s.exhibits := rfl
@[simp] theorem State.report_slots (r : Report) : (s.report r).slots = s.slots := rfl
@[simp] theorem State.report_sources (r : Report) : (s.report r).sources = s.sources := rfl
@[simp] theorem State.report_gallery (r : Report) : (s.report r).gallery = s.gallery := rfl
@[simp] theorem State.report_axes (r : Report) : (s.report r).axes = s.axes := rfl
@[simp] theorem State.report_pool (r : Report) : (s.report r).pool = s.pool := rfl
@[simp] theorem State.report_patterns (r : Report) : (s.report r).patterns = s.patterns := rfl
@[simp] theorem State.report_channels (r : Report) : (s.report r).channels = s.channels := rfl
@[simp] theorem State.report_alerts (r : Report) : (s.report r).alerts = s.alerts := rfl
@[simp] theorem State.report_stations (r : Report) : (s.report r).stations = s.stations := rfl
@[simp] theorem State.report_nextNumber (r : Report) : (s.report r).nextNumber = s.nextNumber := rfl
@[simp] theorem State.report_stopInForce (r : Report) : (s.report r).stopInForce = s.stopInForce := rfl
@[simp] theorem State.report_releaseWritten (r : Report) : (s.report r).releaseWritten = s.releaseWritten := rfl
@[simp] theorem State.report_cadence (r : Report) : (s.report r).cadence = s.cadence := rfl
@[simp] theorem State.report_reports (r : Report) : (s.report r).reports = s.reports ++ [r] := rfl
@[simp] theorem State.report_pending (r : Report) : (s.report r).pending = s.pending := rfl

@[simp] theorem State.setAttn_ram (c : BitVec 4) : (s.setAttn c).ram = s.ram := rfl
@[simp] theorem State.setAttn_part (c : BitVec 4) : (s.setAttn c).part = s.part := rfl
@[simp] theorem State.setAttn_clearing (c : BitVec 4) : (s.setAttn c).clearing = s.clearing := rfl
@[simp] theorem State.setAttn_mask (c : BitVec 4) : (s.setAttn c).mask = s.mask := rfl
@[simp] theorem State.setAttn_attn (c : BitVec 4) : (s.setAttn c).attn = s.attn ||| c := rfl
@[simp] theorem State.setAttn_rewriteCount (c : BitVec 4) : (s.setAttn c).rewriteCount = s.rewriteCount := rfl
@[simp] theorem State.setAttn_deck (c : BitVec 4) : (s.setAttn c).deck = s.deck := rfl
@[simp] theorem State.setAttn_notice (c : BitVec 4) : (s.setAttn c).notice = s.notice := rfl
@[simp] theorem State.setAttn_params (c : BitVec 4) : (s.setAttn c).params = s.params := rfl
@[simp] theorem State.setAttn_row (c : BitVec 4) : (s.setAttn c).row = s.row := rfl
@[simp] theorem State.setAttn_buttons (c : BitVec 4) : (s.setAttn c).buttons = s.buttons := rfl
@[simp] theorem State.setAttn_groups (c : BitVec 4) : (s.setAttn c).groups = s.groups := rfl
@[simp] theorem State.setAttn_guards (c : BitVec 4) : (s.setAttn c).guards = s.guards := rfl
@[simp] theorem State.setAttn_estop (c : BitVec 4) : (s.setAttn c).estop = s.estop := rfl
@[simp] theorem State.setAttn_exhibits (c : BitVec 4) : (s.setAttn c).exhibits = s.exhibits := rfl
@[simp] theorem State.setAttn_slots (c : BitVec 4) : (s.setAttn c).slots = s.slots := rfl
@[simp] theorem State.setAttn_sources (c : BitVec 4) : (s.setAttn c).sources = s.sources := rfl
@[simp] theorem State.setAttn_gallery (c : BitVec 4) : (s.setAttn c).gallery = s.gallery := rfl
@[simp] theorem State.setAttn_axes (c : BitVec 4) : (s.setAttn c).axes = s.axes := rfl
@[simp] theorem State.setAttn_pool (c : BitVec 4) : (s.setAttn c).pool = s.pool := rfl
@[simp] theorem State.setAttn_patterns (c : BitVec 4) : (s.setAttn c).patterns = s.patterns := rfl
@[simp] theorem State.setAttn_channels (c : BitVec 4) : (s.setAttn c).channels = s.channels := rfl
@[simp] theorem State.setAttn_alerts (c : BitVec 4) : (s.setAttn c).alerts = s.alerts := rfl
@[simp] theorem State.setAttn_stations (c : BitVec 4) : (s.setAttn c).stations = s.stations := rfl
@[simp] theorem State.setAttn_nextNumber (c : BitVec 4) : (s.setAttn c).nextNumber = s.nextNumber := rfl
@[simp] theorem State.setAttn_stopInForce (c : BitVec 4) : (s.setAttn c).stopInForce = s.stopInForce := rfl
@[simp] theorem State.setAttn_releaseWritten (c : BitVec 4) : (s.setAttn c).releaseWritten = s.releaseWritten := rfl
@[simp] theorem State.setAttn_cadence (c : BitVec 4) : (s.setAttn c).cadence = s.cadence := rfl
@[simp] theorem State.setAttn_reports (c : BitVec 4) : (s.setAttn c).reports = s.reports := rfl
@[simp] theorem State.setAttn_pending (c : BitVec 4) : (s.setAttn c).pending = s.pending := rfl

@[simp] theorem State.setAlerts_ram (l : List Alert) : (s.setAlerts l).ram = s.ram := rfl
@[simp] theorem State.setAlerts_part (l : List Alert) : (s.setAlerts l).part = s.part := rfl
@[simp] theorem State.setAlerts_clearing (l : List Alert) : (s.setAlerts l).clearing = s.clearing := rfl
@[simp] theorem State.setAlerts_mask (l : List Alert) : (s.setAlerts l).mask = s.mask := rfl
@[simp] theorem State.setAlerts_attn (l : List Alert) : (s.setAlerts l).attn = s.attn := rfl
@[simp] theorem State.setAlerts_rewriteCount (l : List Alert) : (s.setAlerts l).rewriteCount = s.rewriteCount := rfl
@[simp] theorem State.setAlerts_deck (l : List Alert) : (s.setAlerts l).deck = s.deck := rfl
@[simp] theorem State.setAlerts_notice (l : List Alert) : (s.setAlerts l).notice = s.notice := rfl
@[simp] theorem State.setAlerts_params (l : List Alert) : (s.setAlerts l).params = s.params := rfl
@[simp] theorem State.setAlerts_row (l : List Alert) : (s.setAlerts l).row = s.row := rfl
@[simp] theorem State.setAlerts_buttons (l : List Alert) : (s.setAlerts l).buttons = s.buttons := rfl
@[simp] theorem State.setAlerts_groups (l : List Alert) : (s.setAlerts l).groups = s.groups := rfl
@[simp] theorem State.setAlerts_guards (l : List Alert) : (s.setAlerts l).guards = s.guards := rfl
@[simp] theorem State.setAlerts_estop (l : List Alert) : (s.setAlerts l).estop = s.estop := rfl
@[simp] theorem State.setAlerts_exhibits (l : List Alert) : (s.setAlerts l).exhibits = s.exhibits := rfl
@[simp] theorem State.setAlerts_slots (l : List Alert) : (s.setAlerts l).slots = s.slots := rfl
@[simp] theorem State.setAlerts_sources (l : List Alert) : (s.setAlerts l).sources = s.sources := rfl
@[simp] theorem State.setAlerts_gallery (l : List Alert) : (s.setAlerts l).gallery = s.gallery := rfl
@[simp] theorem State.setAlerts_axes (l : List Alert) : (s.setAlerts l).axes = s.axes := rfl
@[simp] theorem State.setAlerts_pool (l : List Alert) : (s.setAlerts l).pool = s.pool := rfl
@[simp] theorem State.setAlerts_patterns (l : List Alert) : (s.setAlerts l).patterns = s.patterns := rfl
@[simp] theorem State.setAlerts_channels (l : List Alert) : (s.setAlerts l).channels = s.channels := rfl
@[simp] theorem State.setAlerts_alerts (l : List Alert) : (s.setAlerts l).alerts = l := rfl
@[simp] theorem State.setAlerts_stations (l : List Alert) : (s.setAlerts l).stations = s.stations := rfl
@[simp] theorem State.setAlerts_nextNumber (l : List Alert) : (s.setAlerts l).nextNumber = s.nextNumber := rfl
@[simp] theorem State.setAlerts_stopInForce (l : List Alert) : (s.setAlerts l).stopInForce = s.stopInForce := rfl
@[simp] theorem State.setAlerts_releaseWritten (l : List Alert) : (s.setAlerts l).releaseWritten = s.releaseWritten := rfl
@[simp] theorem State.setAlerts_cadence (l : List Alert) : (s.setAlerts l).cadence = s.cadence := rfl
@[simp] theorem State.setAlerts_reports (l : List Alert) : (s.setAlerts l).reports = s.reports := rfl
@[simp] theorem State.setAlerts_pending (l : List Alert) : (s.setAlerts l).pending = s.pending := rfl

@[simp] theorem State.setPool_ram (p : Pool) : (s.setPool p).ram = s.ram := rfl
@[simp] theorem State.setPool_part (p : Pool) : (s.setPool p).part = s.part := rfl
@[simp] theorem State.setPool_clearing (p : Pool) : (s.setPool p).clearing = s.clearing := rfl
@[simp] theorem State.setPool_mask (p : Pool) : (s.setPool p).mask = s.mask := rfl
@[simp] theorem State.setPool_attn (p : Pool) : (s.setPool p).attn = s.attn := rfl
@[simp] theorem State.setPool_rewriteCount (p : Pool) : (s.setPool p).rewriteCount = s.rewriteCount := rfl
@[simp] theorem State.setPool_deck (p : Pool) : (s.setPool p).deck = s.deck := rfl
@[simp] theorem State.setPool_notice (p : Pool) : (s.setPool p).notice = s.notice := rfl
@[simp] theorem State.setPool_params (p : Pool) : (s.setPool p).params = s.params := rfl
@[simp] theorem State.setPool_row (p : Pool) : (s.setPool p).row = s.row := rfl
@[simp] theorem State.setPool_buttons (p : Pool) : (s.setPool p).buttons = s.buttons := rfl
@[simp] theorem State.setPool_groups (p : Pool) : (s.setPool p).groups = s.groups := rfl
@[simp] theorem State.setPool_guards (p : Pool) : (s.setPool p).guards = s.guards := rfl
@[simp] theorem State.setPool_estop (p : Pool) : (s.setPool p).estop = s.estop := rfl
@[simp] theorem State.setPool_exhibits (p : Pool) : (s.setPool p).exhibits = s.exhibits := rfl
@[simp] theorem State.setPool_slots (p : Pool) : (s.setPool p).slots = s.slots := rfl
@[simp] theorem State.setPool_sources (p : Pool) : (s.setPool p).sources = s.sources := rfl
@[simp] theorem State.setPool_gallery (p : Pool) : (s.setPool p).gallery = s.gallery := rfl
@[simp] theorem State.setPool_axes (p : Pool) : (s.setPool p).axes = s.axes := rfl
@[simp] theorem State.setPool_pool (p : Pool) : (s.setPool p).pool = p := rfl
@[simp] theorem State.setPool_patterns (p : Pool) : (s.setPool p).patterns = s.patterns := rfl
@[simp] theorem State.setPool_channels (p : Pool) : (s.setPool p).channels = s.channels := rfl
@[simp] theorem State.setPool_alerts (p : Pool) : (s.setPool p).alerts = s.alerts := rfl
@[simp] theorem State.setPool_stations (p : Pool) : (s.setPool p).stations = s.stations := rfl
@[simp] theorem State.setPool_nextNumber (p : Pool) : (s.setPool p).nextNumber = s.nextNumber := rfl
@[simp] theorem State.setPool_stopInForce (p : Pool) : (s.setPool p).stopInForce = s.stopInForce := rfl
@[simp] theorem State.setPool_releaseWritten (p : Pool) : (s.setPool p).releaseWritten = s.releaseWritten := rfl
@[simp] theorem State.setPool_cadence (p : Pool) : (s.setPool p).cadence = s.cadence := rfl
@[simp] theorem State.setPool_reports (p : Pool) : (s.setPool p).reports = s.reports := rfl
@[simp] theorem State.setPool_pending (p : Pool) : (s.setPool p).pending = s.pending := rfl

@[simp] theorem State.setParams_ram (p : GalleryParams) : (s.setParams p).ram = s.ram := rfl
@[simp] theorem State.setParams_part (p : GalleryParams) : (s.setParams p).part = s.part := rfl
@[simp] theorem State.setParams_clearing (p : GalleryParams) : (s.setParams p).clearing = s.clearing := rfl
@[simp] theorem State.setParams_mask (p : GalleryParams) : (s.setParams p).mask = s.mask := rfl
@[simp] theorem State.setParams_attn (p : GalleryParams) : (s.setParams p).attn = s.attn := rfl
@[simp] theorem State.setParams_rewriteCount (p : GalleryParams) : (s.setParams p).rewriteCount = s.rewriteCount := rfl
@[simp] theorem State.setParams_deck (p : GalleryParams) : (s.setParams p).deck = s.deck := rfl
@[simp] theorem State.setParams_notice (p : GalleryParams) : (s.setParams p).notice = s.notice := rfl
@[simp] theorem State.setParams_params (p : GalleryParams) : (s.setParams p).params = p := rfl
@[simp] theorem State.setParams_row (p : GalleryParams) : (s.setParams p).row = s.row := rfl
@[simp] theorem State.setParams_buttons (p : GalleryParams) : (s.setParams p).buttons = s.buttons := rfl
@[simp] theorem State.setParams_groups (p : GalleryParams) : (s.setParams p).groups = s.groups := rfl
@[simp] theorem State.setParams_guards (p : GalleryParams) : (s.setParams p).guards = s.guards := rfl
@[simp] theorem State.setParams_estop (p : GalleryParams) : (s.setParams p).estop = s.estop := rfl
@[simp] theorem State.setParams_exhibits (p : GalleryParams) : (s.setParams p).exhibits = s.exhibits := rfl
@[simp] theorem State.setParams_slots (p : GalleryParams) : (s.setParams p).slots = s.slots := rfl
@[simp] theorem State.setParams_sources (p : GalleryParams) : (s.setParams p).sources = s.sources := rfl
@[simp] theorem State.setParams_gallery (p : GalleryParams) : (s.setParams p).gallery = s.gallery := rfl
@[simp] theorem State.setParams_axes (p : GalleryParams) : (s.setParams p).axes = s.axes := rfl
@[simp] theorem State.setParams_pool (p : GalleryParams) : (s.setParams p).pool = s.pool := rfl
@[simp] theorem State.setParams_patterns (p : GalleryParams) : (s.setParams p).patterns = s.patterns := rfl
@[simp] theorem State.setParams_channels (p : GalleryParams) : (s.setParams p).channels = s.channels := rfl
@[simp] theorem State.setParams_alerts (p : GalleryParams) : (s.setParams p).alerts = s.alerts := rfl
@[simp] theorem State.setParams_stations (p : GalleryParams) : (s.setParams p).stations = s.stations := rfl
@[simp] theorem State.setParams_nextNumber (p : GalleryParams) : (s.setParams p).nextNumber = s.nextNumber := rfl
@[simp] theorem State.setParams_stopInForce (p : GalleryParams) : (s.setParams p).stopInForce = s.stopInForce := rfl
@[simp] theorem State.setParams_releaseWritten (p : GalleryParams) : (s.setParams p).releaseWritten = s.releaseWritten := rfl
@[simp] theorem State.setParams_cadence (p : GalleryParams) : (s.setParams p).cadence = s.cadence := rfl
@[simp] theorem State.setParams_reports (p : GalleryParams) : (s.setParams p).reports = s.reports := rfl
@[simp] theorem State.setParams_pending (p : GalleryParams) : (s.setParams p).pending = s.pending := rfl

@[simp] theorem State.setStop_ram (b : Bool) : (s.setStop b).ram = s.ram := rfl
@[simp] theorem State.setStop_part (b : Bool) : (s.setStop b).part = s.part := rfl
@[simp] theorem State.setStop_clearing (b : Bool) : (s.setStop b).clearing = s.clearing := rfl
@[simp] theorem State.setStop_mask (b : Bool) : (s.setStop b).mask = s.mask := rfl
@[simp] theorem State.setStop_attn (b : Bool) : (s.setStop b).attn = s.attn := rfl
@[simp] theorem State.setStop_rewriteCount (b : Bool) : (s.setStop b).rewriteCount = s.rewriteCount := rfl
@[simp] theorem State.setStop_deck (b : Bool) : (s.setStop b).deck = s.deck := rfl
@[simp] theorem State.setStop_notice (b : Bool) : (s.setStop b).notice = s.notice := rfl
@[simp] theorem State.setStop_params (b : Bool) : (s.setStop b).params = s.params := rfl
@[simp] theorem State.setStop_row (b : Bool) : (s.setStop b).row = s.row := rfl
@[simp] theorem State.setStop_buttons (b : Bool) : (s.setStop b).buttons = s.buttons := rfl
@[simp] theorem State.setStop_groups (b : Bool) : (s.setStop b).groups = s.groups := rfl
@[simp] theorem State.setStop_guards (b : Bool) : (s.setStop b).guards = s.guards := rfl
@[simp] theorem State.setStop_estop (b : Bool) : (s.setStop b).estop = s.estop := rfl
@[simp] theorem State.setStop_exhibits (b : Bool) : (s.setStop b).exhibits = s.exhibits := rfl
@[simp] theorem State.setStop_slots (b : Bool) : (s.setStop b).slots = s.slots := rfl
@[simp] theorem State.setStop_sources (b : Bool) : (s.setStop b).sources = s.sources := rfl
@[simp] theorem State.setStop_gallery (b : Bool) : (s.setStop b).gallery = s.gallery := rfl
@[simp] theorem State.setStop_axes (b : Bool) : (s.setStop b).axes = s.axes := rfl
@[simp] theorem State.setStop_pool (b : Bool) : (s.setStop b).pool = s.pool := rfl
@[simp] theorem State.setStop_patterns (b : Bool) : (s.setStop b).patterns = s.patterns := rfl
@[simp] theorem State.setStop_channels (b : Bool) : (s.setStop b).channels = s.channels := rfl
@[simp] theorem State.setStop_alerts (b : Bool) : (s.setStop b).alerts = s.alerts := rfl
@[simp] theorem State.setStop_stations (b : Bool) : (s.setStop b).stations = s.stations := rfl
@[simp] theorem State.setStop_nextNumber (b : Bool) : (s.setStop b).nextNumber = s.nextNumber := rfl
@[simp] theorem State.setStop_stopInForce (b : Bool) : (s.setStop b).stopInForce = b := rfl
@[simp] theorem State.setStop_releaseWritten (b : Bool) : (s.setStop b).releaseWritten = false := rfl
@[simp] theorem State.setStop_cadence (b : Bool) : (s.setStop b).cadence = s.cadence := rfl
@[simp] theorem State.setStop_reports (b : Bool) : (s.setStop b).reports = s.reports := rfl
@[simp] theorem State.setStop_pending (b : Bool) : (s.setStop b).pending = s.pending := rfl

@[simp] theorem State.setReleaseWritten_ram (b : Bool) : (s.setReleaseWritten b).ram = s.ram := rfl
@[simp] theorem State.setReleaseWritten_part (b : Bool) : (s.setReleaseWritten b).part = s.part := rfl
@[simp] theorem State.setReleaseWritten_clearing (b : Bool) : (s.setReleaseWritten b).clearing = s.clearing := rfl
@[simp] theorem State.setReleaseWritten_mask (b : Bool) : (s.setReleaseWritten b).mask = s.mask := rfl
@[simp] theorem State.setReleaseWritten_attn (b : Bool) : (s.setReleaseWritten b).attn = s.attn := rfl
@[simp] theorem State.setReleaseWritten_rewriteCount (b : Bool) : (s.setReleaseWritten b).rewriteCount = s.rewriteCount := rfl
@[simp] theorem State.setReleaseWritten_deck (b : Bool) : (s.setReleaseWritten b).deck = s.deck := rfl
@[simp] theorem State.setReleaseWritten_notice (b : Bool) : (s.setReleaseWritten b).notice = s.notice := rfl
@[simp] theorem State.setReleaseWritten_params (b : Bool) : (s.setReleaseWritten b).params = s.params := rfl
@[simp] theorem State.setReleaseWritten_row (b : Bool) : (s.setReleaseWritten b).row = s.row := rfl
@[simp] theorem State.setReleaseWritten_buttons (b : Bool) : (s.setReleaseWritten b).buttons = s.buttons := rfl
@[simp] theorem State.setReleaseWritten_groups (b : Bool) : (s.setReleaseWritten b).groups = s.groups := rfl
@[simp] theorem State.setReleaseWritten_guards (b : Bool) : (s.setReleaseWritten b).guards = s.guards := rfl
@[simp] theorem State.setReleaseWritten_estop (b : Bool) : (s.setReleaseWritten b).estop = s.estop := rfl
@[simp] theorem State.setReleaseWritten_exhibits (b : Bool) : (s.setReleaseWritten b).exhibits = s.exhibits := rfl
@[simp] theorem State.setReleaseWritten_slots (b : Bool) : (s.setReleaseWritten b).slots = s.slots := rfl
@[simp] theorem State.setReleaseWritten_sources (b : Bool) : (s.setReleaseWritten b).sources = s.sources := rfl
@[simp] theorem State.setReleaseWritten_gallery (b : Bool) : (s.setReleaseWritten b).gallery = s.gallery := rfl
@[simp] theorem State.setReleaseWritten_axes (b : Bool) : (s.setReleaseWritten b).axes = s.axes := rfl
@[simp] theorem State.setReleaseWritten_pool (b : Bool) : (s.setReleaseWritten b).pool = s.pool := rfl
@[simp] theorem State.setReleaseWritten_patterns (b : Bool) : (s.setReleaseWritten b).patterns = s.patterns := rfl
@[simp] theorem State.setReleaseWritten_channels (b : Bool) : (s.setReleaseWritten b).channels = s.channels := rfl
@[simp] theorem State.setReleaseWritten_alerts (b : Bool) : (s.setReleaseWritten b).alerts = s.alerts := rfl
@[simp] theorem State.setReleaseWritten_stations (b : Bool) : (s.setReleaseWritten b).stations = s.stations := rfl
@[simp] theorem State.setReleaseWritten_nextNumber (b : Bool) : (s.setReleaseWritten b).nextNumber = s.nextNumber := rfl
@[simp] theorem State.setReleaseWritten_stopInForce (b : Bool) : (s.setReleaseWritten b).stopInForce = s.stopInForce := rfl
@[simp] theorem State.setReleaseWritten_releaseWritten (b : Bool) : (s.setReleaseWritten b).releaseWritten = b := rfl
@[simp] theorem State.setReleaseWritten_cadence (b : Bool) : (s.setReleaseWritten b).cadence = s.cadence := rfl
@[simp] theorem State.setReleaseWritten_reports (b : Bool) : (s.setReleaseWritten b).reports = s.reports := rfl
@[simp] theorem State.setReleaseWritten_pending (b : Bool) : (s.setReleaseWritten b).pending = s.pending := rfl

@[simp] theorem State.setEstop_ram (f : InputFilter) : (s.setEstop f).ram = s.ram := rfl
@[simp] theorem State.setEstop_part (f : InputFilter) : (s.setEstop f).part = s.part := rfl
@[simp] theorem State.setEstop_clearing (f : InputFilter) : (s.setEstop f).clearing = s.clearing := rfl
@[simp] theorem State.setEstop_mask (f : InputFilter) : (s.setEstop f).mask = s.mask := rfl
@[simp] theorem State.setEstop_attn (f : InputFilter) : (s.setEstop f).attn = s.attn := rfl
@[simp] theorem State.setEstop_rewriteCount (f : InputFilter) : (s.setEstop f).rewriteCount = s.rewriteCount := rfl
@[simp] theorem State.setEstop_deck (f : InputFilter) : (s.setEstop f).deck = s.deck := rfl
@[simp] theorem State.setEstop_notice (f : InputFilter) : (s.setEstop f).notice = s.notice := rfl
@[simp] theorem State.setEstop_params (f : InputFilter) : (s.setEstop f).params = s.params := rfl
@[simp] theorem State.setEstop_row (f : InputFilter) : (s.setEstop f).row = s.row := rfl
@[simp] theorem State.setEstop_buttons (f : InputFilter) : (s.setEstop f).buttons = s.buttons := rfl
@[simp] theorem State.setEstop_groups (f : InputFilter) : (s.setEstop f).groups = s.groups := rfl
@[simp] theorem State.setEstop_guards (f : InputFilter) : (s.setEstop f).guards = s.guards := rfl
@[simp] theorem State.setEstop_estop (f : InputFilter) : (s.setEstop f).estop = f := rfl
@[simp] theorem State.setEstop_exhibits (f : InputFilter) : (s.setEstop f).exhibits = s.exhibits := rfl
@[simp] theorem State.setEstop_slots (f : InputFilter) : (s.setEstop f).slots = s.slots := rfl
@[simp] theorem State.setEstop_sources (f : InputFilter) : (s.setEstop f).sources = s.sources := rfl
@[simp] theorem State.setEstop_gallery (f : InputFilter) : (s.setEstop f).gallery = s.gallery := rfl
@[simp] theorem State.setEstop_axes (f : InputFilter) : (s.setEstop f).axes = s.axes := rfl
@[simp] theorem State.setEstop_pool (f : InputFilter) : (s.setEstop f).pool = s.pool := rfl
@[simp] theorem State.setEstop_patterns (f : InputFilter) : (s.setEstop f).patterns = s.patterns := rfl
@[simp] theorem State.setEstop_channels (f : InputFilter) : (s.setEstop f).channels = s.channels := rfl
@[simp] theorem State.setEstop_alerts (f : InputFilter) : (s.setEstop f).alerts = s.alerts := rfl
@[simp] theorem State.setEstop_stations (f : InputFilter) : (s.setEstop f).stations = s.stations := rfl
@[simp] theorem State.setEstop_nextNumber (f : InputFilter) : (s.setEstop f).nextNumber = s.nextNumber := rfl
@[simp] theorem State.setEstop_stopInForce (f : InputFilter) : (s.setEstop f).stopInForce = s.stopInForce := rfl
@[simp] theorem State.setEstop_releaseWritten (f : InputFilter) : (s.setEstop f).releaseWritten = s.releaseWritten := rfl
@[simp] theorem State.setEstop_cadence (f : InputFilter) : (s.setEstop f).cadence = s.cadence := rfl
@[simp] theorem State.setEstop_reports (f : InputFilter) : (s.setEstop f).reports = s.reports := rfl
@[simp] theorem State.setEstop_pending (f : InputFilter) : (s.setEstop f).pending = s.pending := rfl

@[simp] theorem State.setRun_ram : s.setRun.ram = s.ram := rfl
@[simp] theorem State.setRun_part : s.setRun.part = .run := rfl
@[simp] theorem State.setRun_clearing : s.setRun.clearing = s.clearing := rfl
@[simp] theorem State.setRun_mask : s.setRun.mask = s.mask := rfl
@[simp] theorem State.setRun_attn : s.setRun.attn = s.attn := rfl
@[simp] theorem State.setRun_rewriteCount : s.setRun.rewriteCount = s.rewriteCount := rfl
@[simp] theorem State.setRun_deck : s.setRun.deck = s.deck := rfl
@[simp] theorem State.setRun_notice : s.setRun.notice = s.notice := rfl
@[simp] theorem State.setRun_params : s.setRun.params = s.params := rfl
@[simp] theorem State.setRun_row : s.setRun.row = s.row := rfl
@[simp] theorem State.setRun_buttons : s.setRun.buttons = s.buttons := rfl
@[simp] theorem State.setRun_groups : s.setRun.groups = s.groups := rfl
@[simp] theorem State.setRun_guards : s.setRun.guards = s.guards := rfl
@[simp] theorem State.setRun_estop : s.setRun.estop = s.estop := rfl
@[simp] theorem State.setRun_exhibits : s.setRun.exhibits = s.exhibits := rfl
@[simp] theorem State.setRun_slots : s.setRun.slots = s.slots := rfl
@[simp] theorem State.setRun_sources : s.setRun.sources = s.sources := rfl
@[simp] theorem State.setRun_gallery : s.setRun.gallery = s.gallery := rfl
@[simp] theorem State.setRun_axes : s.setRun.axes = s.axes := rfl
@[simp] theorem State.setRun_pool : s.setRun.pool = s.pool := rfl
@[simp] theorem State.setRun_patterns : s.setRun.patterns = s.patterns := rfl
@[simp] theorem State.setRun_channels : s.setRun.channels = s.channels := rfl
@[simp] theorem State.setRun_alerts : s.setRun.alerts = s.alerts := rfl
@[simp] theorem State.setRun_stations : s.setRun.stations = s.stations := rfl
@[simp] theorem State.setRun_nextNumber : s.setRun.nextNumber = s.nextNumber := rfl
@[simp] theorem State.setRun_stopInForce : s.setRun.stopInForce = s.stopInForce := rfl
@[simp] theorem State.setRun_releaseWritten : s.setRun.releaseWritten = s.releaseWritten := rfl
@[simp] theorem State.setRun_cadence : s.setRun.cadence = s.cadence := rfl
@[simp] theorem State.setRun_reports : s.setRun.reports = s.reports := rfl
@[simp] theorem State.setRun_pending : s.setRun.pending = s.pending := rfl

@[simp] theorem State.setDeck_ram (d : Deck) : (s.setDeck d).ram = s.ram := rfl
@[simp] theorem State.setDeck_part (d : Deck) : (s.setDeck d).part = s.part := rfl
@[simp] theorem State.setDeck_clearing (d : Deck) : (s.setDeck d).clearing = s.clearing := rfl
@[simp] theorem State.setDeck_mask (d : Deck) : (s.setDeck d).mask = s.mask := rfl
@[simp] theorem State.setDeck_attn (d : Deck) : (s.setDeck d).attn = s.attn := rfl
@[simp] theorem State.setDeck_rewriteCount (d : Deck) : (s.setDeck d).rewriteCount = s.rewriteCount := rfl
@[simp] theorem State.setDeck_deck (d : Deck) : (s.setDeck d).deck = d := rfl
@[simp] theorem State.setDeck_notice (d : Deck) : (s.setDeck d).notice = s.notice := rfl
@[simp] theorem State.setDeck_params (d : Deck) : (s.setDeck d).params = s.params := rfl
@[simp] theorem State.setDeck_row (d : Deck) : (s.setDeck d).row = s.row := rfl
@[simp] theorem State.setDeck_buttons (d : Deck) : (s.setDeck d).buttons = s.buttons := rfl
@[simp] theorem State.setDeck_groups (d : Deck) : (s.setDeck d).groups = s.groups := rfl
@[simp] theorem State.setDeck_guards (d : Deck) : (s.setDeck d).guards = s.guards := rfl
@[simp] theorem State.setDeck_estop (d : Deck) : (s.setDeck d).estop = s.estop := rfl
@[simp] theorem State.setDeck_exhibits (d : Deck) : (s.setDeck d).exhibits = s.exhibits := rfl
@[simp] theorem State.setDeck_slots (d : Deck) : (s.setDeck d).slots = s.slots := rfl
@[simp] theorem State.setDeck_sources (d : Deck) : (s.setDeck d).sources = s.sources := rfl
@[simp] theorem State.setDeck_gallery (d : Deck) : (s.setDeck d).gallery = s.gallery := rfl
@[simp] theorem State.setDeck_axes (d : Deck) : (s.setDeck d).axes = s.axes := rfl
@[simp] theorem State.setDeck_pool (d : Deck) : (s.setDeck d).pool = s.pool := rfl
@[simp] theorem State.setDeck_patterns (d : Deck) : (s.setDeck d).patterns = s.patterns := rfl
@[simp] theorem State.setDeck_channels (d : Deck) : (s.setDeck d).channels = s.channels := rfl
@[simp] theorem State.setDeck_alerts (d : Deck) : (s.setDeck d).alerts = s.alerts := rfl
@[simp] theorem State.setDeck_stations (d : Deck) : (s.setDeck d).stations = s.stations := rfl
@[simp] theorem State.setDeck_nextNumber (d : Deck) : (s.setDeck d).nextNumber = s.nextNumber := rfl
@[simp] theorem State.setDeck_stopInForce (d : Deck) : (s.setDeck d).stopInForce = s.stopInForce := rfl
@[simp] theorem State.setDeck_releaseWritten (d : Deck) : (s.setDeck d).releaseWritten = s.releaseWritten := rfl
@[simp] theorem State.setDeck_cadence (d : Deck) : (s.setDeck d).cadence = s.cadence := rfl
@[simp] theorem State.setDeck_reports (d : Deck) : (s.setDeck d).reports = s.reports := rfl
@[simp] theorem State.setDeck_pending (d : Deck) : (s.setDeck d).pending = s.pending := rfl

@[simp] theorem State.setMask_ram (m : BitVec 4) : (s.setMask m).ram = s.ram := rfl
@[simp] theorem State.setMask_part (m : BitVec 4) : (s.setMask m).part = s.part := rfl
@[simp] theorem State.setMask_clearing (m : BitVec 4) : (s.setMask m).clearing = s.clearing := rfl
@[simp] theorem State.setMask_mask (m : BitVec 4) : (s.setMask m).mask = m := rfl
@[simp] theorem State.setMask_attn (m : BitVec 4) : (s.setMask m).attn = s.attn := rfl
@[simp] theorem State.setMask_rewriteCount (m : BitVec 4) : (s.setMask m).rewriteCount = s.rewriteCount := rfl
@[simp] theorem State.setMask_deck (m : BitVec 4) : (s.setMask m).deck = s.deck := rfl
@[simp] theorem State.setMask_notice (m : BitVec 4) : (s.setMask m).notice = s.notice := rfl
@[simp] theorem State.setMask_params (m : BitVec 4) : (s.setMask m).params = s.params := rfl
@[simp] theorem State.setMask_row (m : BitVec 4) : (s.setMask m).row = s.row := rfl
@[simp] theorem State.setMask_buttons (m : BitVec 4) : (s.setMask m).buttons = s.buttons := rfl
@[simp] theorem State.setMask_groups (m : BitVec 4) : (s.setMask m).groups = s.groups := rfl
@[simp] theorem State.setMask_guards (m : BitVec 4) : (s.setMask m).guards = s.guards := rfl
@[simp] theorem State.setMask_estop (m : BitVec 4) : (s.setMask m).estop = s.estop := rfl
@[simp] theorem State.setMask_exhibits (m : BitVec 4) : (s.setMask m).exhibits = s.exhibits := rfl
@[simp] theorem State.setMask_slots (m : BitVec 4) : (s.setMask m).slots = s.slots := rfl
@[simp] theorem State.setMask_sources (m : BitVec 4) : (s.setMask m).sources = s.sources := rfl
@[simp] theorem State.setMask_gallery (m : BitVec 4) : (s.setMask m).gallery = s.gallery := rfl
@[simp] theorem State.setMask_axes (m : BitVec 4) : (s.setMask m).axes = s.axes := rfl
@[simp] theorem State.setMask_pool (m : BitVec 4) : (s.setMask m).pool = s.pool := rfl
@[simp] theorem State.setMask_patterns (m : BitVec 4) : (s.setMask m).patterns = s.patterns := rfl
@[simp] theorem State.setMask_channels (m : BitVec 4) : (s.setMask m).channels = s.channels := rfl
@[simp] theorem State.setMask_alerts (m : BitVec 4) : (s.setMask m).alerts = s.alerts := rfl
@[simp] theorem State.setMask_stations (m : BitVec 4) : (s.setMask m).stations = s.stations := rfl
@[simp] theorem State.setMask_nextNumber (m : BitVec 4) : (s.setMask m).nextNumber = s.nextNumber := rfl
@[simp] theorem State.setMask_stopInForce (m : BitVec 4) : (s.setMask m).stopInForce = s.stopInForce := rfl
@[simp] theorem State.setMask_releaseWritten (m : BitVec 4) : (s.setMask m).releaseWritten = s.releaseWritten := rfl
@[simp] theorem State.setMask_cadence (m : BitVec 4) : (s.setMask m).cadence = s.cadence := rfl
@[simp] theorem State.setMask_reports (m : BitVec 4) : (s.setMask m).reports = s.reports := rfl
@[simp] theorem State.setMask_pending (m : BitVec 4) : (s.setMask m).pending = s.pending := rfl

@[simp] theorem State.setNotice_ram (n : NoticeUnit) : (s.setNotice n).ram = s.ram := rfl
@[simp] theorem State.setNotice_part (n : NoticeUnit) : (s.setNotice n).part = s.part := rfl
@[simp] theorem State.setNotice_clearing (n : NoticeUnit) : (s.setNotice n).clearing = s.clearing := rfl
@[simp] theorem State.setNotice_mask (n : NoticeUnit) : (s.setNotice n).mask = s.mask := rfl
@[simp] theorem State.setNotice_attn (n : NoticeUnit) : (s.setNotice n).attn = s.attn := rfl
@[simp] theorem State.setNotice_rewriteCount (n : NoticeUnit) : (s.setNotice n).rewriteCount = s.rewriteCount := rfl
@[simp] theorem State.setNotice_deck (n : NoticeUnit) : (s.setNotice n).deck = s.deck := rfl
@[simp] theorem State.setNotice_notice (n : NoticeUnit) : (s.setNotice n).notice = n := rfl
@[simp] theorem State.setNotice_params (n : NoticeUnit) : (s.setNotice n).params = s.params := rfl
@[simp] theorem State.setNotice_row (n : NoticeUnit) : (s.setNotice n).row = s.row := rfl
@[simp] theorem State.setNotice_buttons (n : NoticeUnit) : (s.setNotice n).buttons = s.buttons := rfl
@[simp] theorem State.setNotice_groups (n : NoticeUnit) : (s.setNotice n).groups = s.groups := rfl
@[simp] theorem State.setNotice_guards (n : NoticeUnit) : (s.setNotice n).guards = s.guards := rfl
@[simp] theorem State.setNotice_estop (n : NoticeUnit) : (s.setNotice n).estop = s.estop := rfl
@[simp] theorem State.setNotice_exhibits (n : NoticeUnit) : (s.setNotice n).exhibits = s.exhibits := rfl
@[simp] theorem State.setNotice_slots (n : NoticeUnit) : (s.setNotice n).slots = s.slots := rfl
@[simp] theorem State.setNotice_sources (n : NoticeUnit) : (s.setNotice n).sources = s.sources := rfl
@[simp] theorem State.setNotice_gallery (n : NoticeUnit) : (s.setNotice n).gallery = s.gallery := rfl
@[simp] theorem State.setNotice_axes (n : NoticeUnit) : (s.setNotice n).axes = s.axes := rfl
@[simp] theorem State.setNotice_pool (n : NoticeUnit) : (s.setNotice n).pool = s.pool := rfl
@[simp] theorem State.setNotice_patterns (n : NoticeUnit) : (s.setNotice n).patterns = s.patterns := rfl
@[simp] theorem State.setNotice_channels (n : NoticeUnit) : (s.setNotice n).channels = s.channels := rfl
@[simp] theorem State.setNotice_alerts (n : NoticeUnit) : (s.setNotice n).alerts = s.alerts := rfl
@[simp] theorem State.setNotice_stations (n : NoticeUnit) : (s.setNotice n).stations = s.stations := rfl
@[simp] theorem State.setNotice_nextNumber (n : NoticeUnit) : (s.setNotice n).nextNumber = s.nextNumber := rfl
@[simp] theorem State.setNotice_stopInForce (n : NoticeUnit) : (s.setNotice n).stopInForce = s.stopInForce := rfl
@[simp] theorem State.setNotice_releaseWritten (n : NoticeUnit) : (s.setNotice n).releaseWritten = s.releaseWritten := rfl
@[simp] theorem State.setNotice_cadence (n : NoticeUnit) : (s.setNotice n).cadence = s.cadence := rfl
@[simp] theorem State.setNotice_reports (n : NoticeUnit) : (s.setNotice n).reports = s.reports := rfl
@[simp] theorem State.setNotice_pending (n : NoticeUnit) : (s.setNotice n).pending = s.pending := rfl

@[simp] theorem State.setPending_ram (q : List Instr) : (s.setPending q).ram = s.ram := rfl
@[simp] theorem State.setPending_part (q : List Instr) : (s.setPending q).part = s.part := rfl
@[simp] theorem State.setPending_clearing (q : List Instr) : (s.setPending q).clearing = s.clearing := rfl
@[simp] theorem State.setPending_mask (q : List Instr) : (s.setPending q).mask = s.mask := rfl
@[simp] theorem State.setPending_attn (q : List Instr) : (s.setPending q).attn = s.attn := rfl
@[simp] theorem State.setPending_rewriteCount (q : List Instr) : (s.setPending q).rewriteCount = s.rewriteCount := rfl
@[simp] theorem State.setPending_deck (q : List Instr) : (s.setPending q).deck = s.deck := rfl
@[simp] theorem State.setPending_notice (q : List Instr) : (s.setPending q).notice = s.notice := rfl
@[simp] theorem State.setPending_params (q : List Instr) : (s.setPending q).params = s.params := rfl
@[simp] theorem State.setPending_row (q : List Instr) : (s.setPending q).row = s.row := rfl
@[simp] theorem State.setPending_buttons (q : List Instr) : (s.setPending q).buttons = s.buttons := rfl
@[simp] theorem State.setPending_groups (q : List Instr) : (s.setPending q).groups = s.groups := rfl
@[simp] theorem State.setPending_guards (q : List Instr) : (s.setPending q).guards = s.guards := rfl
@[simp] theorem State.setPending_estop (q : List Instr) : (s.setPending q).estop = s.estop := rfl
@[simp] theorem State.setPending_exhibits (q : List Instr) : (s.setPending q).exhibits = s.exhibits := rfl
@[simp] theorem State.setPending_slots (q : List Instr) : (s.setPending q).slots = s.slots := rfl
@[simp] theorem State.setPending_sources (q : List Instr) : (s.setPending q).sources = s.sources := rfl
@[simp] theorem State.setPending_gallery (q : List Instr) : (s.setPending q).gallery = s.gallery := rfl
@[simp] theorem State.setPending_axes (q : List Instr) : (s.setPending q).axes = s.axes := rfl
@[simp] theorem State.setPending_pool (q : List Instr) : (s.setPending q).pool = s.pool := rfl
@[simp] theorem State.setPending_patterns (q : List Instr) : (s.setPending q).patterns = s.patterns := rfl
@[simp] theorem State.setPending_channels (q : List Instr) : (s.setPending q).channels = s.channels := rfl
@[simp] theorem State.setPending_alerts (q : List Instr) : (s.setPending q).alerts = s.alerts := rfl
@[simp] theorem State.setPending_stations (q : List Instr) : (s.setPending q).stations = s.stations := rfl
@[simp] theorem State.setPending_nextNumber (q : List Instr) : (s.setPending q).nextNumber = s.nextNumber := rfl
@[simp] theorem State.setPending_stopInForce (q : List Instr) : (s.setPending q).stopInForce = s.stopInForce := rfl
@[simp] theorem State.setPending_releaseWritten (q : List Instr) : (s.setPending q).releaseWritten = s.releaseWritten := rfl
@[simp] theorem State.setPending_cadence (q : List Instr) : (s.setPending q).cadence = s.cadence := rfl
@[simp] theorem State.setPending_reports (q : List Instr) : (s.setPending q).reports = s.reports := rfl
@[simp] theorem State.setPending_pending (q : List Instr) : (s.setPending q).pending = q := rfl

@[simp] theorem State.markStopOn_ram : s.markStopOn.ram = s.ram := rfl
@[simp] theorem State.markStopOn_part : s.markStopOn.part = s.part := rfl
@[simp] theorem State.markStopOn_clearing : s.markStopOn.clearing = s.clearing := rfl
@[simp] theorem State.markStopOn_mask : s.markStopOn.mask = s.mask := rfl
@[simp] theorem State.markStopOn_attn : s.markStopOn.attn = s.attn := rfl
@[simp] theorem State.markStopOn_rewriteCount : s.markStopOn.rewriteCount = s.rewriteCount := rfl
@[simp] theorem State.markStopOn_deck : s.markStopOn.deck = s.deck := rfl
@[simp] theorem State.markStopOn_notice : s.markStopOn.notice = s.notice := rfl
@[simp] theorem State.markStopOn_params : s.markStopOn.params = s.params := rfl
@[simp] theorem State.markStopOn_row : s.markStopOn.row = s.row := rfl
@[simp] theorem State.markStopOn_buttons : s.markStopOn.buttons = s.buttons := rfl
@[simp] theorem State.markStopOn_groups : s.markStopOn.groups = s.groups := rfl
@[simp] theorem State.markStopOn_guards : s.markStopOn.guards = s.guards := rfl
@[simp] theorem State.markStopOn_estop : s.markStopOn.estop = s.estop := rfl
@[simp] theorem State.markStopOn_exhibits : s.markStopOn.exhibits = s.exhibits := rfl
@[simp] theorem State.markStopOn_slots : s.markStopOn.slots = s.slots := rfl
@[simp] theorem State.markStopOn_sources : s.markStopOn.sources = s.sources := rfl
@[simp] theorem State.markStopOn_gallery : s.markStopOn.gallery = { s.gallery with stopOn := true } := rfl
@[simp] theorem State.markStopOn_axes : s.markStopOn.axes = s.axes := rfl
@[simp] theorem State.markStopOn_pool : s.markStopOn.pool = s.pool := rfl
@[simp] theorem State.markStopOn_patterns : s.markStopOn.patterns = s.patterns := rfl
@[simp] theorem State.markStopOn_channels : s.markStopOn.channels = s.channels := rfl
@[simp] theorem State.markStopOn_alerts : s.markStopOn.alerts = s.alerts := rfl
@[simp] theorem State.markStopOn_stations : s.markStopOn.stations = s.stations := rfl
@[simp] theorem State.markStopOn_nextNumber : s.markStopOn.nextNumber = s.nextNumber := rfl
@[simp] theorem State.markStopOn_stopInForce : s.markStopOn.stopInForce = s.stopInForce := rfl
@[simp] theorem State.markStopOn_releaseWritten : s.markStopOn.releaseWritten = s.releaseWritten := rfl
@[simp] theorem State.markStopOn_cadence : s.markStopOn.cadence = s.cadence := rfl
@[simp] theorem State.markStopOn_reports : s.markStopOn.reports = s.reports := rfl
@[simp] theorem State.markStopOn_pending : s.markStopOn.pending = s.pending := rfl

@[simp] theorem State.markStopOff_ram : s.markStopOff.ram = s.ram := rfl
@[simp] theorem State.markStopOff_part : s.markStopOff.part = s.part := rfl
@[simp] theorem State.markStopOff_clearing : s.markStopOff.clearing = s.clearing := rfl
@[simp] theorem State.markStopOff_mask : s.markStopOff.mask = s.mask := rfl
@[simp] theorem State.markStopOff_attn : s.markStopOff.attn = s.attn := rfl
@[simp] theorem State.markStopOff_rewriteCount : s.markStopOff.rewriteCount = s.rewriteCount := rfl
@[simp] theorem State.markStopOff_deck : s.markStopOff.deck = s.deck := rfl
@[simp] theorem State.markStopOff_notice : s.markStopOff.notice = s.notice := rfl
@[simp] theorem State.markStopOff_params : s.markStopOff.params = s.params := rfl
@[simp] theorem State.markStopOff_row : s.markStopOff.row = s.row := rfl
@[simp] theorem State.markStopOff_buttons : s.markStopOff.buttons = s.buttons := rfl
@[simp] theorem State.markStopOff_groups : s.markStopOff.groups = s.groups := rfl
@[simp] theorem State.markStopOff_guards : s.markStopOff.guards = s.guards := rfl
@[simp] theorem State.markStopOff_estop : s.markStopOff.estop = s.estop := rfl
@[simp] theorem State.markStopOff_exhibits : s.markStopOff.exhibits = s.exhibits := rfl
@[simp] theorem State.markStopOff_slots : s.markStopOff.slots = s.slots := rfl
@[simp] theorem State.markStopOff_sources : s.markStopOff.sources = s.sources := rfl
@[simp] theorem State.markStopOff_gallery : s.markStopOff.gallery = { s.gallery with stopOff := true } := rfl
@[simp] theorem State.markStopOff_axes : s.markStopOff.axes = s.axes := rfl
@[simp] theorem State.markStopOff_pool : s.markStopOff.pool = s.pool := rfl
@[simp] theorem State.markStopOff_patterns : s.markStopOff.patterns = s.patterns := rfl
@[simp] theorem State.markStopOff_channels : s.markStopOff.channels = s.channels := rfl
@[simp] theorem State.markStopOff_alerts : s.markStopOff.alerts = s.alerts := rfl
@[simp] theorem State.markStopOff_stations : s.markStopOff.stations = s.stations := rfl
@[simp] theorem State.markStopOff_nextNumber : s.markStopOff.nextNumber = s.nextNumber := rfl
@[simp] theorem State.markStopOff_stopInForce : s.markStopOff.stopInForce = s.stopInForce := rfl
@[simp] theorem State.markStopOff_releaseWritten : s.markStopOff.releaseWritten = s.releaseWritten := rfl
@[simp] theorem State.markStopOff_cadence : s.markStopOff.cadence = s.cadence := rfl
@[simp] theorem State.markStopOff_reports : s.markStopOff.reports = s.reports := rfl
@[simp] theorem State.markStopOff_pending : s.markStopOff.pending = s.pending := rfl

@[simp] theorem State.markUnrouted_ram : s.markUnrouted.ram = s.ram := rfl
@[simp] theorem State.markUnrouted_part : s.markUnrouted.part = s.part := rfl
@[simp] theorem State.markUnrouted_clearing : s.markUnrouted.clearing = s.clearing := rfl
@[simp] theorem State.markUnrouted_mask : s.markUnrouted.mask = s.mask := rfl
@[simp] theorem State.markUnrouted_attn : s.markUnrouted.attn = s.attn := rfl
@[simp] theorem State.markUnrouted_rewriteCount : s.markUnrouted.rewriteCount = s.rewriteCount := rfl
@[simp] theorem State.markUnrouted_deck : s.markUnrouted.deck = s.deck := rfl
@[simp] theorem State.markUnrouted_notice : s.markUnrouted.notice = s.notice := rfl
@[simp] theorem State.markUnrouted_params : s.markUnrouted.params = s.params := rfl
@[simp] theorem State.markUnrouted_row : s.markUnrouted.row = s.row := rfl
@[simp] theorem State.markUnrouted_buttons : s.markUnrouted.buttons = s.buttons := rfl
@[simp] theorem State.markUnrouted_groups : s.markUnrouted.groups = s.groups := rfl
@[simp] theorem State.markUnrouted_guards : s.markUnrouted.guards = s.guards := rfl
@[simp] theorem State.markUnrouted_estop : s.markUnrouted.estop = s.estop := rfl
@[simp] theorem State.markUnrouted_exhibits : s.markUnrouted.exhibits = s.exhibits := rfl
@[simp] theorem State.markUnrouted_slots : s.markUnrouted.slots = s.slots := rfl
@[simp] theorem State.markUnrouted_sources : s.markUnrouted.sources = s.sources := rfl
@[simp] theorem State.markUnrouted_gallery : s.markUnrouted.gallery = { s.gallery with unrouted := true } := rfl
@[simp] theorem State.markUnrouted_axes : s.markUnrouted.axes = s.axes := rfl
@[simp] theorem State.markUnrouted_pool : s.markUnrouted.pool = s.pool := rfl
@[simp] theorem State.markUnrouted_patterns : s.markUnrouted.patterns = s.patterns := rfl
@[simp] theorem State.markUnrouted_channels : s.markUnrouted.channels = s.channels := rfl
@[simp] theorem State.markUnrouted_alerts : s.markUnrouted.alerts = s.alerts := rfl
@[simp] theorem State.markUnrouted_stations : s.markUnrouted.stations = s.stations := rfl
@[simp] theorem State.markUnrouted_nextNumber : s.markUnrouted.nextNumber = s.nextNumber := rfl
@[simp] theorem State.markUnrouted_stopInForce : s.markUnrouted.stopInForce = s.stopInForce := rfl
@[simp] theorem State.markUnrouted_releaseWritten : s.markUnrouted.releaseWritten = s.releaseWritten := rfl
@[simp] theorem State.markUnrouted_cadence : s.markUnrouted.cadence = s.cadence := rfl
@[simp] theorem State.markUnrouted_reports : s.markUnrouted.reports = s.reports := rfl
@[simp] theorem State.markUnrouted_pending : s.markUnrouted.pending = s.pending := rfl

@[simp] theorem State.markEscalated_ram : s.markEscalated.ram = s.ram := rfl
@[simp] theorem State.markEscalated_part : s.markEscalated.part = s.part := rfl
@[simp] theorem State.markEscalated_clearing : s.markEscalated.clearing = s.clearing := rfl
@[simp] theorem State.markEscalated_mask : s.markEscalated.mask = s.mask := rfl
@[simp] theorem State.markEscalated_attn : s.markEscalated.attn = s.attn := rfl
@[simp] theorem State.markEscalated_rewriteCount : s.markEscalated.rewriteCount = s.rewriteCount := rfl
@[simp] theorem State.markEscalated_deck : s.markEscalated.deck = s.deck := rfl
@[simp] theorem State.markEscalated_notice : s.markEscalated.notice = s.notice := rfl
@[simp] theorem State.markEscalated_params : s.markEscalated.params = s.params := rfl
@[simp] theorem State.markEscalated_row : s.markEscalated.row = s.row := rfl
@[simp] theorem State.markEscalated_buttons : s.markEscalated.buttons = s.buttons := rfl
@[simp] theorem State.markEscalated_groups : s.markEscalated.groups = s.groups := rfl
@[simp] theorem State.markEscalated_guards : s.markEscalated.guards = s.guards := rfl
@[simp] theorem State.markEscalated_estop : s.markEscalated.estop = s.estop := rfl
@[simp] theorem State.markEscalated_exhibits : s.markEscalated.exhibits = s.exhibits := rfl
@[simp] theorem State.markEscalated_slots : s.markEscalated.slots = s.slots := rfl
@[simp] theorem State.markEscalated_sources : s.markEscalated.sources = s.sources := rfl
@[simp] theorem State.markEscalated_gallery : s.markEscalated.gallery = { s.gallery with escalated := true } := rfl
@[simp] theorem State.markEscalated_axes : s.markEscalated.axes = s.axes := rfl
@[simp] theorem State.markEscalated_pool : s.markEscalated.pool = s.pool := rfl
@[simp] theorem State.markEscalated_patterns : s.markEscalated.patterns = s.patterns := rfl
@[simp] theorem State.markEscalated_channels : s.markEscalated.channels = s.channels := rfl
@[simp] theorem State.markEscalated_alerts : s.markEscalated.alerts = s.alerts := rfl
@[simp] theorem State.markEscalated_stations : s.markEscalated.stations = s.stations := rfl
@[simp] theorem State.markEscalated_nextNumber : s.markEscalated.nextNumber = s.nextNumber := rfl
@[simp] theorem State.markEscalated_stopInForce : s.markEscalated.stopInForce = s.stopInForce := rfl
@[simp] theorem State.markEscalated_releaseWritten : s.markEscalated.releaseWritten = s.releaseWritten := rfl
@[simp] theorem State.markEscalated_cadence : s.markEscalated.cadence = s.cadence := rfl
@[simp] theorem State.markEscalated_reports : s.markEscalated.reports = s.reports := rfl
@[simp] theorem State.markEscalated_pending : s.markEscalated.pending = s.pending := rfl

end Sys2Proof.Machine
end

