-- ==== Sys2Proof/Laws/Tables.lean ====
section
/-! SUPPORT. Reading a table after a write to it, and the same for the entries of the state. -/

namespace Sys2Proof.Machine

@[simp] theorem tget_tset_same {α : Type} {n : Nat} (v : Vector α n) (i : Fin n) (x : α) : tget (tset v i x) i = x := by
  simp [tget, tset]

theorem tget_tset_ne {α : Type} {n : Nat} (v : Vector α n) {i j : Fin n} (x : α) (h : i ≠ j) :
    tget (tset v i x) j = tget v j := by
  have : i.1 ≠ j.1 := fun e => h (Fin.ext e)
  simp [tget, tset, Vector.getElem_set_ne, this]

theorem tget_tset {α : Type} {n : Nat} (v : Vector α n) (i j : Fin n) (x : α) :
    tget (tset v i x) j = if i = j then x else tget v j := by
  split
  · next h => subst h; simp
  · next h => exact tget_tset_ne v x h

@[simp] theorem tget_tmap {α β : Type} {n : Nat} (f : Fin n → α → β) (v : Vector α n) (i : Fin n) :
    tget (tmap f v) i = f i (tget v i) := by
  simp [tget, tmap]

@[simp] theorem tset_tget_self {α : Type} {n : Nat} (v : Vector α n) (i : Fin n) : tset v i (tget v i) = v := by
  simp [tget, tset]

/-- Two tables with equal entries are equal. -/
theorem tget_ext {α : Type} {n : Nat} {v w : Vector α n} (h : ∀ i, tget v i = tget w i) : v = w :=
  Vector.ext fun i hi => h ⟨i, hi⟩

@[simp] theorem tget_replicate {α : Type} {n : Nat} (x : α) (i : Fin n) : tget (Vector.replicate n x) i = x := by
  simp [tget]

/-- A number below the bound is the index it names. -/
theorem index?_val {n : Nat} (i : Fin n) : index? n i.val = some i := by simp [index?]

/-- An invariant of every pass is an invariant of the whole of `forEach`. -/
theorem forEach_invariant {σ : Type} {n : Nat} (P : σ → Prop) (f : Fin n → σ → σ) (hf : ∀ i s, P s → P (f i s)) (s : σ)
    (h : P s) : P (forEach n f s) := by
  unfold forEach
  generalize List.finRange n = l
  induction l generalizing s with
  | nil => exact h
  | cons i l ih => exact ih _ (hf i s h)

/-- The same for a fold over a list. -/
theorem foldl_invariant {σ α : Type} (P : σ → Prop) (f : σ → α → σ) (hf : ∀ s a, P s → P (f s a)) (l : List α) (s : σ)
    (h : P s) : P (l.foldl f s) := by
  induction l generalizing s with
  | nil => exact h
  | cons a l ih => exact ih _ (hf s a h)

variable (s : State)

@[simp] theorem State.button_setButton (i : ButtonNo) (x : Button) : (s.setButton i x).button i = x := tget_tset_same _ _ _
@[simp] theorem State.guardLine_setGuardLine (i : GuardNo) (x : InputFilter) : (s.setGuardLine i x).guardLine i = x :=
  tget_tset_same _ _ _
@[simp] theorem State.exhibit_setExhibit (i : ExhibitNo) (x : Exhibit) : (s.setExhibit i x).exhibit i = x :=
  tget_tset_same _ _ _
@[simp] theorem State.slot_setSlot (i : ExhibitNo) (x : Slot) : (s.setSlot i x).slot i = x := tget_tset_same _ _ _
@[simp] theorem State.source_setSource (i : ExhibitNo) (x : SourceRecord) : (s.setSource i x).source i = x :=
  tget_tset_same _ _ _
@[simp] theorem State.axis_setAxis (i : AxisNo) (x : Axis) : (s.setAxis i x).axis i = x := tget_tset_same _ _ _
@[simp] theorem State.channel_setChannel (i : ChannelNo) (x : Channel) : (s.setChannel i x).channel i = x :=
  tget_tset_same _ _ _
@[simp] theorem State.station_setStation (i : StationNo) (x : Station) : (s.setStation i x).station i = x :=
  tget_tset_same _ _ _

end Sys2Proof.Machine
end

