-- ==== Sys2Proof/Laws/Memory.lean ====
section
/-! SUPPORT. The exchange RAM: what a read gives after a write, and that every write keeps the canonical form. -/

namespace Sys2Proof.Machine

/-! ### Reads -/

theorem Memory.cells_key (a : Nat) (ws : List Word) :
    ∀ c ∈ Memory.cells a ws, a ≤ c.1 ∧ c.1 < a + ws.length ∧ c.2 ≠ 0 := by
  induction ws generalizing a with
  | nil => simp [Memory.cells]
  | cons w ws ih =>
    intro c hc
    simp only [Memory.cells] at hc
    split at hc
    · obtain ⟨h1, h2, h3⟩ := ih (a + 1) c hc
      exact ⟨by omega, by simp only [List.length_cons]; omega, h3⟩
    · next hw =>
      rcases List.mem_cons.1 hc with rfl | hc
      · exact ⟨le_refl _, by simp, hw⟩
      · obtain ⟨h1, h2, h3⟩ := ih (a + 1) c hc
        exact ⟨by omega, by simp only [List.length_cons]; omega, h3⟩

theorem Memory.find_append_of_not {l m : List RamCell} {b : Nat} (h : ∀ c ∈ l, c.1 ≠ b) :
    (l ++ m).find? (fun c => c.1 == b) = m.find? (fun c => c.1 == b) := by
  have : l.find? (fun c => c.1 == b) = none := by
    simp only [List.find?_eq_none, beq_iff_eq]
    exact fun c hc => h c hc
  simp [List.find?_append, this]

theorem Memory.read_append_of_not {l m : List RamCell} {b : Nat} (h : ∀ c ∈ l, c.1 ≠ b) :
    Memory.read (l ++ m) b = Memory.read m b := by
  simp [Memory.read, Memory.find_append_of_not h]

theorem Memory.read_of_not {l : List RamCell} {b : Nat} (h : ∀ c ∈ l, c.1 ≠ b) : Memory.read l b = 0 := by
  have := Memory.read_append_of_not (m := []) h
  simpa [Memory.read] using this

theorem Memory.find_filter (m : List RamCell) (p : RamCell → Bool) (b : Nat) (h : ∀ c ∈ m, c.1 = b → p c = true) :
    (m.filter p).find? (fun c => c.1 == b) = m.find? (fun c => c.1 == b) := by
  induction m with
  | nil => rfl
  | cons c m ih =>
    have ih := ih fun d hd => h d (List.mem_cons_of_mem _ hd)
    by_cases hb : c.1 = b
    · have hp := h c (List.mem_cons_self ..) hb
      simp [hp, hb]
    · by_cases hp : p c = true
      · simp [hp, hb, ih]
      · simp [hp, hb, ih]

theorem Memory.read_filter (m : List RamCell) (p : RamCell → Bool) (b : Nat) (h : ∀ c ∈ m, c.1 = b → p c = true) :
    Memory.read (m.filter p) b = Memory.read m b := by simp [Memory.read, Memory.find_filter m p b h]

theorem Memory.read_append_left {l m : List RamCell} {b : Nat} (h : ∀ c ∈ m, c.1 ≠ b) :
    Memory.read (l ++ m) b = Memory.read l b := by
  simp only [Memory.read, List.find?_append]
  have : m.find? (fun c => c.1 == b) = none := by
    simp only [List.find?_eq_none, beq_iff_eq]
    exact fun c hc => h c hc
  simp [this]

/-- A word outside the run written reads as before. -/
theorem Memory.read_writeRange_out (m : List RamCell) (a : Nat) (ws : List Word) (b : Nat)
    (h : b < a ∨ a + ws.length ≤ b) : Memory.read (Memory.writeRange m a ws) b = Memory.read m b := by
  unfold Memory.writeRange
  rcases h with h | h
  · rw [Memory.read_append_left, Memory.read_filter]
    · intro c _ hc; simp [hc, h]
    · intro c hc
      rcases List.mem_append.1 hc with hc | hc
      · have := (Memory.cells_key a ws c hc).1; omega
      · have := (List.mem_filter.1 hc).2; simp at this; omega
  · rw [Memory.read_append_of_not, Memory.read_append_of_not, Memory.read_filter]
    · intro c _ hc; simp [hc, h]
    · intro c hc
      have := (Memory.cells_key a ws c hc).2.1; omega
    · intro c hc
      have := (List.mem_filter.1 hc).2; simp at this; omega

theorem Memory.read_cells (a : Nat) (ws : List Word) (i : Nat) (h : i < ws.length) :
    Memory.read (Memory.cells a ws) (a + i) = ws[i] := by
  induction ws generalizing a i with
  | nil => simp at h
  | cons w ws ih =>
    have hout : ∀ c ∈ Memory.cells (a + 1) ws, c.1 ≠ a := fun c hc => by
      have := (Memory.cells_key (a + 1) ws c hc).1; omega
    cases i with
    | zero =>
      simp only [Memory.cells, Nat.add_zero, List.getElem_cons_zero]
      split
      · next hw => rw [Memory.read_of_not hout, hw]
      · simp [Memory.read]
    | succ i =>
      simp only [List.length_cons, Nat.add_lt_add_iff_right] at h
      have := ih (a + 1) i h
      simp only [Memory.cells, List.getElem_cons_succ]
      rw [show a + (i + 1) = a + 1 + i by omega]
      split
      · exact this
      · rw [← this]
        simp only [Memory.read, List.find?_cons]
        have hne : (a == a + 1 + i) = false := by simp; omega
        simp [hne]

/-- A word of the run written reads as what was written. -/
theorem Memory.read_writeRange_in (m : List RamCell) (a : Nat) (ws : List Word) (i : Nat) (h : i < ws.length) :
    Memory.read (Memory.writeRange m a ws) (a + i) = ws[i] := by
  unfold Memory.writeRange
  rw [Memory.read_append_of_not, Memory.read_append_left, Memory.read_cells a ws i h]
  · intro c hc
    have := (List.mem_filter.1 hc).2; simp at this; omega
  · intro c hc
    have := (List.mem_filter.1 hc).2; simp at this; omega

/-! ### The canonical form -/

theorem Memory.wf_iff (m : List RamCell) :
    Memory.wf m = true ↔ m.Pairwise (fun x y => x.1 < y.1) ∧ ∀ c ∈ m, c.1 < 16384 ∧ c.2 ≠ 0 := by
  simp [Memory.wf]

theorem Memory.cells_sorted (a : Nat) (ws : List Word) : (Memory.cells a ws).Pairwise (fun x y => x.1 < y.1) := by
  induction ws generalizing a with
  | nil => simp [Memory.cells]
  | cons w ws ih =>
    simp only [Memory.cells]
    split
    · exact ih (a + 1)
    · refine List.pairwise_cons.2 ⟨fun c hc => ?_, ih (a + 1)⟩
      have := (Memory.cells_key (a + 1) ws c hc).1
      show a < c.1
      omega

/-- A write that stays within the RAM keeps the canonical form. -/
theorem Memory.writeRange_wf {m : List RamCell} {a : Nat} {ws : List Word} (h : Memory.wf m = true)
    (ha : a + ws.length ≤ 16384) : Memory.wf (Memory.writeRange m a ws) = true := by
  rw [Memory.wf_iff] at h ⊢
  obtain ⟨hs, hk⟩ := h
  constructor
  · unfold Memory.writeRange
    refine List.pairwise_append.2 ⟨hs.filter _, List.pairwise_append.2 ⟨Memory.cells_sorted a ws, hs.filter _, ?_⟩, ?_⟩
    · intro x hx y hy
      have h1 := (Memory.cells_key a ws x hx).2.1
      have h2 := (List.mem_filter.1 hy).2
      simp at h2
      omega
    · intro x hx y hy
      have h1 := (List.mem_filter.1 hx).2
      simp at h1
      rcases List.mem_append.1 hy with hy | hy
      · have := (Memory.cells_key a ws y hy).1; omega
      · have h2 := (List.mem_filter.1 hy).2
        simp at h2
        omega
  · intro c hc
    unfold Memory.writeRange at hc
    rcases List.mem_append.1 hc with hc | hc
    · exact hk c (List.mem_filter.1 hc).1
    · rcases List.mem_append.1 hc with hc | hc
      · obtain ⟨_, h2, h3⟩ := Memory.cells_key a ws c hc
        exact ⟨by omega, h3⟩
      · exact hk c (List.mem_filter.1 hc).1

/-! ### The same at the state -/

/-- A word outside a run written reads as before. -/
theorem State.word_writeWords_out (s : State) (a : Nat) (ws : List Word) (b : Nat) (h : b < a ∨ a + ws.length ≤ b) :
    (s.writeWords a ws).word b = s.word b := Memory.read_writeRange_out s.ram a ws b h

/-- A word of a run written reads as what was written. -/
theorem State.word_writeWords_in (s : State) (a : Nat) (ws : List Word) (i : Nat) (h : i < ws.length) :
    (s.writeWords a ws).word (a + i) = ws[i] := Memory.read_writeRange_in s.ram a ws i h

/-- One word written reads back. -/
theorem State.word_writeWord (s : State) (a : Nat) (w : Word) : (s.writeWords a [w]).word a = w := by
  have := State.word_writeWords_in s a [w] 0 (by simp)
  simpa using this

/-- The RAM of a state is canonical after a write within it. -/
theorem State.writeWords_wf (s : State) (a : Nat) (ws : List Word) (h : Memory.wf s.ram = true)
    (ha : a + ws.length ≤ 16384) : Memory.wf (s.writeWords a ws).ram = true := Memory.writeRange_wf h ha

/-- The RAM after reset is canonical. -/
theorem Memory.wf_reset : Memory.wf State.reset.ram = true := rfl

end Sys2Proof.Machine
end

