-- ==== Sys2Proof/Laws/Forms.lean ====
section
/-! SUPPORT. What each shared operation can change, said once: `t = { s with … }` names every component that may differ, and a
second lemma says which words of the exchange RAM stay. -/

namespace Sys2Proof.Machine

/-! ### Images -/

theorem exhibitImage_length (x : Exhibit) (sl : Slot) : (exhibitImage x sl).length = 8 := rfl
theorem positionWords_length (p : Int) : (positionWords p).length = 2 := rfl
theorem axisImage_length (x : Axis) : (axisImage x).length = 8 := rfl

theorem State.refreshExhibitImage_form (s : State) (e : ExhibitNo) (b : List Word) :
    s.refreshExhibitImage e b = { s with ram := (s.refreshExhibitImage e b).ram } := by
  unfold State.refreshExhibitImage; split <;> rfl

theorem State.refreshExhibitImage_word (s : State) (e : ExhibitNo) (b : List Word) (k : Nat) (h : OutsideExhibit e k) :
    (s.refreshExhibitImage e b).word k = s.word k := by
  unfold State.refreshExhibitImage; split
  · rfl
  · exact State.word_writeWords_out _ _ _ _ (by simpa [exhibitImage_length] using h)

/-- An exhibit entry replaced: nothing else but its image. -/
theorem State.putExhibit_form (s : State) (e : ExhibitNo) (x : Exhibit) :
    s.putExhibit e x = { s with exhibits := tset s.exhibits e x, ram := (s.putExhibit e x).ram } :=
  State.refreshExhibitImage_form _ _ _

theorem State.putExhibit_word (s : State) (e : ExhibitNo) (x : Exhibit) (k : Nat) (h : OutsideExhibit e k) :
    (s.putExhibit e x).word k = s.word k := State.refreshExhibitImage_word _ _ _ _ h

/-- A slot replaced: nothing else but the image of its exhibit. -/
theorem State.putSlot_form (s : State) (e : ExhibitNo) (x : Slot) :
    s.putSlot e x = { s with slots := tset s.slots e x, ram := (s.putSlot e x).ram } :=
  State.refreshExhibitImage_form _ _ _

theorem State.putSlot_word (s : State) (e : ExhibitNo) (x : Slot) (k : Nat) (h : OutsideExhibit e k) :
    (s.putSlot e x).word k = s.word k := State.refreshExhibitImage_word _ _ _ _ h

theorem State.writeAxisImage_form (s : State) (a : AxisNo) :
    s.writeAxisImage a =
      { s with axes := tset s.axes a { s.axis a with imageStale := false }, ram := (s.writeAxisImage a).ram } := rfl

theorem State.writeAxisImage_word (s : State) (a : AxisNo) (k : Nat) (h : OutsideAxis a k) :
    (s.writeAxisImage a).word k = s.word k :=
  State.word_writeWords_out _ _ _ _ (by simpa [axisImage_length] using h)

/-- An axis replaced: nothing else but its image, and the mark that the image is stale is the model's own. -/
theorem State.putAxis_form (s : State) (a : AxisNo) (x : Axis) (r : Bool) :
    ∃ stale, s.putAxis a x r =
      { s with axes := tset s.axes a { x with imageStale := stale }, ram := (s.putAxis a x r).ram } := by
  by_cases h : (r || (s.axis a).imageHead != x.imageHead || (s.axis a).sides != x.sides) = true
  · refine ⟨false, ?_⟩
    rw [show s.putAxis a x r = (s.setAxis a x).writeAxisImage a from if_pos h, State.writeAxisImage_form,
      State.axis_setAxis]
    simp [State.setAxis, tset]
  · refine ⟨(s.axis a).imageStale || (s.axis a).pos != x.pos || (s.axis a).encoder != x.encoder || (s.axis a).vel != x.vel, ?_⟩
    rw [show s.putAxis a x r = _ from if_neg h]
    rfl

theorem State.putAxis_word (s : State) (a : AxisNo) (x : Axis) (r : Bool) (k : Nat) (h : OutsideAxis a k) :
    (s.putAxis a x r).word k = s.word k := by
  by_cases h' : (r || (s.axis a).imageHead != x.imageHead || (s.axis a).sides != x.sides) = true
  · rw [show s.putAxis a x r = (s.setAxis a x).writeAxisImage a from if_pos h']
    exact State.writeAxisImage_word _ _ _ h
  · rw [show s.putAxis a x r = _ from if_neg h']
    rfl

/-- Reported crossings join the reports in their order. -/
theorem State.reportCrossings_form (s : State) (a : AxisNo) (cs : List CrossedMark) :
    s.reportCrossings a cs = { s with reports := s.reports ++ cs.map fun c => .crossing a c.mark c.up } := by
  induction cs generalizing s with
  | nil => simp [State.reportCrossings]
  | cons c cs ih =>
    have : s.reportCrossings a (c :: cs) = (s.report (.crossing a c.mark c.up)).reportCrossings a cs := rfl
    rw [this, ih]; simp [State.report]

/-! ### Lamps -/

theorem State.setLayer_form (s : State) (ch : ChannelNo) (n : LayerName) (x : Setting) :
    s.setLayer ch n x = { s with channels := tset s.channels ch (tget (s.setLayer ch n x).channels ch) } := by
  simp [State.setLayer, State.setChannel]

theorem State.chooseLayer_form (s : State) (ch : ChannelNo) (n : LayerName) (x : Setting) :
    s.chooseLayer ch n x = { s with channels := (s.chooseLayer ch n x).channels } := by
  unfold State.chooseLayer; split <;> rfl

theorem State.chooseLamp_form (s : State) (l : Option ChannelNo) (n : LayerName) (x : Setting) :
    s.chooseLamp l n x = { s with channels := (s.chooseLamp l n x).channels } := by
  cases l with
  | none => rfl
  | some ch => exact State.chooseLayer_form _ _ _ _

/-- A lamp field sets a layer of its own channel only. -/
theorem State.chooseLamp_channel (s : State) (l : Option ChannelNo) (n : LayerName) (x : Setting) (ch : ChannelNo) (h : l ≠ some ch) :
    (s.chooseLamp l n x).channel ch = s.channel ch := by
  cases l with
  | none => rfl
  | some c =>
    have hc : c ≠ ch := fun e => h (by rw [e])
    simp only [State.chooseLamp, State.chooseLayer]
    split
    · rfl
    · exact tget_tset_ne _ _ hc

theorem State.evalReady_form (s : State) (e : ExhibitNo) : s.evalReady e = { s with channels := (s.evalReady e).channels } := by
  unfold State.evalReady
  split
  · rfl
  · exact State.chooseLamp_form _ _ _ _

theorem State.evalAllReady_form (s : State) : s.evalAllReady = { s with channels := s.evalAllReady.channels } :=
  forEach_invariant (fun t : State => t = { s with channels := t.channels }) (fun e t => State.evalReady t e)
    (fun e t h => by rw [State.evalReady_form t e, h]) s rfl

theorem State.idleShowLamps_form (s : State) (l : List (Option ChannelNo)) :
    s.idleShowLamps l = { s with channels := (s.idleShowLamps l).channels } :=
  foldl_invariant (fun t : State => t = { s with channels := t.channels }) _
    (fun t l h => by
      cases l with
      | none => exact h
      | some ch => rw [h]; rfl) l s rfl

/-! ### Exhibit states and slots -/

/-- A new exhibit state: the exhibit, its image and its ready lamp. -/
theorem State.enterState_form (s : State) (e : ExhibitNo) (st : ExhibitState) :
    s.enterState e st =
      { s with
        exhibits := tset s.exhibits e ((s.exhibit e).entering st), channels := (s.enterState e st).channels,
        ram := (s.enterState e st).ram } := by
  unfold State.enterState
  rw [State.evalReady_form, State.putExhibit_form]

/-- The end of a show: the slot, the image and the show lamps. -/
theorem State.endShow_form (s : State) (e : ExhibitNo) :
    s.endShow e =
      { s with slots := tset s.slots e (s.slot e).emptied, channels := (s.endShow e).channels, ram := (s.endShow e).ram } := by
  unfold State.endShow
  split
  · simp only
    rw [State.putSlot_form]
  · simp only
    rw [State.idleShowLamps_form, State.putSlot_form]

theorem State.discardResume_form (s : State) (e : ExhibitNo) : s.discardResume e = { s with axes := (s.discardResume e).axes } :=
  foldl_invariant (fun t : State => t = { s with axes := t.axes }) _ (fun t a h => by rw [h]; rfl) _ s rfl

/-! ### Nothing left to take -/

/-- With no report waiting an act is settled. -/
theorem State.settle_nil (s : State) (h : s.reports = []) : s.settle = s := by
  unfold State.settle settleFuel; unfold settleUpTo; rw [h]

/-- With nobody waiting there is nothing to grant. -/
theorem State.grantScan_nil (s : State) (h : s.pool.waiting = []) : s.grantScan = s := by
  unfold State.grantScan; rw [h]; rfl

/-- With too few units for the head there is nothing to grant. -/
theorem State.grantScan_short (s : State) (w : WaitEntry) (rest : List WaitEntry) (h : s.pool.waiting = w :: rest)
    (hd : s.pool.free < w.draw) : s.grantScan = s := by
  unfold State.grantScan; rw [h]; simp only [List.length_cons]; unfold grantScanUpTo; rw [h]; simp; omega

/-! ### Alerts -/

theorem State.alertSlot_length (s : State) (x : Alert) : (s.alertSlot x).length = 8 := rfl

theorem State.alertSlots_length (s : State) (l : List Alert) : (l.flatMap s.alertSlot).length = 8 * l.length := by
  induction l with
  | nil => rfl
  | cons x l ih => simp [List.flatMap_cons, State.alertSlot_length, ih]; omega

/-- The alert image fills its 256 words. -/
theorem State.alertImage_length (s : State) : s.alertImage.length = 256 := by
  rw [State.alertImage, List.length_append, State.alertSlots_length, List.length_take, List.length_replicate]
  simp only [Config.maxAlerts]; omega

theorem State.rewriteAlertImage_form (s : State) :
    s.rewriteAlertImage = { s with ram := s.rewriteAlertImage.ram, rewriteCount := s.rewriteCount + 1 } := rfl

theorem State.rewriteAlertImage_word (s : State) (k : Nat) (h : NotOfAlerts k) : s.rewriteAlertImage.word k = s.word k := by
  obtain ⟨h1, h2⟩ := h
  refine (State.word_writeWords_out _ _ _ _ ?_).trans (State.word_writeWords_out s _ _ _ ?_)
  · simp only [List.length_singleton]; omega
  · rw [State.alertImage_length]; exact h2

theorem State.refreshStation_form (s : State) (st : StationNo) :
    s.refreshStation st = { s with stations := (s.refreshStation st).stations, channels := (s.refreshStation st).channels } := by
  unfold State.refreshStation; rw [State.chooseLamp_form]; rfl

theorem State.refreshBeacon_form (s : State) (e : ExhibitNo) :
    s.refreshBeacon e = { s with channels := (s.refreshBeacon e).channels } := by
  unfold State.refreshBeacon
  split
  · rfl
  · exact State.chooseLamp_form _ _ _ _

theorem State.refreshSourceBeacon_form (s : State) (src : SourceNo) :
    s.refreshSourceBeacon src = { s with channels := (s.refreshSourceBeacon src).channels } := by
  unfold State.refreshSourceBeacon
  split
  · rfl
  · exact State.refreshBeacon_form _ _

/-- The stations and lamps at the end of an act, before the image is rewritten. -/
theorem State.selected_form (s : State) (fresh : List Nat) (sources : List SourceNo) (u : State)
    (h : u = sources.foldl (fun v src => v.refreshSourceBeacon src) (forEach 4 (fun st v => v.refreshStation st) (s.selectAll fresh))) :
    u = { s with stations := u.stations, channels := u.channels } := by
  subst h
  refine foldl_invariant (fun t : State => t = { s with stations := t.stations, channels := t.channels }) _
    (fun t src h => by rw [State.refreshSourceBeacon_form t src, h]) _ _ ?_
  exact forEach_invariant (fun t : State => t = { s with stations := t.stations, channels := t.channels }) _
    (fun st t h => by rw [State.refreshStation_form t st, h]) _ rfl

/-- The close of an act of the alert manager: stations, lamps, the image and its count. -/
theorem State.closeAct_form (s : State) (fresh : List Nat) (sources : List SourceNo) :
    s.closeAct fresh sources =
      { s with
        stations := (s.closeAct fresh sources).stations, channels := (s.closeAct fresh sources).channels,
        rewriteCount := s.rewriteCount + 1, ram := (s.closeAct fresh sources).ram } := by
  unfold State.closeAct
  simp only
  rw [State.rewriteAlertImage_form, State.selected_form s fresh sources _ rfl]

theorem State.closeAct_word (s : State) (fresh : List Nat) (sources : List SourceNo) (k : Nat) (h : NotOfAlerts k) :
    (s.closeAct fresh sources).word k = s.word k := by
  unfold State.closeAct
  simp only
  rw [State.rewriteAlertImage_word _ _ h, State.selected_form s fresh sources _ rfl]
  rfl

/-- What an act of the alert manager may change. -/
abbrev AlertAct (s t : State) : Prop :=
  t = { s with
    alerts := t.alerts, stations := t.stations, channels := t.channels, nextNumber := t.nextNumber, rewriteCount := t.rewriteCount,
    gallery := t.gallery, ram := t.ram } ∧ ∀ k, NotOfAlerts k → t.word k = s.word k

theorem State.noteRouting_form (s : State) (x : Alert) : s.noteRouting x = { s with gallery := (s.noteRouting x).gallery } := by
  unfold State.noteRouting; split <;> rfl

theorem State.closeAct_act (s t : State) (fresh : List Nat) (sources : List SourceNo)
    (h : t = { s with alerts := t.alerts, nextNumber := t.nextNumber, gallery := t.gallery }) :
    AlertAct s (t.closeAct fresh sources) := by
  refine ⟨?_, fun k hk => ?_⟩
  · rw [State.closeAct_form, h]
  · rw [State.closeAct_word _ _ _ _ hk, h]; rfl

theorem State.mergeRaise_act (s : State) (x : Alert) (code severity : Nat) : AlertAct s (s.mergeRaise x code severity) := by
  unfold State.mergeRaise
  exact State.closeAct_act _ _ _ _ (by rw [State.noteRouting_form]; rfl)

theorem State.enterAlert_act (s : State) (others : List Alert) (gone : List SourceNo) (src : SourceNo) (cause : AlertCause)
    (code severity : Nat) : AlertAct s (s.enterAlert others gone src cause code severity) := by
  unfold State.enterAlert
  exact State.closeAct_act _ _ _ _ (by rw [State.noteRouting_form]; rfl)

/-- A raise. -/
theorem State.raise_act (s : State) (src : SourceNo) (cause : AlertCause) (code severity : Nat) :
    AlertAct s (s.raise src cause code severity) := by
  unfold State.raise
  split
  · exact ⟨rfl, fun _ _ => rfl⟩
  · exact State.mergeRaise_act _ _ _ _
  · exact State.enterAlert_act _ _ _ _ _ _ _
  · exact State.enterAlert_act _ _ _ _ _ _ _
  · exact ⟨rfl, fun _ _ => rfl⟩

/-- A removal. -/
theorem State.removeAlerts_act (s : State) (p : Alert → Bool) : AlertAct s (s.removeAlerts p) := by
  unfold State.removeAlerts
  split
  · exact State.closeAct_act _ _ _ _ rfl
  · exact ⟨rfl, fun _ _ => rfl⟩

/-- What a removal leaves in the list. -/
theorem State.removeAlerts_alerts (s : State) (p : Alert → Bool) : (s.removeAlerts p).alerts = s.alerts.filter fun x => !p x := by
  unfold State.removeAlerts
  split
  · rw [State.closeAct_form]; rfl
  · rename_i h
    refine (List.filter_eq_self.2 fun x hx => ?_).symm
    simp only [Bool.not_eq_true, List.any_eq_false] at h
    simpa using h x hx

/-- An acknowledgement. -/
theorem State.acknowledge_act (s : State) (x : Alert) : AlertAct s (s.acknowledge x) := by
  unfold State.acknowledge
  split
  · exact State.removeAlerts_act _ _
  · exact State.closeAct_act _ _ _ _ rfl

/-- An escalation. -/
theorem State.escalate_act (s : State) (x : Alert) : AlertAct s (s.escalate x) := by
  unfold State.escalate
  split
  · exact State.closeAct_act _ _ _ _ rfl
  · refine State.closeAct_act _ _ _ _ ?_
    split <;> rfl

/-! ### The order unit -/

theorem mkWord_toNat {n : Nat} (h : n < 65536) : (mkWord n).toNat = n := by
  simp [mkWord]; omega

theorem Result.code_le (r : Result) : r.code ≤ 6 := by cases r <;> decide

/-- The code of the cell at the walk position. -/
theorem State.cellCode_eq (s : State) : s.cellCode = (s.word (addrCell s.deck.position)).toNat / 256 := by
  have := (s.word (addrCell s.deck.position)).isLt
  simp only [State.cellCode, State.cellHead, bits]
  omega

/-- A result and a detail written into the cell at the walk position. -/
theorem State.writeResult_word (s : State) (code : Nat) (r : Result) (d k : Nat) :
    (s.writeResult code r d).word k =
      if k = addrCell s.deck.position + 3 then mkWord d
      else if k = addrCell s.deck.position then mkWord (256 * code + r.code) else s.word k := by
  unfold State.writeResult
  split
  · next h => subst h; exact State.word_writeWord _ _ _
  · next h =>
    rw [State.word_writeWords_out _ _ _ _ (by simp only [List.length_singleton]; omega)]
    split
    · next h' => subst h'; exact State.word_writeWord _ _ _
    · next h' => exact State.word_writeWords_out _ _ _ _ (by simp only [List.length_singleton]; omega)

/-- The walk moved on within the deck. -/
theorem State.advanceWalk_on (s : State) (h : s.deck.position + 1 < s.deck.count) :
    s.advanceWalk = { s with deck := { s.deck with position := s.deck.position + 1 } } := if_pos h

/-- The walk at its last cell. -/
theorem State.advanceWalk_done (s : State) (h : s.deck.count ≤ s.deck.position + 1) :
    s.advanceWalk =
      { s with
        deck := { s.deck with state := .done, position := s.deck.position + 1 },
        ram := Memory.writeRange s.ram addrDeckState [2], attn := s.attn ||| attnDeckDone } := if_neg (by omega)

/-- A cell answered with its order left without effect: the result, the detail and the walk, and nothing else (R189, R190). -/
theorem State.takeCell_answered (s : State) (owner : Word → Word → State → Answer) (code w1 w2 d : Nat) (r : Result)
    (h : s.AtCell code w1 w2) (hd : d < 65536)
    (ho : owner (s.word (addrCell s.deck.position + 1)) (s.word (addrCell s.deck.position + 2)) s = s.answer r d) :
    s.Answered (s.takeCell owner) code r.code d ∧ s.OnlyAnswered (s.takeCell owner) := by
  obtain ⟨-, hpos, hcode, -, -, hrep⟩ := h
  have hlt : code < 256 := by have := (s.word (addrCell s.deck.position)).isLt; omega
  have hr := r.code_le
  have hcell : addrDeckState < addrCell s.deck.position := by simp only [addrDeckState, addrCell]; omega
  have ht : s.takeCell owner = (s.writeResult code r d).advanceWalk := by
    unfold State.takeCell
    simp only [ho]
    rw [show (s.answer r d).state = s from rfl, State.settle_nil s hrep, State.cellCode_eq, hcode]
    rfl
  have hw := State.writeResult_word s code r d
  rw [ht]
  by_cases hlast : s.deck.position + 1 < s.deck.count
  · have he := State.advanceWalk_on (s.writeResult code r d) hlast
    have hword : ∀ k, ((s.writeResult code r d).advanceWalk).word k = (s.writeResult code r d).word k := fun k => by rw [he]; rfl
    refine ⟨⟨?_, ?_, fun _ => ⟨by rw [he]; rfl, by rw [he]; rfl, ?_⟩, fun h' => absurd hlast (by omega)⟩, fun k _ hk => ?_, by rw [he]; rfl⟩
    · rw [hword, hw, if_neg (by omega), if_pos rfl]; exact mkWord_toNat (by omega)
    · rw [hword, hw, if_pos rfl]; exact mkWord_toNat hd
    · rw [hword, hw, if_neg (by omega), if_neg (by omega)]
    · rw [hword, hw, if_neg hk.2.2, if_neg hk.2.1]
  · have he := State.advanceWalk_done (s.writeResult code r d) (by exact Nat.le_of_not_lt hlast)
    have hword : ∀ k, k ≠ addrDeckState → ((s.writeResult code r d).advanceWalk).word k = (s.writeResult code r d).word k := fun k hk => by
      rw [he]; exact Memory.read_writeRange_out _ _ _ _ (by simp only [List.length_singleton]; omega)
    refine ⟨⟨?_, ?_, fun h' => absurd h' hlast, fun _ => ⟨by rw [he], by rw [he]; rfl, ?_, by rw [he]; rfl⟩⟩, fun k _ hk => ?_, by rw [he]; rfl⟩
    · rw [hword _ (by omega), hw, if_neg (by omega), if_pos rfl]; exact mkWord_toNat (by omega)
    · rw [hword _ (by omega), hw, if_pos rfl]; exact mkWord_toNat hd
    · rw [he]; exact State.word_writeWord (s.writeResult code r d) addrDeckState 2
    · rw [hword _ hk.1, hw, if_neg hk.2.2, if_neg hk.2.1]

/-- The order unit takes the cell of a code that stands at the walk position. -/
theorem State.takeOrder_atCell (s : State) (code w1 w2 : Nat) (owner : Word → Word → State → Answer) (h : s.AtCell code w1 w2) :
    s.takeOrder code owner = s.takeCell owner := if_pos ⟨h.1, by rw [State.cellCode_eq]; exact h.2.2.1⟩

end Sys2Proof.Machine
end

