-- ==== Sys2Proof/Tests/Slice0.lean ====
section
/-! SUPPORT. Tests: the checks of WellFormed at ill-formed commands, the empty decoder, one-step results taken from the manual's
tables and worked sequences, and for every statement with hypotheses a state that meets them. -/

namespace Sys2Proof.Tests

open Sys2Proof Sys2Proof.Machine

-- One theorem after another: side by side, their kernel evaluations open more threads than the memory limit allows.
set_option Elab.async false

/-! ### Building small states -/

/-- The part in RUN after the RAM clearing, with nothing configured. -/
def base : State := { State.reset with part := .run, clearing := none }

/-- Words written to the exchange RAM. -/
def poke (s : State) (a : Nat) (ws : List Nat) : State := s.writeWords a (ws.map (BitVec.ofNat 16))

/-- The order unit stands at the last of 64 cells, which holds this code and these operands. -/
def atCell (s : State) (code w1 w2 : Nat) : State :=
  poke { s with deck := { state := .running, count := 64, position := 63 } } (addrCell 63) [256 * code, w1, w2]

/-- The state a command leaves. -/
def after (c : Instr) (s : State) : State := match exec c s with
  | .next t => t
  | .fault _ => s
  | .refused _ => s

/-- The result and detail of the cell at position 63 after a command. -/
def answer (c : Instr) (s : State) : Nat × Nat :=
  (((after c s).word (addrCell 63)).toNat % 256, ((after c s).word (addrCell 63 + 3)).toNat)

def axisCfg : AxisConfig :=
  { low := 0, high := 20000, ceiling := 6000, sets := Vector.replicate 4 { vs := 1000, vmax := 3000, accel := 1000 }, draw := 6,
    followLimit := 100, stallTime := 10, homeDir := .towardLow, seekSpeed := 1000, creepSpeed := 500, searchDistance := 25000,
    homeValue := 50, marks := Vector.replicate 4 none }

def exhibitCfg : ExhibitConfig :=
  { zone := 0, defaultShow := 400, policy := .encore, restTime := 1, suspendAllowed := true,
    axes := (Vector.replicate 4 none).set 0 (some 2), showLamps := Vector.replicate 8 none, readyLamp := some 21, beaconLamp := none,
    guard := some 3, guardSettle := 10, guardAlertTime := 5 }

/-- Axis 2 configured and in a state. -/
def withAxis (s : State) (st : AxisState) : State :=
  s.setAxis 2 { s.axis 2 with config := some axisCfg, state := st, homed := true, pos := 100, encoder := 100 }

/-- Axis 2 driving toward a target, with its draw held. -/
def driving (s : State) (st : AxisState) : State :=
  let t := withAxis s st
  let u := t.setAxis 2 { t.axis 2 with dir := some .towardHigh, move := some { target := 300, speedSet := 0 }, vel := 2500 }
  { u with pool := { free := 26, held := (Vector.replicate 16 0).set 2 6, waiting := [] } }

/-- Exhibit 5 configured and in a state. -/
def withExhibit (s : State) (st : ExhibitState) : State :=
  s.setExhibit 5 { s.exhibit 5 with config := some exhibitCfg, state := st }

/-- The slot of exhibit 5 waits at address 400. -/
def waiting (s : State) (w : Wait) : State :=
  s.setSlot 5 { s.slot 5 with current := some 400, status := some .waiting, wait := some w }

/-- Exhibit 5 runs a show that waits at address 400, and WAIT_TIME of 500 ms stands at addresses 400, 402 and 12,286. -/
def running (s : State) (w : Wait) : State :=
  poke (poke (waiting (withExhibit s .running) w) 0x1190 [0x1400, 50, 0x1400, 50]) 0x3FFE [0x1400, 50]

/-- An alert entry. -/
def entry (n : Nat) (src : SourceNo) (c : AlertCause) : Alert :=
  { number := n, source := src, cause := c, code := 0, severity := 1, acked := false, station := some 0, repeats := 0,
    escalations := 0, timer := some 1, exhausted := false, age := 65535 }

/-- Button 37 with an entry. -/
def withButton (s : State) (a : Action) (l : LongAction) (lockout : Nat) : State :=
  s.setButton 37 { s.button 37 with entry := { action := a, longAction := l, lockout := lockout } }

/-! ### Well-formedness refuses an ill-formed command -/

theorem test_wellFormed_partReset_needs_bit_15 : (Instr.partReset 0x7FFF).wellFormed = false := by decide
theorem test_wellFormed_maskWrite_excludes_bit_15 : (Instr.interruptMaskWrite 0x8000).wellFormed = false := by decide
theorem test_wellFormed_inert_stop_excludes_requests :
    (Instr.registerWriteNoEffect .stop 1).wellFormed = false ∧ (Instr.registerWriteNoEffect .stop 2).wellFormed = false := by decide
theorem test_wellFormed_ramWrite_excludes_watched_words :
    (Instr.exchangeRamWrite false 0 5).wellFormed = false ∧ (Instr.exchangeRamWrite false 2 5).wellFormed = false := by decide
theorem test_wellFormed_count_change_moves : (Instr.encoderCountChange 3 0).wellFormed = false := by decide
theorem test_wellFormed_escalation_names_a_number :
    (Instr.escalationExpiry 0).wellFormed = false ∧ (Instr.escalationExpiry 65536).wellFormed = false := by decide
theorem test_wellFormed_takes_the_rows :
    (Instr.partReset 0x8000).wellFormed = true ∧ (Instr.interruptMaskWrite 0x7FFF).wellFormed = true ∧
      (Instr.registerWriteNoEffect .partId 1).wellFormed = true ∧ (Instr.exchangeRamWrite true 0 5).wellFormed = true ∧
      (Instr.exchangeRamWrite false 1 5).wellFormed = true := by decide

/-! ### No word spells a command -/

theorem test_no_word_decodes : decodeTableWord 16 0x1234 = none ∧ decodeTableWord 0 0 = none := by decide
theorem test_withFetchWord_keeps_state : State.reset.withFetchWord 16 7 = State.reset := rfl

/-! ### Hypotheses of the statements are met -/

theorem witness_StepTakesFront : ({ base with pending := [Instr.ageStep, .pwmPeriod] } : State).pending = .ageStep :: [.pwmPeriod] := rfl
theorem witness_IdleStepRunsClock :
    base.pending = [] ∧ base.cadence.quarter ≠ 3 ∧ ({ base with cadence := { base.cadence with quarter := 3 } } : State).pending = [] := by
  decide +kernel
theorem witness_PartStateChanges :
    (Instr.partReset 0x8000).wellFormed = true ∧ base.part = .run ∧ (after (.partReset 0x8000) base).part = .cold := by decide +kernel
def fullBox : State := { base with notice := { base.notice with full := true } }
theorem witness_FullBoxKept :
    exec .noticeFill fullBox = .next fullBox ∧ fullBox.notice.full = true := ⟨rfl, rfl⟩

/-- A state in RUN with an axis under way, a show that waits, an entry in the list and a RAM word. -/
def busy : State := { driving (running base (.time 40)) .moving with alerts := [entry 1 5 .visitorCall] }

theorem witness_RamLawKept : busy.RamLaw ∧ busy.ram ≠ [] := by decide +kernel
theorem witness_PoolLawsKept : busy.UnitLaw ∧ busy.HeldLaw := by decide +kernel
theorem witness_ShowLawsKept : busy.EncoreLaw ∧ busy.SlotLaw := by decide +kernel
theorem witness_HomedLawKept : busy.HeldLaw ∧ busy.HomedLaw := by decide +kernel
theorem witness_AlertLawKept : busy.AlertLaw := by decide +kernel
theorem witness_ColdLawKept : ({ base with part := .cold } : State).ColdLaw := by decide +kernel
def stopped : State := { withAxis (withExhibit base .ready) .idle with stopInForce := true }
theorem witness_StopLawKept :
    stopped.SlotLaw ∧ stopped.WaitLaw ∧ stopped.StopLaw := by decide +kernel

theorem axis_of_busy (a : AxisNo) (h : a ≠ 2) : busy.axis a = Axis.reset := by
  revert a; decide +kernel
theorem witness_MotionLawsKept : busy.WindowLaw ∧ busy.VelocityLaw := by
  constructor
  · intro a
    by_cases h : a = 2
    · subst h
      refine show (busy.axis 2).WithinWindow axisCfg from ⟨by decide +kernel, fun _ => by decide +kernel, ?_, ?_, ?_⟩
      · exact fun r hr => absurd hr (by rw [show (busy.axis 2).request = none by decide +kernel]; simp)
      · exact fun _ => ⟨⟨300, 0⟩, by decide +kernel⟩
      · exact fun hs => absurd hs (by decide +kernel)
    · rw [axis_of_busy a h]; exact ⟨rfl, rfl⟩
  · intro a
    by_cases h : a = 2
    · subst h
      exact show _ ∧ _ from ⟨by decide +kernel, fun _ => ⟨⟨300, 0⟩, by decide +kernel⟩⟩
    · rw [axis_of_busy a h]; exact ⟨rfl, rfl⟩
theorem inForce_of_busy (e : ExhibitNo) (h : e ≠ 5) : (busy.exhibit e).inForce = none := by
  revert e; decide +kernel
theorem callLamp_of_busy (st : StationNo) : (busy.station st).callLamp = none := by
  revert st; decide +kernel
theorem binds_only_5 {e : ExhibitNo} {P : ExhibitConfig → Prop} (h : ∃ c ∈ (busy.exhibit e).inForce, P c) : e = 5 := by
  obtain ⟨c, hc, -⟩ := h
  refine Decidable.byContradiction fun hne => ?_
  rw [inForce_of_busy e hne] at hc
  cases hc
theorem witness_BindLawKept : busy.SlotLaw ∧ busy.BindLaw ∧ busy.BindsAxis 5 2 :=
  ⟨by decide +kernel,
    ⟨fun _ _ _ h k => (binds_only_5 h).trans (binds_only_5 k).symm, fun _ _ _ h k => (binds_only_5 h).trans (binds_only_5 k).symm,
      fun _ _ st _ => by rw [callLamp_of_busy st]; simp, fun _ st _ h => by rw [callLamp_of_busy st] at h; cases h⟩,
    ⟨exhibitCfg, by decide +kernel, by decide +kernel⟩⟩

/-! #### The port and the notice unit -/

theorem witness_MaskWriteReplacesMask :
    base.clearing = none ∧ (0x7FFF#16).getLsbD 15 = false ∧ (0x0000#16).getLsbD 15 = false ∧ (0x8000#16).getLsbD 15 = true ∧
      (0xFFFF#16).getLsbD 15 = true := by decide +kernel
theorem witness_InterruptLineFollows : base.clearing = none ∧ (0x0000#16).getLsbD 15 = false ∧ (0x8000#16).getLsbD 15 = true := by
  decide +kernel
theorem witness_HostWritesLand :
    base.clearing = none ∧ (1#14 ≠ 0 ∧ 1#14 ≠ 2) ∧ (16383#14 ≠ 0 ∧ 16383#14 ≠ 2) ∧ State.reset.clearing ≠ none ∧
      ((0#16 ≠ 1 ∧ 0#16 ≠ 2) ∧ 3#16 ≠ 1 ∧ 3#16 ≠ 2) := by decide +kernel
theorem witness_DeckAndBoxWrites :
    (base.clearing = none ∧ base.deck.state ≠ .running ∧ 1 ≤ (1#16).toNat ∧ (64#16).toNat ≤ 64) ∧
      ((atCell base 1 0 0).clearing = none ∧ (atCell base 1 0 0).deck.state = .running) ∧ (0#16).toNat = 0 ∧ 64 < (65#16).toNat := by
  decide +kernel

/-- Source 5 and the gallery have a condition pending, and source 48 was posted last. -/
def twoSources : State := { (base.setSource 5 { SourceRecord.reset with halted := true }) with gallery := { GalleryRecord.reset with stopOn := true } }

theorem witness_NoticeFillTakesNext :
    (twoSources.notice.full = false ∧ twoSources.sourcePending 5 = true ∧ (∀ j : SourceNo, twoSources.sourcePending j = true →
      (5 + 48 - twoSources.notice.lastPosted.val) % 49 ≤ (j.val + 48 - twoSources.notice.lastPosted.val) % 49)) ∧
    fullBox.notice.full = true ∧ (∀ src, base.sourcePending src = false) := by decide +kernel
theorem witness_ResetsLeave :
    (base.clearing = none ∧ (0x8000#16).getLsbD 15 = true) ∧ State.reset.clearing ≠ none ∧
      (∀ e, State.reset.exhibit e = .reset ∧ State.reset.slot e = .reset) ∧
      (∀ a, axisImage (State.reset.axis a) = List.replicate 8 0) ∧ State.reset.alerts = [] := by decide +kernel

/-! #### Orders -/

def cold (s : State) : State := { s with part := .cold }

theorem witness_OrdersTurnedAway :
    ((atCell base 0x00 0 0).AtCell 0x00 0 0 ∧ 0x00 ∉ knownOrderCodes) ∧ ((atCell base 0xFF 0 0).AtCell 0xFF 0 0 ∧ 0xFF ∉ knownOrderCodes) ∧
    ((atCell (cold base) 0x02 0 0).AtCell 0x02 0 0 ∧ 0x02 ∈ knownOrderCodes ∧ (atCell (cold base) 0x02 0 0).part = .cold) ∧
    ((atCell (cold base) 0x33 0 0).AtCell 0x33 0 0 ∧ 0x33 ∈ knownOrderCodes ∧ (atCell (cold base) 0x33 0 0).part = .cold) := by
  decide +kernel
theorem witness_ClearColdEntersRun :
    ((atCell (cold base) 1 0 0).AtCell 1 0 0 ∧ (atCell (cold base) 1 0 0).part = .cold ∧ (atCell (cold base) 1 0 0).alerts = []) ∧
    (atCell base 1 0 0).AtCell 1 0 0 ∧ (atCell base 1 0 0).part = .run := by decide +kernel

/-- A CONFIGURE GALLERY cell and the three values. -/
def galleryCell (n l k : Nat) : State := atCell (poke base 0x120 [n, l, k]) 0x02 0 0
def valuesOf (s : State) : List Nat := [(s.word 0x0120).toNat, (s.word 0x0121).toNat, (s.word 0x0122).toNat]
/-- A CONFIGURE BUTTONS cell and the entry of button 0. -/
def buttonsCell (w0 w1 : Nat) : State := atCell (poke base 0x930 [w0, w1]) 0x05 0 0

theorem witness_ConfigureGalleryButtonsGroups :
    ((galleryCell 2 5 10).AtCell 0x02 0 0 ∧ (galleryCell 2 5 10).part = .run ∧ valuesOf (galleryCell 2 5 10) = [2, 5, 10]) ∧
    (galleryCell 15 50 255).AtCell 0x02 0 0 ∧ valuesOf (galleryCell 1 5 10) = [1, 5, 10] ∧ valuesOf (galleryCell 16 5 10) = [16, 5, 10] ∧
    valuesOf (galleryCell 2 4 10) = [2, 4, 10] ∧ valuesOf (galleryCell 15 51 255) = [15, 51, 255] ∧
    valuesOf (galleryCell 2 5 9) = [2, 5, 9] ∧ valuesOf (galleryCell 15 50 256) = [15, 50, 256] ∧
    ((buttonsCell 0x1014 0x0505).AtCell 0x05 0 0 ∧ ∀ b, ((buttonsCell 0x1014 0x0505).readButton b).isSome = true) ∧
    ((buttonsCell 0xF000 0).AtCell 0x05 0 0 ∧ (buttonsCell 0xF000 0).readButton 0 = none) ∧
    (atCell base 0x06 0 0).AtCell 0x06 0 0 := by decide +kernel

theorem witness_ConfigureGallery_holds (b : ButtonNo) : ((galleryCell 2 5 10).button b).hold = .opened := by
  show (tget (Vector.replicate 256 Button.reset) b).hold = _
  simp [tget, Button.reset]

/-- A CONFIGURE EXHIBIT cell for exhibit 5 with a record. -/
def exhibitCell (s : State) (fields : List Nat) : State := atCell (poke s (addrExhibitRecord 5) fields) 0x03 5 0
def recordYes : List Nat :=
  [1, 0, 400, 0, 0, 1, 0xFFFF, 0xFFFF, 0xFFFF, 0xFFFF, 0xFFFF, 0xFFFF, 0xFFFF, 0xFFFF, 0xFFFF, 0xFFFF, 0xFFFF, 0xFFFF, 0xFFFF, 0xFFFF,
   0xFFFF, 10, 5]

theorem witness_ConfigureExhibitTakesRecord :
    ((exhibitCell base [2]).AtCell 0x03 5 0 ∧ (exhibitCell base [2]).part = .run ∧ (exhibitCell base [2]).exhibitRecordFault 5 = some 1) ∧
    ((exhibitCell (withExhibit base .running) recordYes).exhibitRecordFault 5 = none ∧
      ((exhibitCell (withExhibit base .running) recordYes).exhibit 5).state.takesConfigure = false) ∧
    ((exhibitCell base recordYes).AtCell 0x03 5 0 ∧ (exhibitCell base recordYes).exhibitRecordFault 5 = none ∧
      ((exhibitCell base recordYes).exhibit 5).state.takesConfigure = true ∧ (exhibitCell base recordYes).exhibitEnabled 5 = true) ∧
    ((exhibitCell (withExhibit base .locked) [0]).exhibitRecordFault 5 = none ∧
      ((exhibitCell (withExhibit base .locked) [0]).exhibit 5).state.takesConfigure = true ∧
      (exhibitCell (withExhibit base .locked) [0]).exhibitEnabled 5 = false) := by decide +kernel

/-- Exhibit 5 READY, its ready lamp 21 and its beacon lamp none, before a record with ready lamp 60 and beacon lamp 21. -/
def lampCell : State :=
  exhibitCell (withExhibit { base with alerts := [entry 1 5 .visitorCall] } .ready) ((recordYes.set 18 60).set 19 21)
theorem witness_ConfigureExhibit_lamps :
    lampCell.AtCell 0x03 5 0 ∧ lampCell.part = .run ∧ lampCell.exhibitRecordFault 5 = none ∧
      (lampCell.exhibit 5).state.takesConfigure = true ∧ lampCell.exhibitEnabled 5 = true ∧
      exhibitCfg.readyLamp = some 21 ∧ (lampCell.readExhibit 5).readyLamp = some 60 ∧ (lampCell.readExhibit 5).beaconLamp = some 21 ∧
      (∀ st, (lampCell.station st).callLamp = none) := by decide +kernel

/-- A CONFIGURE AXIS cell for axis 2 with the record of the window 0 to 20,000. -/
def axisCell (s : State) (low : Nat) : State :=
  atCell (poke s (addrAxisRecord 2) [0x0600, low, 0x0A00, 20000, 6000, 1000, 3000, 1000, 1000, 3000, 1000, 1000, 3000, 1000, 1000, 3000,
    1000, 100, 1000, 500, 0, 25000, 0, 50]) 0x04 2 0

theorem witness_ConfigureAxisTakesRecord :
    ((axisCell base 19937).AtCell 0x04 2 0 ∧ (axisCell base 19937).axisRecordFault 2 = some 2) ∧
    ((axisCell (withAxis base .moving) 0).axisRecordFault 2 = none ∧ ((axisCell (withAxis base .moving) 0).axis 2).state.busy = true) ∧
    ((axisCell (withAxis (withExhibit base .ready) .idle) 0).axisRecordFault 2 = none ∧
      (axisCell (withAxis (withExhibit base .ready) .idle) 0).axisHeld 2 = true) ∧
    ((axisCell base 0).AtCell 0x04 2 0 ∧ (axisCell base 0).part = .run ∧ (axisCell base 0).axisRecordFault 2 = none ∧
      (axisCell base 0).axisHeld 2 = false ∧ ((axisCell base 0).axis 2).state.busy = false) := by decide +kernel
theorem witness_ConfigureLampsStations :
    ((atCell base 0x07 0 0).AtCell 0x07 0 0 ∧ (atCell base 0x07 0 0).lampRecordFault = none) ∧
    (atCell (poke base (addrPattern 0) [0xF000]) 0x07 0 0).lampRecordFault = some 0 ∧
    (atCell (poke base (addrChannel 63) [0xFFFF]) 0x07 0 0).lampRecordFault = some 95 ∧
    ((atCell (poke base (addrStation 0) [1, 1, 5, 60, 1, 0, 0, 0, 2, 2, 7, 61, 1, 0, 0, 0, 4, 0xFFFF, 9, 62, 0, 0, 0, 0, 8, 0xFFFF, 9, 63, 0])
        0x08 0 0).stationRecordFault = none) ∧
    (atCell (poke base (addrStation 0) [0x0100]) 0x08 0 0).stationRecordFault.isSome = true ∧ (atCell base 0x08 0 0).AtCell 0x08 0 0 := by
  decide +kernel

/-- Exhibit 5 stands in a state before a cell that names it. -/
def showCell (code : Nat) (st : ExhibitState) (w2 : Nat) : State := atCell (withExhibit base st) code 5 w2

theorem witness_ShowOrdersAnswered :
    ((atCell base 0x13 48 0).AtCell 0x13 48 0 ∧ (atCell base 0x13 48 0).part = .run) ∧ (atCell base 0x10 47 12288).AtCell 0x10 47 12288 ∧
    (showCell 0x10 .locked 0).ShowAbsent 0x10 5 ∧
    (let s := (showCell 0x10 .ready 0).setSource 5 { SourceRecord.reset with ended := some 1 }
     ¬ s.ShowAbsent 0x10 5 ∧ s.ShowPending 0x10 5) := by decide +kernel
theorem witness_ShowOrdersAnswered_notNow :
    ¬ (showCell 0x10 .running 0).ShowAbsent 0x10 5 ∧ ¬ (showCell 0x10 .running 0).ShowPending 0x10 5 ∧
      (showCell 0x10 .running 0).ShowNotNow 0x10 5 := by decide +kernel
theorem witness_ShowOrdersAnswered_taken :
    ¬ (showCell 0x12 .running 0).ShowAbsent 0x12 5 ∧ ¬ (showCell 0x12 .running 0).ShowPending 0x12 5 ∧
      ¬ (showCell 0x12 .running 0).ShowNotNow 0x12 5 := by decide +kernel

/-- A START SHOW cell for exhibit 5 in a state, with WAIT_TIME steps at 400 and 12,286. -/
def startCell (st : ExhibitState) (w2 : Nat) : State := atCell (withExhibit (running base (.time 1)) st) 0x10 5 w2
/-- A RESUME cell for exhibit 5 with its show held at address 400. -/
def resumeCell : State :=
  let s := running base (.time 1)
  atCell (withExhibit (s.setSlot 5 { s.slot 5 with status := some .held, wait := none }) .suspended) 0x11 5 0

theorem witness_StartAndResume :
    ((startCell .ready 12286).AtCell 0x10 5 12286 ∧ (startCell .ready 12286).part = .run ∧
      ((startCell .ready 12286).exhibit 5).config = some exhibitCfg ∧ ((startCell .ready 12286).exhibit 5).state = .ready ∧
      ¬ (startCell .ready 12286).ShowPending 0x10 5 ∧ ((startCell .ready 12286).exhibit 5).guardOpen = false ∧
      (startCell .ready 12286).stopInForce = false ∧ (startCell .ready 12286).TimeStepAt 12286 50) ∧
    ((startCell .resting 65535).AtCell 0x10 5 65535 ∧ ((startCell .resting 65535).exhibit 5).state = .resting ∧
      (startCell .resting 65535).TimeStepAt exhibitCfg.defaultShow 50) ∧
    (resumeCell.AtCell 0x11 5 0 ∧ resumeCell.part = .run ∧ (resumeCell.exhibit 5).config = some exhibitCfg ∧
      (resumeCell.exhibit 5).state = .suspended ∧ ¬ resumeCell.ShowPending 0x11 5 ∧ resumeCell.stopInForce = false ∧
      (resumeCell.slot 5).current = some 400 ∧ (resumeCell.slot 5).frozen = false ∧ resumeCell.TimeStepAt 400 50) := by decide +kernel

/-- The same with the held step edited. -/
def resumeEdited (ws : List Nat) : State := poke resumeCell 0x1190 ws

theorem witness_StartAndResume_edited :
    (∀ ws ∈ [[0x0200], [0x0600, 0, 300], [0x0A00], [0x1600, 1]], (resumeEdited ws).AtCell 0x11 5 0 ∧
      ¬ (resumeEdited ws).ShowPending 0x11 5 ∧ ((resumeEdited ws).slot 5).current = some 400 ∧
      bit ((resumeEdited ws).storeWord 400) 9 = true) ∧
    (∀ ws ∈ [[0x0200], [0x0600, 0, 300], [0x0A00], [0x1600, 1]], (resumeEdited ws).PassesChecks 5 exhibitCfg 400) ∧
    exhibitCfg.suspendAllowed = true := by decide +kernel
theorem witness_StartAndResume_invalid :
    (∀ ws ∈ [[0x3400], [0x1400, 0]], (resumeEdited ws).AtCell 0x11 5 0 ∧
      (12 < bits ((resumeEdited ws).storeWord 400) 10 6 ∨
        (bits ((resumeEdited ws).storeWord 400) 10 6 = 5 ∧ ((resumeEdited ws).storeWord 401).toNat = 0)) ∧
      ((resumeEdited ws).slot 5).firstFault = none ∧ (resumeEdited ws).someAxisBusy 5 = false ∧ (resumeEdited ws).pool.waiting = []) ∧
    (let s := poke (resumeCell.setSlot 5 { resumeCell.slot 5 with current := some 12287 }) 0x3FFF [0x1400]
     s.AtCell 0x11 5 0 ∧ (s.slot 5).current = some 12287 ∧ bits (s.storeWord 12287) 10 6 = 5) := by decide +kernel

/-- Exhibit 5 in a state, its axis in another, before a cell that names the exhibit. -/
def motionCell (code : Nat) (st : ExhibitState) (ax : AxisState) (encore : Bool) : State :=
  let s := driving (running base (.time 1)) ax
  atCell (s.setExhibit 5 { s.exhibit 5 with state := st, encore := encore }) code 5 0

theorem witness_HaltAndCancel :
    ((motionCell 0x12 .running .idle true).AtCell 0x12 5 0 ∧ (motionCell 0x12 .running .idle true).part = .run ∧
      ((motionCell 0x12 .running .idle true).exhibit 5).config = some exhibitCfg ∧
      (motionCell 0x12 .running .idle true).pool.waiting = [] ∧ ((motionCell 0x12 .running .idle true).exhibit 5).state = .running ∧
      (motionCell 0x12 .running .idle true).someAxisBusy 5 = false) ∧
    (((motionCell 0x12 .suspended .moving false).exhibit 5).state = .suspended ∧
      (motionCell 0x12 .suspended .moving false).boundAxes 5 = [2] ∧
      ((motionCell 0x12 .suspended .moving false).axis 2).state = .moving) ∧
    ((motionCell 0x13 .suspended .idle false).AtCell 0x13 5 0 ∧ ((motionCell 0x13 .suspended .idle false).exhibit 5).state = .suspended ∧
      (motionCell 0x13 .suspended .idle false).someAxisBusy 5 = false ∧ (motionCell 0x13 .suspended .idle false).pool.waiting = []) ∧
    ((motionCell 0x13 .guarded .idle true).AtCell 0x13 5 0 ∧ ((motionCell 0x13 .guarded .idle true).exhibit 5).state = .guarded ∧
      ((motionCell 0x13 .guarded .idle true).exhibit 5).encore = true) := by decide +kernel

/-- The same; an axis that waits stands in the list with a pending move. -/
def wayCell (code : Nat) (st : ExhibitState) (ax : AxisState) : State :=
  let s := motionCell code st ax true
  let t := s.setAxis 2 { s.axis 2 with request := if ax = .awaitPower ∨ ax = .stopping then some (.move 250 1) else none }
  { t with pool := { t.pool with waiting := if ax = .awaitPower then [{ axis := 2, draw := 6 }] else [] } }

/-- Exhibit 5 stands before a HALT or CANCEL cell with its one axis under way, alone in the list where it waits. -/
abbrev OnItsWay (s : State) (code : Nat) (st : ExhibitState) (ax : AxisState) : Prop :=
  s.AtCell code 5 0 ∧ s.part = .run ∧ (s.exhibit 5).config = some exhibitCfg ∧ (s.exhibit 5).state = st ∧ s.boundAxes 5 = [2] ∧
    s.axisOwner 2 = some 5 ∧ s.WaitLaw ∧ (∀ w ∈ s.pool.waiting, w.axis = 2) ∧ (s.axis 2).state = ax

theorem witness_HaltAndCancel_halt :
    ∀ st ∈ [ExhibitState.running, .suspended, .guarded], ∀ ax ∈ [AxisState.moving, .stopping, .homing, .awaitPower, .idle, .faulted],
      OnItsWay (wayCell 0x12 st ax) 0x12 st ax := by decide +kernel
theorem witness_HaltAndCancel_awaits :
    (wayCell 0x12 .running .stopping).HaltAwaitsAxes 5 ∧ ¬ (wayCell 0x12 .suspended .homing).HaltAwaitsAxes 5 ∧
      ¬ (wayCell 0x12 .guarded .moving).HaltAwaitsAxes 5 := by decide +kernel
theorem witness_HaltAndCancel_cancel :
    ∀ ax ∈ [AxisState.moving, .stopping, .homing, .awaitPower], OnItsWay (wayCell 0x13 .suspended ax) 0x13 .suspended ax := by
  decide +kernel

theorem witness_MaintenanceOrdersAnswered :
    ((atCell base 0x14 48 0).AtCell 0x14 48 0 ∧ (atCell base 0x14 48 0).part = .run) ∧
    ((atCell base 0x17 5 0).AtCell 0x17 5 0 ∧ ((atCell base 0x17 5 0).exhibit 5).state = .off) ∧
    (((showCell 0x16 .ready 0).exhibit 5).state ≠ .off ∧ ¬ ((showCell 0x16 .ready 0).exhibit 5).state.Maintained 0x16) ∧
    ((showCell 0x14 .locked 0).exhibit 5).state.Maintained 0x14 := by decide +kernel
theorem witness_LockAndUnlock :
    ((showCell 0x15 .resting 0).AtCell 0x15 5 0 ∧ (showCell 0x15 .resting 0).part = .run ∧
      ((showCell 0x15 .resting 0).exhibit 5).state = .resting) ∧
    ((motionCell 0x16 .locked .idle false).AtCell 0x16 5 0 ∧ ((motionCell 0x16 .locked .idle false).exhibit 5).state = .locked ∧
      (motionCell 0x16 .locked .idle false).someAxisFaulted 5 = false) ∧
    (((motionCell 0x16 .locked .faulted false).exhibit 5).state = .locked ∧
      (motionCell 0x16 .locked .faulted false).someAxisFaulted 5 = true) := by decide +kernel

/-- Exhibit 5 FAULTED with its slot empty and its axis FAULTED, homed or not, before a RESTORE cell. -/
def restoreCell (homed : Bool) : State :=
  let s := withAxis (withExhibit base .faulted) .faulted
  atCell (s.setAxis 2 { s.axis 2 with homed := homed, cause := some .stall }) 0x17 5 0

theorem witness_RestoreAndClear :
    ((restoreCell true).AtCell 0x17 5 0 ∧ (restoreCell true).part = .run ∧ ((restoreCell true).exhibit 5).state = .faulted ∧
      ((restoreCell true).slot 5).current = none ∧ (∀ a ∈ (restoreCell true).boundAxes 5, (restoreCell true).axisOwner a = some 5) ∧
      (restoreCell true).boundAxes 5 = [2] ∧ ((restoreCell true).axis 2).state = .faulted ∧ ((restoreCell true).axis 2).cause ≠ some .homeFail ∧
      ((restoreCell true).axis 2).homed = true ∧ ((restoreCell true).axis 2).inWindow ((restoreCell true).axis 2).pos = true) ∧
    ((restoreCell false).axis 2).homed = false ∧
    ((motionCell 0x14 .guarded .idle true).AtCell 0x14 5 0 ∧ (motionCell 0x14 .guarded .idle true).part = .run ∧
      ((motionCell 0x14 .guarded .idle true).exhibit 5).config = some exhibitCfg ∧
      ((motionCell 0x14 .guarded .idle true).exhibit 5).state ≠ .off ∧ (motionCell 0x14 .guarded .idle true).someAxisBusy 5 = false ∧
      (motionCell 0x14 .guarded .idle true).someAxisFaulted 5 = false ∧ (motionCell 0x14 .guarded .idle true).pool.waiting = []) := by
  decide +kernel

/-- An axis order cell for axis 2 in a state, unbound. -/
def axisOrder (code w1 w2 : Nat) (st : AxisState) : State := atCell (driving base st) code w1 w2

theorem witness_AxisOrdersTurnedAway :
    ((atCell (cold base) 0x21 0xFFFF 0).AtCell 0x21 0xFFFF 0 ∧ (atCell (cold base) 0x21 0xFFFF 0).part = .cold) ∧
    ((atCell base 0x20 16 0).AtCell 0x20 16 0 ∧ (atCell base 0x21 16384 0).AtCell 0x21 16384 0 ∧ 16384 / 1024 = 16) ∧
    ((motionCell 0x22 .ready .moving false).axisOwner 2 = some 5 ∧ ((motionCell 0x22 .ready .moving false).exhibit 5).state ≠ .locked) ∧
    ({ axisOrder 0x20 2 0 .idle with stopInForce := true } : State).AtCell 0x20 2 0 ∧
    ((atCell base 0x23 2 0).AtCell 0x23 2 0 ∧ ((atCell base 0x23 2 0).axis 2).state = .off) := by decide +kernel
theorem witness_HomeOrderStartsHoming :
    ((axisOrder 0x20 2 0 .unhomed).AtCell 0x20 2 0 ∧ (axisOrder 0x20 2 0 .unhomed).part = .run ∧
      (axisOrder 0x20 2 0 .unhomed).stopInForce = false ∧ (axisOrder 0x20 2 0 .unhomed).axisOwner 2 = none ∧
      ((axisOrder 0x20 2 0 .unhomed).axis 2).config = some axisCfg ∧ ((axisOrder 0x20 2 0 .unhomed).axis 2).state = .unhomed ∧
      (axisOrder 0x20 2 0 .unhomed).pool.waiting = [] ∧ axisCfg.draw ≤ (axisOrder 0x20 2 0 .unhomed).pool.free) ∧
    (let s := axisOrder 0x20 2 0 .idle
     ({ s with pool := { s.pool with free := 5 } } : State).AtCell 0x20 2 0 ∧ 5 < axisCfg.draw) := by decide +kernel
theorem witness_MoveOrderMovesAxis :
    ((axisOrder 0x21 2048 100 .idle).AtCell 0x21 (2048#16).toNat (100#16).toNat ∧ (axisOrder 0x21 2048 100 .idle).part = .run ∧
      (axisOrder 0x21 2048 100 .idle).stopInForce = false ∧ (axisOrder 0x21 2048 100 .idle).axisOwner 2 = none ∧
      ((axisOrder 0x21 2048 100 .idle).axis 2).config = some axisCfg ∧ (2048#16).toNat / 1024 = 2 ∧
      ((axisOrder 0x21 2048 100 .idle).axis 2).state = .idle ∧
      max axisCfg.low (min axisCfg.high (moveTarget 2048 100)) = ((axisOrder 0x21 2048 100 .idle).axis 2).pos) ∧
    (max axisCfg.low (min axisCfg.high (moveTarget 2303 65535)) = 0 ∧ (axisOrder 0x21 2303 65535 .idle).AtCell 0x21 2303 65535 ∧
      (axisOrder 0x21 2303 65535 .idle).pool.waiting = [] ∧ axisCfg.draw ≤ (axisOrder 0x21 2303 65535 .idle).pool.free) ∧
    (((axisOrder 0x21 2048 101 .moving).axis 2).state = .moving ∧ ((axisOrder 0x21 2048 101 .moving).axis 2).isAhead 20000 = true ∧
      ((axisOrder 0x21 2048 100 .moving).axis 2).isAhead 99 = false) ∧
    (let s := axisOrder 0x21 2048 101 .idle
     ({ s with pool := { s.pool with free := 5 } } : State).AtCell 0x21 2048 101 ∧ 5 < axisCfg.draw) := by decide +kernel
theorem witness_StopAndRestoreAxis :
    (∀ st ∈ [AxisState.moving, .stopping, .homing, .idle], (axisOrder 0x22 2 0 st).AtCell 0x22 2 0 ∧ (axisOrder 0x22 2 0 st).part = .run ∧
      (axisOrder 0x22 2 0 st).axisHeld 2 = false ∧ (axisOrder 0x22 2 0 st).Unwatched 2 ∧ ((axisOrder 0x22 2 0 st).axis 2).state = st ∧
      (axisOrder 0x22 2 0 st).pool.waiting = []) ∧
    (let s := axisOrder 0x22 2 0 .awaitPower
     let t := { s with pool := { s.pool with waiting := [{ axis := 2, draw := 6 }] } }
     t.AtCell 0x22 2 0 ∧ t.axisHeld 2 = false ∧ t.Unwatched 2 ∧ (t.axis 2).state = .awaitPower ∧ t.pool.waiting.map (·.axis) = [2]) ∧
    ((axisOrder 0x23 2 0 .faulted).AtCell 0x23 2 0 ∧ (axisOrder 0x23 2 0 .faulted).axisOwner 2 = none ∧
      ((axisOrder 0x23 2 0 .faulted).axis 2).state = .faulted ∧ ((axisOrder 0x23 2 0 .faulted).axis 2).homed = true) ∧
    ((axisOrder 0x23 2 0 .idle).AtCell 0x23 2 0 ∧ ((axisOrder 0x23 2 0 .idle).axis 2).state ≠ .faulted) := by decide +kernel
theorem witness_SetLampSetsShowLayer :
    (atCell (cold base) 0x30 64 32).AtCell 0x30 64 32 ∧ (atCell base 0x30 64 0).AtCell 0x30 64 0 ∧ (atCell base 0x30 63 32).AtCell 0x30 63 32 ∧
    ((atCell (withExhibit base .guarded) 0x30 21 31).channelOwner 21 = some 5 ∧
      ((atCell (withExhibit base .guarded) 0x30 21 31).exhibit 5).state = .guarded) ∧
    ((atCell base 0x30 63 31).AtCell 0x30 63 31 ∧ (atCell base 0x30 63 31).part = .run ∧ (atCell base 0x30 63 31).channelOwner 63 = none) ∧
    (atCell base 0x30 0 65535).AtCell 0x30 0 65535 := by decide +kernel

/-- 32 entries of 32 sources. -/
def fullList : List Alert := (List.finRange 32).map fun i => entry (i.val + 1) (Fin.ofNat 49 i.val) .visitorCall

theorem witness_RaiseAlertEnters :
    ((atCell base 0x31 48 831).AtCell 0x31 48 831 ∧ (atCell base 0x31 48 831).part = .run ∧ 831 = 256 * 3 + 63 ∧
      (∀ e, sourceExhibit 48 = some e → ((atCell base 0x31 48 831).exhibit e).state ≠ .off) ∧ (atCell base 0x31 48 831).nextNumber = 1 ∧
      (atCell base 0x31 48 831).AlertLaw ∧ (atCell base 0x31 48 831).alertOf? 48 .hostAlert = none ∧
      (atCell base 0x31 48 831).alerts.length < 32) ∧
    (({ atCell base 0x31 48 256 with alerts := [entry 65535 48 .hostAlert] } : State).alertOf? 48 .hostAlert = some (entry 65535 48 .hostAlert)) ∧
    (let s := { atCell base 0x31 48 512 with alerts := fullList }
     s.AtCell 0x31 48 512 ∧ s.AlertLaw ∧ s.alertOf? 48 .hostAlert = none ∧ s.alerts.length = 32 ∧ (∀ x ∈ s.alerts, x.number ≤ 65535)) := by
  decide +kernel

/-- An order cell that names alert 1, with one entry of that number. -/
def alertCell (code : Nat) (x : Alert) : State := { atCell base code 1 0 with alerts := [x] }

theorem witness_AckAndRemoveAlert :
    (atCell (cold base) 0x32 1 0).AtCell 0x32 1 0 ∧ ((atCell base 0x32 1 0).AtCell 0x32 1 0 ∧ (atCell base 0x32 1 0).alert? 1 = none) ∧
    (alertCell 0x32 { entry 1 5 .visitorCall with acked := true }).alert? 1 = some { entry 1 5 .visitorCall with acked := true } ∧
    ((alertCell 0x32 (entry 1 5 .visitorCall)).alert? 1 = some (entry 1 5 .visitorCall) ∧
      (alertCell 0x32 (entry 1 5 .visitorCall)).RemovedByAck (entry 1 5 .visitorCall)) ∧
    ((alertCell 0x33 (entry 1 5 .visitorCall)).AtCell 0x33 1 0 ∧ (alertCell 0x33 (entry 1 5 .visitorCall)).alert? 1 ≠ none) ∧
    (atCell base 0x33 65535 0).alert? 65535 = none := by decide +kernel

theorem witness_AckAndRemoveAlert_removed :
    (∀ c ∈ [AlertCause.visitorCall, .showCall, .buttonStuck, .modelDisturbed, .hostAlert, .guardHeld],
      (alertCell 0x32 (entry 1 5 c)).RemovedByAck (entry 1 5 c)) ∧
    (alertCell 0x32 (entry 1 48 .galleryStop)).RemovedByAck (entry 1 48 .galleryStop) := by decide +kernel
theorem witness_AckAndRemoveAlert_acked :
    (∀ c ∈ [AlertCause.axisFault, .showFault], (alertCell 0x32 (entry 1 5 c)).AckedByAck (entry 1 5 c)) ∧
    (let s := alertCell 0x32 (entry 1 5 .guardHeld)
     (s.setExhibit 5 { s.exhibit 5 with guardOpen := true }).AckedByAck (entry 1 5 .guardHeld)) ∧
    ({ alertCell 0x32 (entry 1 48 .galleryStop) with stopInForce := true } : State).AckedByAck (entry 1 48 .galleryStop) := by
  decide +kernel

/-! #### Buttons and shows -/

/-- Button 37 with a filter, a hold and an entry. -/
def withHold (s : State) (f : InputFilter) (h : HoldState) (a : Action) (l : LongAction) : State :=
  let t := withButton s a l 20
  t.setButton 37 { t.button 37 with input := f, hold := h }
def openFilter : InputFilter := { pin := false, level := false, run := 0 }
def closedFilter : InputFilter := { pin := true, level := true, run := 0 }

theorem witness_ButtonReadingAndHolds :
    (base.button 37).input = openFilter ∧ base.params.debounce = 4 ∧
    (let s := withHold base { openFilter with run := 2 } .opened .none .none
     (s.button 37).input.level = false ∧ min 15 ((s.button 37).input.run + 1) < s.params.debounce) ∧
    (let s := withHold base { openFilter with run := 3 } .opened .none .none
     (s.button 37).input.level = false ∧ s.params.debounce ≤ min 15 ((s.button 37).input.run + 1)) ∧
    (((withHold base openFilter .opened (.start 5) (.call 5)).button 37).input.level = false ∧ base.reports = [] ∧
      ((withHold base openFilter .opened (.start 5) (.call 5)).button 37).entry.longAction ≠ .none) ∧
    (((withHold base closedFilter .plain (.start 5) .none).button 37).input.level = true ∧
      ((withHold base closedFilter .plain (.start 5) .none).button 37).hold ≠ .watched) := by decide +kernel
theorem witness_LongAndStuck :
    (let s := withHold (withExhibit base .ready) closedFilter .watched .none (.call 5)
     (s.button 37).hold = .watched ∧ (s.button 37).entry.longAction = .call 5 ∧ s.reports = [] ∧ s.part = .run ∧ (s.button 37).lockout = none ∧
       (s.exhibit 5).state ≠ .off ∧ (s.exhibit 5).state ≠ .locked ∧ s.alertOf? (exhibitSource 5) .visitorCall = none ∧ s.alerts.length < 32) ∧
    (let s := withHold (withExhibit base .ready) closedFilter .watched .none (.call 5)
     ((s.setButton 37 { s.button 37 with lockout := some 1 }).button 37).lockout ≠ none) ∧
    (base.button 37).hold ≠ .watched ∧
    (let s := withHold base closedFilter .longGiven .none .none
     (s.button 37).hold = .longGiven ∧ s.part = .run ∧ (s.button 37).entry.action = .none ∧ (s.button 37).entry.longAction = .none ∧
       s.alertOf? gallerySource .buttonStuck = none ∧ s.alerts.length < 32) := by decide +kernel

/-- Button 37 PLAIN with START 5, or with START 6, whose exhibit is OFF, and a long CALL 5. -/
def stuckOn (a : Action) (l : LongAction) : State := withHold (withExhibit base .faulted) closedFilter .plain a l

theorem witness_LongAndStuck_source :
    (∀ s ∈ [stuckOn (.start 5) .none, stuckOn (.start 6) (.call 5)], (s.button 37).hold = .plain ∧ s.part = .run ∧
      (s.exhibit 5).state ≠ .off ∧ s.alertOf? (exhibitSource 5) .buttonStuck = none ∧ s.alerts.length < 32) ∧
    ((stuckOn (.start 5) .none).button 37).entry.action = .start 5 ∧
    ((stuckOn (.start 6) (.call 5)).button 37).entry.longAction = .call 5 ∧
    (∀ f, ((stuckOn (.start 6) (.call 5)).button 37).entry.action = .start f ∨
      ((stuckOn (.start 6) (.call 5)).button 37).entry.action = .call f → ((stuckOn (.start 6) (.call 5)).exhibit f).state = .off) ∧
    (∀ e, ((stuckOn (.start 6) .none).button 37).entry.action = .start e → ((stuckOn (.start 6) .none).exhibit e).state = .off) := by
  decide +kernel

/-- Exhibit 5 in a state with a wait, and button 37 with START 5. -/
def startButton (st : ExhibitState) (w : Wait) : State := withHold (withExhibit (running base w) st) openFilter .opened (.start 5) .none

/-- Button 37 as its press at a closure, its short press and its long press leave it, but for a lockout. -/
def atClosure (s : State) : Button :=
  { s.button 37 with input := { pin := true, level := true, run := 0 }, holdTimer := 0, hold := .plain }
def atRelease (s : State) : Button :=
  { s.button 37 with input := { pin := false, level := false, run := 0 }, holdTimer := 0, hold := .opened }
def atThreshold (s : State) : Button :=
  { s.button 37 with hold := .longGiven, holdTimer := max (s.button 37).holdTimer (s.params.longThreshold * 100) }

theorem witness_StartPressJudged :
    (let s := startButton .faulted (.time 1)
     s.GivesPress 37 (.closure 37) (.start 5) (atClosure s) ∧ s.reports = [] ∧ (s.exhibit 5).config = some exhibitCfg ∧
       (s.exhibit 5).state ≠ .running ∧ (s.exhibit 5).state ≠ .resting ∧ (s.exhibit 5).state ≠ .ready) ∧
    (let s := startButton .running (.time 1)
     (s.button 37).lockout = none ∧ s.stopInForce = false ∧ (s.exhibit 5).guardOpen = false ∧ (s.exhibit 5).state = .running ∧
       (s.slot 5).awaitsPress = false ∧ exhibitCfg.policy = .encore) ∧
    (let s := startButton .ready (.time 1)
     (s.exhibit 5).state = .ready ∧ s.TimeStepAt exhibitCfg.defaultShow 50) ∧
    (let s := startButton .running (.press none)
     (s.slot 5).awaitsPress = true ∧ (s.slot 5).frozen = false ∧ (s.slot 5).current = some 400 ∧ s.TimeStepAt (400 + 2) 50) := by
  decide +kernel

/-- Exhibit 5 waits at address 400, and these words stand from address 402 on. -/
def stepsAt (ws : List Nat) (loops : Nat) : State :=
  let s := running base (.time 1)
  poke (s.setSlot 5 { s.slot 5 with loopCount := loops, loopStart := 400 }) 0x1192 ws

theorem witness_ShowStepsAct :
    (let s := stepsAt [0x2800, 12286] 0
     (s.slot 5).current = some 400 ∧ (s.slot 5).status = some .waiting ∧ (s.slot 5).frozen = false ∧ (s.slot 5).wait = some (.time 1) ∧
       s.reports = [] ∧ bit (s.storeWord 402) 9 = false ∧ (s.slot 5).runaway = 0 ∧ bits (s.storeWord 402) 10 6 = 10 ∧
       (s.storeWord 403).toNat = 12286 ∧ s.TimeStepAt 12286 50) ∧
    (let s := stepsAt [0x20FF, 0x1400, 1] 0
     bits (s.storeWord 402) 10 6 = 8 ∧ bits (s.storeWord 402) 0 8 = 255 ∧ (s.slot 5).loopCount = 0 ∧ s.TimeStepAt 403 1) ∧
    (let s := stepsAt [0x2400, 0x1400, 65535] 1
     bits (s.storeWord 402) 10 6 = 9 ∧ (s.slot 5).loopCount = 0 + 1 ∧ s.TimeStepAt 403 65535 ∧ s.TimeStepAt (s.slot 5).loopStart 50) ∧
    (let s := stepsAt [0x2CFF, 0x1400, 1] 0
     bits (s.storeWord 402) 10 6 = 11 ∧ s.TimeStepAt 403 1) ∧
    (let s := stepsAt [0x3400] 0
     12 < bits (s.storeWord 402) 10 6 ∧ (s.slot 5).firstFault = none ∧ s.someAxisBusy 5 = false ∧ s.pool.waiting = []) ∧
    (let s := stepsAt [0x2800, 402] 0
     bits (s.storeWord 402) 10 6 = 10 ∧ (s.storeWord 403).toNat = 400 + 2) := by decide +kernel
theorem witness_TimersExpire :
    (let s := running base (.time 1)
     (s.slot 5).current = some 400 ∧ (s.slot 5).status = some .waiting ∧ (s.slot 5).frozen = false ∧ (s.slot 5).wait = some (.time 1) ∧
       s.reports = [] ∧ s.TimeStepAt (400 + 2) 50) ∧
    (let s := waiting (stepsAt [0, 0x1400, 1] 0) (.press (some 1))
     (s.slot 5).wait = some (.press (some 1)) ∧ bits (s.storeWord 402) 10 6 = 0 ∧ s.TimeStepAt (400 + 3) 1) ∧
    (let s := running base (.time 1)
     ((s.setSlot 5 { s.slot 5 with frozen := true }).slot 5).frozen = true) ∧
    (let s := startButton .resting (.time 1)
     let t := s.setExhibit 5 { s.exhibit 5 with rest := some 0, encore := true }
     (t.exhibit 5).state = .resting ∧ (t.exhibit 5).rest ≠ none ∧ (t.exhibit 5).config = some exhibitCfg ∧ (t.exhibit 5).encore = true ∧
       (t.exhibit 5).guardOpen = false ∧ t.stopInForce = false ∧ t.TimeStepAt exhibitCfg.defaultShow 50) := by decide +kernel

/-! #### Axes -/

theorem witness_UpdateRunsAxis :
    (let s := driving base .moving
     (s.axis 2).state = .moving ∧ (s.axis 2).config = some axisCfg ∧ (s.axis 2).move = some { target := 300, speedSet := 0 } ∧
       (s.axis 2).limitAhead = false ∧ s.axisOwner 2 = none ∧ s.reports = [] ∧ (300 - (s.axis 2).pos).natAbs = 200 ∧
       (103 - (s.axis 2).encoder).natAbs ≤ axisCfg.followLimit) ∧
    (let s := driving base .stopping
     let t := s.setAxis 2 { s.axis 2 with stopBound := some 200 }
     (t.axis 2).state = .stopping ∧ (t.axis 2).stopBound = some 200 ∧ (t.axis 2).dir = some .towardHigh ∧ (t.axis 2).limitHigh.level = false ∧
       (t.axis 2).vel - (tget axisCfg.sets 0).accel = 1500 ∧ min (((t.axis 2).acc + 1500) / 1000) (200 - (t.axis 2).pos).natAbs = 1) ∧
    (let s := driving base .homing
     let t := s.setAxis 2 { s.axis 2 with dir := some .towardLow, travelled := 24999 }
     (t.axis 2).state = .homing ∧ (t.axis 2).dir = some .towardLow ∧ (t.axis 2).limitLow.level = false ∧
       (t.axis 2).travelled < axisCfg.searchDistance ∧ -8388608 < (t.axis 2).pos) ∧
    (let s := driving base .homing
     let t := s.setAxis 2 { s.axis 2 with travelled := 25000 }
     (t.axis 2).limitAhead = false ∧ (t.axis 2).travelled = axisCfg.searchDistance ∧ t.pool.waiting = []) ∧
    (base.axis 2).state = .off := by decide +kernel

/-- Axis 2 IDLE at 100 with another encoder count. -/
def pushed (n : Int) : State :=
  let s := withAxis base .idle
  s.setAxis 2 { s.axis 2 with encoder := n }

theorem witness_DisturbanceResyncs :
    (((pushed 20000).axis 2).state = .idle ∧ (pushed 20000).axisOwner 2 = none ∧ (pushed 20000).reports = [] ∧ (pushed 20000).part = .run ∧
      (pushed 20000).alertOf? gallerySource .modelDisturbed = none ∧ (pushed 20000).alerts.length < 32 ∧
      ((pushed 20000).axis 2).inWindow ((pushed 20000).axis 2).encoder = true) ∧
    ((pushed 20001).axis 2).inWindow ((pushed 20001).axis 2).encoder = false ∧ (pushed 20001).pool.waiting = [] ∧
    ((driving base .moving).axis 2).state ≠ .idle ∧ ((driving base .moving).axis 2).state ≠ .awaitPower := by decide +kernel

/-- Axis 2 in CREEP with its home switch closed. -/
def creeping : State :=
  let s := driving base .homing
  s.setAxis 2 { s.axis 2 with phase := some .creep, homeSwitch := closedFilter }

theorem witness_AxisFaultsAndSwitches :
    (let s := driving base .moving
     (s.axis 2).state.drives = true ∧ s.axisOwner 2 = none ∧ s.reports = [] ∧ s.pool.waiting = [] ∧ (s.axis 2).limitHigh.level = false ∧
       (s.axis 2).dir = some .towardHigh ∧ (s.axis 2).limitLow.level = false ∧ (s.axis 2).dir ≠ some .towardLow) ∧
    ((creeping.axis 2).state.drives = true ∧ creeping.axisOwner 2 = none ∧ (creeping.axis 2).phase = some .creep ∧
      (creeping.axis 2).homeSwitch.level = true) ∧
    ((base.axis 2).state.drives = false ∧ (base.axis 2).state ≠ .homing) ∧
    (let s := base.setAxis 2 { base.axis 2 with limitHigh := closedFilter, limitLow := closedFilter, homeSwitch := closedFilter }
     (s.axis 2).limitHigh.level = true ∧ (s.axis 2).limitLow.level = true ∧ (s.axis 2).homeSwitch.level = true ∧ (s.axis 2).state ≠ .homing) := by
  decide +kernel
theorem witness_HomingArrives :
    (let s := driving base .homing
     let t := s.setAxis 2 { s.axis 2 with phase := some .seek }
     (t.axis 2).homeSwitch.level = false ∧ (t.axis 2).config = some axisCfg ∧ (t.axis 2).state = .homing ∧ (t.axis 2).phase = some .seek) ∧
    (((withAxis base .idle).axis 2).homeSwitch.level = false ∧ ((withAxis base .idle).axis 2).state ≠ .homing) ∧
    ((creeping.axis 2).state = .homing ∧ (creeping.axis 2).phase = some .creep ∧ (creeping.axis 2).config = some axisCfg ∧
      creeping.axisOwner 2 = none ∧ creeping.reports = [] ∧ creeping.pool.waiting = []) := by decide +kernel
theorem witness_EncoderCountFollowed :
    (base.reports = [] ∧ base.axisOwner 2 = none ∧ -8388608 ≤ (base.axis 2).encoder ∧ (base.axis 2).encoder ≤ 8388607 ∧
      (base.axis 2).state = .off ∧ (base.axis 2).pos = (base.axis 2).encoder) ∧
    ((pushed 8388607).axis 2).encoder ≤ 8388607 ∧ ((pushed 8388607).axis 2).state ≠ .off ∧ ((pushed 8388607).axis 2).state ≠ .unhomed := by
  decide +kernel
theorem witness_SpeedAndImage :
    base.pending = [] ∧ base.cadence.quarter ≠ 3 ∧
    (let s := { base with cadence := { base.cadence with quarter := 3, speed := 99 } }
     s.pending = [] ∧ s.cadence.quarter = 3 ∧ s.cadence.speed = 99) := by decide +kernel

/-! #### Guards, gallery stop, lamps and alerts -/

/-- Exhibit 5 in a state with its axis IDLE or under way, before its guard line 3 opens. -/
def guardedBy (st : ExhibitState) (ax : AxisState) : State :=
  let s := driving (running base (.time 1)) ax
  s.setExhibit 5 { s.exhibit 5 with state := st }

theorem witness_GuardOpeningFreezes :
    (let s := guardedBy .ready .idle
     (s.guardLine 3).level = false ∧ s.namesGuard 5 3 = true ∧ (∀ f, f ≠ 5 → s.namesGuard f 3 = false) ∧ (s.exhibit 5).config = some exhibitCfg ∧
       s.reports = [] ∧ s.pool.waiting = [] ∧ (s.exhibit 5).state = .ready) ∧
    ((guardedBy .running .idle).exhibit 5).state = .running ∧ (guardedBy .running .idle).someAxisBusy 5 = false ∧
    ((guardedBy .guarded .idle).exhibit 5).state = .guarded ∧
    (let s := guardedBy .running .moving
     s.boundAxes 5 = [2] ∧ (s.axis 2).state = .moving ∧ (s.axis 2).move = some { target := 300, speedSet := 0 } ∧
       (s.axis 2).inWindow (s.axis 2).encoder = true ∧ s.axisOwner 2 = some 5) := by decide +kernel

/-- Exhibit 5 in a state with its settle timer at its end, and a resume record of its axis. -/
def settling (st : ExhibitState) (r : Option Request) : State :=
  let s := withAxis (running base (.time 1)) .idle
  let t := s.setExhibit 5 { s.exhibit 5 with state := st, settle := some 0, guardOpen := true, returnState := some .running }
  t.setAxis 2 { t.axis 2 with resume := r }

theorem witness_GuardClosesAndResumes :
    ((base.setGuardLine 3 closedFilter).guardLine 3).level = true ∧ (base.guardLine 3).level = false ∧
    (((settling .ready none).exhibit 5).settle ≠ none ∧ ((settling .ready none).exhibit 5).config = some exhibitCfg ∧
      (settling .ready none).reports = [] ∧ ((settling .ready none).exhibit 5).state ≠ .guarded ∧
      ((settling .ready none).exhibit 5).state ≠ .off) ∧
    (((settling .guarded none).exhibit 5).state = .guarded ∧
      (∀ a ∈ (settling .guarded none).boundAxes 5, ((settling .guarded none).axis a).resume = none) ∧
      ((settling .guarded none).slot 5).wait = some (.time 1)) ∧
    (let s := settling .guarded (some (.move 20000 3))
     s.boundAxes 5 = [2] ∧ (s.axis 2).resume = some (.move 20000 3) ∧ (s.axis 2).state = .idle ∧ (s.axis 2).homed = true ∧
       (s.axis 2).config = some axisCfg ∧ axisCfg.Holds 20000 ∧ 20000 ≠ (s.axis 2).pos ∧ s.pool.waiting = [] ∧ axisCfg.draw ≤ s.pool.free) := by
  decide +kernel
/-- Exhibit 5 GUARDED at its settle expiry, its slot frozen in a wait, its axis in a state with a resume record, and the free units. -/
def resuming (w : Wait) (ax : AxisState) (r : Request) (free : Nat) : State :=
  let s := poke (settling .guarded (some r)) 0x1193 [0x1400, 1]
  let t := s.setSlot 5 { s.slot 5 with wait := some w, frozen := true }
  let u := t.setAxis 2 { t.axis 2 with state := ax, homed := ax != .unhomed }
  { u with pool := { u.pool with free := free } }

theorem witness_GuardClosesAndResumes_home :
    (∀ ax ∈ [AxisState.unhomed, .idle], ∀ n ∈ [6, 5],
      (let s := resuming (.motion 2 .home) ax .home n
       (s.exhibit 5).settle ≠ none ∧ (s.exhibit 5).config = some exhibitCfg ∧ s.reports = [] ∧ (s.exhibit 5).state = .guarded ∧
         s.boundAxes 5 = [2] ∧ s.axisOwner 2 = some 5 ∧ (s.slot 5).frozen = true ∧ (s.axis 2).resume = some .home ∧
         (s.axis 2).state = ax ∧ (s.axis 2).config = some axisCfg ∧ s.pool.waiting = [] ∧ s.pool.free = n)) := by decide +kernel
theorem witness_GuardClosesAndResumes_move :
    (let s := resuming (.time 1) .idle (.move 20000 3) 5
     (s.axis 2).resume = some (.move 20000 3) ∧ (s.axis 2).homed = true ∧ 20000 ≠ (s.axis 2).pos ∧ s.pool.free < axisCfg.draw) ∧
    (∀ w ∈ [Wait.time 1, .motion 2 .move],
      (let s := resuming w .idle (.move 100 3) 6
       (s.exhibit 5).state = .guarded ∧ s.boundAxes 5 = [2] ∧ s.axisOwner 2 = some 5 ∧ (s.axis 2).resume = some (.move 100 3) ∧
         (s.axis 2).state = .idle ∧ (s.axis 2).homed = true ∧ (s.axis 2).config = some axisCfg ∧ axisCfg.Holds 100 ∧
         (s.axis 2).pos = 100 ∧ (s.slot 5).wait = some w ∧ (s.slot 5).status = some .waiting ∧ (s.slot 5).current = some 400 ∧
         s.TimeStepAt (400 + 3) 1)) := by decide +kernel
theorem witness_GuardAlertRaised :
    (let s := (settling .guarded none).setExhibit 5 { (settling .guarded none).exhibit 5 with guardAlert := some 0 }
     (s.exhibit 5).guardAlert ≠ none ∧ s.part = .run ∧ s.alertOf? (exhibitSource 5) .guardHeld = none ∧ s.alerts.length < 32) ∧
    (base.exhibit 5).guardAlert = none := by decide +kernel
theorem witness_GalleryStopBegins :
    (busy.estop.level = false ∧ busy.clearing = none ∧ busy.stopInForce = false ∧ busy.reports = [] ∧ busy.HeldLaw ∧ busy.UnitLaw ∧
      ∀ a, (busy.axis a).state.drives = true → (busy.axis a).inWindow (busy.axis a).encoder = true) ∧
    stopped.stopInForce = true ∧ stopped.clearing = none ∧ stopped.estop.level = false := by decide +kernel
theorem witness_GalleryStopEnds :
    (let s := { stopped with estop := closedFilter, releaseWritten := true }
     s.estop.level = true ∧ s.releaseWritten = true ∧ s.stopInForce = true) ∧
    (stopped.clearing = none ∧ stopped.estop.level = false ∧ stopped.stopInForce = true) ∧
    (let s := { stopped with estop := closedFilter }
     s.clearing = none ∧ s.stopInForce = true ∧ s.estop.level = true ∧ s.releaseWritten = false) ∧ base.stopInForce = false := by decide +kernel

/-- Channel 60 with a setting and a phase in its SHOW layer, and pattern 0 an ENVELOPE. -/
def lampAt (set : Setting) (ph : LampPhase) : State :=
  let s := { base with patterns := base.patterns.set 0 { (tget base.patterns 0) with kind := .envelope, level := 200, period := 5 } }
  s.setChannel 60 { s.channel 60 with showLayer := { setting := set, phase := ph } }

theorem witness_PhasesAndSweeps :
    (let s := lampAt (.fixed .severity1) (.blinkOn 0)
     (patternOf s.patterns ((s.channel 60).layer .showLayer).setting).isSome = true ∧ ((s.channel 60).layer .showLayer).phase = .blinkOn 0) ∧
    (let s := lampAt (.table 0) (.sweep 14 true 2 0)
     (patternOf s.patterns ((s.channel 60).layer .showLayer).setting).isSome = true ∧
       ((s.channel 60).layer .showLayer).phase = .sweep 14 true 2 0 ∧ 1 < 2) ∧
    ((base.channel 60).layer .showLayer).setting = .idle ∧ (tget (lampAt .idle .constant).patterns 0).kind = .envelope := by decide +kernel
theorem witness_PwmPeriodTakesBrightness : base.pending = [] ∧ (lampAt .idle .constant).pending = [] := by decide +kernel
theorem witness_EscalationAgeDisplay :
    (let s := ({ base with alerts := [entry 65535 5 .visitorCall] } : State).setStation 0 { base.station 0 with target := some 2 }
     s.alert? 65535 = some (entry 65535 5 .visitorCall) ∧ (entry 65535 5 .visitorCall).timer ≠ none ∧
       (entry 65535 5 .visitorCall).station = some 0 ∧ (s.station 0).target = some 2 ∧ (entry 65535 5 .visitorCall).escalations < 3) ∧
    (base.station 0).target = none ∧ busy.alerts ≠ [] ∧ base.alerts = [] ∧
    ((base.station 3).displayNumber ≤ 49 ∧ (base.station 3).displaySeverity ≤ 3) := by decide +kernel

/-! #### Clauses on holds, axes, presses, show steps, faults and stations -/

/-- Button 37 in a hold of some ms before a CONFIGURE GALLERY of 500 ms and 10 s. -/
def holding (h : HoldState) (ms : Nat) : State :=
  let s := galleryCell 2 5 10
  s.setButton 37 { s.button 37 with hold := h, holdTimer := ms }

theorem witness_ConfigureGallery_meets_holds :
    ((holding .watched 500).AtCell 0x02 0 0 ∧ (holding .watched 500).part = .run ∧ valuesOf (holding .watched 500) = [2, 5, 10]) ∧
    (((holding .watched 500).button 37).hold = .watched ∧ 5 * 100 ≤ ((holding .watched 500).button 37).holdTimer ∧
      ((holding .watched 500).button 37).holdTimer < 10 * 1000 ∧ ∀ c, c ≠ 37 → ((holding .watched 500).button c).hold = .opened) ∧
    (((holding .plain 10000).button 37).hold = .plain ∧ 10 * 1000 ≤ ((holding .plain 10000).button 37).holdTimer) ∧
    (((holding .watched 499).button 37).hold = .watched ∧ ((holding .watched 499).button 37).holdTimer < 5 * 100) := by decide +kernel

theorem witness_Configure_numbers_above :
    ((atCell base 0x03 48 0).AtCell 0x03 48 0 ∧ (atCell base 0x03 48 0).part = .run ∧ 47 < 48) ∧
    ((atCell base 0x04 16 0).AtCell 0x04 16 0 ∧ (atCell base 0x04 16 0).part = .run ∧ 15 < 16) := by decide +kernel
theorem witness_ConfigureAxis_side_change :
    (let t := axisCell base 0
     let s := t.setAxis 2 { t.axis 2 with sides := Vector.replicate 4 (some .below) }
     s.AtCell 0x04 2 0 ∧ s.part = .run ∧ s.axisRecordFault 2 = none ∧ s.axisHeld 2 = false ∧ (s.axis 2).state.busy = false ∧
       ((after .configureAxis s).axis 2).sides ≠ (s.axis 2).sides) := by decide +kernel

/-- A CLEAR cell for exhibit 5 with its axis in a state; an axis that waits stands in the list. -/
def clearCell (ax : AxisState) : State :=
  let s := motionCell 0x14 .running ax false
  { s with pool := { s.pool with waiting := if ax = .awaitPower then [{ axis := 2, draw := 6 }] else [] } }

theorem witness_ClearStopsAxes : ∀ ax ∈ [AxisState.moving, .stopping, .homing, .awaitPower, .faulted, .unhomed],
    (clearCell ax).AtCell 0x14 5 0 ∧ (clearCell ax).part = .run ∧ ((clearCell ax).exhibit 5).config = some exhibitCfg ∧
      ((clearCell ax).exhibit 5).state ≠ .off ∧ (clearCell ax).boundAxes 5 = [2] ∧ (clearCell ax).axisOwner 2 = some 5 ∧
      (clearCell ax).WaitLaw ∧ (∀ w ∈ (clearCell ax).pool.waiting, w.axis ∈ (clearCell ax).boundAxes 5) ∧
      ((clearCell ax).axis 2).state = ax ∧ ((clearCell ax).axis 2).homed = true := by decide +kernel
theorem witness_AxisOrdersRefused :
    (∀ ax ∈ [AxisState.off, .homing, .awaitPower, .moving, .stopping, .faulted],
      (axisOrder 0x20 2 0 ax).AtCell 0x20 2 0 ∧ ((axisOrder 0x20 2 0 ax).axis 2).state = ax) ∧
    (∀ ax ∈ [AxisState.off, .unhomed, .homing, .faulted],
      (axisOrder 0x21 2048 0 ax).AtCell 0x21 2048 0 ∧ 2048 / 1024 = 2 ∧ ((axisOrder 0x21 2048 0 ax).axis 2).state = ax) ∧
    (let t := axisOrder 0x21 2048 0 .awaitPower
     let s := t.setAxis 2 { t.axis 2 with request := some .home }
     s.AtCell 0x21 2048 0 ∧ s.part = .run ∧ (s.axis 2).state = .awaitPower ∧ (s.axis 2).request = some .home) := by decide +kernel

/-- Exhibit 5 is LOCKED and its axis stands in a state before an axis order. -/
def lockedOrder (code w1 w2 : Nat) (ax : AxisState) : State := atCell (driving (withExhibit base .locked) ax) code w1 w2

theorem witness_AxisOrders_of_locked :
    ((lockedOrder 0x20 2 0 .idle).axisOwner 2 = some 5 ∧ (lockedOrder 0x20 2 0 .idle).axisHeld 2 = false ∧
      (lockedOrder 0x20 2 0 .idle).Unwatched 2 ∧ ((lockedOrder 0x20 2 0 .idle).axis 2).state = .idle) ∧
    ((lockedOrder 0x21 2048 101 .moving).axisOwner 2 = some 5 ∧ (lockedOrder 0x21 2048 101 .moving).axisHeld 2 = false ∧
      (lockedOrder 0x21 2048 101 .moving).Unwatched 2 ∧ ((lockedOrder 0x21 2048 101 .moving).axis 2).state = .moving) ∧
    ((axisOrder 0x20 2 0 .unhomed).axisHeld 2 = false ∧ (axisOrder 0x20 2 0 .unhomed).Unwatched 2) := by decide +kernel
theorem witness_StopAxis_of_locked : ∀ st ∈ [AxisState.moving, .stopping, .homing, .unhomed],
    (lockedOrder 0x22 2 0 st).AtCell 0x22 2 0 ∧ (lockedOrder 0x22 2 0 st).part = .run ∧ (lockedOrder 0x22 2 0 st).axisOwner 2 = some 5 ∧
      (lockedOrder 0x22 2 0 st).axisHeld 2 = false ∧ (lockedOrder 0x22 2 0 st).Unwatched 2 ∧ ((lockedOrder 0x22 2 0 st).axis 2).state = st ∧
      (lockedOrder 0x22 2 0 st).pool.waiting = [] := by decide +kernel

/-- Axis 2 in a state with a pending move before a MOVE to a target. -/
def queuedMove (ax : AxisState) (target : Nat) : State :=
  let t := axisOrder 0x21 2048 target ax
  let s := t.setAxis 2 { t.axis 2 with request := some (.move 7 1) }
  { s with pool := { s.pool with waiting := if ax = .awaitPower then [{ axis := 2, draw := 6 }] else [] } }

theorem witness_MoveOrderQueues :
    (∀ n ∈ [100, 101], (queuedMove .awaitPower n).AtCell 0x21 2048 n ∧ (queuedMove .awaitPower n).part = .run ∧
      (queuedMove .awaitPower n).stopInForce = false ∧ (queuedMove .awaitPower n).axisHeld 2 = false ∧
      (queuedMove .awaitPower n).Unwatched 2 ∧ ((queuedMove .awaitPower n).axis 2).config = some axisCfg ∧
      ((queuedMove .awaitPower n).axis 2).state = .awaitPower ∧ ((queuedMove .awaitPower n).axis 2).request = some (.move 7 1) ∧
      ((queuedMove .awaitPower n).axis 2).pos = 100 ∧ (queuedMove .awaitPower n).pool.waiting.map (·.axis) = [2]) ∧
    max axisCfg.low (min axisCfg.high (moveTarget 2048 100)) = 100 ∧ max axisCfg.low (min axisCfg.high (moveTarget 2048 101)) = 101 ∧
    ((queuedMove .stopping 101).AtCell 0x21 2048 101 ∧ ((queuedMove .stopping 101).axis 2).state = .stopping) := by decide +kernel

/-- A severity-3 raise of the gallery's code 63 into a list. -/
def raiseInto (l : List Alert) : State := { atCell base 0x31 48 831 with alerts := l }
def secondAcked : List Alert := fullList.map fun x => if x.number = 2 then { x with acked := true } else x
def allSevere : List Alert := fullList.map fun x => { x with severity := 2 }

theorem witness_RaiseAlertDisplaces :
    (∀ l ∈ [fullList, secondAcked, allSevere], (raiseInto l).AtCell 0x31 48 831 ∧ (raiseInto l).part = .run ∧
      (∀ e, sourceExhibit 48 = some e → ((raiseInto l).exhibit e).state ≠ .off) ∧ (raiseInto l).nextNumber = 1 ∧ (raiseInto l).AlertLaw ∧
      (∀ x ∈ (raiseInto l).alerts, x.number ≤ 65535) ∧ (raiseInto l).alertOf? 48 .hostAlert = none ∧ (raiseInto l).alerts.length = 32) ∧
    (∀ x ∈ fullList[0]?, (∀ y ∈ fullList, y.acked = false) ∧ x.severity = 1) ∧
    (∀ x ∈ secondAcked[1]?, x.acked = true ∧ ∀ y ∈ secondAcked.take 1, y.acked = false) ∧
    (∀ y ∈ allSevere, y.acked = false ∧ y.severity ≠ 1) := by decide +kernel
theorem witness_RaiseAlert_turned_away :
    (atCell base 0x31 49 256).AtCell 0x31 49 256 ∧ 63 < 320 % 256 ∧ (atCell base 0x31 48 320).AtCell 0x31 48 320 ∧
    255 / 256 < 1 ∧ (atCell base 0x31 48 255).AtCell 0x31 48 255 ∧ 3 < 1024 / 256 ∧ (atCell base 0x31 48 1024).AtCell 0x31 48 1024 ∧
    ((atCell base 0x31 5 831).AtCell 0x31 5 831 ∧ ((atCell base 0x31 5 831).exhibit 5).state = .off) := by decide +kernel

/-- Exhibit 5 in a state with its axis IDLE at 100, at another encoder count. -/
def pushedBound (st : ExhibitState) (n : Int) : State :=
  let s := guardedBy st .idle
  s.setAxis 2 { s.axis 2 with encoder := n }

theorem witness_BoundDisturbance :
    (let s := pushedBound .ready 20000
     (s.axis 2).state = .idle ∧ s.axisOwner 2 = some 5 ∧ s.Unwatched 2 ∧ s.reports = [] ∧ s.part = .run ∧
       (s.axis 2).inWindow (s.axis 2).encoder = true ∧ s.alertOf? (exhibitSource 5) .modelDisturbed = none ∧ s.alerts.length < 32) := by
  decide +kernel
theorem witness_BoundAxisFaults :
    (∀ st ∈ [ExhibitState.ready, .resting, .halting, .running, .suspended, .guarded, .locked, .faulted],
      (guardedBy st .moving).axisOwner 2 = some 5 ∧ ((guardedBy st .moving).exhibit 5).config = some exhibitCfg ∧
      ((guardedBy st .moving).exhibit 5).state = st ∧ (guardedBy st .moving).reports = [] ∧ (guardedBy st .moving).pool.waiting = [] ∧
      (∀ m up, ((guardedBy st .moving).slot 5).awaitsCrossing 2 m up = false) ∧ (guardedBy st .moving).boundAxes 5 = [2] ∧
      ((guardedBy st .moving).slot 5).current = some 400 ∧ ((guardedBy st .moving).axis 2).state.drives = true ∧
      ((guardedBy st .moving).axis 2).limitHigh.level = false ∧ ((guardedBy st .moving).axis 2).dir = some .towardHigh) ∧
    ((guardedBy .ready .homing).axis 2).state = .homing ∧
    (((pushedBound .ready 20001).axis 2).state = .idle ∧
      ((pushedBound .ready 20001).axis 2).inWindow ((pushedBound .ready 20001).axis 2).encoder = false) := by decide +kernel

/-- Button 37 WATCHED with START 5 and its level closed, exhibit 5 in a state with a wait. -/
def shortPress (st : ExhibitState) (w : Wait) : State := withHold (withExhibit (running base w) st) closedFilter .watched (.start 5) .none

/-- Group 0 of exhibits 5 and 6, and button 37 with GROUP 0. -/
def groupPress : State :=
  withHold { withExhibit (running base (.time 1)) .ready with groups := base.groups.set 0 0x60#48 } openFilter .opened (.group 0) .none

/-- Exhibit 5 in a state with a list of alerts, and button 37 with CALL 5 as its action and its long action, WATCHED. -/
def callPress (st : ExhibitState) (alerts : List Alert) : State :=
  withHold { withExhibit base st with alerts := alerts } closedFilter .watched (.call 5) (.call 5)

/-- Station 0 shows entry 1. -/
def shownAt0 : State := ({ base with alerts := [entry 1 5 .visitorCall] } : State).setStation 0 { base.station 0 with shown := some 1 }
/-- The same, and button 37 has ACK 0. -/
def ackPress : State := withHold shownAt0 openFilter .opened (.ack 0) .none
/-- The same with ACK 0 as its long action too, WATCHED. -/
def ackHold : State := withHold shownAt0 closedFilter .watched (.ack 0) (.ack 0)

theorem witness_StartPressJudged_short :
    ∀ st ∈ [ExhibitState.ready, .suspended, .guarded, .halting, .faulted, .locked, .resting],
      (let s := shortPress st (.time 1)
       s.GivesPress 37 (.release 37) (.start 5) (atRelease s) ∧ s.reports = [] ∧ (s.exhibit 5).config = some exhibitCfg ∧
         (s.button 37).lockout = none ∧ (s.exhibit 5).state = st ∧ s.stopInForce = false ∧ (s.exhibit 5).guardOpen = false ∧
         s.TimeStepAt exhibitCfg.defaultShow 50) := by decide +kernel
theorem witness_StartPressJudged_short_waitPress :
    (let s := shortPress .running (.press none)
     s.GivesPress 37 (.release 37) (.start 5) (atRelease s) ∧ (s.exhibit 5).state = .running ∧ (s.slot 5).awaitsPress = true ∧
       (s.slot 5).frozen = false ∧ (s.slot 5).current = some 400 ∧ s.TimeStepAt (400 + 2) 50) := by decide +kernel
theorem witness_StartPressJudged_off :
    (let s := withHold base openFilter .opened (.start 5) .none
     s.GivesPress 37 (.closure 37) (.start 5) (atClosure s) ∧ s.reports = [] ∧ (s.exhibit 5).state = .off) := by decide +kernel
theorem witness_PressesJudged_group :
    (groupPress.GivesPress 37 (.closure 37) (.group 0) (atClosure groupPress) ∧ groupPress.reports = [] ∧
      (groupPress.button 37).lockout = none) ∧
    (let s := withHold groupPress closedFilter .watched (.group 0) .none
     s.GivesPress 37 (.release 37) (.group 0) (atRelease s)) ∧
    (groupPress.isMember 0 5 = true ∧ groupPress.GroupStarts 5 ∧ (groupPress.exhibit 5).config = some exhibitCfg ∧
      groupPress.TimeStepAt exhibitCfg.defaultShow (groupPress.storeWord (exhibitCfg.defaultShow + 1)).toNat) ∧
    (groupPress.isMember 0 6 = true ∧ ¬ groupPress.GroupStarts 6) ∧ (∀ e, groupPress.isMember 0 e = true → e = 5 ∨ e = 6) ∧
    ((groupPress.setButton 37 { groupPress.button 37 with lockout := some 3 }).button 37).lockout ≠ none := by decide +kernel
theorem witness_PressesJudged_call :
    (let s := callPress .ready []
     s.GivesPress 37 (.release 37) (.call 5) (atRelease s) ∧ s.GivesPress 37 (.longPress 37) (.call 5) (atThreshold s) ∧ s.reports = [] ∧
       s.part = .run ∧ (s.button 37).lockout = none ∧ (s.exhibit 5).state ≠ .off ∧ (s.exhibit 5).state ≠ .locked ∧
       s.alertOf? (exhibitSource 5) .visitorCall = none) ∧
    (let s := withHold (callPress .ready []) openFilter .opened (.call 5) .none
     s.GivesPress 37 (.closure 37) (.call 5) (atClosure s)) ∧
    ((callPress .off []).exhibit 5).state = .off ∧ ((callPress .locked []).exhibit 5).state = .locked := by decide +kernel
theorem witness_PressesJudged_call_list :
    (let s := callPress .guarded [entry 1 5 .visitorCall]
     s.alertOf? (exhibitSource 5) .visitorCall = some (entry 1 5 .visitorCall) ∧ s.AlertLaw ∧ (s.exhibit 5).state = .guarded) ∧
    (let s := callPress .ready ((List.finRange 32).map fun i => entry (i.val + 1) ⟨i.val + 8, by omega⟩ .visitorCall)
     s.alertOf? (exhibitSource 5) .visitorCall = none ∧ s.alerts.length = 32 ∧ s.part = .run) := by decide +kernel
theorem witness_PressesJudged_ack :
    (ackPress.GivesPress 37 (.closure 37) (.ack 0) (atClosure ackPress) ∧ ackPress.reports = [] ∧ (ackPress.button 37).lockout = none ∧
      (ackPress.station 0).holdoff = none ∧ (ackPress.station 0).shown = some (entry 1 5 .visitorCall).number ∧
      entry 1 5 .visitorCall ∈ ackPress.alerts ∧ (ackPress.alerts.map (·.number)).Nodup) ∧
    (ackHold.GivesPress 37 (.release 37) (.ack 0) (atRelease ackHold) ∧ ackHold.GivesPress 37 (.longPress 37) (.ack 0) (atThreshold ackHold)) ∧
    ((ackPress.setStation 0 { ackPress.station 0 with holdoff := some 1 }).station 0).holdoff ≠ none ∧
    ((ackPress.setStation 0 { ackPress.station 0 with shown := none }).station 0).shown = none := by decide +kernel

/-- Exhibit 5 with a rest time, an encore flag, the suspend permission and channel 30 as its show lamp 0, before the words at 402. -/
def stepsOf (ws : List Nat) (rest : Nat) (encore suspend : Bool) : State :=
  let s := stepsAt ws 0
  s.setExhibit 5 { s.exhibit 5 with
    encore := encore,
    config := some { exhibitCfg with restTime := rest, suspendAllowed := suspend, showLamps := exhibitCfg.showLamps.set 0 (some 30) } }
/-- The same with axis 2 in a state. -/
def stepsWith (ws : List Nat) (ax : AxisState) : State := driving (stepsAt ws 0) ax

/-- What every clause on a step reached as a TIME wait asks of the slot. -/
abbrev ReachedAt402 (s : State) : Prop :=
  (s.exhibit 5).state = .running ∧ (s.slot 5).current = some 400 ∧ (s.slot 5).status = some .waiting ∧ (s.slot 5).frozen = false ∧
    (s.slot 5).wait = some (.time 1) ∧ s.reports = [] ∧ (s.slot 5).runaway = 0

theorem witness_ShowSteps_end :
    (ReachedAt402 (stepsOf [0] 1 true true) ∧ bits (0x0000#16) 10 6 = 0 ∧ (stepsOf [0] 1 true true).storeWord 402 = 0) ∧
    (ReachedAt402 (stepsOf [0] 0 false true) ∧ (stepsOf [0] 0 false true).storeWord 402 = 0) ∧
    (ReachedAt402 (stepsOf [0] 0 true true) ∧ (stepsOf [0] 0 true true).TimeStepAt exhibitCfg.defaultShow 50) := by decide +kernel
theorem witness_ShowSteps_move :
    (let s := stepsWith [0x0400, 0, 300, 0x1400, 1] .idle
     ReachedAt402 s ∧ bits (s.storeWord 402) 10 6 = 1 ∧ bit (s.storeWord 402) 9 = false ∧ bit (s.storeWord 402) 8 = false ∧
       tget exhibitCfg.axes (Fin.ofNat 4 (bits (s.storeWord 402) 0 2)) = some 2 ∧ s.axisOwner 2 = some 5 ∧ (s.axis 2).config = some axisCfg ∧
       signed24 (65536 * bits (s.storeWord 403) 0 8 + (s.storeWord 404).toNat) = 300 ∧ max axisCfg.low (min axisCfg.high 300) = 300 ∧
       (s.axis 2).state = .idle ∧ 300 ≠ (s.axis 2).pos ∧ s.pool.waiting = [] ∧ axisCfg.draw ≤ s.pool.free) ∧
    (let s := stepsWith [0x0410, 0, 0, 0x1400, 1] .idle
     bit (s.storeWord 402) 4 = true ∧ signed24 (65536 * bits (s.storeWord 403) 0 8 + (s.storeWord 404).toNat) = 0 ∧
       max axisCfg.low (min axisCfg.high ((s.axis 2).pos + 0)) = (s.axis 2).pos ∧ s.TimeStepAt 405 1) ∧
    (let s := stepsWith [0x0500, 0, 300, 0x1400, 1] .stopping
     (s.axis 2).state = .stopping ∧ bit (s.storeWord 402) 8 = true ∧ s.TimeStepAt 405 1) := by decide +kernel
/-- The same with axis 2 waiting for power for a move to 7, alone in the list. -/
def stepsBehindMove (ws : List Nat) : State :=
  let s := stepsWith ws .awaitPower
  let t := s.setAxis 2 { s.axis 2 with request := some (.move 7 1) }
  { t with pool := { t.pool with waiting := [{ axis := 2, draw := 6 }] } }
theorem witness_ShowSteps_waitPress :
    (∀ n ∈ [0, 1, 65535], ReachedAt402 (stepsAt [0x1800, n] 0) ∧ ((stepsAt [0x1800, n] 0).exhibit 5).config = some exhibitCfg ∧
      bits ((stepsAt [0x1800, n] 0).storeWord 402) 10 6 = 6 ∧ bit ((stepsAt [0x1800, n] 0).storeWord 402) 9 = false ∧
      ((stepsAt [0x1800, n] 0).storeWord 403).toNat = n) := by decide +kernel
theorem witness_ShowSteps_retarget :
    (∀ w ∈ [0x0400, 0x0500], ReachedAt402 (stepsWith [w, 0, 301, 0x1400, 1] .moving) ∧
      ((stepsWith [w, 0, 301, 0x1400, 1] .moving).axis 2).state = .moving ∧
      ((stepsWith [w, 0, 301, 0x1400, 1] .moving).axis 2).isAhead 301 = true ∧
      ((stepsWith [w, 0, 301, 0x1400, 1] .moving).axis 2).isAhead 99 = false ∧ (stepsWith [w, 0, 301, 0x1400, 1] .moving).TimeStepAt 405 1) ∧
    (∀ w ∈ [0x0400, 0x0500], ReachedAt402 (stepsWith [w, 0, 300, 0x1400, 1] .stopping) ∧
      ((stepsWith [w, 0, 300, 0x1400, 1] .stopping).axis 2).state = .stopping ∧ (stepsWith [w, 0, 300, 0x1400, 1] .stopping).TimeStepAt 405 1) ∧
    bit (0x0400#16) 8 = false ∧ bit (0x0500#16) 8 = true := by decide +kernel
theorem witness_ShowSteps_replace :
    (∀ n ∈ [100, 300], ReachedAt402 (stepsBehindMove [0x0500, 0, n, 0x1400, 1]) ∧
      ((stepsBehindMove [0x0500, 0, n, 0x1400, 1]).axis 2).state = .awaitPower ∧
      ((stepsBehindMove [0x0500, 0, n, 0x1400, 1]).axis 2).request = some (.move 7 1) ∧
      ((stepsBehindMove [0x0500, 0, n, 0x1400, 1]).axis 2).pos = 100 ∧
      (stepsBehindMove [0x0500, 0, n, 0x1400, 1]).pool.waiting.map (·.axis) = [2] ∧
      (stepsBehindMove [0x0500, 0, n, 0x1400, 1]).TimeStepAt 405 1) := by decide +kernel
theorem witness_ShowSteps_home :
    (∀ w ∈ [0x0800, 0x0900], ReachedAt402 (stepsWith [w, 0x1400, 1] .unhomed) ∧
      bits ((stepsWith [w, 0x1400, 1] .unhomed).storeWord 402) 10 6 = 2 ∧ ((stepsWith [w, 0x1400, 1] .unhomed).axis 2).state = .unhomed ∧
      (stepsWith [w, 0x1400, 1] .unhomed).TimeStepAt 403 1 ∧ axisCfg.draw ≤ (stepsWith [w, 0x1400, 1] .unhomed).pool.free) ∧
    (let s := stepsWith [0x0800, 0x1400, 1] .idle
     let t := ({ s with pool := { s.pool with free := 5 } } : State)
     ReachedAt402 t ∧ (t.axis 2).state = .idle ∧ t.axisOwner 2 = some 5 ∧ t.pool.free < axisCfg.draw) ∧
    bit (0x0800#16) 8 = false ∧ bit (0x0900#16) 8 = true := by decide +kernel
theorem witness_ShowSteps_fault :
    (∀ ax ∈ [AxisState.off, .faulted, .unhomed], ReachedAt402 (stepsWith [0x0400, 0, 300] ax) ∧
      ((stepsWith [0x0400, 0, 300] ax).axis 2).state = ax ∧ ((stepsWith [0x0400, 0, 300] ax).slot 5).firstFault = none ∧
      ∀ y ∈ (stepsWith [0x0400, 0, 300] ax).boundAxes 5, ((stepsWith [0x0400, 0, 300] ax).axis y).state ≠ .homing ∧
        ((stepsWith [0x0400, 0, 300] ax).axis y).state ≠ .awaitPower) ∧
    (∀ ax ∈ [AxisState.off, .moving, .stopping], ReachedAt402 (stepsWith [0x0800] ax) ∧ ((stepsWith [0x0800] ax).axis 2).state = ax ∧
      (stepsWith [0x0800] ax).pool.waiting = []) := by decide +kernel
/-- The same with the axis waiting for power to home, alone in the list. -/
def stepsBehindHome (ws : List Nat) : State :=
  let s := stepsWith ws .awaitPower
  let t := s.setAxis 2 { s.axis 2 with request := some .home }
  { t with pool := { t.pool with waiting := [{ axis := 2, draw := 6 }] } }

theorem witness_ShowSteps_axisBusy :
    (let s := stepsWith [0x0400, 0, 300] .homing
     ReachedAt402 s ∧ bits (s.storeWord 402) 10 6 = 1 ∧ bit (s.storeWord 402) 9 = false ∧
       tget exhibitCfg.axes (Fin.ofNat 4 (bits (s.storeWord 402) 0 2)) = some 2 ∧ (s.axis 2).state = .homing ∧ s.axisOwner 2 = some 5 ∧
       s.boundAxes 5 = [2] ∧ (s.slot 5).firstFault = none ∧ s.pool.waiting = []) ∧
    (∀ ws ∈ [[0x0400, 0, 300], [0x0800]], ReachedAt402 (stepsBehindHome ws) ∧ ((stepsBehindHome ws).axis 2).state = .awaitPower ∧
      ((stepsBehindHome ws).axis 2).request = some .home ∧ (stepsBehindHome ws).axisOwner 2 = some 5 ∧
      (∀ y ∈ (stepsBehindHome ws).boundAxes 5, y = 2) ∧ (∀ w ∈ (stepsBehindHome ws).pool.waiting, w.axis = 2) ∧
      ((stepsBehindHome ws).slot 5).firstFault = none) ∧
    ReachedAt402 (stepsWith [0x0800] .homing) := by decide +kernel
theorem witness_ShowSteps_wait :
    (∀ ax ∈ [AxisState.moving, .idle], ReachedAt402 (stepsWith [0x0C00, 0x1400, 1] ax) ∧
      bits ((stepsWith [0x0C00, 0x1400, 1] ax).storeWord 402) 10 6 = 3 ∧ ((stepsWith [0x0C00, 0x1400, 1] ax).axis 2).state = ax ∧
      (stepsWith [0x0C00, 0x1400, 1] ax).TimeStepAt 403 1) ∧
    (∀ w ∈ [0x1000, 0x1010, 0x1020],
      (let t := stepsWith [w] .moving
       let s := t.setAxis 2 { t.axis 2 with config := some { axisCfg with marks := axisCfg.marks.set 0 (some 200) } }
       ReachedAt402 s ∧ bits (s.storeWord 402) 10 6 = 4 ∧ bits (s.storeWord 402) 4 2 = (w - 0x1000) / 16 ∧
         (tget (s.axis 2).marks (Fin.ofNat 4 (bits (s.storeWord 402) 2 2))).isSome = true)) := by decide +kernel
theorem witness_ShowSteps_lamp_call :
    (∀ p ∈ [31, 65535], ReachedAt402 (stepsOf [0x1C00, p, 0x1400, 1] 1 false true) ∧
      bits ((stepsOf [0x1C00, p, 0x1400, 1] 1 false true).storeWord 402) 10 6 = 7 ∧
      (∀ c ∈ ((stepsOf [0x1C00, p, 0x1400, 1] 1 false true).exhibit 5).config, tget c.showLamps 0 = some 30) ∧
      ((stepsOf [0x1C00, p, 0x1400, 1] 1 false true).storeWord 403).toNat = p ∧
      (stepsOf [0x1C00, p, 0x1400, 1] 1 false true).TimeStepAt 404 1) ∧
    (let s := stepsOf [0x30FF, 0x1400, 1] 1 false true
     ReachedAt402 s ∧ bits (s.storeWord 402) 10 6 = 12 ∧ bits (s.storeWord 402) 6 2 = 3 ∧ s.part = .run ∧
       s.alertOf? (exhibitSource 5) .showCall = none ∧ s.alerts.length < 32 ∧ s.TimeStepAt 403 1) := by decide +kernel
/-- A step of each kind but MOVE, HOME, WAIT_AXIS, WAIT_MARK and NEXT with its SUSPEND mark. -/
def suspendedSteps : List (List Nat) :=
  [[0x0200], [0x1600, 1], [0x1A00, 0], [0x1E00, 31], [0x2201], [0x2A00, 12287], [0x2E07], [0x3240]]

theorem witness_ShowSteps_passes :
    ∀ ws ∈ suspendedSteps, ∀ c ∈ ((stepsOf ws 1 false true).exhibit 5).config, (stepsOf ws 1 false true).PassesChecks 5 c 402 := by
  decide +kernel
theorem witness_ShowSteps_suspend :
    (∀ ws ∈ suspendedSteps, ReachedAt402 (stepsOf ws 1 false true) ∧ bit ((stepsOf ws 1 false true).storeWord 402) 9 = true ∧
      ((stepsOf ws 1 false true).exhibit 5).config.map (·.suspendAllowed) = some true) ∧
    (let s := stepsOf [0x2E07, 0x1400, 1] 1 false false
     ReachedAt402 s ∧ bits (s.storeWord 402) 10 6 = 11 ∧ s.TimeStepAt 403 1) := by decide +kernel

/-- Exhibit 5 waits at 400 for axis 2, which moves at a position with a velocity toward 300; steps of 10 ms stand at 401 and 403. -/
def awaiting (w : Wait) (p : Int) (v : Nat) : State :=
  let s := driving (poke (running base w) 0x1191 [0x1400, 1, 0x1400, 1]) .moving
  let c := { axisCfg with marks := axisCfg.marks.set 0 (some 103) }
  s.setAxis 2 { s.axis 2 with config := some c, pos := p, encoder := p, vel := v, sides := sidesAt c.marks p }

theorem witness_AxisReportsCompleteWaits :
    (∀ w ∈ [Wait.motion 2 .move, .axisRest 2], ((awaiting w 299 2500).axis 2).state = .moving ∧
      ((awaiting w 299 2500).axis 2).move = some { target := 300, speedSet := 0 } ∧ ((awaiting w 299 2500).axis 2).limitAhead = false ∧
      (awaiting w 299 2500).axisOwner 2 = some 5 ∧ (awaiting w 299 2500).reports = [] ∧
      ((awaiting w 299 2500).exhibit 5).state ≠ .halting ∧
      ((awaiting w 299 2500).axis 2).ProfileStep (tget axisCfg.sets 0) 300 1500 1 300 ∧
      ((awaiting w 299 2500).axis 2).RunAfter axisCfg 300 0 ∧ (awaiting w 299 2500).pool.waiting = [] ∧
      ((awaiting w 299 2500).slot 5).wait = some w ∧ ((awaiting w 299 2500).slot 5).status = some .waiting ∧
      ((awaiting w 299 2500).slot 5).frozen = false ∧ ((awaiting w 299 2500).slot 5).current = some 400 ∧
      (awaiting w 299 2500).TimeStepAt (400 + w.stepLength) 1) ∧
    (let s := awaiting (.time 1) 299 2500
     let t := (s.setExhibit 5 { s.exhibit 5 with state := .halting }).setSlot 5 Slot.reset
     (t.exhibit 5).state = .halting ∧ (t.slot 5).current = none ∧ (t.slot 5).wait = none ∧ t.boundAxes 5 = [2] ∧
       (t.axis 2).ProfileStep (tget axisCfg.sets 0) 300 1500 1 300) := by decide +kernel
/-- Exhibit 5 waits for axis 2, or is HALTING with an empty slot; the axis is STOPPING at 100 toward HIGH with a velocity of one
acceleration, which brings it to rest there in one update. -/
def halting (w : Option Wait) (r : Option Request) : State :=
  let s := awaiting (w.getD (.time 1)) 100 1000
  let t := s.setAxis 2 { s.axis 2 with state := .stopping, stopBound := some 300, request := r }
  if w = none then (t.setExhibit 5 { t.exhibit 5 with state := .halting }).setSlot 5 Slot.reset else t

/-- What each clause on a STOPPING axis that comes to rest asks. -/
abbrev StopsAt100 (s : State) : Prop :=
  (s.axis 2).state = .stopping ∧ (s.axis 2).move = some { target := 300, speedSet := 0 } ∧ (s.axis 2).stopBound = some 300 ∧
    (s.axis 2).dir = some .towardHigh ∧ (s.axis 2).limitAhead = false ∧ s.axisOwner 2 = some 5 ∧ s.reports = [] ∧
    (s.axis 2).vel - (tget axisCfg.sets 0).accel = 0 ∧ ((s.axis 2).acc + 0) / 1000 = 0 ∧ (s.axis 2).pos = 100 ∧
    (s.axis 2).RunAfter axisCfg 100 0 ∧ s.pool.waiting = []

theorem witness_AxisReportsCompleteWaits_halting :
    StopsAt100 (halting none none) ∧ ((halting none none).axis 2).request = none ∧ ((halting none none).exhibit 5).state = .halting ∧
      ((halting none none).slot 5).current = none ∧ ((halting none none).slot 5).wait = none ∧ (halting none none).boundAxes 5 = [2] := by
  decide +kernel
theorem witness_AxisReportsCompleteWaits_halting_other :
    (let s := halting none none
     let c := { exhibitCfg with axes := exhibitCfg.axes.set 1 (some 3) }
     let t := (s.setExhibit 5 { s.exhibit 5 with config := some c }).setAxis 3 { s.axis 2 with state := .stopping }
     StopsAt100 t ∧ t.boundAxes 5 = [2, 3] ∧ (t.axis 3).state.busy = true ∧ (t.exhibit 5).state = .halting) := by decide +kernel
theorem witness_AxisReportsCompleteWaits_stopping :
    ∀ x ∈ [(Wait.axisRest 2, none), (.axisRest 2, some (.move 100 1)), (.motion 2 .move, some (.move 100 1))],
      StopsAt100 (halting (some x.1) x.2) ∧ ((halting (some x.1) x.2).axis 2).request = x.2 ∧
        ((halting (some x.1) x.2).slot 5).wait = some x.1 ∧ ((halting (some x.1) x.2).slot 5).status = some .waiting ∧
        ((halting (some x.1) x.2).slot 5).frozen = false ∧ ((halting (some x.1) x.2).slot 5).current = some 400 ∧
        ((halting (some x.1) x.2).exhibit 5).state ≠ .halting ∧
        (halting (some x.1) x.2).TimeStepAt (400 + x.1.stepLength) 1 := by decide +kernel
theorem witness_UpdateRunsAxis_watched :
    (let s := awaiting (.motion 2 .move) 100 2500
     s.Uncrossed 2 ∧ ¬ s.Unwatched 2 ∧ (s.axis 2).ProfileStep (tget axisCfg.sets 0) 300 3000 3 103 ∧ (s.axis 2).RunAfter axisCfg 103 0) := by
  decide +kernel
theorem witness_AxisReportsCompleteWaits_mark :
    (∀ sense ∈ [Sense.up, .either, .down],
      (let s := awaiting (.mark 2 0 sense) 100 2500
       (s.axis 2).ProfileStep (tget axisCfg.sets 0) 300 3000 3 103 ∧ (s.axis 2).RunAfter axisCfg 103 0 ∧
         (s.slot 5).wait = some (.mark 2 0 sense) ∧ (s.exhibit 5).state ≠ .halting ∧
         tget (s.axis 2).marks 0 = some 103 ∧ tget (s.axis 2).sides 0 = some (sideOf 103 (s.axis 2).pos) ∧ (s.axis 2).pos < 103 ∧
         s.TimeStepAt (400 + 1) 1)) ∧
    (let s := awaiting (.motion 2 .home) 100 500
     let t := s.setAxis 2 { s.axis 2 with state := .homing, phase := some .creep }
     (t.axis 2).state = .homing ∧ (t.axis 2).phase = some .creep ∧ t.axisOwner 2 = some 5 ∧ t.reports = [] ∧ t.pool.waiting = [] ∧
       (t.slot 5).wait = some (.motion 2 .home) ∧ (t.slot 5).status = some .waiting ∧ (t.slot 5).current = some 400 ∧
       t.TimeStepAt (400 + 1) 1) := by decide +kernel

/-- Axis 2 MOVING at 100 whose following error has run to one update of the stall time. -/
def lagging (s : State) (st : AxisState) (f : Axis → Axis) : State :=
  let t := driving s st
  t.setAxis 2 (f { t.axis 2 with encoder := 5000, followRun := 9 })

theorem witness_UpdateRunsAxis_runs :
    (let s := driving base .moving
     (s.axis 2).ProfileStep (tget axisCfg.sets 0) 300 3000 3 103 ∧ (s.axis 2).RunAfter axisCfg 103 0 ∧ s.Unwatched 2 ∧ (103 : Int) ≠ 300) ∧
    (let s := lagging base .moving id
     (s.axis 2).RunAfter axisCfg 103 10 ∧ axisCfg.stallTime ≤ 10 ∧ s.axisOwner 2 = none ∧ s.pool.waiting = []) ∧
    (let s := driving base .moving
     let t := s.setAxis 2 { s.axis 2 with pos := 299, encoder := 299 }
     (t.axis 2).ProfileStep (tget axisCfg.sets 0) 300 1500 1 300 ∧ (t.axis 2).RunAfter axisCfg 300 0) ∧
    (let s := guardedBy .ready .moving
     s.axisOwner 2 = some 5 ∧ s.Unwatched 2 ∧ (s.axis 2).state = .moving) := by decide +kernel
theorem witness_UpdateRunsAxis_stops :
    (let s := lagging base .stopping (fun x => { x with stopBound := some 200 })
     (s.axis 2).limitAhead = false ∧ s.Unwatched 2 ∧ (s.axis 2).RunAfter axisCfg 101 10 ∧ axisCfg.stallTime ≤ 10) ∧
    (∀ d ∈ [Dir.towardHigh, .towardLow],
      (let s := driving base .stopping
       let t := s.setAxis 2 { s.axis 2 with
         dir := some d, vel := 1000, stopBound := some (if d = .towardHigh then 200 else 50), request := some (.move 100 1) }
       (t.axis 2).dir = some d ∧ (t.axis 2).limitAhead = false ∧ (t.axis 2).vel - (tget axisCfg.sets 0).accel = 0 ∧
         min (((t.axis 2).acc + 0) / 1000) ((if d = .towardHigh then 200 else 50) - (t.axis 2).pos).natAbs = 0 ∧
         (t.axis 2).RunAfter axisCfg 100 0 ∧ (t.axis 2).request = some (.move 100 1) ∧ t.pool.waiting = [])) ∧
    (let s := driving base .stopping
     let t := s.setAxis 2 { s.axis 2 with vel := 1000, stopBound := some 200, request := some (.move 99 3) }
     (t.axis 2).request = some (.move 99 3) ∧ (99 : Int) ≠ (t.axis 2).pos) := by decide +kernel
theorem witness_UpdateRunsAxis_seeks :
    (∀ d ∈ [Dir.towardHigh, .towardLow],
      (let s := driving base .homing
       let t := s.setAxis 2 { s.axis 2 with dir := some d, vel := 1000 }
       (t.axis 2).dir = some d ∧ (t.axis 2).limitAhead = false ∧ t.Unwatched 2 ∧
         min (((t.axis 2).acc + 1000) / 1000) (min (axisCfg.searchDistance - (t.axis 2).travelled)
           (if d = .towardHigh then (8388607 - (t.axis 2).pos).toNat else ((t.axis 2).pos + 8388608).toNat)) = 1 ∧
         (t.axis 2).RunAfter axisCfg (if d = .towardHigh then 101 else 99) 0)) ∧
    (let s := driving base .homing
     let t := s.setAxis 2 { s.axis 2 with pos := 8388607, encoder := 8388607 }
     (8388607 - (t.axis 2).pos).toNat = 0 ∧ t.axisOwner 2 = none ∧ t.pool.waiting = []) ∧
    (let s := lagging base .homing (fun x => { x with vel := 1000 })
     (s.axis 2).RunAfter axisCfg 101 10 ∧ (s.axis 2).travelled < axisCfg.searchDistance) ∧
    (let s := lagging base .idle id
     (s.axis 2).state = .idle ∧ (s.axis 2).RunAfter axisCfg (s.axis 2).pos 10 ∧ axisCfg.stallTime ≤ 10) ∧
    (let s := driving base .awaitPower
     (s.axis 2).RunAfter axisCfg (s.axis 2).pos 0) := by decide +kernel

/-- A show runs while its model stands outside the window. -/
def strayed : State := busy.setAxis 2 { busy.axis 2 with encoder := 20001 }

theorem witness_GalleryStop_faults :
    busy.SlotLaw ∧ strayed.estop.level = false ∧ strayed.clearing = none ∧ strayed.stopInForce = false ∧ strayed.reports = [] ∧
    strayed.SlotLaw ∧ strayed.HeldLaw ∧ strayed.UnitLaw ∧ strayed.axisOwner 2 = some 5 ∧ (strayed.axis 2).state = .moving ∧
    (strayed.axis 2).inWindow (strayed.axis 2).encoder = false ∧ (strayed.exhibit 5).state = .running ∧ strayed.part = .run ∧
    strayed.alerts.length ≤ 15 := by decide +kernel

theorem witness_PhaseStepEndsSweep :
    (∀ rising ∈ [true, false],
      (let s := lampAt (.table 0) (.sweep (if rising then 15 else 0) rising 1 0)
       (patternOf s.patterns ((s.channel 60).layer .showLayer).setting).isSome = true ∧
         ((s.channel 60).layer .showLayer).phase = .sweep (if rising then 15 else 0) rising 1 0)) ∧
    ((lampAt (.table 0) (.hold 7)).channel 60).showLayer.phase = .hold 7 ∧
    (let s := atCell base 0x30 60 0
     s.AtCell 0x30 60 0 ∧ s.part = .run ∧ s.channelOwner 60 = none ∧ (tget s.patterns 0).kind = .off) := by decide +kernel

/-- Station 0 shows the one entry, of exhibit 5, on its display. -/
def showing : State :=
  ({ base with alerts := [entry 1 5 .visitorCall] } : State).setStation 0
    { base.station 0 with shown := some 1, displayEnable := true, displayNumber := 6, displaySeverity := 1 }

theorem unbound_showing (e : ExhibitNo) : (showing.exhibit e).inForce = none := by revert e; decide +kernel
theorem callLamp_of_showing (st : StationNo) : (showing.station st).callLamp = none := by revert st; decide +kernel
theorem witness_ShownAlertSelected :
    showing.ShownLaw ∧ showing.AlertLaw ∧ showing.SlotLaw ∧ showing.BindLaw ∧ showing.PresentLaw := by
  refine ⟨by decide +kernel, by decide +kernel, by decide +kernel, ?_, by decide +kernel⟩
  refine ⟨fun a e f h => ?_, fun ch e f h => ?_, fun ch e st _ => ?_, fun ch st u h => ?_⟩
  · obtain ⟨c, hc, -⟩ := h
    rw [unbound_showing] at hc
    cases hc
  · obtain ⟨c, hc, -⟩ := h
    rw [unbound_showing] at hc
    cases hc
  · rw [callLamp_of_showing]; simp
  · rw [callLamp_of_showing] at h; cases h
theorem witness_StationsSelect :
    (∀ code ∈ [0x32, 0x33], (alertCell code (entry 1 5 .visitorCall)).AtCell code 1 0 ∧ (alertCell code (entry 1 5 .visitorCall)).part = .run ∧
      (alertCell code (entry 1 5 .visitorCall)).AlertLaw ∧ (alertCell code (entry 1 5 .visitorCall)).nextNumber = 1) ∧
    ((atCell base 0x31 48 831).AtCell 0x31 48 831 ∧ (∀ e, sourceExhibit 48 = some e → ((atCell base 0x31 48 831).exhibit e).state ≠ .off) ∧
      (atCell base 0x31 48 831).alerts.length < 32) ∧
    ({ atCell base 0x31 48 256 with alerts := [entry 65535 48 .hostAlert] } : State).alertOf? 48 .hostAlert ≠ none := by decide +kernel
theorem witness_EscalationAgeDisplay_frames :
    (∀ n ∈ [38, 39, 40], ({ base with cadence := { base.cadence with frame := n } } : State).pending = []) ∧ base.cadence.frame < 39 := by
  decide +kernel

/-- Station 0 shows entry 1 at a CONFIGURE STATIONS that takes its call lamp 60 for station 1 and gives it channel 61. -/
def stationsCell : State :=
  let s := poke base (addrStation 0) [1, 1, 5, 61, 1, 0, 0, 0, 2, 2, 7, 60, 1, 0, 0, 0, 4, 0xFFFF, 9, 0xFFFF, 0, 0, 0, 0, 8, 0xFFFF, 9, 63, 0]
  let t := ({ s with alerts := [entry 1 5 .visitorCall] } : State).setStation 0 { s.station 0 with shown := some 1, callLamp := some 60 }
  atCell (t.setStation 2 { t.station 2 with callLamp := some 62 }) 0x08 0 0

theorem witness_ConfigureStations_lamps :
    stationsCell.AtCell 0x08 0 0 ∧ stationsCell.part = .run ∧ stationsCell.stationRecordFault = none ∧
    (((after .configureStations stationsCell).station 0).callLamp = some 61 ∧ stationsCell.shownAlert 0 = some (entry 1 5 .visitorCall)) ∧
    (((after .configureStations stationsCell).station 1).callLamp = some 60 ∧ stationsCell.shownAlert 1 = none) ∧
    ((stationsCell.station 2).callLamp = some 62 ∧ ∀ st, ((after .configureStations stationsCell).station st).callLamp ≠ some 62) ∧
    (∀ st, (stationsCell.station st).callLamp ≠ some 0 ∧ ((after .configureStations stationsCell).station st).callLamp ≠ some 0) := by
  decide +kernel

theorem witness_EncoderCountFollowed_bound :
    (let s := guardedBy .ready .unhomed
     s.reports = [] ∧ s.axisOwner 2 = some 5 ∧ (∀ m up, (s.slot 5).awaitsCrossing 2 m up = false) ∧ (s.axis 2).state = .unhomed ∧
       (s.axis 2).pos = (s.axis 2).encoder) ∧
    (let s := guardedBy .running .moving
     s.axisOwner 2 = some 5 ∧ (∀ m up, (s.slot 5).awaitsCrossing 2 m up = false) ∧ (s.axis 2).state ≠ .off ∧ (s.axis 2).state ≠ .unhomed) := by
  decide +kernel

/-- Exhibit 5 in a state with its axis in another, at an encoder count, before its guard line 3 opens; an axis that waits stands in the
list, and a HALTING exhibit has an empty slot. -/
def openingAt (st : ExhibitState) (ax : AxisState) (n : Int) : State :=
  let s := guardedBy st ax
  let t := s.setAxis 2 { s.axis 2 with encoder := n, request := if ax = .awaitPower ∨ ax = .stopping then some (.move 250 1) else none }
  let u := { t with pool := { t.pool with waiting := if ax = .awaitPower then [{ axis := 2, draw := 6 }] else [] } }
  if st = .halting then u.setSlot 5 Slot.reset else u

theorem witness_GuardOpeningStopsAxes :
    (∀ st ∈ [ExhibitState.running, .suspended], ∀ ax ∈ [AxisState.moving, .stopping, .homing, .awaitPower, .idle, .faulted],
      ((openingAt st ax 120).guardLine 3).level = false ∧ (openingAt st ax 120).namesGuard 5 3 = true ∧
      (∀ f, f ≠ 5 → (openingAt st ax 120).namesGuard f 3 = false) ∧ ((openingAt st ax 120).exhibit 5).config = some exhibitCfg ∧
      (openingAt st ax 120).reports = [] ∧ (openingAt st ax 120).boundAxes 5 = [2] ∧ (openingAt st ax 120).axisOwner 2 = some 5 ∧
      (openingAt st ax 120).WaitLaw ∧ ((openingAt st ax 120).exhibit 5).state = st ∧
      (∀ w ∈ (openingAt st ax 120).pool.waiting, w.axis = 2) ∧ ((openingAt st ax 120).axis 2).state = ax ∧
      ((openingAt st ax 120).axis 2).inWindow ((openingAt st ax 120).axis 2).encoder = true) := by decide +kernel
theorem witness_GuardOpeningStopsAxes_travel :
    (∀ st ∈ [ExhibitState.running, .suspended], ((openingAt st .stopping 20001).slot 5).current = some 400 ∧
      (openingAt st .stopping 20001).WaitLaw ∧ ((openingAt st .stopping 20001).axis 2).state = .stopping ∧
      ((openingAt st .stopping 20001).axis 2).inWindow ((openingAt st .stopping 20001).axis 2).encoder = false) ∧
    (∀ n ∈ [120, 20001], ((openingAt .halting .stopping n).exhibit 5).state = .halting ∧
      ((openingAt .halting .stopping n).slot 5).current = none ∧ (openingAt .halting .stopping n).pool.waiting = [] ∧
      (openingAt .halting .stopping n).boundAxes 5 = [2] ∧ (openingAt .halting .stopping n).axisOwner 2 = some 5 ∧
      (openingAt .halting .stopping n).WaitLaw ∧ ((openingAt .halting .stopping n).axis 2).state = .stopping ∧
      ((openingAt .halting .stopping n).axis 2).inWindow ((openingAt .halting .stopping n).axis 2).encoder = decide (n = 120)) := by
  decide +kernel

/-! ### One-step results from the manual's tables -/

/-- Axis 2 MOVING to 40 on speed set 0 of Table 4-4, at a position with a velocity. -/
def table44 (p : Int) (v : Nat) : State :=
  let s := driving base .moving
  let c := { axisCfg with sets := Vector.replicate 4 { vs := 2000, vmax := 6000, accel := 1000 } }
  s.setAxis 2 { s.axis 2 with config := some c, pos := p, encoder := p, vel := v, move := some { target := 40, speedSet := 0 } }

/-- Table 4-4, updates 1 and 6. -/
theorem test_axisUpdate_table_4_4 :
    ((after (.axisUpdate 2) (table44 0 2000)).axis 2).pos = 3 ∧ ((after (.axisUpdate 2) (table44 0 2000)).axis 2).vel = 3000 ∧
    ((after (.axisUpdate 2) (table44 24 6000)).axis 2).pos = 29 ∧ ((after (.axisUpdate 2) (table44 24 6000)).axis 2).vel = 5000 := by
  decide +kernel
/-- Table 4-4, update 10: the target is reached, the axis is IDLE and its units are back. -/
theorem test_axisUpdate_reaches_target :
    ((after (.axisUpdate 2) (table44 38 2000)).axis 2).state = .idle ∧ (after (.axisUpdate 2) (table44 38 2000)).pool.free = 32 := by
  decide +kernel
/-- Table 4-6, first row: a MOVE to 0, behind a MOVING axis at 200, stops it first. -/
theorem test_move_behind_stops :
    (let s := driving base .moving
     let t := atCell (s.setAxis 2 { s.axis 2 with pos := 200, vel := 3000 }) 0x21 (2048 + 256) 0
     ((after .move t).axis 2).state = .stopping ∧ ((after .move t).axis 2).request = some (.move 0 1) ∧ ((after .move t).axis 2).vel = 3000) := by
  decide +kernel
/-- R98, Table 10-3: a target above HIGH is clamped, with detail 1. -/
theorem test_move_clamps : answer .move (axisOrder 0x21 2048 20001 .idle) = (0, 1) := by decide +kernel
/-- Table 5-4, first rows: HOME loads HOME_VALUE and seeks at the seek speed. -/
theorem test_home_seeks :
    ((after .home (axisOrder 0x20 2 0 .unhomed)).axis 2).phase = some .seek ∧
      ((after .home (axisOrder 0x20 2 0 .unhomed)).axis 2).vel = 1000 ∧ ((after .home (axisOrder 0x20 2 0 .unhomed)).axis 2).pos = 50 := by
  decide +kernel
/-- Table 5-4, closing recognised: CREEP at the creep speed. -/
theorem test_homeSwitchClosing_creeps :
    (let s := driving base .homing
     let t := after (.homeSwitchClosing 2) (s.setAxis 2 { s.axis 2 with phase := some .seek })
     (t.axis 2).phase = some .creep ∧ (t.axis 2).vel = 500) := by decide +kernel
/-- Table 5-4, last row: the index ends the homing at HOME_VALUE. -/
theorem test_indexEvent_arrives :
    ((after (.indexEvent 2) creeping).axis 2).state = .idle ∧ ((after (.indexEvent 2) creeping).axis 2).pos = 50 ∧
      ((after (.indexEvent 2) creeping).axis 2).homed = true := by decide +kernel
/-- R109: the switch opens in CREEP. -/
theorem test_homeSwitchOpening_fails : ((after (.homeSwitchOpening 2) creeping).axis 2).cause = some .homeFail := by decide +kernel
/-- R109: the search distance is spent. -/
theorem test_homeSearchExhausted_fails : ((after (.homeSearchExhausted 2) creeping).axis 2).cause = some .homeFail := by decide +kernel
/-- Table 6-1, last row: the removal of the head lets the next axis be granted. -/
theorem test_stopAxis_removal_scans :
    (let s := withAxis base .awaitPower
     let t := s.setAxis 8 { s.axis 2 with request := some (.move 300 0), config := some { axisCfg with draw := 2 } }
     let u := atCell { t with pool := { t.pool with free := 6, waiting := [{ axis := 2, draw := 8 }, { axis := 8, draw := 2 }] } } 0x22 2 0
     (after .stopAxis u).pool.free = 4 ∧ ((after .stopAxis u).axis 8).state = .moving ∧ ((after .stopAxis u).axis 2).state = .idle) := by
  decide +kernel
/-- R94: a homed axis within its window is IDLE after RESTORE AXIS. -/
theorem test_restoreAxis_idle : ((after .restoreAxis (axisOrder 0x23 2 0 .faulted)).axis 2).state = .idle := by decide +kernel
/-- R80: an OFF axis follows its encoder. -/
theorem test_encoderCountChange_follows : ((after (.encoderCountChange 2 (-3)) base).axis 2).pos = -3 := by decide +kernel
/-- R95: 100 counts in 100 ms are 1000 counts/s. -/
theorem test_speedMeasurement_scales : ((after (.speedMeasurement 2) (pushed 100)).axis 2).measuredSpeed = 1000 := by decide +kernel
/-- Table 10-10: word 0 of the axis image holds the state, IDLE being 6. -/
theorem test_axisImageRefresh_writes :
    ((after (.axisImageRefresh 2) (pushed 100)).word (addrAxisImage 2)).toNat % 16 = 6 := by decide +kernel
/-- R90: the disturbance re-syncs and is marked for the axis. -/
theorem test_disturbance_resyncs :
    ((after (.disturbance 2) (pushed 300)).axis 2).pos = 300 ∧ (after (.disturbance 2) (pushed 300)).gallery.disturbed = 4#16 := by
  decide +kernel
/-- R91. -/
theorem test_stall_faults : ((after (.stall 2) (driving base .moving)).axis 2).cause = some .stall := by decide +kernel
/-- R92: only the switch ahead faults. -/
theorem test_limitAsserted_ahead :
    ((after (.limitAsserted 2 .high) (driving base .moving)).axis 2).cause = some .limit ∧
      ((after (.limitAsserted 2 .low) (driving base .moving)).axis 2).state = .moving := by decide +kernel
/-- R92. -/
theorem test_limitReleased_level :
    (let s := base.setAxis 2 { base.axis 2 with limitHigh := closedFilter }
     ((after (.limitReleased 2 .high) s).axis 2).limitHigh.level = false) := by decide +kernel
/-- R25 with N = 4: the fourth differing reading closes the button. -/
theorem test_buttonReading_debounces :
    ((after (.buttonReading 37 true) (withHold base { openFilter with run := 3 } .opened .none .none)).button 37).hold = .plain ∧
    ((after (.buttonReading 37 true) (withHold base { openFilter with run := 2 } .opened .none .none)).button 37).hold = .opened := by
  decide +kernel
/-- Table 2-7, time 12: a button with a long action is WATCHED. -/
theorem test_closure_watched :
    ((after (.closure 37) (withHold base openFilter .opened (.start 5) (.call 5))).button 37).hold = .watched := by decide +kernel
/-- Table 2-7, time 412: the short press starts the default show and the lockout of 2000 ms. -/
theorem test_release_gives_short_press :
    (let s := withHold (withExhibit (running base (.time 1)) .ready) closedFilter .watched (.start 5) (.call 5)
     ((after (.release 37) s).exhibit 5).state = .running ∧ ((after (.release 37) s).button 37).lockout = some 2000 ∧
       ((after (.release 37) s).exhibit 5).accepted = 1) := by decide +kernel
/-- Table 2-7, time 1300: a press within the lockout is ignored. -/
theorem test_release_within_lockout :
    (let s := withHold (withExhibit base .running) closedFilter .watched (.start 5) (.call 5)
     let t := s.setButton 37 { s.button 37 with lockout := some 1112 }
     ((after (.release 37) t).exhibit 5).ignored = 1 ∧ ((after (.release 37) t).button 37).lockout = some 1112) := by decide +kernel
/-- R36. -/
theorem test_lockoutExpiry_clears :
    (let s := base.setButton 37 { base.button 37 with lockout := some 0 }
     ((after (.lockoutExpiry 37) s).button 37).lockout = none) := by decide +kernel
/-- R62: NEXT at a loop count of 1 closes the loop. -/
theorem test_timeWaitExpiry_next_closes :
    ((after (.timeWaitExpiry 5) (stepsAt [0x2400, 0x1400, 1] 1)).slot 5).current = some 403 ∧
      ((after (.timeWaitExpiry 5) (stepsAt [0x2400, 0x1400, 1] 1)).slot 5).wait = some (.time 10) := by decide +kernel
/-- R50: NEXT without a loop is STEP_INVALID at its address. -/
theorem test_timeWaitExpiry_next_unopened :
    ((after (.timeWaitExpiry 5) (stepsAt [0x2400] 0)).slot 5).firstFault = some { code := .stepInvalid, address := 402 } := by decide +kernel
/-- R60: the END after a WAIT_PRESS that times out is skipped. -/
theorem test_pressTimeout_skips :
    ((after (.pressTimeout 5) (waiting (stepsAt [0, 0x1400, 1] 0) (.press (some 0)))).slot 5).current = some 403 := by decide +kernel
/-- R6: without an encore flag the rest ends in READY. -/
theorem test_restExpiry_ready :
    (let s := startButton .resting (.time 1)
     ((after (.restExpiry 5) (s.setExhibit 5 { s.exhibit 5 with rest := some 0 })).exhibit 5).state = .ready) := by decide +kernel
/-- Table 10-3 and Table 3-6. -/
theorem test_startShow_absent : answer .startShow (atCell base 0x10 5 0xFFFF) = (3, 0) := by decide +kernel
/-- Table 10-12: RUNNING is 2. -/
theorem test_startShow_notNow : answer .startShow (showCell 0x10 .running 0) = (2, 2) := by decide +kernel
theorem test_resume_runs : ((after .resume resumeCell).exhibit 5).state = .running := by decide +kernel
/-- R10, R74. -/
theorem test_halt_waits_for_axis : ((after .halt (motionCell 0x12 .running .moving false)).exhibit 5).state = .halting := by decide +kernel
/-- R75: a running show goes on. -/
theorem test_cancel_drops_encore :
    ((after .cancel (motionCell 0x13 .running .idle true)).exhibit 5).state = .running ∧
      ((after .cancel (motionCell 0x13 .running .idle true)).exhibit 5).encore = false := by decide +kernel
/-- R17: CLEAR of a LOCKED exhibit leaves it LOCKED. -/
theorem test_clear_locked : ((after .clear (showCell 0x14 .locked 0)).exhibit 5).state = .locked := by decide +kernel
theorem test_lock_ready : ((after .lock (showCell 0x15 .ready 0)).exhibit 5).state = .locked := by decide +kernel
/-- R15: a FAULTED bound axis. -/
theorem test_unlock_faulted : ((after .unlock (motionCell 0x16 .locked .faulted false)).exhibit 5).state = .faulted := by decide +kernel
/-- R16: an axis that is not homed becomes UNHOMED. -/
theorem test_restore_unhomed : ((after .restore (restoreCell false)).axis 2).state = .unhomed := by decide +kernel
/-- R190: a code Table 10-4 does not list. -/
theorem test_unknownOrder_answered : answer .unknownOrder (atCell base 0x09 0 0) = (6, 0) := by decide +kernel
/-- R185. -/
theorem test_clearCold_in_run : answer .clearCold (atCell base 0x01 0 0) = (2, 0) := by decide +kernel
/-- R33: the debounce count is field 1. -/
theorem test_configureGallery_field_1 : answer .configureGallery (galleryCell 16 5 10) = (4, 1) := by decide +kernel
/-- R2: the enable field is field 1. -/
theorem test_configureExhibit_bad_enable : answer .configureExhibit (exhibitCell base [2]) = (4, 1) := by decide +kernel
/-- R3: OFF to READY. -/
theorem test_configureExhibit_ready :
    ((after .configureExhibit (exhibitCell base recordYes)).exhibit 5).state = .ready ∧
      ((after .configureExhibit lampCell).channel 21).alertLayer.setting = .fixed .severity1 := by decide +kernel
/-- R78: HIGH must exceed LOW by 64, field 2. -/
theorem test_configureAxis_narrow_window : answer .configureAxis (axisCell base 19937) = (4, 2) := by decide +kernel
/-- R79: OFF to UNHOMED. -/
theorem test_configureAxis_unhomed : ((after .configureAxis (axisCell base 0)).axis 2).state = .unhomed := by decide +kernel
/-- R31: the first failing button. -/
theorem test_configureButtons_bad_entry : answer .configureButtons (buttonsCell 0xF000 0) = (4, 0) := by decide +kernel
/-- Table 10-7: exhibit 16 is bit 0 of the second word of group 0. -/
theorem test_configureGroups_members :
    (after .configureGroups (atCell (poke base 0xB30 [0, 1]) 0x06 0 0)).isMember 0 16 = true := by decide +kernel
/-- R151: 32 plus the channel. -/
theorem test_configureLamps_bad_channel : answer .configureLamps (atCell (poke base (addrChannel 63) [0xFFFF]) 0x07 0 0) = (4, 95) := by
  decide +kernel
theorem test_setLamp_bad_pattern : answer .setLamp (atCell base 0x30 63 32) = (4, 0) := by decide +kernel
/-- R153: an unbound channel takes 0xFFFF as idle. -/
theorem test_setLamp_idle : answer .setLamp (atCell base 0x30 0 65535) = (0, 0) := by decide +kernel
/-- R175: the detail is the alert number. -/
theorem test_raiseAlert_number : answer .raiseAlert (atCell base 0x31 48 256) = (0, 1) := by decide +kernel
theorem test_removeAlert_absent : answer .removeAlert (atCell base 0x33 9 0) = (3, 0) := by decide +kernel
/-- R165: a GALLERY_STOP entry whose stop is in force stays, ACKED. -/
theorem test_ackAlert_stop_in_force :
    (after .ackAlert { alertCell 0x32 (entry 1 48 .galleryStop) with stopInForce := true }).alerts.map (·.acked) = [true] := by decide +kernel
/-- R188: 65 cells are refused, DECK_REFUSED being bit 2 of ATTN. -/
theorem test_deckCtlWrite_refused : (after (.deckCtlWrite 65) base).attn = 4#4 := by decide +kernel
/-- R188: 64 cells start a walk, which DECK_STATE shows as 1. -/
theorem test_deckCtlWrite_starts : (after (.deckCtlWrite 64) base).word 1 = 1 := by decide +kernel
/-- R192. -/
theorem test_nbStateWrite_gives_back : (after (.nbStateWrite 0) fullBox).notice.full = false := by decide +kernel
/-- R191: the gallery follows exhibit sources in the order from the last posted one, 48. -/
theorem test_noticeFill_takes_5 : (after .noticeFill twoSources).notice = { full := true, lastPosted := 5 } := by decide +kernel
/-- R182, R183. -/
theorem test_mask_and_attn :
    (after (.interruptMaskWrite 0x7FF5) base).mask = 5#4 ∧ (after (.attnClear 0x0001) { base with attn := 3 }).attn = 2#4 := by decide +kernel
/-- R187. -/
theorem test_partReset_cold : (after (.partReset 0x8001) base).part = .cold := by decide +kernel
/-- R186: 2 ms. -/
theorem test_powerOnReset_clears : (after .powerOnReset base).clearing = some 2 := by decide +kernel
theorem test_ramClearingEnd_ends : (after .ramClearingEnd State.reset).clearing = none := by decide +kernel
/-- R178: both selects lose the write. -/
theorem test_exchangeRamWrite_both_selects : (after (.exchangeRamWrite true 5 7) base).word 5 = 0 := by decide +kernel
theorem test_exchangeRamWrite_lands : (after (.exchangeRamWrite false 16383 7) base).word 16383 = 7 := by decide +kernel
/-- R135: a write of 2 with the pin asserted is the first half of the release. -/
theorem test_releaseRequest_first_half : (after .releaseRequest { stopped with estop := closedFilter }).releaseWritten = true := by decide +kernel
/-- R138. -/
theorem test_estopRelease_ends_stop :
    (after .estopRelease { stopped with estop := closedFilter, releaseWritten := true }).stopInForce = false := by decide +kernel
/-- R136: STOP_CHANGE is bit 3 of ATTN, and STOP_ON is set in RUN. -/
theorem test_stopRequest_begins :
    (after .stopRequest base).stopInForce = true ∧ (after .stopRequest base).attn = 8#4 ∧ (after .stopRequest base).gallery.stopOn = true := by
  decide +kernel
/-- R134: under a stop in force the host's release is withdrawn. -/
theorem test_estopAssertion_withdraws : (after .estopAssertion { stopped with releaseWritten := true }).releaseWritten = false := by
  decide +kernel
/-- R129: the show is frozen and the move kept. -/
theorem test_guardOpening_freezes :
    ((after (.guardOpening 3) (guardedBy .running .moving)).exhibit 5).state = .guarded ∧
      ((after (.guardOpening 3) (guardedBy .running .moving)).axis 2).resume = some (.move 300 0) := by decide +kernel
/-- R130: 10 × 100 ms. -/
theorem test_guardClosing_settles :
    (let s := (guardedBy .ready .idle).setGuardLine 3 closedFilter
     ((after (.guardClosing 3) (s.setExhibit 5 { s.exhibit 5 with guardOpen := true })).exhibit 5).settle = some 1000) := by decide +kernel
/-- R131. -/
theorem test_settleExpiry_resumes :
    ((after (.settleExpiry 5) (settling .guarded (some (.move 20000 3)))).exhibit 5).state = .running ∧
      ((after (.settleExpiry 5) (settling .guarded (some (.move 20000 3)))).axis 2).state = .moving := by decide +kernel
/-- R133: severity 2. -/
theorem test_guardAlertExpiry_raises :
    (let s := settling .guarded none
     (after (.guardAlertExpiry 5) (s.setExhibit 5 { s.exhibit 5 with guardAlert := some 0 })).alerts.map (·.severity) = [2]) := by decide +kernel
/-- R28: the long press raises VISITOR_CALL for exhibit 5. -/
theorem test_longPress_calls :
    (after (.longPress 37) (withHold (withExhibit base .ready) closedFilter .watched .none (.call 5))).alerts.map
      (fun x => (x.source, x.cause)) = [(5, .visitorCall)] := by decide +kernel
/-- R29. -/
theorem test_stuck_holds : ((after (.stuck 37) (withHold base closedFilter .plain .none .none)).button 37).hold = .stuck := by decide +kernel
/-- Table 8-7, period 8: e = 7 shows floor(200 × 7 / 15). -/
theorem test_lampPhaseStep_envelope :
    ((after (.lampPhaseStep 60 .showLayer) (lampAt (.table 0) (.sweep 6 true 10 0))).channel 60).brightness = 93 := by decide +kernel
/-- Table 8-6, time 3500: the off phase of a call under OVER shows dark. -/
theorem test_lampPhaseStep_blink :
    (let s := lampAt (.table 0) (.hold 15)
     let t := s.setChannel 60 { s.channel 60 with alertLayer := { setting := .fixed .severity1, phase := .blinkOn 0 } }
     ((after (.lampPhaseStep 60 .alertLayer) t).channel 60).brightness = 0) := by decide +kernel
theorem test_pwmPeriod_outputs :
    (let s := base.setChannel 60 { base.channel 60 with brightness := 128 }
     ((after .pwmPeriod s).channel 60).lampOn 127 = true ∧ ((after .pwmPeriod s).channel 60).lampOn 128 = false) := by decide +kernel
/-- Table 9-5, time 30: the entry moves to the target station. -/
theorem test_escalationExpiry_moves :
    (let s := ({ base with alerts := [entry 7 14 .buttonStuck] } : State).setStation 0 { base.station 0 with target := some 2 }
     (after (.escalationExpiry 7) s).alerts.map (fun x => (x.station, x.escalations)) = [(some 2, 1)]) := by decide +kernel
/-- R176: the age stays at 65535. -/
theorem test_ageStep_saturates : (after .ageStep busy).alerts.map (·.age) = [65535] := by decide +kernel
theorem test_holdoffExpiry_clears :
    ((after (.holdoffExpiry 3) (base.setStation 3 { base.station 3 with holdoff := some 0 })).station 3).holdoff = none := by decide +kernel
/-- R194: bits 15…8 the number, bits 1…0 the severity. -/
theorem test_displayFrame_layout :
    ((after (.displayFrame 3) (base.setStation 3 { base.station 3 with displayNumber := 49, displaySeverity := 3 })).station 3).frame = 0x3103 := by
  decide +kernel
/-- R135, Table 10-2. -/
theorem test_registerWriteNoEffect_inert : exec (.registerWriteNoEffect .stop 3) base = .next base := rfl
/-- The clock: a quarter later the next row is driven. -/
theorem test_idle_step_moves_row : (match step base with
    | .next t => t.row
    | .fault _ => 0
    | .refused _ => 0) = 1 := by decide +kernel
/-- R194: the highest bit of the frame is the first bit sent. -/
theorem test_frameBit_first_is_highest :
    (let x := { base.station 3 with frame := 0x3102 }
     (List.finRange 16).map x.frameBit =
       [false, false, true, true, false, false, false, true, false, false, false, false, false, false, true, false]) := by decide +kernel
/-- R194: 10 ms after the last frame the next begins on each bus. -/
theorem test_idle_step_begins_frames :
    (match step { base with cadence := { base.cadence with frame := 39 } } with
    | .next t => t.pending
    | .fault _ => []
    | .refused _ => []) = [.displayFrame 0, .displayFrame 1, .displayFrame 2, .displayFrame 3] := by decide +kernel
/-- R141: a phase step that falls due is carried out before what the same tick brings. -/
theorem test_idle_step_phase_before_order :
    (let s := lampAt (.table 0) (.sweep 6 true 10 1)
     let t := { atCell s 0x30 60 0 with cadence := { s.cadence with quarter := 3 } }
     (match step t with
      | .next u => u.pending.take 2
      | .fault _ => []
      | .refused _ => []) = [.lampPhaseStep 60 .showLayer, .setLamp]) := by decide +kernel

end Sys2Proof.Tests
end

section
/-! The lamp driver's host order: SET LAMP (R153). -/

namespace Sys2Proof.Machine

/-! ### The taking of a cell whose order has an effect -/

/-- An effect that leaves alone what the order unit itself works on: the RAM, the deck, ATTN and the reports. -/
abbrev State.KeepsOrderUnit (s u : State) : Prop :=
  u.ram = s.ram ∧ u.deck = s.deck ∧ u.attn = s.attn ∧ u.reports = s.reports

/-- With no report waiting, the taking of a cell is the order's effect, the result and the walk. -/
theorem State.takeCell_of_answer (s u : State) (owner : Word → Word → State → Answer) (r : Result) (d : Nat)
    (ho : owner (s.word (addrCell s.deck.position + 1)) (s.word (addrCell s.deck.position + 2)) s = u.answer r d)
    (hrep : u.reports = []) : s.takeCell owner = (u.writeResult s.cellCode r d).advanceWalk := by
  unfold State.takeCell
  simp only [ho, State.answer, State.settle_nil u hrep]

/-- The result and the walk read and write the RAM, the deck and ATTN only. -/
theorem State.advanceWalk_writeResult_effect (s u : State) (code d : Nat) (r : Result) (hu : s.KeepsOrderUnit u) :
    (u.writeResult code r d).advanceWalk =
      { u with
        ram := (s.writeResult code r d).advanceWalk.ram, deck := (s.writeResult code r d).advanceWalk.deck,
        attn := (s.writeResult code r d).advanceWalk.attn } := by
  obtain ⟨hram, hdeck, hattn, -⟩ := hu
  by_cases hlast : s.deck.position + 1 < s.deck.count
  · rw [State.advanceWalk_on (s.writeResult code r d) hlast,
      State.advanceWalk_on (u.writeResult code r d) (by simpa [State.writeResult, hdeck] using hlast)]
    simp [State.writeResult, State.writeWords, hram, hdeck, hattn]
  · have hend := Nat.le_of_not_lt hlast
    rw [State.advanceWalk_done (s.writeResult code r d) hend,
      State.advanceWalk_done (u.writeResult code r d) (by simpa [State.writeResult, hdeck] using hend)]
    simp [State.writeResult, State.writeWords, hram, hdeck, hattn]

/-- A cell answered with an effect that keeps to itself: the answer, the words left as they are, and the effect (R189). -/
theorem State.takeCell_answered_effect (s u : State) (owner : Word → Word → State → Answer) (code w1 w2 d : Nat) (r : Result)
    (h : s.AtCell code w1 w2) (hd : d < 65536)
    (ho : owner (s.word (addrCell s.deck.position + 1)) (s.word (addrCell s.deck.position + 2)) s = u.answer r d)
    (hu : s.KeepsOrderUnit u) :
    s.Answered (s.takeCell owner) code r.code d ∧
      (∀ k < 16384, s.NotOfCell k → (s.takeCell owner).word k = s.word k) ∧
      s.takeCell owner =
        { u with ram := (s.takeCell owner).ram, deck := (s.takeCell owner).deck, attn := (s.takeCell owner).attn } := by
  have ⟨_, _, _, _, _, hrep⟩ := h
  have ⟨_, _, _, hreports⟩ := hu
  have ⟨hans, hwords, _⟩ := State.takeCell_answered s (fun _ _ t => t.answer r d) code w1 w2 d r h hd rfl
  rw [State.takeCell_of_answer s s _ r d rfl hrep] at hans hwords
  rw [State.takeCell_of_answer s u owner r d ho (hreports.trans hrep), State.advanceWalk_writeResult_effect s u _ d r hu]
  exact ⟨hans, hwords, rfl⟩

/-! ### The layer of a channel -/

/-- The setting of an operand that names a table pattern. -/
theorem patternSetting_table {w : Word} {p : Fin 32} (h : w.toNat = p.val) : patternSetting w = .table p := by
  rw [patternSetting, h, index?_val]

/-- The setting of an operand that names none. -/
theorem patternSetting_idle {w : Word} (h : w.toNat = 65535) : patternSetting w = .idle := by
  rw [patternSetting, h]; rfl

theorem startLayer_idle (table : Vector Pattern 32) : startLayer table .idle = { setting := .idle, phase := .constant } := rfl

theorem startLayer_table (table : Vector Pattern 32) (p : Fin 32) :
    startLayer table (.table p) = { setting := .table p, phase := (tget table p).startPhase } := rfl

/-- The SHOW layer set: the layer anew, the brightness worked out again, and the rest of the channel as it was (R141, R142). -/
theorem State.setLayer_show_channel (s : State) (ch : ChannelNo) (x : Setting) :
    (s.setLayer ch .showLayer x).channel ch =
      ({ s.channel ch with showLayer := startLayer s.patterns x } : Channel).refresh s.patterns :=
  State.channel_setChannel s ch _

theorem State.setLayer_channel_ne (s : State) {ch c : ChannelNo} (n : LayerName) (x : Setting) (h : c ≠ ch) :
    (s.setLayer ch n x).channel c = s.channel c := tget_tset_ne _ _ h.symm

/-! ### The answers of SET LAMP (R153) -/

theorem ExhibitState.runsShow_iff (st : ExhibitState) :
    st.runsShow = true ↔ st = .running ∨ st = .suspended ∨ st = .guarded := by
  cases st <;> decide

theorem ExhibitState.code_lt (st : ExhibitState) : st.code < 65536 := by
  cases st <;> decide

theorem State.lampHolder_eq_some {s : State} {ch : ChannelNo} {e : ExhibitNo} (howner : s.channelOwner ch = some e)
    (hshow : (s.exhibit e).state.runsShow = true) : s.lampHolder ch = some e := by
  rw [State.lampHolder, howner, Option.filter_some, if_pos hshow]

theorem State.lampHolder_eq_none {s : State} {ch : ChannelNo}
    (h : ∀ e, s.channelOwner ch = some e → ¬ (s.exhibit e).state.runsShow = true) : s.lampHolder ch = none :=
  Option.filter_eq_none_iff.2 h

/-- An operand out of its range: a channel above 63, or a pattern above 31 other than 0xFFFF. -/
theorem State.orderSetLamp_badValue (s : State) (w1 w2 : Word) (h : 63 < w1.toNat ∨ (31 < w2.toNat ∧ w2.toNat ≠ 65535)) :
    State.orderSetLamp w1 w2 s = s.answer .badValue 0 := by
  unfold State.orderSetLamp
  split
  · rfl
  · next ch hch =>
    have hch : w1.toNat < 64 := by
      by_contra hge
      simp [index?, hge] at hch
    obtain hw1 | ⟨hgt, hne⟩ := h
    · omega
    · exact if_pos ⟨hgt, fun he => hne (by rw [he]; rfl)⟩

/-- Operands in range: the exhibit that holds the channel decides. -/
theorem State.orderSetLamp_valid (s : State) (w1 w2 : Word) (ch : ChannelNo) (hw1 : w1.toNat = ch.val)
    (hw2 : w2.toNat ≤ 31 ∨ w2.toNat = 65535) :
    State.orderSetLamp w1 w2 s =
      (s.lampHolder ch).elim (taken (s.setLayer ch .showLayer (patternSetting w2))) s.notNowExhibit := by
  have hin : ¬ (31 < w2.toNat ∧ w2 ≠ 0xFFFF) := fun ⟨hgt, hne⟩ =>
    hne (BitVec.eq_of_toNat_eq (hw2.resolve_left (by omega)))
  unfold State.orderSetLamp
  rw [hw1, index?_val]
  simp only [if_neg hin]
  cases s.lampHolder ch <;> rfl

/-- The channel of an exhibit that runs its show. -/
theorem State.orderSetLamp_held (s : State) (w1 w2 : Word) (ch : ChannelNo) (e : ExhibitNo) (hw1 : w1.toNat = ch.val)
    (hw2 : w2.toNat ≤ 31 ∨ w2.toNat = 65535) (hheld : s.lampHolder ch = some e) :
    State.orderSetLamp w1 w2 s = s.answer .notNow (s.exhibit e).state.code := by
  rw [State.orderSetLamp_valid s w1 w2 ch hw1 hw2, hheld]; rfl

theorem State.orderSetLamp_taken (s : State) (w1 w2 : Word) (ch : ChannelNo) (hw1 : w1.toNat = ch.val)
    (hw2 : w2.toNat ≤ 31 ∨ w2.toNat = 65535) (hfree : s.lampHolder ch = none) :
    State.orderSetLamp w1 w2 s = (s.setLayer ch .showLayer (patternSetting w2)).answer .taken 0 := by
  rw [State.orderSetLamp_valid s w1 w2 ch hw1 hw2, hfree]; rfl

theorem State.inRun_cold (s : State) (owner : Word → Word → State → Answer) (w1 w2 : Word) (h : s.part = .cold) :
    State.inRun owner w1 w2 s = s.answer .cold 0 := if_pos h

theorem State.inRun_run (s : State) (owner : Word → Word → State → Answer) (w1 w2 : Word) (h : s.part = .run) :
    State.inRun owner w1 w2 s = owner w1 w2 s := if_neg (by rw [h]; decide)

/-! ### The command -/

/-- At a SET LAMP cell the command takes the cell. -/
theorem exec_setLamp_atCell (s : State) (w1 w2 : Nat) (h : s.AtCell 0x30 w1 w2) :
    exec .setLamp s = .next (s.takeCell (State.inRun State.orderSetLamp)) := by
  rw [← State.takeOrder_atCell s 0x30 w1 w2 _ h]; rfl

/-- A SET LAMP cell whose order is left without effect. -/
theorem exec_setLamp_answered (s : State) (w1 w2 d : Nat) (r : Result) (h : s.AtCell 0x30 w1 w2) (hd : d < 65536)
    (ho : State.inRun State.orderSetLamp (s.word (addrCell s.deck.position + 1)) (s.word (addrCell s.deck.position + 2)) s =
      s.answer r d) :
    ∃ t, exec .setLamp s = .next t ∧ s.Answered t 0x30 r.code d ∧ s.OnlyAnswered t :=
  ⟨_, exec_setLamp_atCell s w1 w2 h, State.takeCell_answered s _ 0x30 w1 w2 d r h hd ho⟩

/-- A SET LAMP cell whose order sets the SHOW layer. -/
theorem exec_setLamp_taken (s : State) (w1 w2 : Nat) (ch : ChannelNo) (x : Setting) (h : s.AtCell 0x30 w1 w2)
    (ho : State.inRun State.orderSetLamp (s.word (addrCell s.deck.position + 1)) (s.word (addrCell s.deck.position + 2)) s =
      (s.setLayer ch .showLayer x).answer .taken 0) :
    ∃ t, exec .setLamp s = .next t ∧ s.Answered t 0x30 0 0 ∧
      t.channel ch = ({ s.channel ch with showLayer := startLayer s.patterns x } : Channel).refresh s.patterns ∧
      (∀ c, c ≠ ch → t.channel c = s.channel c) ∧ (∀ k < 16384, s.NotOfCell k → t.word k = s.word k) ∧
      t = { s with channels := t.channels, ram := t.ram, deck := t.deck, attn := t.attn } := by
  obtain ⟨hans, hwords, hform⟩ :=
    State.takeCell_answered_effect s (s.setLayer ch .showLayer x) _ 0x30 w1 w2 0 .taken h (by omega) ho ⟨rfl, rfl, rfl, rfl⟩
  have hchannels : (s.takeCell (State.inRun State.orderSetLamp)).channels = (s.setLayer ch .showLayer x).channels := by rw [hform]
  have hchannel : ∀ c, (s.takeCell (State.inRun State.orderSetLamp)).channel c = (s.setLayer ch .showLayer x).channel c :=
    fun c => congrArg (tget · c) hchannels
  refine ⟨_, exec_setLamp_atCell s w1 w2 h, hans, ?_, fun c hc => ?_, hwords, ?_⟩
  · rw [hchannel]; exact State.setLayer_show_channel s ch x
  · rw [hchannel]; exact State.setLayer_channel_ne s _ _ hc
  · rw [hchannels]; exact hform

/-- Settles O38: one answer of `State.orderSetLamp` per clause, carried through the taking of the cell. -/
theorem setLampSetsShowLayer : Obligations.SetLampSetsShowLayer := by
  intro s w1 w2 h
  have ⟨_, _, _, hw1, hw2, _⟩ := h
  refine ⟨fun hcold => ?_, fun hrun hbad => ?_, fun ch e hrun hch hpat howner hstate => ?_, fun ch hrun hch hpat hfree => ?_⟩
  · exact exec_setLamp_answered s w1 w2 0 .cold h (by omega) (State.inRun_cold _ _ _ _ hcold)
  · refine exec_setLamp_answered s w1 w2 0 .badValue h (by omega) ((State.inRun_run _ _ _ _ hrun).trans ?_)
    exact State.orderSetLamp_badValue _ _ _ (by rwa [hw1, hw2])
  · refine exec_setLamp_answered s w1 w2 _ .notNow h (ExhibitState.code_lt _) ((State.inRun_run _ _ _ _ hrun).trans ?_)
    have hheld := State.lampHolder_eq_some howner ((ExhibitState.runsShow_iff _).2 hstate)
    exact State.orderSetLamp_held s _ _ ch e (hw1.trans hch) (by rwa [hw2]) hheld
  · have hnone : s.lampHolder ch = none := State.lampHolder_eq_none fun e howner => by
      obtain ⟨hrunning, hsuspended, hguarded⟩ := hfree e howner
      simp [ExhibitState.runsShow_iff, hrunning, hsuspended, hguarded]
    have htaken := State.orderSetLamp_taken s _ _ ch (hw1.trans hch) (by rwa [hw2]) hnone
    obtain ⟨t, hexec, hans, hchannel, hothers, hwords, hform⟩ :=
      exec_setLamp_taken s w1 w2 ch _ h ((State.inRun_run _ _ _ _ hrun).trans htaken)
    have hlayer : (t.channel ch).showLayer = startLayer s.patterns (patternSetting (s.word (addrCell s.deck.position + 2))) := by
      rw [hchannel]; rfl
    refine ⟨t, hexec, hans, fun hidle => ?_, fun p hp => ?_, ?_, ?_, hothers, hwords, hform⟩
    · rw [hlayer, patternSetting_idle (hw2.trans hidle), startLayer_idle]
    · rw [hlayer, patternSetting_table (hw2.trans hp), startLayer_table]
    · rw [hchannel]; rfl
    · rw [hchannel]; rfl

end Sys2Proof.Machine
end

section
/-! The exchange port's control registers: the interrupt line (R184), host writes to PART_CTL and ATTN (R182, R183), and what PART_CTL
reads as. -/

namespace Sys2Proof.Machine

/-! ### Bits of a register -/

/-- A register is not 0 when one of its bits is 1. -/
theorem bne_zero_iff_exists_getLsbD {w : Nat} (x : BitVec w) : (x != 0) = true ↔ ∃ n : Fin w, x.getLsbD n = true := by
  rw [bne_iff_ne, ne_eq, BitVec.ofNat_eq_ofNat, BitVec.zero_iff_eq_false]
  constructor
  · intro h
    obtain ⟨i, hi⟩ := not_forall.1 h
    have hset : x.getLsbD i = true := by simpa using hi
    exact ⟨⟨i, BitVec.lt_of_getLsbD hset⟩, hset⟩
  · rintro ⟨n, hn⟩ h
    exact absurd (h n) (by simp [hn])

/-- The field of bits 3…0 is the word narrowed to 4 bits. -/
theorem ofNat_bits_low (v : Word) : BitVec.ofNat 4 (bits v 0 4) = v.setWidth 4 := by
  apply BitVec.eq_of_toNat_eq
  simp [bits]

/-- Narrowing to 4 bits keeps each of them. -/
theorem getLsbD_setWidth_four (v : Word) (n : Fin 4) : (v.setWidth 4).getLsbD n = v.getLsbD n := by
  simp

/-- A bit of a word as arithmetic on its value. -/
theorem getLsbD_iff_toNat {w : Nat} (x : BitVec w) (i : Nat) : x.getLsbD i = true ↔ x.toNat / 2 ^ i % 2 = 1 := by
  rw [← BitVec.testBit_toNat, Nat.testBit_eq_decide_div_mod_eq, decide_eq_true_iff]

/-! ### The interrupt line (R184) -/

theorem State.irqAsserted_iff (s : State) :
    s.irqAsserted = true ↔ ∃ n : Fin 4, s.attn.getLsbD n = true ∧ s.mask.getLsbD n = true := by
  simp only [State.irqAsserted, bne_zero_iff_exists_getLsbD, BitVec.getLsbD_and, Bool.and_eq_true]

/-- With no cause set the line is released, whatever the mask. -/
theorem State.irqAsserted_of_attn_zero (s : State) (h : s.attn = 0) : s.irqAsserted = false := by
  simp [State.irqAsserted, h]

/-! ### A write to PART_CTL (R182, R187) -/

theorem State.writePartCtl_mask (s : State) (v : Word) (hclear : s.clearing = none) (hbit : v.getLsbD 15 = false) :
    s.writePartCtl v = s.setMask (v.setWidth 4) := by
  simp only [State.writePartCtl, hclear, bit, hbit, ofNat_bits_low, Option.isSome_none, Bool.false_eq_true, if_false]

theorem State.writePartCtl_reset (s : State) (v : Word) (hbit : v.getLsbD 15 = true) :
    s.writePartCtl v = if s.clearing.isSome then s else s.partReset := by
  simp only [State.writePartCtl, bit, hbit, if_true]

theorem exec_interruptMaskWrite_mask (s : State) (v : Word) (hclear : s.clearing = none) (hbit : v.getLsbD 15 = false) :
    exec (.interruptMaskWrite v) s = .next (s.setMask (v.setWidth 4)) := by
  rw [← State.writePartCtl_mask s v hclear hbit]; rfl

theorem exec_partReset_commanded (s : State) (v : Word) (hbit : v.getLsbD 15 = true) :
    exec (.partReset v) s = .next (if s.clearing.isSome then s else s.partReset) := by
  rw [← State.writePartCtl_reset s v hbit]; rfl

/-! ### A write to ATTN (R183) -/

theorem State.writeAttn_of_not_clearing (s : State) (v : Word) (hclear : s.clearing = none) :
    s.writeAttn v = { s with attn := s.attn &&& ~~~(v.setWidth 4) } := by
  simp [State.writeAttn, hclear, ofNat_bits_low]

theorem exec_attnClear_of_not_clearing (s : State) (v : Word) (hclear : s.clearing = none) :
    exec (.attnClear v) s = .next { s with attn := s.attn &&& ~~~(v.setWidth 4) } := by
  rw [← State.writeAttn_of_not_clearing s v hclear]; rfl

/-- A cause stays set when it was set and is not written 1. -/
theorem getLsbD_attn_cleared (x : BitVec 4) (v : Word) (n : Fin 4) :
    (x &&& ~~~(v.setWidth 4)).getLsbD n = (x.getLsbD n && !v.getLsbD n) := by
  simp only [BitVec.getLsbD_and, BitVec.getLsbD_not, getLsbD_setWidth_four, n.isLt, decide_true, Bool.true_and]

/-! ### The resets (R186, R187) -/

/-- What the writing of images may change: the axes' marks of a stale image and the RAM. -/
abbrev OnlyImages (s t : State) : Prop := t = { s with axes := t.axes, ram := t.ram }

theorem State.writeAllImages_form (s : State) : OnlyImages s s.writeAllImages := by
  have hexhibits : OnlyImages s (forEach 48 (fun e u => u.writeExhibitImage e) s) :=
    forEach_invariant (OnlyImages s) _ (fun e u h => by rw [h]; rfl) s rfl
  have haxes : OnlyImages s (forEach 16 (fun a u => u.writeAxisImage a) (forEach 48 (fun e u => u.writeExhibitImage e) s)) :=
    forEach_invariant (OnlyImages s) _ (fun a u h => by rw [h]; rfl) _ hexhibits
  unfold State.writeAllImages
  simp only
  rw [haxes]
  rfl

theorem State.partReset_attn (s : State) : s.partReset.attn = 0 := by
  unfold State.partReset; rw [State.writeAllImages_form]; rfl

theorem State.partReset_mask (s : State) : s.partReset.mask = 0 := by
  unfold State.partReset; rw [State.writeAllImages_form]; rfl

/-! ### What PART_CTL reads as (Table 10-2) -/

/-- The fields of PART_CTL fit into its word side by side. -/
theorem State.partCtl_toNat (s : State) :
    s.partCtl.toNat =
      (if s.part = .run then 32768 else 0) + 256 + (if s.clearing.isSome = true then 128 else 0) + s.mask.toNat := by
  have hmask := s.mask.isLt
  have hrun : flag (s.part == .run) 15 = if s.part = .run then 32768 else 0 := by simp [flag]
  have hbusy : flag s.clearing.isSome 7 = if s.clearing.isSome = true then 128 else 0 := rfl
  rw [State.partCtl, hrun, hbusy]
  exact mkWord_toNat (by simp only [Config.revision]; split_ifs <;> omega)

theorem State.partCtl_run (s : State) : s.partCtl.getLsbD 15 = true ↔ s.part = .run := by
  have hmask := s.mask.isLt
  have hbit : s.partCtl.toNat / 2 ^ 15 % 2 = if s.part = .run then 1 else 0 := by
    rw [State.partCtl_toNat]; split_ifs <;> omega
  rw [getLsbD_iff_toNat, hbit]; simp

theorem State.partCtl_busy (s : State) : s.partCtl.getLsbD 7 = true ↔ s.clearing.isSome = true := by
  have hmask := s.mask.isLt
  have hbit : s.partCtl.toNat / 2 ^ 7 % 2 = if s.clearing.isSome = true then 1 else 0 := by
    rw [State.partCtl_toNat]; split_ifs <;> omega
  rw [getLsbD_iff_toNat, hbit]
  cases s.clearing.isSome <;> decide

theorem State.partCtl_mask (s : State) : s.partCtl.setWidth 4 = s.mask := by
  have hmask := s.mask.isLt
  apply BitVec.eq_of_toNat_eq
  rw [BitVec.toNat_setWidth, State.partCtl_toNat]
  split_ifs <;> omega

/-! ### The obligations -/

/-- Settles O17: the line is read off the set and enabled causes, so each change of either is read off the state the command leaves. -/
theorem interruptLineFollows : Obligations.InterruptLineFollows := by
  refine ⟨State.irqAsserted_iff, fun v s hclear hbit => ?_, fun v s hclear => ?_, fun s => ?_, fun v s hclear hbit => ?_,
    fun v s hclear => ?_⟩
  · refine ⟨_, exec_interruptMaskWrite_mask s v hclear hbit, ?_⟩
    simp only [State.irqAsserted_iff, State.setMask, getLsbD_setWidth_four]
  · refine ⟨_, exec_attnClear_of_not_clearing s v hclear, ?_⟩
    simp only [State.irqAsserted_iff, getLsbD_attn_cleared, Bool.and_eq_true, Bool.not_eq_true', and_assoc]
  · exact ⟨s.powerOnReset, rfl, rfl, rfl, State.irqAsserted_of_attn_zero _ rfl⟩
  · have hexec : exec (.partReset v) s = .next s.partReset := by simp [exec_partReset_commanded s v hbit, hclear]
    have hattn := State.partReset_attn s
    exact ⟨_, hexec, hattn, State.partReset_mask s, State.irqAsserted_of_attn_zero _ hattn⟩
  · exact ⟨_, exec_attnClear_of_not_clearing s v hclear, getLsbD_attn_cleared s.attn v, rfl⟩

/-- Settles O16: one branch of `State.writePartCtl` for each value of bit 15, and the fields of `State.partCtl` one by one. -/
theorem maskWriteReplacesMask : Obligations.MaskWriteReplacesMask := by
  refine ⟨fun v s hclear hbit => ?_, fun v v' s hbit hbit' => ?_, fun s => ?_⟩
  · exact ⟨_, exec_interruptMaskWrite_mask s v hclear hbit, rfl, rfl⟩
  · rw [exec_partReset_commanded s v hbit, exec_partReset_commanded s v' hbit']
  · exact ⟨s.irqAsserted_iff, s.partCtl_run, s.partCtl_busy, s.partCtl_mask⟩

end Sys2Proof.Machine
end

section
/-! What the acts of an axis leave alone: the axes, the pool, the axis images and the axis reports apart, the part is as it was. -/

namespace Sys2Proof.Machine

/-- Nothing but axes, pool, axis images and reports has changed, and the exchange RAM is canonical if it was. -/
structure OnlyAxes (s t : State) : Prop where
  form : t = { s with axes := t.axes, pool := t.pool, ram := t.ram, reports := t.reports }
  wf : Memory.wf s.ram = true → Memory.wf t.ram = true
  word : ∀ k, (∀ a, OutsideAxis a k) → t.word k = s.word k

namespace OnlyAxes

theorem refl (s : State) : OnlyAxes s s := ⟨rfl, id, fun _ _ => rfl⟩

theorem trans {s t u : State} (h : OnlyAxes s t) (k : OnlyAxes t u) : OnlyAxes s u :=
  ⟨by rw [k.form, h.form], fun w => k.wf (h.wf w), fun n hn => (k.word n hn).trans (h.word n hn)⟩

/-- A change that does not write the exchange RAM. -/
theorem of_form {s t : State} (h : t = { s with axes := t.axes, pool := t.pool, reports := t.reports }) : OnlyAxes s t :=
  ⟨by rw [h], fun w => by rw [h]; exact w, fun _ _ => by rw [h]; rfl⟩

theorem foldl {α : Type} {f : State → α → State} (hf : ∀ s a, OnlyAxes s (f s a)) (l : List α) (s : State) :
    OnlyAxes s (l.foldl f s) :=
  foldl_invariant (OnlyAxes s) f (fun t a h => h.trans (hf t a)) l s (refl s)

theorem forEach {n : Nat} {f : Fin n → State → State} (hf : ∀ i s, OnlyAxes s (f i s)) (s : State) :
    OnlyAxes s (forEach n f s) :=
  forEach_invariant (OnlyAxes s) f (fun i t h => h.trans (hf i t)) s (refl s)

variable {s t : State} (h : OnlyAxes s t)
include h

theorem exhibits : t.exhibits = s.exhibits := by rw [h.form]
theorem slots : t.slots = s.slots := by rw [h.form]
theorem alerts : t.alerts = s.alerts := by rw [h.form]
theorem stations : t.stations = s.stations := by rw [h.form]
theorem channels : t.channels = s.channels := by rw [h.form]
theorem part : t.part = s.part := by rw [h.form]
theorem stopInForce : t.stopInForce = s.stopInForce := by rw [h.form]
theorem deck : t.deck = s.deck := by rw [h.form]
theorem pending : t.pending = s.pending := by rw [h.form]
theorem exhibit (e : ExhibitNo) : t.exhibit e = s.exhibit e := congrArg (tget · e) h.exhibits
theorem slot (e : ExhibitNo) : t.slot e = s.slot e := congrArg (tget · e) h.slots
theorem station (st : StationNo) : t.station st = s.station st := congrArg (tget · st) h.stations
theorem channel (ch : ChannelNo) : t.channel ch = s.channel ch := congrArg (tget · ch) h.channels

theorem boundAxes (e : ExhibitNo) : t.boundAxes e = s.boundAxes e := by unfold State.boundAxes; rw [h.exhibit]
theorem axisOwner (a : AxisNo) : t.axisOwner a = s.axisOwner a := by unfold State.axisOwner; simp only [h.exhibit]

end OnlyAxes

/-! ### Images, reports and the pool -/

theorem State.setAxis_only (s : State) (a : AxisNo) (x : Axis) : OnlyAxes s (s.setAxis a x) := .of_form rfl
theorem State.setPool_only (s : State) (p : Pool) : OnlyAxes s (s.setPool p) := .of_form rfl
theorem State.returnUnits_only (s : State) (a : AxisNo) : OnlyAxes s (s.returnUnits a) := .of_form rfl
theorem State.leaveList_only (s : State) (a : AxisNo) : OnlyAxes s (s.leaveList a) := .of_form rfl
theorem State.report_only (s : State) (r : Report) : OnlyAxes s (s.report r) := .of_form rfl

theorem State.writeAxisImage_only (s : State) (a : AxisNo) : OnlyAxes s (s.writeAxisImage a) := by
  refine ⟨rfl, fun h => State.writeWords_wf _ _ _ h ?_, fun k hk => State.writeAxisImage_word s a k (hk a)⟩
  have := a.isLt
  simp only [axisImage_length, addrAxisImage]
  omega

theorem State.putAxis_only (s : State) (a : AxisNo) (x : Axis) (r : Bool) : OnlyAxes s (s.putAxis a x r) := by
  unfold State.putAxis
  simp only
  split
  · exact (State.setAxis_only s a x).trans (State.writeAxisImage_only _ a)
  · exact State.setAxis_only _ _ _

theorem State.reportCrossings_only (s : State) (a : AxisNo) (cs : List CrossedMark) : OnlyAxes s (s.reportCrossings a cs) :=
  .foldl (fun t _ => State.report_only t _) cs s

theorem State.putAxisAt_only (s : State) (a : AxisNo) (x : Axis) (p : Int) (r : Bool) : OnlyAxes s (s.putAxisAt a x p r) :=
  (State.putAxis_only _ _ _ _).trans (State.reportCrossings_only _ _ _)

theorem State.reportDone_only (s : State) (a : AxisNo) (kind : MotionKind) : OnlyAxes s (s.reportDone a kind) := by
  unfold State.reportDone
  split
  · exact .refl s
  · split
    · exact State.report_only _ _
    · exact .refl s

theorem State.reportRest_only (s : State) (a : AxisNo) : OnlyAxes s (s.reportRest a) := by
  unfold State.reportRest
  split
  · exact .refl s
  · split
    · exact State.report_only _ _
    · exact .refl s

/-! ### Grants -/

theorem State.startGranted_only (s : State) (a : AxisNo) : OnlyAxes s (s.startGranted a) := by
  unfold State.startGranted
  simp only
  split
  · split
    · exact (((State.putAxis_only _ _ _ _).trans (State.returnUnits_only _ _)).trans (State.putAxis_only _ _ _ _)).trans
        ((State.reportDone_only _ _ _).trans (State.reportRest_only _ _))
    · exact State.putAxis_only _ _ _ _
  · split
    · exact State.putAxis_only _ _ _ _
    · exact .refl s
  · exact .refl s

theorem State.grantHead_only (s : State) (w : WaitEntry) (rest : List WaitEntry) : OnlyAxes s (s.grantHead w rest) :=
  (State.setPool_only _ _).trans (State.startGranted_only _ _)

theorem grantScanUpTo_only (n : Nat) (s : State) : OnlyAxes s (grantScanUpTo n s) := by
  induction n generalizing s with
  | zero => exact .refl s
  | succ n ih =>
    unfold grantScanUpTo
    split
    · exact .refl s
    · split
      · exact (State.grantHead_only _ _ _).trans (ih _)
      · exact .refl s

theorem State.grantScan_only (s : State) : OnlyAxes s s.grantScan := grantScanUpTo_only _ s

theorem State.requestPower_only (s : State) (a : AxisNo) (x : Axis) : OnlyAxes s (s.requestPower a x) := by
  unfold State.requestPower
  split
  · exact ((State.setPool_only _ _).trans (State.setAxis_only _ _ _)).trans (State.startGranted_only _ _)
  · exact (State.setPool_only _ _).trans (State.putAxis_only _ _ _ _)

/-! ### Stops and faults -/

theorem State.resyncAs_only (s : State) (a : AxisNo) (y : Axis) : OnlyAxes s (s.resyncAs a y) :=
  (State.returnUnits_only s a).trans (State.putAxisAt_only _ _ _ _ _)

theorem State.faultAxis_only (s : State) (a : AxisNo) (cause : FaultCause) : OnlyAxes s (s.faultAxis a cause) :=
  (State.resyncAs_only s a _).trans (State.report_only _ _)

theorem State.quickStopSilently_only (s : State) (a : AxisNo) : OnlyAxes s (s.quickStopSilently a) := by
  unfold State.quickStopSilently
  split
  · exact State.resyncAs_only _ _ _
  · exact .refl s

theorem State.quickStop_only (s : State) (a : AxisNo) : OnlyAxes s (s.quickStop a) := by
  unfold State.quickStop
  simp only
  split
  · exact (State.quickStopSilently_only s a).trans (State.report_only _ _)
  · exact State.quickStopSilently_only s a

theorem State.leaveAwait_only (s : State) (a : AxisNo) : OnlyAxes s (s.leaveAwait a) := by
  unfold State.leaveAwait
  simp only
  split
  · exact (State.leaveList_only _ _).trans (State.putAxis_only _ _ _ _)
  · exact (State.leaveList_only _ _).trans (State.putAxisAt_only _ _ _ _ _)

theorem State.controlledStop_only (s : State) (a : AxisNo) : OnlyAxes s (s.controlledStop a) := by
  unfold State.controlledStop
  simp only
  split
  · exact State.putAxis_only _ _ _ _
  · exact State.putAxis_only _ _ _ _
  all_goals exact .refl s

theorem State.haltAxis_only (s : State) (a : AxisNo) : OnlyAxes s (s.haltAxis a) := by
  unfold State.haltAxis
  split
  · exact State.controlledStop_only _ _
  · exact State.controlledStop_only _ _
  · exact State.quickStop_only _ _
  · exact State.leaveAwait_only _ _
  all_goals exact .refl s

theorem State.leaveFault_only (s : State) (a : AxisNo) : OnlyAxes s (s.leaveFault a) := by
  unfold State.leaveFault
  simp only
  split
  · exact .refl s
  · split
    · exact State.putAxisAt_only _ _ _ _ _
    · exact State.putAxis_only _ _ _ _

theorem State.stopInPlace_only (s : State) (a : AxisNo) : OnlyAxes s (s.stopInPlace a) := by
  unfold State.stopInPlace
  split
  · exact State.quickStop_only _ _
  · exact State.quickStop_only _ _
  · exact State.quickStop_only _ _
  · exact State.leaveAwait_only _ _
  all_goals exact .refl s

theorem State.freezeAxis_only (s : State) (a : AxisNo) : OnlyAxes s (s.freezeAxis a) :=
  (State.stopInPlace_only s a).trans (State.setAxis_only _ _ _)

theorem State.discardResume_only (s : State) (e : ExhibitNo) : OnlyAxes s (s.discardResume e) :=
  .foldl (fun t a => State.setAxis_only t a _) _ s

theorem State.haltAxes_only (s : State) (e : ExhibitNo) : OnlyAxes s (s.haltAxes e) :=
  (OnlyAxes.foldl State.haltAxis_only _ s).trans (State.grantScan_only _)

/-! ### Requests -/

theorem State.takeMove_only (s : State) (a : AxisNo) (t : Int) (i : Fin 4) : OnlyAxes s (s.takeMove a t i) := by
  unfold State.takeMove
  simp only
  split
  · exact .refl s
  · exact State.putAxis_only _ _ _ _
  · exact State.requestPower_only _ _ _
  · exact ((State.leaveList_only _ _).trans (State.putAxis_only _ _ _ _)).trans (State.grantScan_only _)
  all_goals exact State.putAxis_only _ _ _ _

theorem State.loadHome_only (s : State) (a : AxisNo) (y : Axis) (v : Int) : OnlyAxes s (s.loadHome a y v) :=
  State.putAxisAt_only _ _ _ _ _

theorem State.takeHome_only (s : State) (a : AxisNo) : OnlyAxes s (s.takeHome a) := by
  unfold State.takeHome
  simp only
  split
  · exact .refl s
  · split
    · exact (State.loadHome_only _ _ _ _).trans (State.requestPower_only _ _ _)
    · exact State.requestPower_only _ _ _
    all_goals exact .refl s

theorem State.takeRequest_only (s : State) (a : AxisNo) (r : Request) : OnlyAxes s (s.takeRequest a r) := by
  cases r with
  | move t i =>
    unfold State.takeRequest
    simp only
    split
    · exact State.takeMove_only _ _ _ _
    · exact .refl s
  | home => exact State.takeHome_only _ _

theorem State.resumeAxis_only (s : State) (a : AxisNo) : OnlyAxes s (s.resumeAxis a) := by
  unfold State.resumeAxis
  split
  · exact State.takeRequest_only _ _ _
  · exact .refl s

/-! ### Updates and inputs -/

theorem State.completeMotion_only (s : State) (a : AxisNo) (kind : Option MotionKind) : OnlyAxes s (s.completeMotion a kind) := by
  unfold State.completeMotion
  simp only
  refine OnlyAxes.trans ?_ (State.reportRest_only _ _)
  have h := ((State.returnUnits_only s a).trans (State.grantScan_only _)).trans
    (State.putAxis_only _ a ((s.returnUnits a).grantScan.axis a).enterIdle false)
  split
  · exact h.trans (State.reportDone_only _ _ _)
  · exact h

theorem State.arrive_only (s : State) (a : AxisNo) (c : AxisConfig) : OnlyAxes s (s.arrive a c) := by
  unfold State.arrive
  simp only
  exact ((((State.returnUnits_only s a).trans (State.loadHome_only _ _ _ _)).trans (State.grantScan_only _)).trans
    (State.reportDone_only _ _ _)).trans (State.reportRest_only _ _)

end Sys2Proof.Machine
end

section
/-! The acts a command is made of. `Acts s t`: the part goes from `s` to `t` by elementary acts, each under the condition in which the
commands make it. A law that every elementary act keeps is kept by every command. -/

namespace Sys2Proof.Machine

/-! ### What no law speaks of -/

/-- What the order unit, the queue and the notice box keep through an act of the blocks behind the port. -/
structure KeepsPort (s t : State) : Prop where
  part : t.part = s.part
  deck : t.deck = s.deck
  pending : t.pending = s.pending
  wf : Memory.wf s.ram = true → Memory.wf t.ram = true
  box : ∀ k < 16, t.word (addrNoticeBox + k) = s.word (addrNoticeBox + k)

theorem KeepsPort.refl (s : State) : KeepsPort s s := ⟨rfl, rfl, rfl, id, fun _ _ => rfl⟩

theorem KeepsPort.trans {s t u : State} (h : KeepsPort s t) (k : KeepsPort t u) : KeepsPort s u :=
  ⟨k.part.trans h.part, k.deck.trans h.deck, k.pending.trans h.pending, fun w => k.wf (h.wf w),
    fun n hn => (k.box n hn).trans (h.box n hn)⟩

/-- A change that does not write the exchange RAM. -/
theorem KeepsPort.of_ram {s t : State} (part : t.part = s.part := by rfl) (deck : t.deck = s.deck := by rfl)
    (pending : t.pending = s.pending := by rfl) (ram : t.ram = s.ram := by rfl) : KeepsPort s t :=
  ⟨part, deck, pending, fun w => by rw [ram]; exact w, fun _ _ => by unfold State.word; rw [ram]⟩

/-- What the order unit and the buttons keep through an act: ATTN, the words below the images, and every button but for its lockout. -/
structure KeepsDesk (s t : State) : Prop where
  attn : t.attn = s.attn
  word : ∀ k, k ≠ addrImageSeq → k < addrAlertImage → t.word k = s.word k
  button : ∀ b, t.button b = { s.button b with lockout := (t.button b).lockout }

theorem KeepsDesk.refl (s : State) : KeepsDesk s s := ⟨rfl, fun _ _ _ => rfl, fun _ => rfl⟩

theorem KeepsDesk.trans {s t u : State} (h : KeepsDesk s t) (k : KeepsDesk t u) : KeepsDesk s u :=
  ⟨k.attn.trans h.attn, fun n hs hn => (k.word n hs hn).trans (h.word n hs hn), fun b => by rw [k.button b, h.button b]⟩

/-- A change that writes no word below the images. -/
theorem KeepsDesk.of_word {s t : State} (word : ∀ k, k ≠ addrImageSeq → k < addrAlertImage → t.word k = s.word k)
    (attn : t.attn = s.attn := by rfl) (buttons : t.buttons = s.buttons := by rfl) : KeepsDesk s t :=
  ⟨attn, word, fun b => by unfold State.button; rw [buttons]⟩

/-- A change that does not write the exchange RAM. -/
theorem KeepsDesk.of_ram {s t : State} (attn : t.attn = s.attn := by rfl) (buttons : t.buttons = s.buttons := by rfl)
    (ram : t.ram = s.ram := by rfl) : KeepsDesk s t := .of_word (fun _ _ _ => by unfold State.word; rw [ram]) attn buttons

/-- An axis in which the laws see no change. -/
structure Axis.Alike (x y : Axis) : Prop where
  config : y.config = x.config
  state : y.state = x.state
  homed : y.homed = x.homed
  request : y.request = x.request
  dir : y.dir = x.dir
  move : y.move = x.move
  stopBound : y.stopBound = x.stopBound
  pos : x.state = .idle ∨ x.state = .awaitPower ∨ x.state = .moving ∨ x.state = .stopping → y.pos = x.pos
  vel : x.state = .moving → y.vel = x.vel

theorem Axis.Alike.refl (x : Axis) : x.Alike x := ⟨rfl, rfl, rfl, rfl, rfl, rfl, rfl, fun _ => rfl, fun _ => rfl⟩

/-- An exhibit in which the laws see no change: it keeps its state and its configuration, and gains an encore flag only where one may
stand. -/
structure Exhibit.Alike (x y : Exhibit) : Prop where
  state : y.state = x.state
  config : y.config = x.config
  encore : y.encore = true → x.encore = true ∨ x.state.keepsEncore = true

theorem Exhibit.Alike.refl (x : Exhibit) : x.Alike x := ⟨rfl, rfl, .inl⟩

/-- An alert entry in which the laws see no change. -/
structure Alert.Alike (x y : Alert) : Prop where
  number : y.number = x.number
  source : y.source = x.source
  cause : y.cause = x.cause
  severity : y.severity = x.severity
  acked : y.acked = x.acked
  station : y.station = x.station

/-- A station in which the laws see no change. -/
structure Station.Alike (x y : Station) : Prop where
  callLamp : y.callLamp = x.callLamp
  shown : y.shown = x.shown
  enable : y.displayEnable = x.displayEnable
  number : y.displayNumber = x.displayNumber
  severity : y.displaySeverity = x.displaySeverity

/-- The laws see no change from `s` to `t`, but that the part may have left COLD and the gallery stop may have ended. -/
structure Alike (s t : State) : Prop where
  part : t.part = .cold → s.part = .cold
  stop : t.stopInForce = true → s.stopInForce = true
  pool : t.pool = s.pool
  axis : ∀ a, (s.axis a).Alike (t.axis a)
  exhibit : ∀ e, (s.exhibit e).Alike (t.exhibit e)
  slot : ∀ e, (t.slot e).current.isSome = (s.slot e).current.isSome
  alerts : ∃ f : Alert → Alert, t.alerts = s.alerts.map f ∧ ∀ x : Alert, x.Alike (f x)
  station : ∀ st, (s.station st).Alike (t.station st)
  channel : ∀ ch, (t.channel ch).alertLayer.setting = (s.channel ch).alertLayer.setting
  dark : s.part = .cold → (∀ e, (s.exhibit e).state = .off ∧ (s.slot e).current = none) →
    ∀ ch, (s.channel ch).Dark → (t.channel ch).Dark

/-- A change that leaves the tables the laws read. -/
theorem Alike.of_tables {s t : State} (part : t.part = s.part := by rfl) (stop : t.stopInForce = s.stopInForce := by rfl)
    (pool : t.pool = s.pool := by rfl) (axes : t.axes = s.axes := by rfl) (exhibits : t.exhibits = s.exhibits := by rfl)
    (slots : t.slots = s.slots := by rfl) (alerts : t.alerts = s.alerts := by rfl) (stations : t.stations = s.stations := by rfl)
    (channels : t.channels = s.channels := by rfl) : Alike s t where
  part h := part ▸ h
  stop h := stop ▸ h
  pool := pool
  axis a := by unfold State.axis; rw [axes]; exact .refl _
  exhibit e := by unfold State.exhibit; rw [exhibits]; exact .refl _
  slot e := by unfold State.slot; rw [slots]
  alerts := ⟨id, by simp [alerts], fun x => ⟨rfl, rfl, rfl, rfl, rfl, rfl⟩⟩
  station st := by unfold State.station; rw [stations]; exact ⟨rfl, rfl, rfl, rfl, rfl⟩
  channel ch := by unfold State.channel; rw [channels]
  dark _ _ ch h := by unfold State.channel at h ⊢; rw [channels]; exact h

theorem Alike.refl (s : State) : Alike s s := .of_tables

/-! ### Elementary acts -/

/-- A motion may be asked for: by an order, outside COLD and the gallery stop, or by a show. -/
abbrev State.MayMove (s : State) : Prop :=
  (s.stopInForce = false ∧ s.part = .run) ∨ ∃ e, (s.exhibit e).state.runsShow = true ∨ (s.slot e).current.isSome = true

/-- Nothing of the axes and the pool has changed but that axis `a` is `y`, its image stale or not, and the pool is `p`. -/
structure Sets (s t : State) (a : AxisNo) (y : Axis) (p : Pool) : Prop where
  pool : t.pool = p
  axis : ∃ stale, ∀ b, t.axis b = if a = b then { y with imageStale := stale } else s.axis b

/-- An axis whose units have been granted, with its pending request begun (R119). -/
def Axis.started (x : Axis) : Axis :=
  match x.request with
  | some (.move t i) => if t = x.pos then (x.enterMoving t i).enterIdle else x.enterMoving t i
  | some .home => match x.config with
    | some c => x.enterHoming c
    | none => x
  | none => x

/-- The pool after a grant to axis `a`, which gives its units back where its pending move is to P (R119). -/
def Pool.started (p : Pool) (a : AxisNo) (x : Axis) : Pool :=
  match x.request with
  | some (.move t _) => if t = x.pos then p.returned a else p
  | some .home => p
  | none => p

/-- A request an axis may make of the pool: a move from IDLE to a target clamped to the window, or a home from IDLE or UNHOMED, P then on
HOME_VALUE (R82, R104). -/
def Axis.Asks (x : Axis) (r : Request) : Prop :=
  match r with
  | .move t _ => x.state = .idle ∧ ∃ t', t = x.clamp t'
  | .home => ∃ c, x.config = some c ∧ (x.state = .idle ∨ (x.state = .unhomed ∧ x.pos = c.homeValue))

/-- An axis at its arrival (R108), but for the position and the counts that the load sets. -/
def Axis.arrived (x : Axis) (c : AxisConfig) : Axis :=
  { x with
    state := .idle, vel := 0, acc := 0, dir := none, request := none, phase := none, homed := true, pulses := 0,
    encoder := c.homeValue, speedRef := x.speedRef + (c.homeValue - x.encoder), followRun := 0 }

/-- What an axis controller does with its axis and its units in one go: the axis and the pool it leaves. -/
inductive Move (s : State) (a : AxisNo) : Axis → Pool → Prop
  /-- A MOVING axis begins to stop, with a pending move or none. -/
  | slows (r : Option Request) (h : (s.axis a).state = .moving) (hr : ∀ q ∈ r, ∃ t i, q = .move ((s.axis a).clamp t) i) :
      Move s a ((s.axis a).enterStopping r) s.pool
  /-- A STOPPING axis takes another pending move, or loses it. -/
  | pends (r : Option Request) (h : (s.axis a).state = .stopping) (hr : ∀ q ∈ r, ∃ t i, q = .move ((s.axis a).clamp t) i) :
      Move s a { s.axis a with request := r } s.pool
  /-- A move that waits for units is replaced. -/
  | replaces (t : Int) (i : Fin 4) (h : (s.axis a).state = .awaitPower) (hr : ∃ u j, (s.axis a).request = some (.move u j)) :
      Move s a { s.axis a with request := some (.move ((s.axis a).clamp t) i) } s.pool
  /-- A MOVING axis is retargeted ahead. -/
  | retargets (t : Int) (i : Fin 4) (h : (s.axis a).state = .moving) (ht : (s.axis a).isAhead ((s.axis a).clamp t) = true) :
      Move s a { s.axis a with
        move := some { target := (s.axis a).clamp t, speedSet := i },
        vel := boundVelocity (s.axis a).vel ((s.axis a).speedSet i) } s.pool
  /-- The update of a MOVING axis. -/
  | advances (m : MoveRecord) (h : (s.axis a).state = .moving) (hm : (s.axis a).move = some m) :
      Move s a (((s.axis a).stepped ((s.axis a).profile m)).movedTo
        (advance (s.axis a).pos (dirToward (s.axis a).pos m.target) ((s.axis a).profile m).count)) s.pool
  /-- The update of a STOPPING axis. -/
  | brakes (accel : Nat) (bound : Int) (h : (s.axis a).state = .stopping) (hb : ∀ b, (s.axis a).stopBound = some b → bound = b) :
      Move s a (((s.axis a).stepped ((s.axis a).stopSteps accel bound)).movedTo
        (advance (s.axis a).pos ((s.axis a).dir.getD (dirToward (s.axis a).pos bound)) ((s.axis a).stopSteps accel bound).count)) s.pool
  /-- A STOPPING axis at rest starts its pending move. -/
  | restarts (t : Int) (i : Fin 4) (h : (s.axis a).state = .stopping) (hr : (s.axis a).request = some (.move t i)) :
      Move s a ((s.axis a).enterMoving t i) s.pool
  /-- A FAULTED axis leaves its fault for UNHOMED. -/
  | losesHome (h : (s.axis a).state = .faulted) : Move s a ((s.axis a).enterUnhomed.movedTo (s.axis a).encoder) s.pool
  /-- A FAULTED axis leaves its fault for IDLE. -/
  | recovers (h : (s.axis a).state = .faulted) (hh : (s.axis a).homed = true) (hw : (s.axis a).inWindow (s.axis a).pos = true) :
      Move s a { s.axis a with state := .idle, cause := none, followRun := 0 } s.pool
  /-- A disturbance found within the window. -/
  | resyncs (h : (s.axis a).state.disturbable = true) (hw : (s.axis a).inWindow (s.axis a).encoder = true) :
      Move s a (Axis.movedTo { s.axis a with followRun := 0 } (s.axis a).encoder) s.pool
  /-- A new configuration copy. -/
  | configures (h : s.axisRecordFault a = none) (hs : (s.axis a).state.takesConfigure = true) (hp : s.part = .run) :
      Move s a ((s.axis a).configured (s.readAxis a)) s.pool
  /-- A quick stop with re-sync, the units going back. -/
  | quickStops (h : (s.axis a).state.drives = true) :
      Move s a ((s.axis a).afterQuickStop.movedTo (s.axis a).encoder) (s.pool.returned a)
  /-- A fault of a driving axis, the units going back. -/
  | faults (cause : FaultCause) (h : (s.axis a).state.drives = true) :
      Move s a (((s.axis a).enterFaulted cause).movedTo (s.axis a).encoder) (s.pool.returned a)
  /-- The end of a homing, the units going back. -/
  | arrives (c : AxisConfig) (h : (s.axis a).state = .homing) (hc : (s.axis a).config = some c) :
      Move s a (((s.axis a).arrived c).movedTo c.homeValue) (s.pool.returned a)
  /-- A homed axis leaves the wait list. -/
  | leaves (h : (s.axis a).state = .awaitPower)
      (hh : (s.axis a).homed = true ∨ ∃ u j, (s.axis a).request = some (.move u j)) :
      Move s a { s.axis a with state := .idle, request := none } (s.pool.left a)
  /-- An axis that is not homed leaves the wait list. -/
  | leavesUnhomed (h : (s.axis a).state = .awaitPower) : Move s a ((s.axis a).enterUnhomed.movedTo (s.axis a).encoder) (s.pool.left a)
  /-- A disturbance found outside the window. -/
  | isDisplaced (h : (s.axis a).state.disturbable = true) :
      Move s a ((Axis.movedTo { s.axis a with followRun := 0 } (s.axis a).encoder).enterFaulted .travel) (s.pool.left a)
  /-- An axis joins the wait list. -/
  | joins (r : Request) (h : s.MayMove) (hr : (s.axis a).Asks r) :
      Move s a { s.axis a with request := some r, state := .awaitPower } (s.pool.joined a (s.axis a).draw)
  /-- An axis is granted its draw at once. -/
  | starts (r : Request) (h : s.MayMove) (hr : (s.axis a).Asks r) (hw : s.pool.waiting = []) (hd : (s.axis a).draw ≤ s.pool.free) :
      Move s a (Axis.started { s.axis a with request := some r })
        ((s.pool.granted a (s.axis a).draw).started a { s.axis a with request := some r })
  /-- The head of the wait list is granted its draw. -/
  | isGranted (w : WaitEntry) (rest : List WaitEntry) (hw : s.pool.waiting = w :: rest) (ha : w.axis = a) (hd : w.draw ≤ s.pool.free) :
      Move s a (s.axis a).started (Pool.started { s.pool.granted a w.draw with waiting := rest } a (s.axis a))

/-- The acts of the alert manager that change its list. -/
inductive AlertStep (s : State) : State → Prop
  | raised (src : SourceNo) (cause : AlertCause) (code severity : Nat) : AlertStep s (s.raise src cause code severity)
  | removed (p : Alert → Bool) : AlertStep s (s.removeAlerts p)
  | acknowledged (x : Alert) (h : x ∈ s.alerts) : AlertStep s (s.acknowledge x)
  | escalated (x : Alert) (h : x ∈ s.alerts) : AlertStep s (s.escalate x)

/-- Acts that leave every exhibit in its state and every slot occupied or empty as it was. -/
inductive Quiet : State → State → Prop
  | alike {s t : State} (h : Alike s t) (k : KeepsPort s t) (d : KeepsDesk s t) : Quiet s t
  | axis {s t : State} {a : AxisNo} {y : Axis} {p : Pool} (h : Move s a y p) (ht : Sets s t a y p) (only : OnlyAxes s t) : Quiet s t
  | alert {s t : State} (h : AlertStep s t) : Quiet s t
  /-- A motion ends; its units are granted on before the axis is IDLE. -/
  | completes {s : State} (a : AxisNo) (kind : Option MotionKind) (h : (s.axis a).state = .moving ∨ (s.axis a).state = .stopping) :
      Quiet s (s.completeMotion a kind)
  | disturbs {s : State} (a : AxisNo) (h : (s.axis a).state.disturbable = true) : Quiet s (s.disturb a)
  | beacon {s : State} (e : ExhibitNo) (ch : ChannelNo) (x : Setting) (h : s.BindsChannel e ch) : Quiet s (s.setLayer ch .alertLayer x)
  | stations {s : State} (h : s.stationRecordFault = none) (hp : s.part = .run) : Quiet s s.takeStationTable
  | trans {s t u : State} (h : Quiet s t) (k : Quiet t u) : Quiet s u

/-- An exhibit with the copy of a taken record (R3). -/
def Exhibit.configuredOn (x : Exhibit) (c : ExhibitConfig) (guardOpen : Bool) : Exhibit :=
  { x.uncounted with
    config := some c, guardOpen := guardOpen, settle := none, guardAlert := none,
    state := if x.state = .off then .ready else x.state }

/-- An exhibit taken out of the gallery (R4). -/
def Exhibit.configuredOff (x : Exhibit) : Exhibit :=
  { x.uncounted.entering .off with config := none, guardOpen := false, settle := none, guardAlert := none }

/-- No axis is on its way, none waits, and no show or halt goes on: what the gallery stop leaves (R137). -/
abbrev State.AtRest (s : State) : Prop :=
  (∀ a : AxisNo, (s.axis a).state.busy = false) ∧ s.pool.waiting = [] ∧
  (∀ e : ExhibitNo, (s.exhibit e).state ≠ .running ∧ (s.exhibit e).state ≠ .suspended ∧
    (s.exhibit e).state ≠ .guarded ∧ (s.exhibit e).state ≠ .halting)

/-- An exhibit has a show to end: it is not OFF, or its slot is occupied. -/
abbrev State.HasShow (s : State) (e : ExhibitNo) : Prop := (s.exhibit e).state ≠ .off ∨ (s.slot e).current.isSome = true

/-- An exhibit runs a show: by its state, or by its slot. -/
abbrev State.Runs (s : State) (e : ExhibitNo) : Prop := (s.exhibit e).state.runsShow = true ∨ (s.slot e).current.isSome = true

/-- The acts a command is made of. -/
inductive Acts : State → State → Prop
  | quiet {s t : State} (h : Quiet s t) : Acts s t
  /-- An exhibit enters a state, its slot as occupied as the state asks. -/
  | enters {s : State} (e : ExhibitNo) (st : ExhibitState) (hoff : st ≠ .off) (hhalt : st ≠ .halting)
      (h : (st.runsShow = (s.exhibit e).state.runsShow ∧ (s.exhibit e).state ≠ .off) ∨
        (st.runsShow = true ∧ (s.slot e).current.isSome = true)) : Acts s (s.enterState e st)
  /-- A show starts. -/
  | starts {s : State} (e : ExhibitNo) (address : Nat) (h : (s.exhibit e).state.startable = true) (hstop : s.stopInForce = false) :
      Acts s ((s.putSlot e ((s.slot e).started address)).enterState e .running)
  /-- A show ends. -/
  | ends {s t : State} (e : ExhibitNo) (st : ExhibitState) (h : s.HasShow e) (hshow : st.runsShow = false) (hoff : st ≠ .off)
      (hhalt : st = .halting → (s.exhibit e).state.runsShow = true) (q : Quiet (s.endShow e) t) : Acts s (t.enterState e st)
  /-- A show ends and its encore starts. -/
  | repeats {s t : State} (e : ExhibitNo) (address : Nat) (h : s.Runs e) (q : Quiet (s.endShow e) t) :
      Acts s (t.putSlot e ((t.slot e).started address))
  /-- A show goes on at a step, its slot occupied or not. -/
  | occupies {s : State} (e : ExhibitNo) (x : Slot) (h : (s.exhibit e).state.runsShow = true) (hx : x.current.isSome = true) :
      Acts s (s.putSlot e x)
  | configuresOn {s : State} (e : ExhibitNo) (c : ExhibitConfig) (guardOpen : Bool) (h : (s.exhibit e).state.takesConfigure = true)
      (hp : s.part = .run) (haxis : ∀ a, some a ∈ c.axes.toList → s.axisElsewhere e a = false)
      (hlamp : ∀ ch, c.namesChannel ch = true → s.channelElsewhere e ch = false) :
      Acts s (s.putExhibit e ((s.exhibit e).configuredOn c guardOpen))
  | configuresOff {s : State} (e : ExhibitNo) (h : (s.exhibit e).state.takesConfigure = true) (hp : s.part = .run) :
      Acts s (s.putExhibit e (s.exhibit e).configuredOff)
  /-- The gallery stop begins; the acts that make it leave nothing on its way. -/
  | stops {s t : State} (h : Acts (s.setStop true) t) (hrest : s.WaitLaw → t.AtRest) : Acts s t
  | trans {s t u : State} (h : Acts s t) (k : Acts t u) : Acts s u

/-- Acts, and changes of the buttons, of ATTN and of what no law speaks of. -/
inductive Steps : State → State → Prop
  | acts {s t : State} (h : Acts s t) : Steps s t
  | aside {s t : State} (h : Alike s t) (k : KeepsPort s t) : Steps s t
  | trans {s t u : State} (h : Steps s t) (k : Steps t u) : Steps s u

theorem Quiet.refl (s : State) : Quiet s s := .alike (.refl s) (.refl s) (.refl s)
theorem Acts.refl (s : State) : Acts s s := .quiet (.refl s)

/-- A change of nothing that the laws or the port speak of. -/
theorem Quiet.aside {s t : State} (h : Alike s t) (ram : t.ram = s.ram := by rfl) (part : t.part = s.part := by rfl)
    (deck : t.deck = s.deck := by rfl) (pending : t.pending = s.pending := by rfl) (attn : t.attn = s.attn := by rfl)
    (buttons : t.buttons = s.buttons := by rfl) : Quiet s t :=
  .alike h (.of_ram part deck pending ram) (.of_ram attn buttons ram)

theorem Steps.refl (s : State) : Steps s s := .acts (.refl s)

/-- A change of nothing that the laws or the port speak of, but it may be one of the buttons or of ATTN. -/
theorem Steps.apart {s t : State} (h : Alike s t := by exact .of_tables) (ram : t.ram = s.ram := by rfl) (part : t.part = s.part := by rfl)
    (deck : t.deck = s.deck := by rfl) (pending : t.pending = s.pending := by rfl) : Steps s t :=
  .aside h (.of_ram part deck pending ram)

theorem Steps.forEach {n : Nat} {f : Fin n → State → State} (hf : ∀ i s, Steps s (f i s)) (s : State) : Steps s (forEach n f s) :=
  forEach_invariant (Steps s) f (fun i t h => h.trans (hf i t)) s (refl s)

theorem Quiet.foldl {α : Type} {f : State → α → State} (hf : ∀ s a, Quiet s (f s a)) (l : List α) (s : State) :
    Quiet s (l.foldl f s) := foldl_invariant (Quiet s) f (fun t a h => h.trans (hf t a)) l s (refl s)

theorem Quiet.forEach {n : Nat} {f : Fin n → State → State} (hf : ∀ i s, Quiet s (f i s)) (s : State) : Quiet s (forEach n f s) :=
  forEach_invariant (Quiet s) f (fun i t h => h.trans (hf i t)) s (refl s)

theorem Acts.forEach {n : Nat} {f : Fin n → State → State} (hf : ∀ i s, Acts s (f i s)) (s : State) : Acts s (forEach n f s) :=
  forEach_invariant (Acts s) f (fun i t h => h.trans (hf i t)) s (refl s)

end Sys2Proof.Machine
end

section
/-! Every elementary act keeps the part state, the deck, the queue, the notice box and the canonical form of the exchange RAM. -/

namespace Sys2Proof.Machine

/-! ### Axes -/

theorem OnlyAxes.keepsPort {s t : State} (h : OnlyAxes s t) : KeepsPort s t :=
  ⟨h.part, h.deck, h.pending, h.wf, fun k hk => h.word _ fun a => .inl (by simp only [addrNoticeBox, addrAxisImage]; omega)⟩

theorem OnlyAxes.keepsDesk {s t : State} (h : OnlyAxes s t) : KeepsDesk s t :=
  .of_word (fun k _ hk => h.word k fun a => .inl (by simp only [addrAlertImage, addrAxisImage] at *; omega)) (by rw [h.form]) (by rw [h.form])

/-! ### Exhibits and slots -/

theorem State.writeExhibitImage_keepsPort (s : State) (e : ExhibitNo) : KeepsPort s (s.writeExhibitImage e) := by
  have := e.isLt
  refine ⟨rfl, rfl, rfl, fun h => State.writeWords_wf _ _ _ h ?_, fun k hk => State.word_writeWords_out _ _ _ _ (.inl ?_)⟩
  · simp only [exhibitImage_length, addrExhibitImage]; omega
  · simp only [addrNoticeBox, addrExhibitImage]; omega

theorem State.writeExhibitImage_keepsDesk (s : State) (e : ExhibitNo) : KeepsDesk s (s.writeExhibitImage e) :=
  .of_word fun k _ hk => State.word_writeWords_out _ _ _ _ (.inl (by simp only [addrAlertImage, addrExhibitImage] at *; omega))

theorem State.refreshExhibitImage_keepsDesk (s : State) (e : ExhibitNo) (b : List Word) : KeepsDesk s (s.refreshExhibitImage e b) := by
  unfold State.refreshExhibitImage
  split
  · exact .refl s
  · exact State.writeExhibitImage_keepsDesk s e

theorem State.putExhibit_keepsDesk (s : State) (e : ExhibitNo) (x : Exhibit) : KeepsDesk s (s.putExhibit e x) :=
  (KeepsDesk.of_ram (t := s.setExhibit e x)).trans (State.refreshExhibitImage_keepsDesk _ _ _)

theorem State.putSlot_keepsDesk (s : State) (e : ExhibitNo) (x : Slot) : KeepsDesk s (s.putSlot e x) :=
  (KeepsDesk.of_ram (t := s.setSlot e x)).trans (State.refreshExhibitImage_keepsDesk _ _ _)

theorem KeepsDesk.of_channels {s t : State} (h : t = { s with channels := t.channels }) : KeepsDesk s t := by
  rw [h]; exact .of_ram

theorem State.enterState_keepsDesk (s : State) (e : ExhibitNo) (st : ExhibitState) : KeepsDesk s (s.enterState e st) :=
  (State.putExhibit_keepsDesk _ _ _).trans (.of_channels (State.evalReady_form _ _))

theorem State.endShow_keepsDesk (s : State) (e : ExhibitNo) : KeepsDesk s (s.endShow e) := by
  unfold State.endShow
  simp only
  split
  · exact State.putSlot_keepsDesk _ _ _
  · exact (State.putSlot_keepsDesk _ _ _).trans (.of_channels (State.idleShowLamps_form _ _))

theorem State.refreshExhibitImage_keepsPort (s : State) (e : ExhibitNo) (b : List Word) :
    KeepsPort s (s.refreshExhibitImage e b) := by
  unfold State.refreshExhibitImage
  split
  · exact .refl s
  · exact State.writeExhibitImage_keepsPort s e

theorem State.putExhibit_keepsPort (s : State) (e : ExhibitNo) (x : Exhibit) : KeepsPort s (s.putExhibit e x) :=
  (KeepsPort.of_ram (t := s.setExhibit e x)).trans (State.refreshExhibitImage_keepsPort _ _ _)

theorem State.putSlot_keepsPort (s : State) (e : ExhibitNo) (x : Slot) : KeepsPort s (s.putSlot e x) :=
  (KeepsPort.of_ram (t := s.setSlot e x)).trans (State.refreshExhibitImage_keepsPort _ _ _)

/-- A change of lamp channels only. -/
theorem KeepsPort.of_channels {s t : State} (h : t = { s with channels := t.channels }) : KeepsPort s t := by
  rw [h]; exact .of_ram

theorem State.evalReady_keepsPort (s : State) (e : ExhibitNo) : KeepsPort s (s.evalReady e) := .of_channels (State.evalReady_form s e)

theorem State.enterState_keepsPort (s : State) (e : ExhibitNo) (st : ExhibitState) : KeepsPort s (s.enterState e st) :=
  (State.putExhibit_keepsPort _ _ _).trans (State.evalReady_keepsPort _ _)

theorem State.endShow_keepsPort (s : State) (e : ExhibitNo) : KeepsPort s (s.endShow e) := by
  unfold State.endShow
  simp only
  split
  · exact State.putSlot_keepsPort _ _ _
  · exact (State.putSlot_keepsPort _ _ _).trans (.of_channels (State.idleShowLamps_form _ _))

/-! ### Alerts -/

theorem State.rewriteAlertImage_wf (s : State) (h : Memory.wf s.ram = true) : Memory.wf s.rewriteAlertImage.ram = true := by
  refine State.writeWords_wf _ _ _ (State.writeWords_wf s _ _ h ?_) ?_
  · rw [State.alertImage_length]; decide
  · exact (by decide : addrImageSeq + 1 ≤ 16384)

theorem State.closeAct_wf (s : State) (fresh : List Nat) (sources : List SourceNo) (h : Memory.wf s.ram = true) :
    Memory.wf (s.closeAct fresh sources).ram = true := by
  unfold State.closeAct
  simp only
  refine State.rewriteAlertImage_wf _ ?_
  rw [State.selected_form s fresh sources _ rfl]
  exact h

/-- An act of the alert manager on a state that differs in its list, its next number and the gallery record. -/
theorem State.closeAct_keepsPort (s t : State) (fresh : List Nat) (sources : List SourceNo)
    (h : t = { s with alerts := t.alerts, nextNumber := t.nextNumber, gallery := t.gallery }) :
    KeepsPort s (t.closeAct fresh sources) := by
  obtain ⟨hform, hword⟩ := State.closeAct_act s t fresh sources h
  refine ⟨by rw [hform], by rw [hform], by rw [hform], fun hw => State.closeAct_wf _ _ _ (by rw [h]; exact hw), fun k hk => hword _ ?_⟩
  simp only [NotOfAlerts, Outside, addrImageSeq, addrAlertImage, addrNoticeBox]
  omega

theorem State.raise_keepsPort (s : State) (src : SourceNo) (cause : AlertCause) (code severity : Nat) :
    KeepsPort s (s.raise src cause code severity) := by
  unfold State.raise
  split
  · exact .refl s
  · unfold State.mergeRaise
    exact State.closeAct_keepsPort _ _ _ _ (by rw [State.noteRouting_form]; rfl)
  · unfold State.enterAlert
    exact State.closeAct_keepsPort _ _ _ _ (by rw [State.noteRouting_form]; rfl)
  · unfold State.enterAlert
    exact State.closeAct_keepsPort _ _ _ _ (by rw [State.noteRouting_form]; rfl)
  · exact .of_ram

theorem State.removeAlerts_keepsPort (s : State) (p : Alert → Bool) : KeepsPort s (s.removeAlerts p) := by
  unfold State.removeAlerts
  split
  · exact State.closeAct_keepsPort _ _ _ _ rfl
  · exact .refl s

theorem AlertStep.keepsPort {s t : State} (h : AlertStep s t) : KeepsPort s t := by
  cases h with
  | raised => exact State.raise_keepsPort _ _ _ _ _
  | removed => exact State.removeAlerts_keepsPort _ _
  | acknowledged x hx =>
    unfold State.acknowledge
    split
    · exact State.removeAlerts_keepsPort _ _
    · exact State.closeAct_keepsPort _ _ _ _ rfl
  | escalated x hx =>
    unfold State.escalate
    split
    · exact State.closeAct_keepsPort _ _ _ _ rfl
    · refine State.closeAct_keepsPort _ _ _ _ ?_
      split <;> rfl

/-- A step of the alert manager changes the list, the stations, the lamps and the alert image. -/
theorem AlertStep.act {s t : State} (h : AlertStep s t) : AlertAct s t := by
  cases h with
  | raised => exact State.raise_act _ _ _ _ _
  | removed => exact State.removeAlerts_act _ _
  | acknowledged x hx => exact State.acknowledge_act _ _
  | escalated x hx => exact State.escalate_act _ _

theorem AlertAct.keepsDesk {s t : State} (h : AlertAct s t) : KeepsDesk s t := by
  obtain ⟨hform, hword⟩ := h
  exact .of_word (fun k hk hlow => hword k ⟨hk, .inl hlow⟩) (by rw [hform]) (by rw [hform])

/-! ### Stations -/

theorem State.dropCallLamp_form (s : State) (l : Option ChannelNo) : s.dropCallLamp l = { s with channels := (s.dropCallLamp l).channels } := by
  unfold State.dropCallLamp
  split
  · rfl
  · split
    · rfl
    · exact State.chooseLayer_form _ _ _ _

/-- CONFIGURE STATIONS changes stations and lamps. -/
theorem State.takeStationTable_form (s : State) :
    s.takeStationTable = { s with stations := s.takeStationTable.stations, channels := s.takeStationTable.channels } := by
  unfold State.takeStationTable
  simp only
  refine forEach_invariant (fun t : State => t = { s with stations := t.stations, channels := t.channels }) _
    (fun st t h => by rw [State.refreshStation_form t st, h]) _ ?_
  exact forEach_invariant (fun t : State => t = { s with stations := t.stations, channels := t.channels }) _
    (fun st t h => by rw [State.dropCallLamp_form t, h]) _ rfl

/-! ### The disturbance of an axis at rest -/

/-- The axis of a disturbance: P follows the encoder count; outside the window it faults and leaves the wait list. -/
theorem State.disturb_keepsPort (s : State) (a : AxisNo) : KeepsPort s (s.disturb a) := by
  unfold State.disturb
  simp only
  have hraise := (State.putAxisAt_only s a { s.axis a with followRun := 0 } (s.axis a).encoder true).keepsPort.trans
    (State.raise_keepsPort _ (State.axisSource (s.putAxisAt a { s.axis a with followRun := 0 } (s.axis a).encoder true) a) .modelDisturbed 0 1)
  have hmark : ∀ u : State, KeepsPort u (if (u.axisOwner a).isNone then u.markDisturbed a else u) := fun u => by
    split
    · exact .of_ram
    · exact .refl u
  split
  · exact hraise.trans (hmark _)
  · exact (hraise.trans (hmark _)).trans
      (((State.leaveList_only _ _).trans (State.putAxis_only _ _ _ _)).trans (State.report_only _ _)).keepsPort

theorem State.disturb_keepsDesk (s : State) (a : AxisNo) : KeepsDesk s (s.disturb a) := by
  unfold State.disturb
  simp only
  have hraise := (State.putAxisAt_only s a { s.axis a with followRun := 0 } (s.axis a).encoder true).keepsDesk.trans
    (State.raise_act _ (State.axisSource (s.putAxisAt a { s.axis a with followRun := 0 } (s.axis a).encoder true) a) .modelDisturbed 0
      1).keepsDesk
  have hmark : ∀ u : State, KeepsDesk u (if (u.axisOwner a).isNone then u.markDisturbed a else u) := fun u => by
    split
    · exact .of_ram
    · exact .refl u
  split
  · exact hraise.trans (hmark _)
  · exact (hraise.trans (hmark _)).trans
      (((State.leaveList_only _ _).trans (State.putAxis_only _ _ _ _)).trans (State.report_only _ _)).keepsDesk

/-! ### All acts -/

theorem Quiet.keepsPort {s t : State} (h : Quiet s t) : KeepsPort s t := by
  induction h with
  | alike h k d => exact k
  | axis h ht only => exact only.keepsPort
  | completes a kind h => exact (State.completeMotion_only _ _ _).keepsPort
  | alert h => exact h.keepsPort
  | disturbs a h => exact State.disturb_keepsPort _ _
  | beacon e ch x h => exact .of_ram
  | stations h hp => rw [State.takeStationTable_form]; exact .of_ram
  | trans h k ih ik => exact ih.trans ik

theorem Acts.keepsPort {s t : State} (h : Acts s t) : KeepsPort s t := by
  induction h with
  | quiet h => exact h.keepsPort
  | enters e st => exact State.enterState_keepsPort _ _ _
  | starts e address => exact (State.putSlot_keepsPort _ _ _).trans (State.enterState_keepsPort _ _ _)
  | ends e st _ _ _ _ q => exact ((State.endShow_keepsPort _ _).trans q.keepsPort).trans (State.enterState_keepsPort _ _ _)
  | repeats e address _ q => exact ((State.endShow_keepsPort _ _).trans q.keepsPort).trans (State.putSlot_keepsPort _ _ _)
  | occupies e x => exact State.putSlot_keepsPort _ _ _
  | configuresOn e => exact State.putExhibit_keepsPort _ _ _
  | configuresOff e => exact State.putExhibit_keepsPort _ _ _
  | stops h hrest ih => exact KeepsPort.trans .of_ram ih
  | trans h k ih ik => exact ih.trans ik

theorem Steps.keepsPort {s t : State} (h : Steps s t) : KeepsPort s t := by
  induction h with
  | acts h => exact h.keepsPort
  | aside _ k => exact k
  | trans _ _ ih ik => exact ih.trans ik

theorem Quiet.keepsDesk {s t : State} (h : Quiet s t) : KeepsDesk s t := by
  induction h with
  | alike h k d => exact d
  | axis h ht only => exact only.keepsDesk
  | completes a kind h => exact (State.completeMotion_only _ _ _).keepsDesk
  | alert h => exact h.act.keepsDesk
  | disturbs a h => exact State.disturb_keepsDesk _ _
  | beacon e ch x h => exact .of_ram
  | stations h hp => rw [State.takeStationTable_form]; exact .of_ram
  | trans h k ih ik => exact ih.trans ik

/-- No act writes ATTN or a word below the images, or changes a button in more than its lockout. -/
theorem Acts.keepsDesk {s t : State} (h : Acts s t) : KeepsDesk s t := by
  induction h with
  | quiet h => exact h.keepsDesk
  | enters e st => exact State.enterState_keepsDesk _ _ _
  | starts e address => exact (State.putSlot_keepsDesk _ _ _).trans (State.enterState_keepsDesk _ _ _)
  | ends e st _ _ _ _ q => exact ((State.endShow_keepsDesk _ _).trans q.keepsDesk).trans (State.enterState_keepsDesk _ _ _)
  | repeats e address _ q => exact ((State.endShow_keepsDesk _ _).trans q.keepsDesk).trans (State.putSlot_keepsDesk _ _ _)
  | occupies e x => exact State.putSlot_keepsDesk _ _ _
  | configuresOn e => exact State.putExhibit_keepsDesk _ _ _
  | configuresOff e => exact State.putExhibit_keepsDesk _ _ _
  | stops h hrest ih => exact KeepsDesk.trans .of_ram ih
  | trans h k ih ik => exact ih.trans ik

end Sys2Proof.Machine
end

section
/-! Acts that leave every exhibit in its state: the blocks below the show sequencer. -/

namespace Sys2Proof.Machine

/-! ### What a quiet act keeps -/

/-- A disturbance changes an axis, the pool, what the alert manager changes, and the gallery record. -/
theorem State.disturb_form (s : State) (a : AxisNo) :
    s.disturb a =
      { s with
        axes := (s.disturb a).axes, pool := (s.disturb a).pool, reports := (s.disturb a).reports, ram := (s.disturb a).ram,
        alerts := (s.disturb a).alerts, stations := (s.disturb a).stations, channels := (s.disturb a).channels,
        nextNumber := (s.disturb a).nextNumber, rewriteCount := (s.disturb a).rewriteCount, gallery := (s.disturb a).gallery } := by
  unfold State.disturb
  simp only
  have hmark : ∀ u : State, (if (u.axisOwner a).isNone then u.markDisturbed a else u) =
      { u with gallery := (if (u.axisOwner a).isNone then u.markDisturbed a else u).gallery } := fun u => by split <;> rfl
  have hput := (State.putAxisAt_only s a { s.axis a with followRun := 0 } (s.axis a).encoder true).form
  have hraise := (State.raise_act (s.putAxisAt a { s.axis a with followRun := 0 } (s.axis a).encoder true)
    (State.axisSource (s.putAxisAt a { s.axis a with followRun := 0 } (s.axis a).encoder true) a) .modelDisturbed 0 1).1
  split
  · rw [hmark, hraise, hput]
  · rw [(((State.leaveList_only _ _).trans (State.putAxis_only _ _ _ _)).trans (State.report_only _ _)).form, hmark, hraise, hput]

/-- No exhibit changes its state or configuration, and no slot is taken or emptied. -/
structure KeepsShows (s t : State) : Prop where
  state : ∀ e, (t.exhibit e).state = (s.exhibit e).state
  config : ∀ e, (t.exhibit e).config = (s.exhibit e).config
  slot : ∀ e, (t.slot e).current.isSome = (s.slot e).current.isSome
  stop : t.stopInForce = true → s.stopInForce = true

theorem KeepsShows.of_tables {s t : State} (he : t.exhibits = s.exhibits) (hs : t.slots = s.slots)
    (hstop : t.stopInForce = s.stopInForce) : KeepsShows s t :=
  ⟨fun e => by unfold State.exhibit; rw [he], fun e => by unfold State.exhibit; rw [he], fun e => by unfold State.slot; rw [hs],
    fun h => hstop ▸ h⟩

theorem Quiet.keepsShows {s t : State} (h : Quiet s t) : KeepsShows s t := by
  induction h with
  | alike h k => exact ⟨fun e => (h.exhibit e).state, fun e => (h.exhibit e).config, h.slot, h.stop⟩
  | axis h ht only => exact .of_tables only.exhibits only.slots only.stopInForce
  | @completes s a kind h =>
    have only := State.completeMotion_only s a kind
    exact .of_tables only.exhibits only.slots only.stopInForce
  | alert h => exact .of_tables (by rw [h.act.1]) (by rw [h.act.1]) (by rw [h.act.1])
  | disturbs a h => exact .of_tables (by rw [State.disturb_form]) (by rw [State.disturb_form]) (by rw [State.disturb_form])
  | beacon e ch x h => exact .of_tables rfl rfl rfl
  | stations h hp =>
    exact .of_tables (by rw [State.takeStationTable_form]) (by rw [State.takeStationTable_form]) (by rw [State.takeStationTable_form])
  | trans h k ih ik =>
    exact ⟨fun e => (ik.state e).trans (ih.state e), fun e => (ik.config e).trans (ih.config e),
      fun e => (ik.slot e).trans (ih.slot e), fun hs => ih.stop (ik.stop hs)⟩

theorem KeepsShows.inForce {s t : State} (h : KeepsShows s t) (e : ExhibitNo) : (t.exhibit e).inForce = (s.exhibit e).inForce := by
  unfold Exhibit.inForce; rw [h.state, h.config]

/-! ### Exhibits, slots and lamps -/

/-- The axis fields of an axis after another, or the same, has been replaced. -/
theorem State.axis_putAxis (s : State) (a b : AxisNo) (x : Axis) (r : Bool) :
    ∃ stale, (s.putAxis a x r).axis b = if a = b then { x with imageStale := stale } else s.axis b := by
  obtain ⟨stale, h⟩ := State.putAxis_form s a x r
  exact ⟨stale, by rw [h]; exact tget_tset _ _ _ _⟩

theorem State.pool_putAxis (s : State) (a : AxisNo) (x : Axis) (r : Bool) : (s.putAxis a x r).pool = s.pool := by
  obtain ⟨stale, h⟩ := State.putAxis_form s a x r
  rw [h]

/-- A change of axes in which the laws see none. -/
theorem Quiet.of_axes {s t : State} (h : OnlyAxes s t) (pool : t.pool = s.pool) (ha : ∀ a, (s.axis a).Alike (t.axis a)) :
    Quiet s t := by
  refine .alike { Alike.of_tables (t := { s with ram := t.ram, reports := t.reports }) with
      part := fun hp => h.part ▸ hp, stop := fun hs => h.stopInForce ▸ hs, pool := pool, axis := ha,
      exhibit := fun e => ?_, slot := fun e => ?_, alerts := ⟨id, ?_, fun x => ⟨rfl, rfl, rfl, rfl, rfl, rfl⟩⟩, station := fun st => ?_,
      channel := fun ch => ?_, dark := fun _ _ ch hd => ?_ } h.keepsPort h.keepsDesk
  · rw [h.exhibit]; exact .refl _
  · rw [h.slot]
  · simp [h.alerts]
  · rw [h.station]; exact ⟨rfl, rfl, rfl, rfl, rfl⟩
  · rw [h.channel]
  · rw [h.channel]; exact hd

theorem State.setAxis_quiet (s : State) (a : AxisNo) (x : Axis) (h : (s.axis a).Alike x) : Quiet s (s.setAxis a x) := by
  refine .of_axes (State.setAxis_only s a x) rfl fun b => ?_
  rw [show (s.setAxis a x).axis b = if a = b then x else s.axis b from tget_tset _ _ _ _]
  split
  · next hab => subst hab; exact h
  · exact .refl _

theorem State.putAxis_quiet (s : State) (a : AxisNo) (x : Axis) (r : Bool) (h : (s.axis a).Alike x) : Quiet s (s.putAxis a x r) := by
  refine .of_axes (State.putAxis_only s a x r) (State.pool_putAxis _ _ _ _) fun b => ?_
  obtain ⟨stale, hb⟩ := State.axis_putAxis s a b x r
  rw [hb]
  split
  · next hab => subst hab; exact { h with }
  · exact .refl _

theorem State.report_quiet (s : State) (r : Report) : Quiet s (s.report r) := .aside .of_tables

theorem State.reportCrossings_quiet (s : State) (a : AxisNo) (cs : List CrossedMark) : Quiet s (s.reportCrossings a cs) :=
  .foldl (fun t _ => State.report_quiet t _) cs s

theorem State.putAxisAt_quiet (s : State) (a : AxisNo) (x : Axis) (p : Int) (r : Bool) (h : (s.axis a).Alike (x.movedTo p)) :
    Quiet s (s.putAxisAt a x p r) :=
  (State.putAxis_quiet s a _ r h).trans (State.reportCrossings_quiet _ _ _)

theorem State.dropResume_quiet (s : State) (a : AxisNo) : Quiet s (s.dropResume a) := State.setAxis_quiet _ _ _ { Axis.Alike.refl _ with }

theorem State.discardResume_quiet (s : State) (e : ExhibitNo) : Quiet s (s.discardResume e) := .foldl State.dropResume_quiet _ s

theorem State.reportDone_quiet (s : State) (a : AxisNo) (kind : MotionKind) : Quiet s (s.reportDone a kind) := by
  unfold State.reportDone
  split
  · exact .refl s
  · split
    · exact State.report_quiet _ _
    · exact .refl s

theorem State.reportRest_quiet (s : State) (a : AxisNo) : Quiet s (s.reportRest a) := by
  unfold State.reportRest
  split
  · exact .refl s
  · split
    · exact State.report_quiet _ _
    · exact .refl s

theorem State.markCondition_quiet (s : State) (e : ExhibitNo) (c : Condition) : Quiet s (s.markCondition e c) := .aside .of_tables

/-- An exhibit entry changes as the laws allow. -/
theorem State.putExhibit_quiet (s : State) (e : ExhibitNo) (x : Exhibit) (h : (s.exhibit e).Alike x) : Quiet s (s.putExhibit e x) := by
  refine .alike ?_ (State.putExhibit_keepsPort s e x) (State.putExhibit_keepsDesk s e x)
  rw [State.putExhibit_form]
  refine { Alike.of_tables (s := s) (t := { s with ram := (s.putExhibit e x).ram }) with exhibit := fun f => ?_ }
  rw [show State.exhibit { s with exhibits := tset s.exhibits e x, ram := (s.putExhibit e x).ram } f = if e = f then x else s.exhibit f
    from tget_tset _ _ _ _]
  split
  · next hef => subst hef; exact h
  · exact .refl _

/-- A slot changes and stays occupied or empty. -/
theorem State.putSlot_quiet (s : State) (e : ExhibitNo) (x : Slot) (h : x.current.isSome = (s.slot e).current.isSome) :
    Quiet s (s.putSlot e x) := by
  refine .alike ?_ (State.putSlot_keepsPort s e x) (State.putSlot_keepsDesk s e x)
  rw [State.putSlot_form]
  refine { Alike.of_tables (s := s) (t := { s with ram := (s.putSlot e x).ram }) with slot := fun f => ?_ }
  rw [show State.slot { s with slots := tset s.slots e x, ram := (s.putSlot e x).ram } f = if e = f then x else s.slot f
    from tget_tset _ _ _ _]
  split
  · next hef => subst hef; exact h
  · rfl

/-- A change of lamp channels that keeps the settings of the ALERT layers, and lamps dark where nothing is configured. -/
theorem Quiet.of_channels {s t : State} (h : t = { s with channels := t.channels })
    (halert : ∀ ch, (t.channel ch).alertLayer.setting = (s.channel ch).alertLayer.setting)
    (hdark : s.part = .cold → (∀ e, (s.exhibit e).state = .off ∧ (s.slot e).current = none) →
      ∀ ch, (s.channel ch).Dark → (t.channel ch).Dark) : Quiet s t := by
  refine .alike ?_ (.of_channels h) (.of_channels h)
  refine { Alike.of_tables (s := s) (t := s) with
    part := fun hp => ?_, stop := fun hs => ?_, pool := ?_, axis := fun a => ?_, exhibit := fun e => ?_, slot := fun e => ?_,
    alerts := ⟨id, ?_, fun x => ⟨rfl, rfl, rfl, rfl, rfl, rfl⟩⟩, station := fun st => ?_, channel := halert, dark := hdark }
  · rw [h] at hp; exact hp
  · rw [h] at hs; exact hs
  · rw [h]
  · rw [h]; exact .refl _
  · rw [h]; exact .refl _
  · rw [h]; rfl
  · rw [h]; simp
  · rw [h]; exact ⟨rfl, rfl, rfl, rfl, rfl⟩

theorem State.channel_setLayer (s : State) (ch c : ChannelNo) (n : LayerName) (x : Setting) :
    (s.setLayer ch n x).channel c =
      if ch = c then ((s.channel ch).withLayer n (startLayer s.patterns x)).refresh s.patterns else s.channel c := tget_tset _ _ _ _

/-- A SHOW or READY layer is set: some exhibit is configured, or the part has left COLD. -/
theorem State.setLayer_quiet (s : State) (ch : ChannelNo) (n : LayerName) (x : Setting) (hn : n ≠ .alertLayer)
    (h : s.part = .cold → ∃ e, s.HasShow e) : Quiet s (s.setLayer ch n x) := by
  refine .of_channels rfl (fun c => ?_) (fun hcold hoff => ?_)
  · rw [State.channel_setLayer]
    split
    · next hc =>
      subst hc
      cases n with
      | alertLayer => exact absurd rfl hn
      | showLayer | readyLayer => rfl
    · rfl
  · obtain ⟨e, he⟩ := h hcold
    obtain ⟨hstate, hslot⟩ := hoff e
    exact absurd he (by simp [hstate, hslot])

theorem State.chooseLamp_quiet (s : State) (l : Option ChannelNo) (n : LayerName) (x : Setting) (hn : n ≠ .alertLayer)
    (h : s.part = .cold → ∃ e, s.HasShow e) : Quiet s (s.chooseLamp l n x) := by
  unfold State.chooseLamp State.chooseLayer
  split
  · exact .refl s
  · split
    · exact .refl s
    · exact State.setLayer_quiet s _ n x hn h

theorem Exhibit.inForce_some {x : Exhibit} {c : ExhibitConfig} (h : x.inForce = some c) : x.state ≠ .off ∧ x.config = some c := by
  unfold Exhibit.inForce at h
  split at h
  · simp at h
  · next hs => exact ⟨hs, h⟩

theorem State.evalReady_quiet (s : State) (e : ExhibitNo) : Quiet s (s.evalReady e) := by
  unfold State.evalReady
  split
  · exact .refl s
  · next c hc => exact State.chooseLamp_quiet s _ _ _ (by decide) fun _ => ⟨e, .inl (Exhibit.inForce_some hc).1⟩

theorem State.evalAllReady_quiet (s : State) : Quiet s s.evalAllReady := .forEach (fun e t => State.evalReady_quiet t e) s

theorem State.recordFirst_quiet (s : State) (e : ExhibitNo) (code : ShowFault) (address : Nat) : Quiet s (s.recordFirst e code address) := by
  unfold State.recordFirst
  split
  · exact .refl s
  · exact State.putSlot_quiet s e _ rfl

theorem State.clearFirst_quiet (s : State) (e : ExhibitNo) : Quiet s (s.clearFirst e) := State.putSlot_quiet s e _ rfl

/-- The axis that an act replaces, but for the mark that its image is stale. -/
theorem State.state_putAxisAt (s : State) (a b : AxisNo) (x : Axis) (p : Int) (r : Bool) :
    ∃ stale, (s.putAxisAt a x p r).axis b = if a = b then { x.movedTo p with imageStale := stale } else s.axis b := by
  obtain ⟨stale, h⟩ := State.axis_putAxis s a b (x.movedTo p) r
  refine ⟨stale, ?_⟩
  unfold State.putAxisAt
  simp only
  rw [State.reportCrossings_form]
  exact h

/-! ### Moves of the axis controllers -/

theorem Sets.put {s t : State} {a : AxisNo} {y : Axis} (h : t.pool = s.pool)
    (ht : ∃ stale, ∀ b, t.axis b = if a = b then { y with imageStale := stale } else s.axis b) : Sets s t a y s.pool := ⟨h, ht⟩

/-- Nothing set. -/
theorem Sets.refl (s : State) (a : AxisNo) : Sets s s a (s.axis a) s.pool := by
  refine ⟨rfl, (s.axis a).imageStale, fun b => ?_⟩
  split
  · next h => subst h; rfl
  · rfl

/-- What is set after something has been set at the same axis. -/
theorem Sets.after {s t u : State} {a : AxisNo} {x y : Axis} {p q : Pool} (h : Sets s t a x p) (k : Sets t u a y q) : Sets s u a y q := by
  obtain ⟨stale, hs⟩ := h.axis
  obtain ⟨stale', hk⟩ := k.axis
  refine ⟨k.pool, stale', fun b => ?_⟩
  rw [hk]
  split
  · rfl
  · next hab => rw [hs, if_neg hab]

theorem Sets.same {s t : State} {a : AxisNo} {y : Axis} {p : Pool} (h : Sets s t a y p) : ∃ stale, t.axis a = { y with imageStale := stale } := by
  obtain ⟨stale, hs⟩ := h.axis
  exact ⟨stale, by rw [hs, if_pos rfl]⟩

theorem Sets.other {s t : State} {a b : AxisNo} {y : Axis} {p : Pool} (h : Sets s t a y p) (hb : b ≠ a) : t.axis b = s.axis b := by
  obtain ⟨stale, hs⟩ := h.axis
  rw [hs, if_neg (Ne.symm hb)]

/-- A report or another change that the axes and the pool do not see. -/
theorem Sets.congr {s t u : State} {a : AxisNo} {y : Axis} {p : Pool} (h : Sets s t a y p) (ha : u.axes = t.axes) (hp : u.pool = t.pool) :
    Sets s u a y p := by
  obtain ⟨stale, hs⟩ := h.axis
  exact ⟨hp.trans h.pool, stale, fun b => (congrArg (tget · b) ha).trans (hs b)⟩

theorem State.setPool_sets (s : State) (a : AxisNo) (p : Pool) : Sets s (s.setPool p) a (s.axis a) p := by
  obtain ⟨-, h⟩ := Sets.refl s a
  exact ⟨rfl, h⟩

theorem State.setAxis_sets (s : State) (a : AxisNo) (y : Axis) : Sets s (s.setAxis a y) a y s.pool := by
  refine ⟨rfl, y.imageStale, fun b => ?_⟩
  exact (tget_tset s.axes a b y).trans (by split <;> rfl)

theorem State.putAxis_sets (s : State) (a : AxisNo) (y : Axis) (r : Bool) : Sets s (s.putAxis a y r) a y s.pool := by
  obtain ⟨stale, h⟩ := State.putAxis_form s a y r
  refine ⟨by rw [h], stale, fun b => ?_⟩
  rw [h]
  exact tget_tset _ _ _ _

theorem State.putAxisAt_sets (s : State) (a : AxisNo) (y : Axis) (p : Int) (r : Bool) :
    Sets s (s.putAxisAt a y p r) a (y.movedTo p) s.pool := by
  unfold State.putAxisAt
  simp only
  rw [State.reportCrossings_form]
  exact (State.putAxis_sets s a (y.movedTo p) r).congr rfl rfl

theorem State.reportDone_tables (s : State) (a : AxisNo) (kind : MotionKind) :
    (s.reportDone a kind).axes = s.axes ∧ (s.reportDone a kind).pool = s.pool := by
  unfold State.reportDone
  split
  · exact ⟨rfl, rfl⟩
  · split <;> exact ⟨rfl, rfl⟩

theorem State.reportRest_tables (s : State) (a : AxisNo) : (s.reportRest a).axes = s.axes ∧ (s.reportRest a).pool = s.pool := by
  unfold State.reportRest
  split
  · exact ⟨rfl, rfl⟩
  · split <;> exact ⟨rfl, rfl⟩

/-- The start of a granted motion. -/
theorem State.startGranted_sets (s : State) (a : AxisNo) :
    Sets s (s.startGranted a) a (s.axis a).started (s.pool.started a (s.axis a)) := by
  unfold State.startGranted Axis.started Pool.started
  simp only
  cases (s.axis a).request with
  | none => exact Sets.refl s a
  | some r =>
    cases r with
    | move t i =>
      simp only
      have hmoving := State.putAxis_sets s a ((s.axis a).enterMoving t i) false
      by_cases ht : t = (s.axis a).pos
      · simp only [if_pos ht]
        obtain ⟨hda, hdp⟩ := State.reportDone_tables
          (((s.putAxis a ((s.axis a).enterMoving t i) false).returnUnits a).putAxis a ((s.axis a).enterMoving t i).enterIdle false) a .move
        refine Sets.congr (t := ((s.putAxis a ((s.axis a).enterMoving t i) false).returnUnits a).putAxis a
          ((s.axis a).enterMoving t i).enterIdle false) ?_ ((State.reportRest_tables _ _).1.trans hda)
          ((State.reportRest_tables _ _).2.trans hdp)
        have hreturn := State.setPool_sets (s.putAxis a ((s.axis a).enterMoving t i) false) a
          ((s.putAxis a ((s.axis a).enterMoving t i) false).pool.returned a)
        have := (hmoving.after hreturn).after (State.putAxis_sets _ a ((s.axis a).enterMoving t i).enterIdle false)
        rwa [show ((s.putAxis a ((s.axis a).enterMoving t i) false).setPool
          ((s.putAxis a ((s.axis a).enterMoving t i) false).pool.returned a)).pool = s.pool.returned a from congrArg (Pool.returned · a) hmoving.pool]
          at this
      · simp only [if_neg ht]
        exact hmoving
    | home =>
      simp only
      cases (s.axis a).config with
      | none => exact Sets.refl s a
      | some c => exact State.putAxis_sets s a _ false

/-- The grant scan: the heads of the list are granted one after another. -/
theorem grantScanUpTo_quiet (n : Nat) (s : State) : Quiet s (grantScanUpTo n s) := by
  induction n generalizing s with
  | zero => exact .refl s
  | succ n ih =>
    unfold grantScanUpTo
    split
    · exact .refl s
    · next w rest hw =>
      split
      · next hd =>
        refine Quiet.trans (.axis (.isGranted w rest hw rfl hd) ?_ (State.grantHead_only s w rest)) (ih _)
        exact (State.setPool_sets s w.axis _).after (State.startGranted_sets _ _)
      · exact .refl s

theorem State.grantScan_quiet (s : State) : Quiet s s.grantScan := grantScanUpTo_quiet _ s

/-- A move of an axis that changes in the same act what the laws do not see. -/
theorem Quiet.move_after {s t : State} {a : AxisNo} {x y : Axis} {p : Pool} (hx : (s.axis a).Alike x) (h : Move (s.setAxis a x) a y p)
    (ht : Sets s t a y p) (only : OnlyAxes s t) : Quiet s t := by
  refine (State.setAxis_quiet s a x hx).trans (.axis h ⟨ht.pool, ?_⟩ ⟨only.form, only.wf, only.word⟩)
  obtain ⟨stale, hb⟩ := ht.axis
  refine ⟨stale, fun b => (hb b).trans ?_⟩
  split
  · rfl
  · next hab => exact (tget_tset_ne s.axes x hab).symm

/-- A request for power: granted at once, or joined to the list. -/
theorem State.requestPower_quiet (s : State) (a : AxisNo) (x : Axis) (r : Request) (h : s.MayMove) (hx : (s.axis a).Alike x)
    (hr : x.Asks r) : Quiet s (s.requestPower a { x with request := some r }) := by
  have honly := State.requestPower_only s a { x with request := some r }
  unfold State.requestPower at honly ⊢
  split
  · next hw =>
    rw [if_pos hw] at honly
    have hmove : Move (s.setAxis a x) a (Axis.started { x with request := some r })
        ((s.pool.granted a x.draw).started a { x with request := some r }) := by
      have := Move.starts (s := s.setAxis a x) (a := a) r h (by rwa [State.axis_setAxis]) (List.isEmpty_iff.1 hw.1)
        (by rw [State.axis_setAxis]; exact hw.2)
      rwa [State.axis_setAxis] at this
    refine .move_after hx hmove ?_ honly
    have hset := (State.setPool_sets s a (s.pool.granted a x.draw)).after (State.setAxis_sets _ a { x with request := some r })
    have := hset.after (State.startGranted_sets _ a)
    rwa [State.axis_setAxis] at this
  · next hw =>
    rw [if_neg hw] at honly
    have hmove : Move (s.setAxis a x) a { x with request := some r, state := .awaitPower } (s.pool.joined a x.draw) := by
      have := Move.joins (s := s.setAxis a x) (a := a) r h (by rwa [State.axis_setAxis])
      rwa [State.axis_setAxis] at this
    exact .move_after hx hmove ((State.setPool_sets s a (s.pool.joined a x.draw)).after (State.putAxis_sets _ a _ false)) honly

theorem State.faultAxis_quiet (s : State) (a : AxisNo) (cause : FaultCause) (h : (s.axis a).state.drives = true) :
    Quiet s (s.faultAxis a cause) :=
  .axis (.faults cause h) (((State.setPool_sets s a _).after (State.putAxisAt_sets _ _ _ _ _)).congr rfl rfl)
    (State.faultAxis_only s a cause)

theorem State.quickStopSilently_quiet (s : State) (a : AxisNo) : Quiet s (s.quickStopSilently a) := by
  have honly := State.quickStopSilently_only s a
  unfold State.quickStopSilently at honly ⊢
  split
  · next h =>
    rw [if_pos h] at honly
    exact .axis (.quickStops h) ((State.setPool_sets s a _).after (State.putAxisAt_sets _ _ _ _ _)) honly
  · exact .refl s

theorem State.leaveAwait_quiet (s : State) (a : AxisNo) (h : (s.axis a).state = .awaitPower) : Quiet s (s.leaveAwait a) := by
  have honly := State.leaveAwait_only s a
  unfold State.leaveAwait at honly ⊢
  simp only at honly ⊢
  split
  · next hh =>
    rw [if_pos hh] at honly
    exact .axis (.leaves h (.inl hh)) ((State.setPool_sets s a _).after (State.putAxis_sets _ _ _ _)) honly
  · next hh =>
    rw [if_neg hh] at honly
    exact .axis (.leavesUnhomed h) ((State.setPool_sets s a _).after (State.putAxisAt_sets _ _ _ _ _)) honly

theorem State.controlledStop_quiet (s : State) (a : AxisNo) : Quiet s (s.controlledStop a) := by
  unfold State.controlledStop
  simp only
  split
  · next h => exact .axis (.slows none h (by simp)) (State.putAxis_sets _ _ _ _) (State.putAxis_only _ _ _ _)
  · next h => exact .axis (.pends none h (by simp)) (State.putAxis_sets _ _ _ _) (State.putAxis_only _ _ _ _)
  all_goals exact .refl s

theorem State.leaveFault_quiet (s : State) (a : AxisNo) : Quiet s (s.leaveFault a) := by
  unfold State.leaveFault
  simp only
  split
  · exact .refl s
  · next h =>
    have hs : (s.axis a).state = .faulted := not_not.1 h
    split
    · exact .axis (.losesHome hs) (State.putAxisAt_sets _ _ _ _ _) (State.putAxisAt_only _ _ _ _ _)
    · next hn =>
      simp only [not_or, Bool.not_eq_false] at hn
      exact .axis (.recovers hs hn.2.1 hn.2.2) (State.putAxis_sets _ _ _ _) (State.putAxis_only _ _ _ _)

/-- How a move request that is not refused finds the axis (R82, R84 to R86). -/
theorem Axis.moveCase_cases (x : Axis) (t : Int) :
    match x.moveCase t with
    | .refused => True
    | .complete => x.state = .idle
    | .start => x.state = .idle
    | .replaceComplete => x.state = .awaitPower ∧ ∃ u j, x.request = some (.move u j)
    | .replace => x.state = .awaitPower ∧ ∃ u j, x.request = some (.move u j)
    | .ahead => x.state = .moving ∧ x.isAhead (x.clamp t) = true
    | .behind => x.state = .moving
    | .stopPending => x.state = .stopping := by
  unfold Axis.moveCase
  cases hs : x.state with
  | off | unhomed | faulted | homing | stopping => simp
  | idle => by_cases hc : x.clamp t = x.pos <;> simp [hc]
  | moving => by_cases hc : x.isAhead (x.clamp t) = true <;> simp [hc]
  | awaitPower =>
    cases hr : x.request with
    | none => simp
    | some r =>
      cases r with
      | home => simp
      | move u j => by_cases hc : x.clamp t = x.pos <;> simp [hc]

theorem State.takeMove_quiet (s : State) (a : AxisNo) (t : Int) (i : Fin 4) (h : s.MayMove) : Quiet s (s.takeMove a t i) := by
  have hcase := (s.axis a).moveCase_cases t
  unfold State.takeMove
  simp only
  have hclamp : (s.axis a).Alike { s.axis a with clamped := decide ((s.axis a).clamp t ≠ t) } := { Axis.Alike.refl (s.axis a) with }
  have hput : ∀ y, Move (s.setAxis a { s.axis a with clamped := decide ((s.axis a).clamp t ≠ t) }) a y s.pool →
      Quiet s (s.putAxis a y false) := fun y hy => .move_after hclamp hy (State.putAxis_sets _ _ _ _) (State.putAxis_only _ _ _ _)
  have haxis := State.axis_setAxis s a { s.axis a with clamped := decide ((s.axis a).clamp t ≠ t) }
  split <;> rename_i heq <;> rw [heq] at hcase <;> simp only at hcase
  · exact .refl s
  · exact State.putAxis_quiet _ _ _ _ hclamp
  · exact State.requestPower_quiet s a { s.axis a with clamped := decide ((s.axis a).clamp t ≠ t) } (.move ((s.axis a).clamp t) i) h hclamp
      ⟨hcase, t, rfl⟩
  · have hmove := Move.leaves (s := s.setAxis a { s.axis a with clamped := decide ((s.axis a).clamp t ≠ t) }) (a := a)
      (by rw [haxis]; exact hcase.1) (.inr (by rw [haxis]; exact hcase.2))
    rw [haxis] at hmove
    exact (Quiet.move_after hclamp hmove ((State.setPool_sets s a (s.pool.left a)).after (State.putAxis_sets _ _ _ _))
      ((State.leaveList_only _ _).trans (State.putAxis_only _ _ _ _))).trans (State.grantScan_quiet _)
  · have hmove := Move.replaces (s := s.setAxis a { s.axis a with clamped := decide ((s.axis a).clamp t ≠ t) }) (a := a) t i
      (by rw [haxis]; exact hcase.1) (by rw [haxis]; exact hcase.2)
    rw [haxis] at hmove
    exact hput _ hmove
  · have hmove := Move.retargets (s := s.setAxis a { s.axis a with clamped := decide ((s.axis a).clamp t ≠ t) }) (a := a) t i
      (by rw [haxis]; exact hcase.1) (by rw [haxis]; exact hcase.2)
    rw [haxis] at hmove
    exact hput _ hmove
  · have hmove := Move.slows (s := s.setAxis a { s.axis a with clamped := decide ((s.axis a).clamp t ≠ t) }) (a := a)
      (some (.move ((s.axis a).clamp t) i)) (by rw [haxis]; exact hcase) (by rw [haxis]; rintro q ⟨⟩; exact ⟨t, i, rfl⟩)
    rw [haxis] at hmove
    exact hput _ hmove
  · have hmove := Move.pends (s := s.setAxis a { s.axis a with clamped := decide ((s.axis a).clamp t ≠ t) }) (a := a)
      (some (.move ((s.axis a).clamp t) i)) (by rw [haxis]; exact hcase) (by rw [haxis]; rintro q ⟨⟩; exact ⟨t, i, rfl⟩)
    rw [haxis] at hmove
    exact hput _ hmove

theorem State.loadHome_quiet (s : State) (a : AxisNo) (v : Int) (h : (s.axis a).state = .unhomed) :
    Quiet s (s.loadHome a (s.axis a) v) :=
  State.putAxisAt_quiet _ _ _ _ _ { Axis.Alike.refl (s.axis a) with pos := fun hp => by simp [h] at hp }

theorem State.takeHome_quiet (s : State) (a : AxisNo) (h : s.MayMove) : Quiet s (s.takeHome a) := by
  unfold State.takeHome
  simp only
  split
  · exact .refl s
  · next c hc =>
    split
    · next hs =>
      have hload := State.loadHome_quiet s a c.homeValue hs
      obtain ⟨stale, hx⟩ := State.state_putAxisAt s a a
        { s.axis a with
          encoder := c.homeValue, speedRef := (s.axis a).speedRef + (c.homeValue - (s.axis a).encoder), followRun := 0 } c.homeValue true
      rw [if_pos rfl] at hx
      have only := State.loadHome_only s a (s.axis a) c.homeValue
      refine hload.trans (State.requestPower_quiet _ a _ .home ?_ (.refl _) ?_)
      · simpa only [State.MayMove, only.stopInForce, only.part, only.exhibit, only.slot] using h
      · rw [show (s.loadHome a (s.axis a) c.homeValue).axis a = _ from hx]
        exact ⟨c, hc, .inr ⟨hs, rfl⟩⟩
    · next hs => exact State.requestPower_quiet s a _ .home h (.refl _) ⟨c, hc, .inl hs⟩
    all_goals exact .refl s

theorem State.arrive_quiet (s : State) (a : AxisNo) (c : AxisConfig) (h : (s.axis a).state = .homing) (hc : (s.axis a).config = some c) :
    Quiet s (s.arrive a c) := by
  unfold State.arrive
  simp only
  refine Quiet.trans (Quiet.trans (Quiet.trans ?_ (State.grantScan_quiet _)) (State.reportDone_quiet _ _ _)) (State.reportRest_quiet _ _)
  exact .axis (.arrives c h hc) ((State.setPool_sets s a _).after (State.putAxisAt_sets _ _ _ _ _))
    ((State.returnUnits_only s a).trans (State.loadHome_only _ _ _ _))

/-! ### Axes brought to rest -/

theorem State.quickStop_quiet (s : State) (a : AxisNo) : Quiet s (s.quickStop a) := by
  unfold State.quickStop
  simp only
  split
  · exact (State.quickStopSilently_quiet s a).trans (State.report_quiet _ _)
  · exact State.quickStopSilently_quiet s a

theorem State.haltAxis_quiet (s : State) (a : AxisNo) : Quiet s (s.haltAxis a) := by
  unfold State.haltAxis
  split
  · exact State.controlledStop_quiet s a
  · exact State.controlledStop_quiet s a
  · exact State.quickStop_quiet s a
  · next h => exact State.leaveAwait_quiet s a h
  all_goals exact .refl s

theorem State.haltAxes_quiet (s : State) (e : ExhibitNo) : Quiet s (s.haltAxes e) :=
  (Quiet.foldl State.haltAxis_quiet _ s).trans (State.grantScan_quiet _)

theorem State.stopInPlace_quiet (s : State) (a : AxisNo) : Quiet s (s.stopInPlace a) := by
  unfold State.stopInPlace
  split
  · exact State.quickStop_quiet s a
  · exact State.quickStop_quiet s a
  · exact State.quickStop_quiet s a
  · next h => exact State.leaveAwait_quiet s a h
  all_goals exact .refl s

theorem State.freezeAxis_quiet (s : State) (a : AxisNo) : Quiet s (s.freezeAxis a) :=
  (State.stopInPlace_quiet s a).trans (State.setAxis_quiet _ a _ { Axis.Alike.refl _ with })

theorem State.stopStopping_quiet (s : State) (a : AxisNo) : Quiet s (s.stopStopping a) := by
  unfold State.stopStopping
  split
  · exact State.quickStop_quiet s a
  · exact .refl s

theorem State.clearAwait_quiet (s : State) (a : AxisNo) : Quiet s (s.clearAwait a) := by
  unfold State.clearAwait
  split
  · next h => exact State.leaveAwait_quiet s a h
  · exact .refl s

theorem State.clearAxes_quiet (s : State) (e : ExhibitNo) : Quiet s (s.clearAxes e) := by
  unfold State.clearAxes
  exact (((Quiet.foldl State.quickStopSilently_quiet _ s).trans (.foldl State.clearAwait_quiet _ _)).trans
    (.foldl State.leaveFault_quiet _ _)).trans (State.grantScan_quiet _)

/-! ### Alerts -/

theorem State.raise_quiet (s : State) (src : SourceNo) (cause : AlertCause) (code severity : Nat) :
    Quiet s (s.raise src cause code severity) := .alert (.raised ..)

theorem State.removeAlerts_quiet (s : State) (p : Alert → Bool) : Quiet s (s.removeAlerts p) := .alert (.removed p)

theorem State.alert?_mem {s : State} {n : Nat} {x : Alert} (h : s.alert? n = some x) : x ∈ s.alerts := List.mem_of_find?_eq_some h

theorem State.shownAlert_mem {s : State} {st : StationNo} {x : Alert} (h : s.shownAlert st = some x) : x ∈ s.alerts := by
  unfold State.shownAlert at h
  obtain ⟨n, -, hn⟩ := Option.bind_eq_some_iff.1 h
  exact State.alert?_mem hn

/-! ### The 1 ms update of an axis, and its inputs -/

theorem AxisState.drives_of {st : AxisState} (h : st = .moving ∨ st = .stopping ∨ st = .homing) : st.drives = true := by
  rcases h with rfl | rfl | rfl <;> rfl

theorem State.limitFault_quiet (s : State) (a : AxisNo) (h : (s.axis a).state.drives = true) : Quiet s (s.limitFault a) :=
  State.faultAxis_quiet s a _ h

theorem State.updateMoving_quiet (s : State) (a : AxisNo) (m : MoveRecord) (h : (s.axis a).state = .moving)
    (hm : (s.axis a).move = some m) : Quiet s (s.updateMoving a m) := by
  unfold State.updateMoving
  simp only
  have hadv := Quiet.axis (.advances m h hm) (State.putAxisAt_sets s a _ _ false) (State.putAxisAt_only _ _ _ _ _)
  split
  · refine hadv.trans (.completes a _ (.inl ?_))
    obtain ⟨stale, hb⟩ := State.state_putAxisAt s a a _ _ false
    rw [hb, if_pos rfl]; exact h
  · exact hadv

theorem State.updateStopping_quiet (s : State) (a : AxisNo) (m : MoveRecord) (bound : Int) (h : (s.axis a).state = .stopping)
    (hb : ∀ b, (s.axis a).stopBound = some b → bound = b) : Quiet s (s.updateStopping a m bound) := by
  unfold State.updateStopping
  simp only
  have hbrk := Quiet.axis (.brakes ((s.axis a).speedSet m.speedSet).accel bound h hb) (State.putAxisAt_sets s a _ _ false)
    (State.putAxisAt_only _ _ _ _ _)
  have hafter : ∀ p k, ((s.putAxisAt a ((s.axis a).stepped k) p false).axis a).state = .stopping ∧
      ((s.putAxisAt a ((s.axis a).stepped k) p false).axis a).request = (s.axis a).request := fun p k => by
    obtain ⟨stale, hst⟩ := State.state_putAxisAt s a a ((s.axis a).stepped k) p false
    rw [hst, if_pos rfl]; exact ⟨h, rfl⟩
  split
  · exact hbrk
  · split
    · next t i hr =>
      split
      · exact hbrk.trans (.completes a _ (.inr (hafter _ _).1))
      · exact hbrk.trans (.axis (.restarts t i (hafter _ _).1 ((hafter _ _).2.trans hr)) (State.putAxis_sets _ _ _ _) (State.putAxis_only _ _ _ _))
    · exact hbrk.trans (.completes a _ (.inr (hafter _ _).1))
    · exact hbrk.trans (.completes a _ (.inr (hafter _ _).1))

theorem State.updateHoming_quiet (s : State) (a : AxisNo) (c : AxisConfig) (h : (s.axis a).state = .homing) :
    Quiet s (s.updateHoming a c) := by
  unfold State.updateHoming
  simp only
  split
  · exact State.faultAxis_quiet s a _ (by rw [h]; rfl)
  · exact State.putAxisAt_quiet _ _ _ _ _
      { Axis.Alike.refl (s.axis a) with pos := fun hp => by simp [h] at hp, vel := fun hm => by simp [h] at hm }

theorem State.driveUpdate_quiet (s : State) (a : AxisNo) : Quiet s (s.driveUpdate a) := by
  unfold State.driveUpdate
  simp only
  split
  · next h =>
    split
    · next m hm => exact State.updateMoving_quiet s a m h hm
    · exact .refl s
  · next h =>
    split
    · next m hm => exact State.updateStopping_quiet s a m _ h fun b hb => by rw [hb]; rfl
    · exact .refl s
  · next h =>
    split
    · exact State.updateHoming_quiet s a _ h
    · exact .refl s
  all_goals exact State.setAxis_quiet _ _ _ { Axis.Alike.refl _ with }

theorem State.judgeFollowing_quiet (s : State) (a : AxisNo) : Quiet s (s.judgeFollowing a) := by
  unfold State.judgeFollowing
  simp only
  split
  · exact .refl s
  · next c hc =>
    have hset : ∀ r, Quiet s (s.setAxis a { s.axis a with followRun := r }) := fun r =>
      State.setAxis_quiet s a _ { Axis.Alike.refl (s.axis a) with }
    split
    · next hrun =>
      have hjudged : (s.axis a).state.judged = true := by
        by_contra hn
        exact hrun.1 (by simp [Axis.nextRun, hn])
      split
      · next hd => exact (hset _).trans (State.faultAxis_quiet _ a _ (by simpa using hd))
      · next hd =>
        refine (hset _).trans (.disturbs a ?_)
        rw [State.axis_setAxis]
        revert hjudged hd
        cases (s.axis a).state <;> simp [AxisState.judged, AxisState.drives, AxisState.disturbable]
    · exact hset _

theorem State.axisUpdate_quiet (s : State) (a : AxisNo) : Quiet s (s.axisUpdate a) := by
  unfold State.axisUpdate
  split
  · next h => exact State.limitFault_quiet s a (by simp [Axis.limitAhead] at h; exact h.1)
  · exact (State.driveUpdate_quiet s a).trans (State.judgeFollowing_quiet _ a)

theorem Axis.alike_withLimit (x : Axis) (l : LimitEnd) (f : InputFilter) : x.Alike (x.withLimit l f) := by
  cases l <;> exact { Axis.Alike.refl x with }

theorem State.limitAsserted_quiet (s : State) (a : AxisNo) (l : LimitEnd) : Quiet s (s.limitAsserted a l) := by
  unfold State.limitAsserted
  simp only
  have hset := State.setAxis_quiet s a _ ((s.axis a).alike_withLimit l (.recognised true))
  split
  · exact .refl s
  · split
    · next h =>
      refine hset.trans (State.limitFault_quiet _ a ?_)
      rw [State.axis_setAxis, ((s.axis a).alike_withLimit l _).state]
      simp at h; exact h.1
    · exact hset

theorem State.limitReleased_quiet (s : State) (a : AxisNo) (l : LimitEnd) : Quiet s (s.limitReleased a l) := by
  unfold State.limitReleased
  simp only
  split
  · exact State.setAxis_quiet s a _ ((s.axis a).alike_withLimit l _)
  · exact .refl s

theorem State.homeClosing_quiet (s : State) (a : AxisNo) : Quiet s (s.homeClosing a) := by
  unfold State.homeClosing
  simp only
  split
  · exact .refl s
  · split
    · next h _ _ => exact State.putAxis_quiet _ _ _ _ { Axis.Alike.refl (s.axis a) with vel := fun hm => by simp [h] at hm }
    · exact State.setAxis_quiet _ _ _ { Axis.Alike.refl (s.axis a) with }

theorem State.homeOpening_quiet (s : State) (a : AxisNo) : Quiet s (s.homeOpening a) := by
  unfold State.homeOpening
  simp only
  have hset : Quiet s (s.setAxis a { s.axis a with homeSwitch := .recognised false }) :=
    State.setAxis_quiet _ _ _ { Axis.Alike.refl (s.axis a) with }
  split
  · split
    · next h => exact hset.trans (State.faultAxis_quiet _ a _ (by rw [State.axis_setAxis, h.1]; rfl))
    · exact hset
  · exact .refl s

theorem State.indexEvent_quiet (s : State) (a : AxisNo) : Quiet s (s.indexEvent a) := by
  unfold State.indexEvent
  simp only
  split
  · next c h _ hc => exact State.arrive_quiet s a c h hc
  · exact .refl s

theorem State.encoderCount_quiet (s : State) (a : AxisNo) (up : Bool) : Quiet s (s.encoderCount a up) := by
  unfold State.encoderCount
  simp only
  split
  · exact .refl s
  · split
    · next h => exact State.putAxisAt_quiet _ _ _ _ _ { Axis.Alike.refl (s.axis a) with pos := fun hp => by simp [h] at hp }
    · next h => exact State.putAxisAt_quiet _ _ _ _ _ { Axis.Alike.refl (s.axis a) with pos := fun hp => by simp [h] at hp }
    all_goals exact State.putAxis_quiet _ _ _ _ { Axis.Alike.refl (s.axis a) with }

theorem State.speedMeasurement_quiet (s : State) (a : AxisNo) : Quiet s (s.speedMeasurement a) := by
  unfold State.speedMeasurement
  exact State.putAxis_quiet _ _ _ _ { Axis.Alike.refl (s.axis a) with }

theorem State.writeAxisImage_quiet (s : State) (a : AxisNo) : Quiet s (s.writeAxisImage a) := by
  refine .of_axes (State.writeAxisImage_only s a) rfl fun b => ?_
  rw [show (s.writeAxisImage a).axis b = if a = b then { s.axis a with imageStale := false } else s.axis b from tget_tset _ _ _ _]
  split
  · next hab => subst hab; exact { Axis.Alike.refl _ with }
  · exact .refl _

end Sys2Proof.Machine
end

section
/-! The laws of the axes and the drive pool: what each move of an axis keeps, every act keeps (R81, R87, R111, R116, R117). -/

namespace Sys2Proof.Machine

/-! ### From the moves of an axis to every act -/

/-- A disturbance is one move of its axis. -/
theorem State.disturb_move (s : State) (a : AxisNo) (h : (s.axis a).state.disturbable = true) :
    ∃ y p, Move s a y p ∧ Sets s (s.disturb a) a y p := by
  have hput := State.putAxisAt_sets s a { s.axis a with followRun := 0 } (s.axis a).encoder true
  obtain ⟨u, hu, hraise⟩ : ∃ u, u = (s.putAxisAt a { s.axis a with followRun := 0 } (s.axis a).encoder true).raise
      (State.axisSource (s.putAxisAt a { s.axis a with followRun := 0 } (s.axis a).encoder true) a) .modelDisturbed 0 1 ∧
      AlertAct (s.putAxisAt a { s.axis a with followRun := 0 } (s.axis a).encoder true) u :=
    ⟨_, rfl, State.raise_act _ _ _ _ _⟩
  obtain ⟨v, hv, hmark⟩ : ∃ v, v = (if (u.axisOwner a).isNone then u.markDisturbed a else u) ∧ v.axes = u.axes ∧ v.pool = u.pool :=
    ⟨_, rfl, by split <;> rfl, by split <;> rfl⟩
  have hsets : Sets s v a (Axis.movedTo { s.axis a with followRun := 0 } (s.axis a).encoder) s.pool :=
    hput.congr (hmark.1.trans (by rw [hraise.1])) (hmark.2.trans (by rw [hraise.1]))
  by_cases hw : (s.axis a).inWindow (s.axis a).encoder = true
  · refine ⟨_, _, .resyncs h hw, ?_⟩
    have : s.disturb a = v := by unfold State.disturb; simp only; rw [if_pos hw, ← hu, ← hv]
    rw [this]; exact hsets
  · refine ⟨_, _, .isDisplaced h, ?_⟩
    have : s.disturb a = ((v.leaveList a).putAxis a ((v.axis a).enterFaulted .travel) false).report (.axisFault a .travel) := by
      unfold State.disturb; simp only; rw [if_neg hw, ← hu, ← hv]
    rw [this]
    obtain ⟨stale, hx⟩ := hsets.same
    have hleft := (hsets.after (State.setPool_sets v a (v.pool.left a))).after
      (State.putAxis_sets _ a ((v.axis a).enterFaulted .travel) false)
    obtain ⟨hp, stale', hb⟩ := hleft.congr (u := ((v.leaveList a).putAxis a ((v.axis a).enterFaulted .travel) false).report
      (.axisFault a .travel)) rfl rfl
    refine ⟨hp.trans ?_, stale', fun b => (hb b).trans ?_⟩
    · rw [← hsets.pool]; rfl
    · rw [hx]; rfl

/-- A law of the axes and the pool that every move of an axis keeps. -/
structure AxisLaw (L : State → Prop) : Prop where
  alike : ∀ {s t : State}, t.pool = s.pool → (∀ a, (s.axis a).Alike (t.axis a)) → L s → L t
  move : ∀ {s t : State} {a : AxisNo} {y : Axis} {p : Pool}, Move s a y p → Sets s t a y p → L s → L t
  returns : ∀ {s : State} (a : AxisNo), L s → L (s.returnUnits a)
  idles : ∀ {s t : State} {a : AxisNo}, (s.axis a).state = .moving ∨ (s.axis a).state = .stopping → L s →
    L (s.returnUnits a).grantScan →
    Sets (s.returnUnits a).grantScan t a ((s.returnUnits a).grantScan.axis a).enterIdle (s.returnUnits a).grantScan.pool → L t

namespace AxisLaw

variable {L : State → Prop} (h : AxisLaw L)
include h

theorem of_tables {s t : State} (ha : t.axes = s.axes) (hp : t.pool = s.pool) : L s → L t :=
  h.alike hp fun a => by unfold State.axis; rw [ha]; exact .refl _

theorem grantScan (n : Nat) (s : State) : L s → L (grantScanUpTo n s) := by
  induction n generalizing s with
  | zero => exact id
  | succ n ih =>
    intro hs
    unfold grantScanUpTo
    split
    · exact hs
    · next w rest hw =>
      split
      · next hd => exact ih _ (h.move (.isGranted w rest hw rfl hd) ((State.setPool_sets s w.axis _).after (State.startGranted_sets _ _)) hs)
      · exact hs

theorem quiet {s t : State} (q : Quiet s t) : L s → L t := by
  induction q with
  | alike ha k _ => exact h.alike ha.pool ha.axis
  | axis hm ht only => exact h.move hm ht
  | @completes s a kind hs =>
    intro hL
    have hidle := h.idles hs hL (h.grantScan _ _ (h.returns a hL)) (State.putAxis_sets _ a _ false)
    unfold State.completeMotion
    simp only
    refine h.of_tables (State.reportRest_tables _ _).1 (State.reportRest_tables _ _).2 ?_
    cases kind with
    | none => exact hidle
    | some k => exact h.of_tables (State.reportDone_tables _ _ _).1 (State.reportDone_tables _ _ _).2 hidle
  | disturbs a hd =>
    obtain ⟨y, p, hm, ht⟩ := State.disturb_move _ a hd
    exact h.move hm ht
  | alert ha => exact h.of_tables (by rw [ha.act.1]) (by rw [ha.act.1])
  | beacon e ch x hb => exact h.of_tables rfl rfl
  | stations hf hp => exact h.of_tables (by rw [State.takeStationTable_form]) (by rw [State.takeStationTable_form])
  | trans _ _ ih ik => exact fun hs => ik (ih hs)

theorem enterState (s : State) (e : ExhibitNo) (st : ExhibitState) : L s → L (s.enterState e st) :=
  h.of_tables (by rw [State.enterState_form]) (by rw [State.enterState_form])

theorem putSlot (s : State) (e : ExhibitNo) (x : Slot) : L s → L (s.putSlot e x) :=
  h.of_tables (by rw [State.putSlot_form]) (by rw [State.putSlot_form])

theorem putExhibit (s : State) (e : ExhibitNo) (x : Exhibit) : L s → L (s.putExhibit e x) :=
  h.of_tables (by rw [State.putExhibit_form]) (by rw [State.putExhibit_form])

theorem endShow (s : State) (e : ExhibitNo) : L s → L (s.endShow e) :=
  h.of_tables (by rw [State.endShow_form]) (by rw [State.endShow_form])

theorem acts {s t : State} (k : Acts s t) : L s → L t := by
  induction k with
  | quiet q => exact h.quiet q
  | enters e st => exact h.enterState _ _ _
  | starts e address => exact fun hs => h.enterState _ _ _ (h.putSlot _ _ _ hs)
  | ends e st _ _ _ _ q => exact fun hs => h.enterState _ _ _ (h.quiet q (h.endShow _ _ hs))
  | repeats e address _ q => exact fun hs => h.putSlot _ _ _ (h.quiet q (h.endShow _ _ hs))
  | occupies e x => exact h.putSlot _ _ _
  | configuresOn e => exact h.putExhibit _ _ _
  | configuresOff e => exact h.putExhibit _ _ _
  | @stops s t _ _ ih => exact fun hs => ih (h.of_tables (s := s) (t := s.setStop true) rfl rfl hs)
  | trans _ _ ih ik => exact fun hs => ik (ih hs)

end AxisLaw

theorem Axis.Alike.stale (x : Axis) (b : Bool) : x.Alike { x with imageStale := b } := { Axis.Alike.refl x with }

/-- A law of each axis by itself. -/
theorem AxisLaw.of_pointwise {P : Axis → Prop} (alike : ∀ {x y : Axis}, x.Alike y → P x → P y)
    (move : ∀ {s : State} {a : AxisNo} {y : Axis} {p : Pool}, Move s a y p → P (s.axis a) → P y)
    (idle : ∀ {s : State} {a : AxisNo}, (s.axis a).state = .moving ∨ (s.axis a).state = .stopping → P (s.axis a) →
      P ((s.returnUnits a).grantScan.axis a).enterIdle) : AxisLaw fun s => ∀ a, P (s.axis a) where
  alike _ ha hs a := alike (ha a) (hs a)
  move hm ht hs b := by
    obtain ⟨stale, hb⟩ := ht.axis
    rw [hb]
    split
    · exact alike (Axis.Alike.stale _ stale) (move hm (hs _))
    · exact hs b
  returns a hs b := hs b
  idles h hs hu ht b := by
    obtain ⟨stale, hb⟩ := ht.axis
    rw [hb]
    split
    · exact alike (Axis.Alike.stale _ stale) (idle h (hs _))
    · exact hu b

/-! ### What the grant scan leaves alone -/

theorem Axis.started_pos (x : Axis) : x.started.pos = x.pos := by
  unfold Axis.started
  split
  · split <;> rfl
  · split <;> rfl
  · rfl

theorem Axis.started_config (x : Axis) : x.started.config = x.config := by
  unfold Axis.started
  split
  · split <;> rfl
  · split <;> rfl
  · rfl

/-- No grant moves an axis or changes its configuration. -/
theorem grantScanUpTo_pos (n : Nat) (s : State) (a : AxisNo) :
    ((grantScanUpTo n s).axis a).pos = (s.axis a).pos ∧ ((grantScanUpTo n s).axis a).config = (s.axis a).config := by
  induction n generalizing s with
  | zero => exact ⟨rfl, rfl⟩
  | succ n ih =>
    unfold grantScanUpTo
    split
    · exact ⟨rfl, rfl⟩
    · next w rest hw =>
      split
      · obtain ⟨hpos, hcfg⟩ := ih (s.grantHead w rest)
        obtain ⟨stale, hb⟩ := (State.startGranted_sets (s.setPool { s.pool.granted w.axis w.draw with waiting := rest }) w.axis).axis
        have hbase : ∀ b, (s.setPool { s.pool.granted w.axis w.draw with waiting := rest }).axis b = s.axis b := fun _ => rfl
        have : ((s.grantHead w rest).axis a).pos = (s.axis a).pos ∧ ((s.grantHead w rest).axis a).config = (s.axis a).config := by
          rw [show (s.grantHead w rest).axis a = _ from hb a]
          split
          · next hab => subst hab; exact ⟨Axis.started_pos _, Axis.started_config _⟩
          · exact ⟨rfl, rfl⟩
        exact ⟨hpos.trans this.1, hcfg.trans this.2⟩
      · exact ⟨rfl, rfl⟩

theorem State.grantScan_pos (s : State) (a : AxisNo) :
    (s.grantScan.axis a).pos = (s.axis a).pos ∧ (s.grantScan.axis a).config = (s.axis a).config := grantScanUpTo_pos _ s a

theorem Pool.started_held {p : Pool} {a b : AxisNo} {x : Axis} (h : a ≠ b) : tget (p.started a x).held b = tget p.held b := by
  unfold Pool.started
  split
  · split
    · exact tget_tset_ne _ _ h
    · rfl
  · rfl
  · rfl

theorem Pool.started_waiting (p : Pool) (a : AxisNo) (x : Axis) : (p.started a x).waiting = p.waiting := by
  unfold Pool.started
  split
  · split <;> rfl
  · rfl
  · rfl

/-- An axis that does not stand in the wait list is granted nothing. -/
theorem grantScanUpTo_of_not_waiting (n : Nat) (s : State) (a : AxisNo) (h : a ∉ s.pool.waiting.map (·.axis)) :
    (grantScanUpTo n s).axis a = s.axis a ∧ tget (grantScanUpTo n s).pool.held a = tget s.pool.held a ∧
      a ∉ (grantScanUpTo n s).pool.waiting.map (·.axis) := by
  induction n generalizing s with
  | zero => exact ⟨rfl, rfl, h⟩
  | succ n ih =>
    unfold grantScanUpTo
    split
    · exact ⟨rfl, rfl, h⟩
    · next w rest hw =>
      split
      · have hsets := State.startGranted_sets (s.setPool { s.pool.granted w.axis w.draw with waiting := rest }) w.axis
        rw [hw, List.map_cons, List.mem_cons, not_or] at h
        have hpool : (s.grantHead w rest).pool = _ := hsets.pool
        obtain ⟨hx, hheld, hwait⟩ := ih (s.grantHead w rest) (by rw [hpool, Pool.started_waiting]; exact h.2)
        refine ⟨hx.trans (hsets.other h.1), hheld.trans ?_, hwait⟩
        rw [hpool, Pool.started_held (Ne.symm h.1)]
        exact tget_tset_ne _ _ (Ne.symm h.1)
      · exact ⟨rfl, rfl, h⟩

/-- The end of a motion: with the axis outside the wait list, the scan before it leaves the axis and its units. -/
theorem State.returned_grantScan (s : State) (a : AxisNo) (h : a ∉ s.pool.waiting.map (·.axis)) :
    (s.returnUnits a).grantScan.axis a = s.axis a ∧ tget (s.returnUnits a).grantScan.pool.held a = 0 ∧
      a ∉ (s.returnUnits a).grantScan.pool.waiting.map (·.axis) := by
  obtain ⟨hx, hheld, hwait⟩ := grantScanUpTo_of_not_waiting (s.returnUnits a).pool.waiting.length (s.returnUnits a) a h
  exact ⟨hx, hheld.trans (tget_tset_same _ _ _), hwait⟩

end Sys2Proof.Machine
end

section
/-! The laws of the pool: the units of the supply, the wait list, and the units the axes hold (R116, R117). -/

namespace Sys2Proof.Machine

/-! ### The units of the supply (R116) -/

/-- The units of the pool, free and held. -/
def Pool.units (p : Pool) : Nat := p.free + p.held.toList.sum

theorem sum_tset (v : Vector Nat 16) (a : AxisNo) (n : Nat) : (tset v a n).toList.sum + tget v a = v.toList.sum + n := by
  have hlen : a.val < v.toList.length := by simp
  have hset : (tset v a n).toList = v.toList.set a.val n := by simp [tset, Vector.toList_set]
  have hself : v.toList.set a.val (tget v a) = v.toList := by
    rw [show tget v a = v.toList[a.val] by simp [tget]]
    exact List.set_getElem_self hlen
  have hsum := List.sum_set v.toList a.val (tget v a)
  rw [hself, if_pos hlen] at hsum
  rw [hset, List.sum_set, if_pos hlen, hsum]
  omega

theorem Pool.returned_units (p : Pool) (a : AxisNo) : (p.returned a).units = p.units := by
  have := sum_tset p.held a 0
  simp only [Pool.units, Pool.returned]
  omega

theorem Pool.granted_units (p : Pool) (a : AxisNo) (draw : Nat) (h : draw ≤ p.free) : (p.granted a draw).units = p.units := by
  have := sum_tset p.held a (tget p.held a + draw)
  simp only [Pool.units, Pool.granted]
  omega

theorem Pool.started_units (p : Pool) (a : AxisNo) (x : Axis) : (p.started a x).units = p.units := by
  unfold Pool.started
  split
  · split
    · exact Pool.returned_units p a
    · rfl
  · rfl
  · rfl

/-- No move of an axis makes or loses a unit. -/
theorem Move.units {s : State} {a : AxisNo} {y : Axis} {p : Pool} (h : Move s a y p) : p.units = s.pool.units := by
  cases h with
  | quickStops | faults | arrives => exact Pool.returned_units _ _
  | starts r h hr hw hd => exact (Pool.started_units _ _ _).trans (Pool.granted_units _ _ _ hd)
  | isGranted w rest hw ha hd =>
    refine (Pool.started_units _ _ _).trans ?_
    subst ha
    exact Pool.granted_units s.pool w.axis w.draw hd
  | _ => rfl

theorem unitLaw_kept : AxisLaw State.UnitLaw where
  alike hp _ hs := by unfold State.UnitLaw State.unitsHeld at *; rw [hp]; exact hs
  move hm ht hs := by
    have := hm.units
    simp only [Pool.units] at this
    unfold State.UnitLaw State.unitsHeld at *
    rw [ht.pool]; omega
  returns {s} a hs := by
    have := Pool.returned_units s.pool a
    simp only [Pool.units] at this
    unfold State.UnitLaw State.unitsHeld State.returnUnits State.setPool at *
    simp only; omega
  idles _ _ hu ht := by unfold State.UnitLaw State.unitsHeld at *; rw [ht.pool]; exact hu

/-! ### The wait list (R116, R117) -/

/-- The wait list after a move of axis `a`: no other axis has joined it, `a` stands in it only as one that waits, and none twice. -/
theorem State.WaitLaw.of_sets {s t : State} {a : AxisNo} {y : Axis} {p : Pool} (hs : s.WaitLaw) (ht : Sets s t a y p)
    (hold : ∀ w ∈ p.waiting, w.axis ≠ a → w ∈ s.pool.waiting) (hself : (∃ w ∈ p.waiting, w.axis = a) → y.state = .awaitPower)
    (hnodup : (p.waiting.map (·.axis)).Nodup) : t.WaitLaw := by
  obtain ⟨stale, hb⟩ := ht.axis
  rw [State.WaitLaw, ht.pool]
  refine ⟨fun w hw => ?_, hnodup⟩
  rw [hb]
  split
  · next hab => exact hself ⟨w, hw, hab.symm⟩
  · next hab => exact hs.1 w (hold w hw (Ne.symm hab))

theorem State.WaitLaw.not_waiting {s : State} (h : s.WaitLaw) {a : AxisNo} (ha : (s.axis a).state ≠ .awaitPower) :
    a ∉ s.pool.waiting.map (·.axis) := by
  simp only [List.mem_map, not_exists, not_and]
  rintro w hw rfl
  exact ha (h.1 w hw)

theorem AxisState.not_awaits_of_drives {st : AxisState} (h : st.drives = true) : st ≠ .awaitPower := by
  rintro rfl; simp [AxisState.drives] at h

theorem Axis.Asks.state {x : Axis} {r : Request} (h : x.Asks r) : x.state = .idle ∨ x.state = .unhomed := by
  cases r with
  | move t i => exact .inl h.1
  | home => obtain ⟨c, -, h⟩ := h; exact h.imp id And.left

/-- Each move keeps the wait list to the axes that wait. -/
theorem State.WaitLaw.move {s t : State} {a : AxisNo} {y : Axis} {p : Pool} (hs : s.WaitLaw) (hm : Move s a y p) (ht : Sets s t a y p) :
    t.WaitLaw := by
  have hsame : (∃ w ∈ s.pool.waiting, w.axis = a) → (s.axis a).state = .awaitPower := by
    rintro ⟨w, hw, rfl⟩; exact hs.1 w hw
  have hkeep : ∀ {q : Pool}, q.waiting = s.pool.waiting → Sets s t a y q → ((s.axis a).state = .awaitPower → y.state = .awaitPower) →
      t.WaitLaw := fun hq ht hy =>
    hs.of_sets ht (fun w hw _ => hq ▸ hw) (fun hw => hy (hsame (hq ▸ hw))) (hq ▸ hs.2)
  have hleft : Sets s t a y (s.pool.left a) → t.WaitLaw := fun ht => by
    refine hs.of_sets ht (fun w hw _ => (List.mem_filter.1 hw).1) ?_ ?_
    · rintro ⟨w, hw, rfl⟩
      simp [Pool.left] at hw
    · exact hs.2.sublist (List.Sublist.map _ List.filter_sublist)
  cases hm with
  | slows r h | retargets _ _ h | advances _ h | brakes _ _ h | restarts _ _ h | losesHome h | recovers h | pends r h =>
    exact hkeep rfl ht fun hw => by rw [h] at hw; simp at hw
  | replaces t i h => exact hkeep rfl ht fun _ => h
  | resyncs h => exact hkeep rfl ht fun hw => hw
  | configures h hc => exact hkeep rfl ht fun hw => by rw [hw] at hc; simp [AxisState.takesConfigure] at hc
  | quickStops h | faults _ h => exact hkeep (q := s.pool.returned a) rfl ht fun hw => absurd hw (AxisState.not_awaits_of_drives h)
  | arrives c h => exact hkeep (q := s.pool.returned a) rfl ht fun hw => by rw [h] at hw; simp at hw
  | leaves | leavesUnhomed | isDisplaced => exact hleft ht
  | joins r h hr =>
    have hnot := hs.not_waiting (a := a) (by obtain h | h := hr.state <;> simp [h])
    refine hs.of_sets ht (fun w hw hne => ?_) (fun _ => rfl) ?_
    · obtain hw | hw := List.mem_append.1 hw
      · exact hw
      · rw [List.mem_singleton.1 hw] at hne; exact absurd rfl hne
    · simp only [Pool.joined, List.map_append, List.map_cons, List.map_nil]
      exact List.nodup_append.2 ⟨hs.2, by simp, fun b hb c hc => by
        rw [List.mem_singleton.1 hc]; rintro rfl; exact hnot hb⟩
  | starts r h hr hw =>
    have hp : ((s.pool.granted a (s.axis a).draw).started a { s.axis a with request := some r }).waiting = [] :=
      (Pool.started_waiting _ _ _).trans hw
    exact hs.of_sets ht (by simp [hp]) (by simp [hp]) (by simp [hp])
  | isGranted w rest hw ha =>
    have hp : (Pool.started { s.pool.granted a w.draw with waiting := rest } a (s.axis a)).waiting = rest := Pool.started_waiting _ _ _
    have hnd := hs.2
    rw [hw, List.map_cons, List.nodup_cons, ha] at hnd
    refine hs.of_sets ht (fun v hv _ => by rw [hp] at hv; rw [hw]; exact List.mem_cons_of_mem _ hv) ?_ (by rw [hp]; exact hnd.2)
    rintro ⟨v, hv, hva⟩
    rw [hp] at hv
    exact absurd (List.mem_map.2 ⟨v, hv, hva⟩) hnd.1

theorem waitLaw_kept : AxisLaw State.WaitLaw where
  alike hp ha hs := by
    rw [State.WaitLaw, hp]
    exact ⟨fun w hw => ((ha _).state).trans (hs.1 w hw), hs.2⟩
  move hm ht hs := hs.move hm ht
  returns a hs := hs
  idles {s t a} h hs hu ht := by
    have hne : (s.axis a).state ≠ .awaitPower := by obtain h | h := h <;> simp [h]
    have hnot := (s.returned_grantScan a (hs.not_waiting hne)).2.2
    refine hu.of_sets ht (fun w hw _ => hw) ?_ hu.2
    rintro ⟨w, hw, rfl⟩
    exact absurd (List.mem_map_of_mem hw) hnot

/-! ### The units held (R116, R117) -/

/-- What a move leaves at its own axis, as the law of held units asks. -/
structure HeldBy (a : AxisNo) (y : Axis) (p : Pool) : Prop where
  waits : y.state = .awaitPower → a ∈ p.waiting.map (·.axis)
  drives : tget p.held a ≠ 0 → y.state.drives = true
  config : y.config = none → y.state = .off
  request : y.state = .awaitPower → y.request.isSome = true

theorem State.HeldLaw.of_sets {s t : State} {a : AxisNo} {y : Axis} {p : Pool} (hs : s.HeldLaw) (ht : Sets s t a y p) (hwait : t.WaitLaw)
    (hother : ∀ b, b ≠ a → b ∈ s.pool.waiting.map (·.axis) → b ∈ p.waiting.map (·.axis))
    (hheld : ∀ b, b ≠ a → tget p.held b = tget s.pool.held b) (hy : HeldBy a y p) : t.HeldLaw := by
  obtain ⟨-, hin, hdrives, hcfg, hreq⟩ := hs
  obtain ⟨stale, hb⟩ := ht.axis
  refine ⟨hwait, fun b => ?_, fun b => ?_, fun b => ?_, fun b => ?_⟩ <;> rw [hb] <;> by_cases hab : a = b
  · subst hab; rw [if_pos rfl, ht.pool]; exact hy.waits
  · rw [if_neg hab, ht.pool]; exact fun h => hother b (Ne.symm hab) (hin b h)
  · subst hab; rw [if_pos rfl, ht.pool]; exact hy.drives
  · rw [if_neg hab, ht.pool, hheld b (Ne.symm hab)]; exact hdrives b
  · subst hab; rw [if_pos rfl]; exact hy.config
  · rw [if_neg hab]; exact hcfg b
  · subst hab; rw [if_pos rfl]; exact hy.request
  · rw [if_neg hab]; exact hreq b

theorem Pool.mem_left {p : Pool} {a b : AxisNo} (h : b ≠ a) (hb : b ∈ p.waiting.map (·.axis)) :
    b ∈ (p.left a).waiting.map (·.axis) := by
  obtain ⟨w, hw, rfl⟩ := List.mem_map.1 hb
  exact List.mem_map.2 ⟨w, List.mem_filter.2 ⟨hw, by simpa using h⟩, rfl⟩

/-- An axis that has been granted its draw drives, or has given its units back. -/
theorem HeldBy.started {a : AxisNo} {x : Axis} {p : Pool} (hreq : x.request.isSome = true) (hcfg : x.config ≠ none) :
    HeldBy a x.started (p.started a x) := by
  obtain ⟨c, hc⟩ := Option.ne_none_iff_exists'.1 hcfg
  obtain ⟨r, hr⟩ := Option.isSome_iff_exists.1 hreq
  unfold Axis.started Pool.started
  rw [hr]
  cases r with
  | move t i =>
    by_cases ht : t = x.pos
    · simp only [if_pos ht]
      exact ⟨by simp [Axis.enterIdle], by simp [Pool.returned], fun h => absurd h hcfg, by simp [Axis.enterIdle]⟩
    · simp only [if_neg ht]
      exact ⟨by simp [Axis.enterMoving], fun _ => rfl, fun h => absurd h hcfg, by simp [Axis.enterMoving]⟩
  | home =>
    simp only [hc]
    exact ⟨by simp [Axis.enterHoming], fun _ => rfl, fun h => by rw [show (x.enterHoming c).config = x.config from rfl, hc] at h; simp at h,
      by simp [Axis.enterHoming]⟩

theorem Axis.afterQuickStop_cases (x : Axis) :
    (x.state = .homing ∧ x.afterQuickStop = x.enterUnhomed) ∨
    (x.state ≠ .homing ∧ x.inWindow x.encoder = true ∧ x.afterQuickStop = { x.quickStopped with state := .idle }) ∨
    (x.state ≠ .homing ∧ x.inWindow x.encoder = false ∧ x.afterQuickStop = x.enterFaulted .travel) := by
  unfold Axis.afterQuickStop
  split
  · next h => exact .inl ⟨h, rfl⟩
  · next h =>
    split
    · next hw => exact .inr (.inl ⟨h, hw, rfl⟩)
    · next hw => exact .inr (.inr ⟨h, by simpa using hw, rfl⟩)

/-- Each move keeps units with driving axes, and requests with those that wait. -/
theorem State.HeldLaw.move {s t : State} {a : AxisNo} {y : Axis} {p : Pool} (hs : s.HeldLaw) (hm : Move s a y p) (ht : Sets s t a y p) :
    t.HeldLaw := by
  have hwait := hs.1.move hm ht
  obtain ⟨-, hin, hdrives, hcfg, hreq⟩ := id hs
  have hconfig : (s.axis a).state ≠ .off → (s.axis a).config ≠ none := fun h hc => h (hcfg a hc)
  have hzero : (s.axis a).state.drives = false → tget s.pool.held a = 0 := fun h => by
    by_contra hne; rw [hdrives a hne] at h; simp at h
  -- the pool as it was
  have hkeep : HeldBy a y s.pool → Sets s t a y s.pool → t.HeldLaw := fun hy ht =>
    hs.of_sets ht hwait (fun _ _ h => h) (fun _ _ => rfl) hy
  -- the units returned
  have hback : y.state ≠ .awaitPower → y.config = (s.axis a).config → (s.axis a).state ≠ .off → Sets s t a y (s.pool.returned a) → t.HeldLaw :=
    fun h1 h2 h3 ht => hs.of_sets ht hwait (fun _ _ h => h) (fun b hb => tget_tset_ne _ _ (Ne.symm hb))
      ⟨fun h => absurd h h1, fun h => absurd (tget_tset_same s.pool.held a 0) h, fun h => absurd (h2 ▸ h) (hconfig h3), fun h => absurd h h1⟩
  -- the wait list left by an axis that does not drive
  have hleft : y.state ≠ .awaitPower → y.config = (s.axis a).config → (s.axis a).state ≠ .off → (s.axis a).state.drives = false →
      Sets s t a y (s.pool.left a) → t.HeldLaw :=
    fun h1 h2 h3 h4 ht => hs.of_sets ht hwait (fun b hb h => Pool.mem_left hb h) (fun _ _ => rfl)
      ⟨fun h => absurd h h1, fun h => absurd (hzero h4) h, fun h => absurd (h2 ▸ h) (hconfig h3), fun h => absurd h h1⟩
  cases hm with
  | slows r h | retargets _ _ h | advances _ h | brakes _ _ h | restarts _ _ h | pends r h =>
    refine hkeep ⟨fun hw => ?_, fun _ => ?_, fun hc => absurd hc (hconfig (by simp [h])), fun hw => ?_⟩ ht
    · simp [Axis.enterStopping, Axis.stepped, Axis.movedTo, Axis.enterMoving, h] at hw
    · simp [Axis.enterStopping, Axis.stepped, Axis.movedTo, Axis.enterMoving, h, AxisState.drives]
    · simp [Axis.enterStopping, Axis.stepped, Axis.movedTo, Axis.enterMoving, h] at hw
  | losesHome h | recovers h =>
    refine hkeep ⟨fun hw => ?_, fun hu => absurd (hzero (by simp [h, AxisState.drives])) hu, fun hc => absurd hc (hconfig (by simp [h])),
      fun hw => ?_⟩ ht <;> simp [Axis.enterUnhomed, Axis.movedTo] at hw
  | replaces t i h =>
    exact hkeep ⟨fun _ => hin a h, fun hu => absurd (hzero (by simp [h, AxisState.drives])) hu,
      fun hc => absurd hc (hconfig (by simp [h])), fun _ => rfl⟩ ht
  | resyncs h => exact hkeep ⟨hin a, hdrives a, hcfg a, hreq a⟩ ht
  | configures h hc =>
    have hne : (s.axis a).state ≠ .awaitPower := fun hw => by rw [hw] at hc; simp [AxisState.takesConfigure] at hc
    have hnd : (s.axis a).state.drives = false := by
      revert hc; cases (s.axis a).state <;> simp [AxisState.takesConfigure, AxisState.drives]
    have hy : ((s.axis a).configured (s.readAxis a)).state ≠ .awaitPower := by
      simp only [Axis.configured]; split <;> simp_all
    exact hkeep ⟨fun hw => absurd hw hy, fun hu => absurd (hzero hnd) hu, fun hc => by simp [Axis.configured] at hc,
      fun hw => absurd hw hy⟩ ht
  | quickStops h =>
    refine hback ?_ ?_ (fun ho => by simp [ho, AxisState.drives] at h) ht
    · obtain ⟨-, he⟩ | ⟨-, -, he⟩ | ⟨-, -, he⟩ := (s.axis a).afterQuickStop_cases <;> rw [he] <;>
        simp [Axis.enterUnhomed, Axis.enterFaulted, Axis.movedTo]
    · obtain ⟨-, he⟩ | ⟨-, -, he⟩ | ⟨-, -, he⟩ := (s.axis a).afterQuickStop_cases <;> rw [he] <;> rfl
  | faults cause h => exact hback (by simp [Axis.enterFaulted, Axis.movedTo]) rfl (fun ho => by simp [ho, AxisState.drives] at h) ht
  | arrives c h => exact hback (by simp [Axis.arrived, Axis.movedTo]) rfl (by simp [h]) ht
  | leaves h => exact hleft (by simp) rfl (by simp [h]) (by simp [h, AxisState.drives]) ht
  | leavesUnhomed h => exact hleft (by simp [Axis.enterUnhomed, Axis.movedTo]) rfl (by simp [h]) (by simp [h, AxisState.drives]) ht
  | isDisplaced h =>
    have : (s.axis a).state ≠ .off ∧ (s.axis a).state.drives = false := by
      revert h; cases (s.axis a).state <;> simp [AxisState.disturbable, AxisState.drives]
    exact hleft (by simp [Axis.enterFaulted, Axis.movedTo]) rfl this.1 this.2 ht
  | joins r h hr =>
    have hst : (s.axis a).state ≠ .off ∧ (s.axis a).state.drives = false := by
      obtain h | h := hr.state <;> simp [h, AxisState.drives]
    exact hs.of_sets ht hwait (fun b _ hb => by simp [Pool.joined, hb]) (fun _ _ => rfl)
      ⟨fun _ => by simp [Pool.joined], fun hu => absurd (hzero hst.2) hu, fun hc => absurd hc (hconfig hst.1), fun _ => rfl⟩
  | starts r h hr hw hd =>
    have hst : (s.axis a).state ≠ .off := by obtain h | h := hr.state <;> simp [h]
    refine hs.of_sets ht hwait (fun b _ hb => by simp [hw] at hb) (fun b hb => ?_) (HeldBy.started rfl (hconfig hst))
    rw [Pool.started_held (Ne.symm hb)]
    exact tget_tset_ne _ _ (Ne.symm hb)
  | isGranted w rest hw ha hd =>
    have hst : (s.axis a).state = .awaitPower := by subst ha; exact hs.1.1 w (by simp [hw])
    refine hs.of_sets ht hwait (fun b hb hbw => ?_) (fun b hb => ?_) (HeldBy.started (hreq a hst) (hconfig (by simp [hst])))
    · rw [Pool.started_waiting]
      rw [hw, List.map_cons, List.mem_cons, ha] at hbw
      exact hbw.resolve_left hb
    · rw [Pool.started_held (Ne.symm hb)]
      exact tget_tset_ne _ _ (Ne.symm hb)

theorem heldLaw_kept : AxisLaw State.HeldLaw where
  alike {s t} hp ha hs := by
    obtain ⟨hwait, hin, hdrives, hcfg, hreq⟩ := hs
    refine ⟨waitLaw_kept.alike hp ha hwait, fun a => ?_, fun a => ?_, fun a => ?_, fun a => ?_⟩
    · rw [hp, (ha a).state]; exact hin a
    · rw [hp, (ha a).state]; exact hdrives a
    · rw [(ha a).state, (ha a).config]; exact hcfg a
    · rw [(ha a).state, (ha a).request]; exact hreq a
  move hm ht hs := hs.move hm ht
  returns {s} a hs := by
    obtain ⟨hwait, hin, hdrives, hcfg, hreq⟩ := hs
    refine ⟨hwait, hin, fun b hb => hdrives b ?_, hcfg, hreq⟩
    by_cases hab : a = b
    · subst hab; exact absurd (tget_tset_same s.pool.held a 0) hb
    · rwa [show tget (s.returnUnits a).pool.held b = _ from tget_tset_ne s.pool.held 0 hab] at hb
  idles {s t a} h hs hu ht := by
    have hne : (s.axis a).state ≠ .awaitPower := by obtain h | h := h <;> simp [h]
    obtain ⟨hx, hheld, -⟩ := s.returned_grantScan a (hs.1.not_waiting hne)
    have hcfg : (s.axis a).config ≠ none := fun hc => by
      have := hs.2.2.2.1 a hc
      obtain h | h := h <;> simp [h] at this
    exact hu.of_sets ht (waitLaw_kept.idles h hs.1 hu.1 ht) (fun _ _ hb => hb) (fun _ _ => rfl)
      ⟨by simp [Axis.enterIdle], fun hn => absurd hheld hn, fun hc => absurd (hx ▸ hc) hcfg, by simp [Axis.enterIdle]⟩

end Sys2Proof.Machine
end

section
/-! The laws of each axis: its homed flag, its window and its velocity (R81, R87, R111). -/

namespace Sys2Proof.Machine

/-! ### The homed flag (R111) -/

/-- What the homed flag and the request of an axis are to satisfy. -/
abbrev Axis.HomedRight (x : Axis) : Prop :=
  (x.state = .idle ∨ x.state = .moving ∨ x.state = .stopping → x.homed = true) ∧
  (x.state = .unhomed ∨ x.state = .homing → x.homed = false) ∧
  (∀ r ∈ x.request, (r ≠ .home → x.homed = true) ∧ (x.state = .awaitPower ∨ x.state = .stopping))

theorem Axis.HomedRight.alike {x y : Axis} (h : x.Alike y) (hx : x.HomedRight) : y.HomedRight := by
  unfold Axis.HomedRight
  rw [h.state, h.homed, h.request]
  exact hx

/-- An axis at rest or MOVING without a request. -/
theorem Axis.HomedRight.of_homed {y : Axis} (hs : y.state ≠ .unhomed ∧ y.state ≠ .homing) (hh : y.homed = true) (hr : y.request = none) :
    y.HomedRight := ⟨fun _ => hh, fun h => by simp [hs.1, hs.2] at h, by simp [hr]⟩

/-- An axis that has lost its homed flag, or never had it. -/
theorem Axis.HomedRight.of_not_homed {y : Axis} (hs : y.state = .unhomed ∨ y.state = .homing) (hh : y.homed = false)
    (hr : y.request = none) : y.HomedRight :=
  ⟨fun h => by obtain hs | hs := hs <;> simp [hs] at h, fun _ => hh, by simp [hr]⟩

theorem Axis.HomedRight.of_faulted {y : Axis} (hs : y.state = .faulted) (hr : y.request = none) : y.HomedRight :=
  ⟨by simp [hs], by simp [hs], by simp [hr]⟩

/-- An axis that waits, or stops, with a request it may carry on. -/
theorem Axis.HomedRight.of_pending {y : Axis} (hs : y.state = .awaitPower ∨ (y.state = .stopping ∧ y.homed = true))
    (hr : ∀ r ∈ y.request, r ≠ .home → y.homed = true) : y.HomedRight := by
  obtain hs | ⟨hs, hh⟩ := hs
  · exact ⟨by simp [hs], by simp [hs], fun r h => ⟨hr r h, .inl hs⟩⟩
  · exact ⟨fun _ => hh, by simp [hs], fun r h => ⟨hr r h, .inr hs⟩⟩

theorem Axis.HomedRight.started {x : Axis} (hx : ∀ r ∈ x.request, r ≠ .home → x.homed = true) (h : x.request = none → x.HomedRight)
    (hcfg : x.config = none → x.HomedRight) : x.started.HomedRight := by
  unfold Axis.started
  split
  · next t i hr =>
    have hh : x.homed = true := hx _ hr (by simp)
    split
    · exact .of_homed (by simp [Axis.enterIdle]) hh rfl
    · exact .of_homed (by simp [Axis.enterMoving]) hh rfl
  · split
    · exact .of_not_homed (.inr rfl) rfl rfl
    · next hc => exact hcfg hc
  · next hr => exact h hr

theorem Axis.HomedRight.movedTo {x : Axis} (h : x.HomedRight) (p : Int) : (x.movedTo p).HomedRight := h

theorem Move.homedRight {s : State} {a : AxisNo} {y : Axis} {p : Pool} (hheld : s.HeldLaw) (h : Move s a y p)
    (hx : (s.axis a).HomedRight) : y.HomedRight := by
  obtain ⟨hon, hoff, hreq⟩ := id hx
  have hconfig : (s.axis a).state ≠ .off → (s.axis a).config ≠ none := fun h hc => h (hheld.2.2.2.1 a hc)
  have hnone : (s.axis a).state ≠ .awaitPower → (s.axis a).state ≠ .stopping → (s.axis a).request = none := fun h1 h2 => by
    cases hr : (s.axis a).request with
    | none => rfl
    | some r => obtain h | h := (hreq r hr).2; exacts [absurd h h1, absurd h h2]
  cases h with
  | slows r h => exact .of_pending (.inr ⟨rfl, hon (by simp [h])⟩) fun _ _ _ => hon (by simp [h])
  | pends r h => exact .of_pending (.inr ⟨h, hon (by simp [h])⟩) fun _ _ _ => hon (by simp [h])
  | replaces t i h hr =>
    obtain ⟨u, j, hr⟩ := hr
    exact .of_pending (.inl h) fun _ _ _ => (hreq _ hr).1 (by simp)
  | retargets t i h => exact .of_homed (by simp [h]) (hon (by simp [h])) (hnone (by simp [h]) (by simp [h]))
  | advances m h =>
    exact .of_homed (by simp [h, Axis.stepped, Axis.movedTo]) (hon (by simp [h])) (hnone (by simp [h]) (by simp [h]))
  | brakes accel bound h => exact hx
  | restarts t i h hr => exact .of_homed (by simp [Axis.enterMoving]) (hon (by simp [h])) rfl
  | losesHome h => exact .of_not_homed (.inl rfl) rfl rfl
  | recovers h hh => exact .of_homed (by simp) hh (hnone (by simp [h]) (by simp [h]))
  | resyncs h => exact hx
  | configures h hc hp =>
    refine ⟨fun h => ?_, fun h => ?_, fun r hr => ?_⟩
    · by_cases ho : (s.axis a).state = .off
      · simp [Axis.configured, ho] at h
      · have hs : ((s.axis a).configured (s.readAxis a)).state = (s.axis a).state := if_neg ho
        rw [hs] at h
        simp [Axis.configured, ho, hon h]
    · by_cases ho : (s.axis a).state = .off
      · simp [Axis.configured, ho]
      · have hs : ((s.axis a).configured (s.readAxis a)).state = (s.axis a).state := if_neg ho
        rw [hs] at h
        simp [Axis.configured, hoff h]
    · have := (hreq r hr).2
      revert hc
      obtain h | h := this <;> rw [h] <;> simp [AxisState.takesConfigure]
  | quickStops h =>
    obtain ⟨-, he⟩ | ⟨hs, -, he⟩ | ⟨-, -, he⟩ := (s.axis a).afterQuickStop_cases <;> rw [he]
    · exact .of_not_homed (.inl rfl) rfl rfl
    · refine .of_homed (by simp [Axis.movedTo]) (hon ?_) rfl
      revert h hs; cases (s.axis a).state <;> simp [AxisState.drives]
    · exact .of_faulted rfl rfl
  | faults cause h => exact .of_faulted rfl rfl
  | arrives c h => exact .of_homed (by simp [Axis.arrived, Axis.movedTo]) rfl rfl
  | leaves h hh =>
    refine .of_homed (by simp) ?_ rfl
    obtain hh | ⟨u, j, hr⟩ := hh
    · exact hh
    · exact (hreq _ hr).1 (by simp)
  | leavesUnhomed h => exact .of_not_homed (.inl rfl) rfl rfl
  | isDisplaced h => exact .of_faulted rfl rfl
  | joins r h hr =>
    refine .of_pending (.inl rfl) fun q hq hne => ?_
    obtain rfl : r = q := by simpa using hq
    cases r with
    | move t i => exact hon (.inl hr.1)
    | home => exact absurd rfl hne
  | starts r h hr =>
    have hne : (s.axis a).state ≠ .off := by obtain h | h := hr.state <;> simp [h]
    refine .started (fun q hq hne => ?_) (by simp) (fun hc => absurd hc (hconfig hne))
    obtain rfl : r = q := by simpa using hq
    cases r with
    | move t i => exact hon (.inl hr.1)
    | home => exact absurd rfl hne
  | isGranted w rest hw ha => exact .started (fun r hr => (hreq r hr).1) (fun _ => hx) (fun _ => hx)

/-- The homed flag goes with the state: with the law of held units, every move keeps it. -/
theorem homedLaw_kept : AxisLaw fun s => s.HeldLaw ∧ s.HomedLaw where
  alike hp ha hs := ⟨heldLaw_kept.alike hp ha hs.1, fun a => Axis.HomedRight.alike (ha a) (hs.2 a)⟩
  move hm ht hs := by
    refine ⟨heldLaw_kept.move hm ht hs.1, fun b => ?_⟩
    obtain ⟨stale, hb⟩ := ht.axis
    rw [hb]
    split
    · exact Axis.HomedRight.alike (Axis.Alike.stale _ stale) (hm.homedRight hs.1 (hs.2 _))
    · exact hs.2 b
  returns a hs := ⟨heldLaw_kept.returns a hs.1, hs.2⟩
  idles {s t a} h hs hu ht := by
    refine ⟨heldLaw_kept.idles h hs.1 hu.1 ht, fun b => ?_⟩
    have hne : (s.axis a).state ≠ .awaitPower := by obtain h | h := h <;> simp [h]
    obtain ⟨hx, -, -⟩ := s.returned_grantScan a (hs.1.1.not_waiting hne)
    obtain ⟨stale, hb⟩ := ht.axis
    rw [hb]
    split
    · rw [hx]
      exact Axis.HomedRight.alike (Axis.Alike.stale _ stale)
        (.of_homed (by simp [Axis.enterIdle]) ((hs.2 a).1 (by obtain h | h := h <;> simp [h])) rfl)
    · exact hu.2 b

/-! ### A record that passes its checks (R78) -/

theorem firstFault_eq_none {l : List (Nat × Bool)} (h : firstFault l = none) : ∀ c ∈ l, c.2 = true := by
  induction l with
  | nil => simp
  | cons c l ih =>
    obtain ⟨n, ok⟩ := c
    simp only [firstFault] at h
    split at h
    · next hok =>
      intro d hd
      obtain rfl | hd := List.mem_cons.1 hd
      · exact hok
      · exact ih h d hd
    · simp at h

/-- HOME_VALUE lies within the window of a record that passes, and each Vs is at most its Vmax. -/
theorem AxisConfig.checks_hold {c : AxisConfig} (h : firstFault c.checks = none) :
    c.Holds c.homeValue ∧ ∀ i : Fin 4, (tget c.sets i).vs ≤ (tget c.sets i).vmax := by
  have hall := firstFault_eq_none h
  constructor
  · have := hall (23, decide (c.low ≤ c.homeValue ∧ c.homeValue ≤ c.high)) (by simp [AxisConfig.checks])
    simpa using this
  · intro i
    have hmem : (5 + 3 * i.val, within (tget c.sets i).vs (tget c.sets i).vmax c.ceiling) ∈ c.checks := by
      refine List.mem_append_left _ (List.mem_append_left _ (List.mem_append_right _ ?_))
      exact List.mem_flatMap.2 ⟨i, List.mem_finRange i, by simp [speedSetChecks]⟩
    have := hall _ hmem
    simp only [within, decide_eq_true_eq] at this
    exact this.1

/-- What the checks of CONFIGURE AXIS say of an axis that takes the record. -/
theorem State.axisRecord_passes {s : State} {a : AxisNo} (h : s.axisRecordFault a = none) :
    (s.readAxis a).Holds (s.readAxis a).homeValue ∧
      (∀ i : Fin 4, (tget (s.readAxis a).sets i).vs ≤ (tget (s.readAxis a).sets i).vmax) ∧
      ((s.axis a).state = .idle → (s.readAxis a).Holds (s.axis a).pos) := by
  unfold State.axisRecordFault at h
  split at h
  · simp at h
  · next hf =>
    obtain ⟨hv, hsets⟩ := AxisConfig.checks_hold hf
    refine ⟨hv, hsets, fun hidle => ?_⟩
    simp only [Axis.windowFault, hidle, ne_eq, not_true_eq_false, if_false] at h
    split at h
    · simp at h
    · split at h
      · simp at h
      · exact ⟨by omega, by omega⟩

/-! ### The travel window (R81) -/

/-- The window law of one axis. -/
abbrev Axis.WindowRight (x : Axis) : Prop :=
  (x.config = none → x.Unconfigured) ∧ ∀ c, x.config = some c → x.WithinWindow c

theorem State.windowLaw_iff (s : State) : s.WindowLaw ↔ ∀ a, (s.axis a).WindowRight := by
  refine forall_congr' fun a => ?_
  unfold Axis.WindowRight
  cases (s.axis a).config <;> simp

theorem Axis.WindowRight.alike {x y : Axis} (h : x.Alike y) (hx : x.WindowRight) : y.WindowRight := by
  obtain ⟨hnone, hsome⟩ := hx
  unfold Axis.WindowRight Axis.Unconfigured Axis.WithinWindow
  rw [h.config, h.state, h.request, h.move, h.stopBound]
  refine ⟨hnone, fun c hc => ?_⟩
  obtain ⟨hv, hpos, hreq, hmov, hstop⟩ := hsome c hc
  have hahead : ∀ {b}, (x.state = .moving ∨ x.state = .stopping) → x.isAhead b = true → y.isAhead b = true := fun hs hb => by
    unfold Axis.isAhead at hb ⊢
    rw [h.dir, h.pos (by obtain h | h := hs <;> simp [h])]
    exact hb
  refine ⟨hv, fun hs => by rw [h.pos hs]; exact hpos hs, hreq, fun hs => ?_, fun hs => ?_⟩
  · obtain ⟨m, hm, ht, ha⟩ := hmov hs
    exact ⟨m, hm, ht, hahead (.inl hs) ha⟩
  · obtain ⟨hm, b, hb, ht, ha⟩ := hstop hs
    exact ⟨hm, b, hb, ht, hahead (.inr hs) ha⟩

theorem AxisConfig.low_le_high {c : AxisConfig} (h : c.Holds c.homeValue) : c.low ≤ c.high := le_trans h.1 h.2

/-- A clamped target lies within the window. -/
theorem Axis.clamp_holds {x : Axis} {c : AxisConfig} (hc : x.config = some c) (h : c.Holds c.homeValue) (t : Int) : c.Holds (x.clamp t) := by
  have := AxisConfig.low_le_high h
  simp only [Axis.clamp, hc, AxisConfig.Holds]
  omega

theorem Axis.inWindow_iff {x : Axis} {c : AxisConfig} (hc : x.config = some c) (p : Int) : x.inWindow p = true ↔ c.Holds p := by
  simp [Axis.inWindow, hc]

/-- An axis in a state that asks nothing of P. -/
theorem Axis.WindowRight.of_free {y : Axis} {c : AxisConfig} (hc : y.config = some c) (hv : c.Holds c.homeValue)
    (hs : y.state = .unhomed ∨ y.state = .homing ∨ y.state = .faulted) (hr : y.request = none) : y.WindowRight := by
  refine ⟨fun h => by simp [hc] at h, fun d hd => ?_⟩
  obtain rfl : c = d := by simpa [hc] using hd
  refine ⟨hv, ?_, by simp [hr], ?_, ?_⟩ <;> obtain h | h | h := hs <;> simp [h]

theorem Axis.WindowRight.of_idle {y : Axis} {c : AxisConfig} (hc : y.config = some c) (hv : c.Holds c.homeValue) (hs : y.state = .idle)
    (hp : c.Holds y.pos) (hr : y.request = none) : y.WindowRight := by
  refine ⟨fun h => by simp [hc] at h, fun d hd => ?_⟩
  obtain rfl : c = d := by simpa [hc] using hd
  exact ⟨hv, fun _ => hp, by simp [hr], by simp [hs], by simp [hs]⟩

theorem Axis.WindowRight.of_await {y : Axis} {c : AxisConfig} (hc : y.config = some c) (hv : c.Holds c.homeValue)
    (hs : y.state = .awaitPower) (hp : c.Holds y.pos) (hr : ∀ r ∈ y.request, c.HoldsRequest r) : y.WindowRight := by
  refine ⟨fun h => by simp [hc] at h, fun d hd => ?_⟩
  obtain rfl : c = d := by simpa [hc] using hd
  exact ⟨hv, fun _ => hp, fun r h => ⟨hr r h, .inl hs⟩, by simp [hs], by simp [hs]⟩

theorem Axis.WindowRight.of_moving {y : Axis} {c : AxisConfig} {m : MoveRecord} (hc : y.config = some c) (hv : c.Holds c.homeValue)
    (hs : y.state = .moving) (hp : c.Holds y.pos) (hr : y.request = none) (hm : y.move = some m) (ht : c.Holds m.target)
    (ha : y.isAhead m.target = true) : y.WindowRight := by
  refine ⟨fun h => by simp [hc] at h, fun d hd => ?_⟩
  obtain rfl : c = d := by simpa [hc] using hd
  exact ⟨hv, fun _ => hp, by simp [hr], fun _ => ⟨m, hm, ht, ha⟩, by simp [hs]⟩

theorem Axis.WindowRight.of_stopping {y : Axis} {c : AxisConfig} {b : Int} (hc : y.config = some c) (hv : c.Holds c.homeValue)
    (hs : y.state = .stopping) (hp : c.Holds y.pos) (hr : ∀ r ∈ y.request, c.HoldsRequest r) (hm : y.move.isSome = true)
    (hb : y.stopBound = some b) (ht : c.Holds b) (ha : y.isAhead b = true) : y.WindowRight := by
  refine ⟨fun h => by simp [hc] at h, fun d hd => ?_⟩
  obtain rfl : c = d := by simpa [hc] using hd
  exact ⟨hv, fun _ => hp, fun r h => ⟨hr r h, .inr hs⟩, by simp [hs], fun _ => ⟨hm, b, hb, ht, ha⟩⟩

/-- The direction of a motion that begins is toward its target. -/
theorem Axis.isAhead_enterMoving (x : Axis) (t : Int) (i : Fin 4) : (x.enterMoving t i).isAhead t = true := by
  by_cases h : x.pos ≤ t
  · simp [Axis.isAhead, Axis.enterMoving, dirToward, h]
  · simp [Axis.isAhead, Axis.enterMoving, dirToward, h]; omega

theorem Axis.WindowRight.enterMoving {x : Axis} {c : AxisConfig} (hc : x.config = some c) (hv : c.Holds c.homeValue) (hp : c.Holds x.pos)
    {t : Int} (ht : c.Holds t) (i : Fin 4) : (x.enterMoving t i).WindowRight :=
  .of_moving (m := { target := t, speedSet := i }) hc hv rfl hp rfl rfl ht (x.isAhead_enterMoving t i)

theorem Axis.WindowRight.started {x : Axis} {c : AxisConfig} (hc : x.config = some c) (hv : c.Holds c.homeValue) (hp : c.Holds x.pos)
    (hr : ∀ r ∈ x.request, c.HoldsRequest r) (h : x.request = none → x.WindowRight) : x.started.WindowRight := by
  unfold Axis.started
  split
  · next t i hreq =>
    have ht : c.Holds t := hr _ hreq
    split
    · exact .of_idle hc hv rfl hp rfl
    · exact .enterMoving hc hv hp ht i
  · rw [hc]
    exact .of_free hc hv (.inr (.inl rfl)) rfl
  · next hreq => exact h hreq

/-- `n` counts toward a target no further off than `n`: P stays between, and what was ahead stays ahead. -/
theorem Axis.advance_toward {x : Axis} {b : Int} {n : Nat} (d : Dir) (ha : x.isAhead b = true) (hn : n ≤ (b - x.pos).natAbs)
    (hd : d = dirToward x.pos b ∨ x.dir = some d ∨ n = 0) {c : AxisConfig} (hb : c.Holds b) (hp : c.Holds x.pos) (y : Axis)
    (hy : y.dir = x.dir) (hpos : y.pos = advance x.pos d n) : c.Holds y.pos ∧ y.isAhead b = true := by
  obtain ⟨hb1, hb2⟩ := hb
  obtain ⟨hp1, hp2⟩ := hp
  have hside : (x.dir = some .towardLow ∧ b ≤ x.pos) ∨ (x.dir ≠ some .towardLow ∧ x.pos ≤ b) := by
    unfold Axis.isAhead at ha
    split at ha
    · next hlow => exact .inl ⟨hlow, of_decide_eq_true ha⟩
    · next hlow => exact .inr ⟨hlow, of_decide_eq_true ha⟩
  have hstep : (y.pos = x.pos + n ∧ (x.pos ≤ b ∨ n = 0)) ∨ (y.pos = x.pos - n ∧ (b ≤ x.pos ∨ n = 0)) := by
    rw [hpos]
    cases d with
    | towardHigh =>
      refine .inl ⟨rfl, ?_⟩
      obtain hd | hd | hd := hd
      · unfold dirToward at hd
        split at hd
        · next h => exact .inl h
        · simp at hd
      · obtain ⟨h, -⟩ | ⟨-, h⟩ := hside
        · simp [hd] at h
        · exact .inl h
      · exact .inr hd
    | towardLow =>
      refine .inr ⟨rfl, ?_⟩
      obtain hd | hd | hd := hd
      · unfold dirToward at hd
        split at hd
        · simp at hd
        · next h => exact .inl (by omega)
      · obtain ⟨-, h⟩ | ⟨h, -⟩ := hside
        · exact .inl h
        · exact absurd hd h
      · exact .inr hd
  refine ⟨⟨by omega, by omega⟩, ?_⟩
  unfold Axis.isAhead
  rw [hy]
  split
  · next hlow => exact decide_eq_true (by simp only [hlow, ne_eq, not_true_eq_false, true_and, false_and, or_false] at hside; omega)
  · next hlow => exact decide_eq_true (by simp only [hlow, ne_eq, not_false_eq_true, true_and, false_and, false_or] at hside; omega)

theorem Axis.profile_count_le (x : Axis) (m : MoveRecord) : (x.profile m).count ≤ (m.target - x.pos).natAbs := by
  simp only [Axis.profile, stepCount]; omega

theorem Axis.stopSteps_count_le (x : Axis) (accel : Nat) (b : Int) : (x.stopSteps accel b).count ≤ (b - x.pos).natAbs := by
  have : (stepCount (x.vel - accel) x.acc (b - x.pos).natAbs).count ≤ (b - x.pos).natAbs := by simp only [stepCount]; omega
  unfold Axis.stopSteps
  simp only
  split <;> exact this

theorem Move.windowRight {s : State} {a : AxisNo} {y : Axis} {p : Pool} (h : Move s a y p) (hx : (s.axis a).WindowRight) : y.WindowRight := by
  by_cases hnone : (s.axis a).config = none
  · -- an axis without a configuration: only a record, or nothing, changes it
    obtain ⟨hoff, hreq⟩ := hx.1 hnone
    have hd : (s.axis a).state.drives = false := by rw [hoff]; rfl
    cases h with
    | configures h hc hp =>
      obtain ⟨hv, -, -⟩ := State.axisRecord_passes h
      exact .of_free (c := s.readAxis a) rfl hv (.inl (by simp [Axis.configured, hoff])) hreq
    | isGranted => simpa only [Axis.started, hreq] using hx
    | joins r h hr => obtain h | h := hr.state <;> simp [h] at hoff
    | starts r h hr => obtain h | h := hr.state <;> simp [h] at hoff
    | quickStops h => simp [h] at hd
    | faults _ h => simp [h] at hd
    | resyncs h => simp [hoff, AxisState.disturbable] at h
    | isDisplaced h => simp [hoff, AxisState.disturbable] at h
    | slows _ h | pends _ h | replaces _ _ h | retargets _ _ h | advances _ h | brakes _ _ h | restarts _ _ h | losesHome h
      | recovers h | arrives _ h | leaves h | leavesUnhomed h => simp [h] at hoff
  · obtain ⟨c, hc⟩ := Option.ne_none_iff_exists'.1 hnone
    obtain ⟨hv, hpos, hreq, hmov, hstop⟩ := hx.2 c hc
    have hclamp := fun t => Axis.clamp_holds hc hv t
    have hnoreq : (s.axis a).state ≠ .awaitPower → (s.axis a).state ≠ .stopping → (s.axis a).request = none := fun h1 h2 => by
      cases hr : (s.axis a).request with
      | none => rfl
      | some r => obtain h | h := (hreq r hr).2; exacts [absurd h h1, absurd h h2]
    cases h with
    | slows r h hr =>
      obtain ⟨m, hm, ht, ha⟩ := hmov h
      have hb : (s.axis a).boundOfStop = some m.target := by
        obtain ⟨h1, h2⟩ := ht
        simp only [Axis.boundOfStop, hc, Option.mem_def.1 hm]
        split <;> simp [max_eq_left h1, min_eq_left h2]
      refine .of_stopping (b := m.target) hc hv rfl (hpos (by simp [h])) (fun q hq => ?_) ?_ hb ht ha
      · obtain ⟨t, i, rfl⟩ := hr q hq
        exact hclamp t
      · exact Option.isSome_iff_exists.2 ⟨m, hm⟩
    | pends r h hr =>
      obtain ⟨hm, b, hb, ht, ha⟩ := hstop h
      refine .of_stopping (b := b) hc hv h (hpos (by simp [h])) (fun q hq => ?_) hm hb ht ha
      obtain ⟨t, i, rfl⟩ := hr q hq
      exact hclamp t
    | replaces t i h =>
      refine .of_await hc hv h (hpos (by simp [h])) fun r hr => ?_
      obtain rfl : Request.move ((s.axis a).clamp t) i = r := Option.some.inj hr
      exact hclamp t
    | retargets t i h ha =>
      exact .of_moving (m := { target := (s.axis a).clamp t, speedSet := i }) hc hv h (hpos (by simp [h]))
        (hnoreq (by simp [h]) (by simp [h])) rfl (hclamp t) ha
    | advances m h hm =>
      obtain ⟨m', hm', ht, ha⟩ := hmov h
      obtain rfl : m = m' := by simpa [hm] using hm'
      obtain ⟨hp, ha'⟩ := Axis.advance_toward _ ha ((s.axis a).profile_count_le m) (.inl rfl) ht (hpos (by simp [h]))
        (((s.axis a).stepped ((s.axis a).profile m)).movedTo
          (advance (s.axis a).pos (dirToward (s.axis a).pos m.target) ((s.axis a).profile m).count)) rfl rfl
      exact .of_moving (m := m) hc hv h hp (hnoreq (by simp [h]) (by simp [h])) hm ht ha'
    | brakes accel bound h hbound =>
      obtain ⟨hm, b, hb, ht, ha⟩ := hstop h
      obtain rfl := hbound b hb
      have hdir : (s.axis a).dir.getD (dirToward (s.axis a).pos bound) = dirToward (s.axis a).pos bound ∨
          (s.axis a).dir = some ((s.axis a).dir.getD (dirToward (s.axis a).pos bound)) ∨ ((s.axis a).stopSteps accel bound).count = 0 := by
        cases (s.axis a).dir with
        | none => exact .inl rfl
        | some d => exact .inr (.inl rfl)
      obtain ⟨hp, ha'⟩ := Axis.advance_toward _ ha ((s.axis a).stopSteps_count_le accel bound) hdir ht (hpos (by simp [h]))
        (((s.axis a).stepped ((s.axis a).stopSteps accel bound)).movedTo
          (advance (s.axis a).pos ((s.axis a).dir.getD (dirToward (s.axis a).pos bound)) ((s.axis a).stopSteps accel bound).count)) rfl rfl
      exact .of_stopping (b := bound) hc hv h hp (fun r hr => (hreq r hr).1) hm hb ht ha'
    | restarts t i h hr => exact .enterMoving hc hv (hpos (by simp [h])) (hreq _ hr).1 i
    | losesHome h => exact .of_free hc hv (.inl rfl) rfl
    | recovers h hh hw =>
      exact .of_idle hc hv rfl ((Axis.inWindow_iff hc _).1 hw) (hnoreq (by simp [h]) (by simp [h]))
    | resyncs h hw =>
      have hp := (Axis.inWindow_iff hc _).1 hw
      have hs : (s.axis a).state = .idle ∨ (s.axis a).state = .awaitPower := by
        revert h; cases (s.axis a).state <;> simp [AxisState.disturbable]
      obtain hs | hs := hs
      · exact .of_idle hc hv hs hp (hnoreq (by simp [hs]) (by simp [hs]))
      · exact .of_await hc hv hs hp fun r hr => (hreq r hr).1
    | configures h hs hp =>
      obtain ⟨hv', -, hidle⟩ := State.axisRecord_passes h
      have hr : (s.axis a).request = none :=
        hnoreq (fun h => by simp [h, AxisState.takesConfigure] at hs) fun h => by simp [h, AxisState.takesConfigure] at hs
      by_cases hi : (s.axis a).state = .idle
      · exact .of_idle (c := s.readAxis a) rfl hv' (by simp [Axis.configured, hi]) (hidle hi) hr
      · refine .of_free (c := s.readAxis a) rfl hv' ?_ hr
        revert hs hi
        cases hst : (s.axis a).state <;> simp [AxisState.takesConfigure, Axis.configured, hst]
    | quickStops h =>
      obtain ⟨-, he⟩ | ⟨hs, hw, he⟩ | ⟨-, -, he⟩ := (s.axis a).afterQuickStop_cases <;> rw [he]
      · exact .of_free hc hv (.inl rfl) rfl
      · exact .of_idle hc hv rfl ((Axis.inWindow_iff hc _).1 hw) rfl
      · exact .of_free hc hv (.inr (.inr rfl)) rfl
    | faults cause h => exact .of_free hc hv (.inr (.inr rfl)) rfl
    | arrives d h hd =>
      obtain rfl : c = d := by simpa [hc] using hd
      exact .of_idle hc hv rfl hv rfl
    | leaves h => exact .of_idle hc hv rfl (hpos (by simp [h])) rfl
    | leavesUnhomed h => exact .of_free hc hv (.inl rfl) rfl
    | isDisplaced h => exact .of_free hc hv (.inr (.inr rfl)) rfl
    | joins r h hr =>
      obtain ⟨hp, hreq'⟩ : c.Holds (s.axis a).pos ∧ c.HoldsRequest r := by
        cases r with
        | move t i => obtain ⟨hs, t', rfl⟩ := hr; exact ⟨hpos (.inl hs), hclamp t'⟩
        | home =>
          obtain ⟨d, hd, hs | ⟨-, hs⟩⟩ := hr
          · exact ⟨hpos (.inl hs), trivial⟩
          · obtain rfl : c = d := by simpa [hc] using hd
            exact ⟨by rw [hs]; exact hv, trivial⟩
      exact .of_await hc hv rfl hp (by simpa using hreq')
    | starts r h hr =>
      obtain ⟨hp, hreq'⟩ : c.Holds (s.axis a).pos ∧ c.HoldsRequest r := by
        cases r with
        | move t i => obtain ⟨hs, t', rfl⟩ := hr; exact ⟨hpos (.inl hs), hclamp t'⟩
        | home =>
          obtain ⟨d, hd, hs | ⟨-, hs⟩⟩ := hr
          · exact ⟨hpos (.inl hs), trivial⟩
          · obtain rfl : c = d := by simpa [hc] using hd
            exact ⟨by rw [hs]; exact hv, trivial⟩
      exact .started (x := { s.axis a with request := some r }) hc hv hp (by simpa using hreq') (by simp)
    | isGranted w rest hw ha =>
      by_cases hr : (s.axis a).request = none
      · simpa only [Axis.started, hr] using hx
      · obtain ⟨r, hr⟩ := Option.ne_none_iff_exists'.1 hr
        have hs := (hreq r hr).2
        exact .started hc hv (hpos (by tauto)) (fun r hr => (hreq r hr).1) fun h => hx

/-- P lies within the window, in every act. -/
theorem windowLaw_kept : AxisLaw State.WindowLaw := by
  have := AxisLaw.of_pointwise (P := Axis.WindowRight) Axis.WindowRight.alike Move.windowRight fun {s a} h hx => by
    obtain ⟨hpos, hcfg⟩ := State.grantScan_pos (s.returnUnits a) a
    obtain ⟨c, hc⟩ : ∃ c, (s.axis a).config = some c := by
      refine Option.ne_none_iff_exists'.1 fun hn => ?_
      have := (hx.1 hn).1
      obtain h | h := h <;> simp [h] at this
    obtain ⟨hv, hp, -⟩ := hx.2 c hc
    refine .of_idle (c := c) (hcfg.trans hc) hv rfl ?_ rfl
    rw [show ((s.returnUnits a).grantScan.axis a).enterIdle.pos = (s.axis a).pos from hpos]
    exact hp (by tauto)
  simpa only [← State.windowLaw_iff] using this

/-! ### The velocity of a MOVING axis (R87) -/

/-- The velocity law of one axis. -/
abbrev Axis.VelocityRight (x : Axis) : Prop :=
  (x.config = none → x.Unconfigured) ∧ ∀ c, x.config = some c → (∀ i : Fin 4, (tget c.sets i).vs ≤ (tget c.sets i).vmax) ∧
    (x.state = .moving → ∃ m ∈ x.move, (tget c.sets m.speedSet).Holds x.vel)

theorem State.velocityLaw_iff (s : State) : s.VelocityLaw ↔ ∀ a, (s.axis a).VelocityRight := by
  refine forall_congr' fun a => ?_
  unfold Axis.VelocityRight
  cases (s.axis a).config <;> simp

theorem Axis.VelocityRight.alike {x y : Axis} (h : x.Alike y) (hx : x.VelocityRight) : y.VelocityRight := by
  obtain ⟨hnone, hsome⟩ := hx
  unfold Axis.VelocityRight Axis.Unconfigured
  rw [h.config, h.state, h.request, h.move]
  refine ⟨hnone, fun c hc => ⟨(hsome c hc).1, fun hm => ?_⟩⟩
  rw [h.vel hm]
  exact (hsome c hc).2 hm

theorem Axis.VelocityRight.of_not_moving {y : Axis} {c : AxisConfig} (hc : y.config = some c)
    (hv : ∀ i : Fin 4, (tget c.sets i).vs ≤ (tget c.sets i).vmax) (hs : y.state ≠ .moving) : y.VelocityRight := by
  refine ⟨fun h => by simp [hc] at h, fun d hd => ?_⟩
  obtain rfl : c = d := by simpa [hc] using hd
  exact ⟨hv, fun h => absurd h hs⟩

theorem Axis.VelocityRight.of_moving {y : Axis} {c : AxisConfig} {m : MoveRecord} (hc : y.config = some c)
    (hv : ∀ i : Fin 4, (tget c.sets i).vs ≤ (tget c.sets i).vmax) (hm : y.move = some m)
    (hvel : (tget c.sets m.speedSet).Holds y.vel) : y.VelocityRight := by
  refine ⟨fun h => by simp [hc] at h, fun d hd => ?_⟩
  obtain rfl : c = d := by simpa [hc] using hd
  exact ⟨hv, fun _ => ⟨m, hm, hvel⟩⟩

theorem Axis.speedSet_eq {x : Axis} {c : AxisConfig} (hc : x.config = some c) (i : Fin 4) : x.speedSet i = tget c.sets i := by
  simp [Axis.speedSet, hc]

theorem Axis.VelocityRight.enterMoving {x : Axis} {c : AxisConfig} (hc : x.config = some c)
    (hv : ∀ i : Fin 4, (tget c.sets i).vs ≤ (tget c.sets i).vmax) (t : Int) (i : Fin 4) : (x.enterMoving t i).VelocityRight := by
  refine .of_moving (m := { target := t, speedSet := i }) hc hv rfl ?_
  rw [show (x.enterMoving t i).vel = (x.speedSet i).vs from rfl, Axis.speedSet_eq hc]
  exact ⟨le_refl _, hv i⟩

theorem Axis.VelocityRight.started {x : Axis} {c : AxisConfig} (hc : x.config = some c)
    (hv : ∀ i : Fin 4, (tget c.sets i).vs ≤ (tget c.sets i).vmax) (h : x.request = none → x.VelocityRight) : x.started.VelocityRight := by
  unfold Axis.started
  split
  · split
    · exact .of_not_moving hc hv (by simp [Axis.enterIdle])
    · exact .enterMoving hc hv _ _
  · rw [hc]
    exact .of_not_moving hc hv (by simp [Axis.enterHoming])
  · next hreq => exact h hreq

/-- An update of the profile keeps the velocity within its speed set. -/
theorem profileVelocity_holds {v d : Nat} {sp : SpeedSet} (h : sp.Holds v) : sp.Holds (profileVelocity v d sp) := by
  obtain ⟨h1, h2⟩ := h
  unfold profileVelocity
  simp only [SpeedSet.Holds]
  split
  · omega
  · split <;> omega

theorem boundVelocity_holds (v : Nat) {sp : SpeedSet} (h : sp.vs ≤ sp.vmax) : sp.Holds (boundVelocity v sp) := by
  simp only [SpeedSet.Holds, boundVelocity]; omega

theorem Move.velocityRight {s : State} {a : AxisNo} {y : Axis} {p : Pool} (h : Move s a y p) (hx : (s.axis a).VelocityRight) :
    y.VelocityRight := by
  by_cases hnone : (s.axis a).config = none
  · obtain ⟨hoff, hreq⟩ := hx.1 hnone
    have hd : (s.axis a).state.drives = false := by rw [hoff]; rfl
    cases h with
    | configures h hc hp =>
      exact .of_not_moving (c := s.readAxis a) rfl (State.axisRecord_passes h).2.1 (by simp [Axis.configured, hoff])
    | isGranted => simpa only [Axis.started, hreq] using hx
    | joins r h hr => obtain h | h := hr.state <;> simp [h] at hoff
    | starts r h hr => obtain h | h := hr.state <;> simp [h] at hoff
    | quickStops h => simp [h] at hd
    | faults _ h => simp [h] at hd
    | resyncs h => simp [hoff, AxisState.disturbable] at h
    | isDisplaced h => simp [hoff, AxisState.disturbable] at h
    | slows _ h | pends _ h | replaces _ _ h | retargets _ _ h | advances _ h | brakes _ _ h | restarts _ _ h | losesHome h
      | recovers h | arrives _ h | leaves h | leavesUnhomed h => simp [h] at hoff
  · obtain ⟨c, hc⟩ := Option.ne_none_iff_exists'.1 hnone
    obtain ⟨hv, hmov⟩ := hx.2 c hc
    cases h with
    | retargets t i h ha =>
      refine .of_moving (m := { target := (s.axis a).clamp t, speedSet := i }) hc hv rfl ?_
      rw [Axis.speedSet_eq hc]
      exact boundVelocity_holds _ (hv i)
    | advances m h hm =>
      obtain ⟨m', hm', hvel⟩ := hmov h
      obtain rfl : m = m' := by simpa [hm] using hm'
      refine .of_moving (m := m) hc hv hm ?_
      rw [show (((s.axis a).stepped ((s.axis a).profile m)).movedTo _).vel = profileVelocity (s.axis a).vel
        (m.target - (s.axis a).pos).natAbs ((s.axis a).speedSet m.speedSet) from rfl, Axis.speedSet_eq hc]
      exact profileVelocity_holds hvel
    | restarts t i h hr => exact .enterMoving hc hv t i
    | starts r h hr => exact .started (x := { s.axis a with request := some r }) hc hv (by simp)
    | isGranted => exact .started hc hv fun _ => hx
    | configures h hs hp =>
      refine .of_not_moving (c := s.readAxis a) rfl (State.axisRecord_passes h).2.1 ?_
      revert hs
      cases hst : (s.axis a).state <;> simp [AxisState.takesConfigure, Axis.configured, hst]
    | quickStops h =>
      obtain ⟨-, he⟩ | ⟨hs, hw, he⟩ | ⟨-, -, he⟩ := (s.axis a).afterQuickStop_cases <;> rw [he] <;>
        exact .of_not_moving hc hv (by simp [Axis.enterUnhomed, Axis.enterFaulted, Axis.movedTo])
    | pends r h => exact .of_not_moving hc hv (by simp [h])
    | replaces t i h => exact .of_not_moving hc hv (by simp [h])
    | brakes accel bound h => exact .of_not_moving hc hv (by simp [h, Axis.stepped, Axis.movedTo])
    | resyncs h =>
      refine .of_not_moving hc hv ?_
      revert h; cases hst : (s.axis a).state <;> simp [AxisState.disturbable, Axis.movedTo, hst]
    | slows | losesHome | recovers | faults | arrives | leaves | leavesUnhomed | isDisplaced | joins =>
      exact .of_not_moving hc hv
        (by simp [Axis.enterStopping, Axis.enterUnhomed, Axis.enterFaulted, Axis.arrived, Axis.movedTo])

theorem velocityLaw_kept : AxisLaw State.VelocityLaw := by
  have := AxisLaw.of_pointwise (P := Axis.VelocityRight) Axis.VelocityRight.alike Move.velocityRight fun {s a} h hx => by
    obtain ⟨-, hcfg⟩ := State.grantScan_pos (s.returnUnits a) a
    obtain ⟨c, hc⟩ : ∃ c, (s.axis a).config = some c := by
      refine Option.ne_none_iff_exists'.1 fun hn => ?_
      have := (hx.1 hn).1
      obtain h | h := h <;> simp [h] at this
    exact .of_not_moving (c := c) (hcfg.trans hc) (hx.2 c hc).1 (by simp [Axis.enterIdle])
  simpa only [← State.velocityLaw_iff] using this

end Sys2Proof.Machine
end

section
/-! The show sequencer and the reports in acts: what a command's consequences are made of. -/

namespace Sys2Proof.Machine

/-! ### Reading after a write -/

theorem State.slot_putSlot (s : State) (e : ExhibitNo) (x : Slot) : (s.putSlot e x).slot e = x := by
  rw [State.putSlot_form]; exact tget_tset_same _ _ _

theorem State.exhibit_putExhibit (s : State) (e : ExhibitNo) (x : Exhibit) : (s.putExhibit e x).exhibit e = x := by
  rw [State.putExhibit_form]; exact tget_tset_same _ _ _

theorem State.slot_putExhibit (s : State) (e f : ExhibitNo) (x : Exhibit) : (s.putExhibit e x).slot f = s.slot f := by
  rw [State.putExhibit_form]; rfl

theorem State.exhibit_putSlot (s : State) (e f : ExhibitNo) (x : Slot) : (s.putSlot e x).exhibit f = s.exhibit f := by
  rw [State.putSlot_form]; rfl

theorem State.slot_enterState (s : State) (e f : ExhibitNo) (st : ExhibitState) : (s.enterState e st).slot f = s.slot f := by
  rw [State.enterState_form]; rfl

theorem State.exhibit_enterState (s : State) (e : ExhibitNo) (st : ExhibitState) :
    (s.enterState e st).exhibit e = (s.exhibit e).entering st := by
  rw [State.enterState_form]; exact tget_tset_same _ _ _

/-! ### Small acts -/

theorem Quiet.acts {s t u : State} (h : Quiet s t) (k : Acts t u) : Acts s u := .trans (.quiet h) k

theorem Acts.then {s t u : State} (h : Acts s t) (k : Quiet t u) : Acts s u := .trans h (.quiet k)

theorem Acts.foldl {α : Type} {f : State → α → State} (hf : ∀ s a, Acts s (f s a)) (l : List α) (s : State) :
    Acts s (l.foldl f s) := foldl_invariant (Acts s) f (fun t a h => h.trans (hf t a)) l s (refl s)

/-- An exhibit entry changes in nothing the laws speak of. -/
theorem State.putExhibit_aside (s : State) (e : ExhibitNo) (x : Exhibit) (hs : x.state = (s.exhibit e).state := by rfl)
    (hc : x.config = (s.exhibit e).config := by rfl) (he : x.encore = (s.exhibit e).encore := by rfl) : Quiet s (s.putExhibit e x) :=
  State.putExhibit_quiet s e x ⟨hs, hc, fun h => .inl (he ▸ h)⟩

theorem State.putSlot_aside (s : State) (e : ExhibitNo) (x : Slot) (h : x.current = (s.slot e).current := by rfl) :
    Quiet s (s.putSlot e x) := State.putSlot_quiet s e x (by rw [h])

theorem State.clearingEvent_quiet (s : State) (src : SourceNo) (cause : AlertCause) : Quiet s (s.clearingEvent src cause) :=
  State.removeAlerts_quiet _ _

theorem State.setGuardLine_quiet (s : State) (g : GuardNo) (f : InputFilter) : Quiet s (s.setGuardLine g f) := .aside .of_tables

/-- A button changes in its lockout. -/
theorem State.setLockout_quiet (s : State) (b : ButtonNo) (l : Option Nat) : Quiet s (s.setButton b { s.button b with lockout := l }) := by
  refine .alike .of_tables .of_ram ⟨rfl, fun _ _ _ => rfl, fun c => ?_⟩
  rw [show (s.setButton b { s.button b with lockout := l }).button c = if b = c then { s.button b with lockout := l } else s.button c
    from tget_tset _ _ _ _]
  split
  · next h => subst h; rfl
  · rfl

theorem State.setSource_quiet (s : State) (e : ExhibitNo) (r : SourceRecord) : Quiet s (s.setSource e r) := .aside .of_tables

theorem State.takeRequest_quiet (s : State) (a : AxisNo) (r : Request) (h : s.MayMove) : Quiet s (s.takeRequest a r) := by
  unfold State.takeRequest
  split
  · split
    · exact State.takeMove_quiet _ _ _ _ h
    · exact .refl s
  · exact State.takeHome_quiet _ _ h

theorem State.resumeAxis_quiet (s : State) (a : AxisNo) (h : s.MayMove) : Quiet s (s.resumeAxis a) := by
  unfold State.resumeAxis
  split
  · exact State.takeRequest_quiet _ _ _ h
  · exact .refl s

/-- A slot keeps its step; only its status, its counts, its wait or its first fault change. -/
theorem State.beginWait_quiet (s : State) (e : ExhibitNo) (w : Wait) : Quiet s (s.beginWait e w) := State.putSlot_aside _ _ _

/-! ### Ends of shows -/

/-- An exhibit enters FAULTED. -/
theorem State.enterFaultedExhibit_acts (s : State) (e : ExhibitNo) (hs : (s.exhibit e).state.runsShow = false)
    (hoff : (s.exhibit e).state ≠ .off) : Acts s (s.enterFaultedExhibit e) := by
  have q := State.discardResume_quiet s e
  refine q.acts (.then (.enters e .faulted (by simp) (by simp) (.inl ?_)) (State.markCondition_quiet _ _ _))
  rw [q.keepsShows.state, hs]
  exact ⟨rfl, hoff⟩

/-- A fault ends a show. -/
theorem State.showFault_acts (s : State) (e : ExhibitNo) (code : ShowFault) (address : Nat) (h : s.HasShow e) :
    Acts s (s.showFault e code address) := by
  have q := State.recordFirst_quiet s e code address
  have hq : (s.recordFirst e code address).HasShow e := by
    unfold State.HasShow
    rw [q.keepsShows.state, q.keepsShows.slot]
    exact h
  have hends : Acts s ((((s.recordFirst e code address).endShow e).haltAxes e).enterFaultedExhibit e) :=
    q.acts (.then (.ends e .faulted hq rfl (by simp) (by simp)
      ((State.haltAxes_quiet _ e).trans (State.discardResume_quiet _ e))) (State.markCondition_quiet _ _ _))
  unfold State.showFault
  simp only
  split
  · exact hends.then (State.raise_quiet _ _ _ _ _)
  · exact hends

theorem State.Runs.hasShow {s : State} {e : ExhibitNo} (h : s.Runs e) : s.HasShow e :=
  h.imp (fun hs hoff => by simp [hoff, ExhibitState.runsShow] at hs) id

theorem State.Runs.of_quiet {s t : State} {e : ExhibitNo} (h : s.Runs e) (q : Quiet s t) : t.Runs e := by
  unfold State.Runs
  rw [q.keepsShows.state, q.keepsShows.slot]
  exact h

/-- The slot is held. -/
theorem State.hold_acts (s : State) (e : ExhibitNo) (h : s.Runs e) : Acts s (s.hold e) := by
  have q := State.putSlot_quiet s e { s.slot e with status := some .held, runaway := 0 } rfl
  refine q.acts (.then (.enters e .suspended (by simp) (by simp) ?_) (State.markCondition_quiet _ _ _))
  obtain hs | hc := h.of_quiet q
  · exact .inl ⟨hs.symm, fun hoff => by simp [hoff, ExhibitState.runsShow] at hs⟩
  · exact .inr ⟨rfl, hc⟩

/-! ### Steps -/

/-- The state a step result carries. -/
def StepResult.Holds (P : State → Prop) : StepResult → Prop
  | .once t _ => P t
  | .waits t _ => P t
  | .ends => True
  | .faults _ => True

theorem State.executeMove_quiet (s : State) (w : StepWords) (a : AxisNo) (next : Nat) (h : s.MayMove) :
    (s.executeMove w a next).Holds (Quiet s) := by
  unfold State.executeMove
  simp only
  split
  · trivial
  · generalize (if w.relative = true then (s.axis a).pos + w.target else w.target) = t
    split
    · exact State.takeMove_quiet _ _ _ _ h
    · exact State.takeMove_quiet _ _ _ _ h

theorem State.executeHome_quiet (s : State) (w : StepWords) (a : AxisNo) (next : Nat) (h : s.MayMove) :
    (s.executeHome w a next).Holds (Quiet s) := by
  unfold State.executeHome
  split
  · trivial
  · split
    · exact State.takeHome_quiet _ _ h
    · exact State.takeHome_quiet _ _ h

theorem State.executeWaitAxis_quiet (s : State) (a : AxisNo) (next : Nat) : (s.executeWaitAxis a next).Holds (Quiet s) := by
  unfold State.executeWaitAxis
  split <;> exact .refl s

/-- A step that passed its checks changes an axis, a lamp, the slot's loop, a condition or the alert list. -/
theorem State.execute_quiet (s : State) (e : ExhibitNo) (address : Nat) (w : StepWords) (h : s.Runs e) :
    (s.execute e address w).Holds (Quiet s) := by
  have hmove : s.MayMove := .inr ⟨e, h⟩
  unfold State.execute
  simp only
  split
  case h_1 => trivial
  case h_2 =>
    split
    · exact State.executeMove_quiet _ _ _ _ hmove
    · trivial
  case h_3 =>
    split
    · exact State.executeHome_quiet _ _ _ _ hmove
    · trivial
  case h_4 =>
    split
    · exact State.executeWaitAxis_quiet _ _ _
    · trivial
  case h_5 =>
    split
    · exact .refl s
    · trivial
  case h_6 => exact .refl s
  case h_7 => exact .refl s
  case h_8 =>
    split
    · exact State.setLayer_quiet _ _ _ _ (by simp) fun _ => ⟨e, h.hasShow⟩
    · trivial
  case h_9 => exact State.putSlot_aside _ _ _
  case h_10 => exact State.putSlot_aside _ _ _
  case h_11 => exact .refl s
  case h_12 => exact State.markCondition_quiet _ _ _
  case h_13 => exact State.raise_quiet _ _ _ _ _

/-- The act goes from `s` to the state the result carries, and a show that goes on has a step. -/
def ActResult.Follows (s : State) (e : ExhibitNo) : ActResult → Prop
  | .finished t => Acts s t
  | .goesOn t => Acts s t ∧ (t.slot e).current.isSome = true

theorem State.normalEnd_follows (s : State) (e : ExhibitNo) (h : s.Runs e) : (s.normalEnd e).Follows s e := by
  unfold State.normalEnd
  simp only
  have hlike : ((s.endShow e).exhibit e).Alike
      { (s.endShow e).exhibit e with completed := satAdd 65535 ((s.endShow e).exhibit e).completed 1 } := ⟨rfl, rfl, .inl⟩
  revert hlike
  generalize { (s.endShow e).exhibit e with completed := satAdd 65535 ((s.endShow e).exhibit e).completed 1 } = x
  intro hlike
  have hput : (((s.endShow e).putExhibit e x).markCondition e .ended).exhibit e = x := State.exhibit_putExhibit _ _ _
  have q : Quiet (s.endShow e) (((s.endShow e).putExhibit e x).markCondition e .ended) :=
    (State.putExhibit_quiet _ _ _ hlike).trans (State.markCondition_quiet _ _ _)
  revert hput q
  generalize ((s.endShow e).putExhibit e x).markCondition e .ended = u
  intro hput q
  have hready : Acts s (u.enterState e .ready) := .ends e .ready h.hasShow rfl (by simp) (by simp) q
  have hencore : ∀ (y : Exhibit) (address : Nat), (u.exhibit e).Alike y →
      Acts s ((u.putExhibit e y).putSlot e ((u.slot e).started address)) := fun y address hy => by
    have hrun := Acts.repeats e address h (q.trans (State.putExhibit_quiet u e y hy))
    rwa [State.slot_putExhibit] at hrun
  split
  · exact hready
  · split
    · exact .then (.ends e .resting h.hasShow rfl (by simp) (by simp) q) (State.putExhibit_aside _ _ _)
    · split
      · refine ⟨hencore _ _ ⟨?_, ?_, fun h => by simp at h⟩, by rw [State.slot_putSlot]; rfl⟩
        · rw [hput, hlike.state]
        · rw [hput, hlike.config]
      · exact hready

theorem State.goOn_acts (s : State) (e : ExhibitNo) (x : Slot) (h : s.Runs e) (hx : x.current.isSome = true) : Acts s (s.putSlot e x) := by
  obtain hs | hc := h
  · exact .occupies e x hs hx
  · exact .quiet (State.putSlot_quiet s e x (by rw [hx, hc]))

theorem State.actStep_follows (s : State) (e : ExhibitNo) (h : s.Runs e) : (s.actStep e).Follows s e := by
  unfold State.actStep
  simp only
  split
  · exact State.showFault_acts _ _ _ _ h.hasShow
  · next w _ =>
    split
    · exact State.hold_acts _ _ h
    · have hq := State.execute_quiet s e ((s.slot e).current.getD 0) w h
      split
      · exact State.showFault_acts _ _ _ _ h.hasShow
      · next t wait heq =>
        rw [heq] at hq
        exact .quiet (hq.trans (State.beginWait_quiet _ _ _))
      · split
        · exact State.showFault_acts _ _ _ _ h.hasShow
        · exact State.normalEnd_follows _ _ h
      · next t next heq =>
        rw [heq] at hq
        have ht : t.Runs e := h.of_quiet hq
        split
        · exact hq.acts (State.showFault_acts _ _ _ _ ht.hasShow)
        · exact ⟨hq.acts (State.goOn_acts _ _ _ ht rfl), by rw [State.slot_putSlot]; rfl⟩

theorem runSteps_acts (e : ExhibitNo) (n : Nat) (s : State) (h : s.Runs e) : Acts s (runSteps e n s) := by
  induction n generalizing s with
  | zero => exact .refl s
  | succ n ih =>
    have hstep := s.actStep_follows e h
    unfold runSteps
    split
    · next t heq =>
      rw [heq] at hstep
      exact hstep
    · next t heq =>
      rw [heq] at hstep
      exact hstep.1.trans (ih t (.inr hstep.2))

theorem State.runAct_acts (s : State) (e : ExhibitNo) (h : s.Runs e) : Acts s (s.runAct e) := runSteps_acts _ _ _ h

theorem State.startShow_acts (s : State) (e : ExhibitNo) (address : Nat) (h : (s.exhibit e).state.startable = true)
    (hstop : s.stopInForce = false) : Acts s (s.startShow e address) := by
  refine .trans (.starts e address h hstop) (State.runAct_acts _ _ (.inr ?_))
  rw [State.slot_enterState, State.slot_putSlot]
  rfl

theorem State.startDefault_acts (s : State) (e : ExhibitNo) (h : (s.exhibit e).state.startable = true)
    (hstop : s.stopInForce = false) : Acts s (s.startDefault e) := by
  unfold State.startDefault
  split
  · exact State.startShow_acts _ _ _ h hstop
  · exact .refl s

theorem State.goOnAt_acts (s : State) (e : ExhibitNo) (address : Nat) (h : (s.slot e).current.isSome = true) :
    Acts s (s.goOnAt e address) := by
  refine (State.putSlot_quiet s e _ (by simp [h])).acts (State.runAct_acts _ _ (.inr ?_))
  rw [State.slot_putSlot]
  rfl

theorem State.completeWait_acts (s : State) (e : ExhibitNo) : Acts s (s.completeWait e) := by
  unfold State.completeWait
  split
  · next _ hc => exact State.goOnAt_acts _ _ _ (by rw [hc]; rfl)
  · exact .refl s

theorem State.skipSuccessor_acts (s : State) (e : ExhibitNo) : Acts s (s.skipSuccessor e) := by
  unfold State.skipSuccessor
  split
  · next _ hc =>
    have h : (s.slot e).current.isSome = true := by rw [hc]; rfl
    simp only
    split
    · exact State.showFault_acts _ _ _ _ (.inr h)
    · exact State.goOnAt_acts _ _ _ h
  · exact .refl s

/-! ### Reports -/

theorem State.haltComplete_acts (s : State) (e : ExhibitNo) : Acts s (s.haltComplete e) := by
  unfold State.haltComplete
  split
  · next h => exact .then (.enters e .ready (by simp) (by simp) (.inl (by rw [h.1]; exact ⟨rfl, by simp⟩))) (State.markCondition_quiet _ _ _)
  · exact .refl s

theorem State.exhibitAxisFault_acts (s : State) (e : ExhibitNo) (cause : FaultCause) : Acts s (s.exhibitAxisFault e cause) := by
  have q := State.recordFirst_quiet s e cause.showFault 0xFFFF
  unfold State.exhibitAxisFault
  split
  case h_1 h | h_2 h | h_3 h => exact State.showFault_acts _ _ _ _ (.inl (by simp [h]))
  case h_4 h | h_5 h | h_6 h =>
    exact q.acts (State.enterFaultedExhibit_acts _ _ (by rw [q.keepsShows.state, h]; rfl) (by rw [q.keepsShows.state, h]; simp))
  case h_7 => exact .quiet q
  case h_8 | h_9 => exact .refl s

theorem State.takeAxisFault_acts (s : State) (a : AxisNo) (cause : FaultCause) : Acts s (s.takeAxisFault a cause) := by
  unfold State.takeAxisFault
  simp only
  refine .then ?_ ((State.raise_quiet _ _ _ _ _).trans (State.grantScan_quiet _))
  split
  · exact State.exhibitAxisFault_acts _ _ _
  · exact .quiet (.aside .of_tables)

theorem State.deliver_acts (s : State) (r : Report) : Acts s (s.deliver r) := by
  unfold State.deliver
  split
  · split
    · split
      · exact State.completeWait_acts _ _
      · exact .refl s
    · exact .refl s
  · split
    · split
      · exact State.completeWait_acts _ _
      · exact .refl s
    · exact .refl s
  · split
    · split
      · exact State.completeWait_acts _ _
      · exact State.haltComplete_acts _ _
    · exact .refl s
  · exact State.takeAxisFault_acts _ _ _

theorem settleUpTo_acts (n : Nat) (s : State) : Acts s (settleUpTo n s) := by
  induction n generalizing s with
  | zero => exact .refl s
  | succ n ih =>
    unfold settleUpTo
    split
    · exact .refl s
    · next r rest _ =>
      have q : Quiet s { s with reports := rest } := .aside .of_tables
      exact (q.acts (State.deliver_acts _ r)).trans (ih _)

theorem State.settle_acts (s : State) : Acts s s.settle := settleUpTo_acts _ s

theorem Acts.settled {s t : State} (h : Acts s t) : Acts s t.settle := h.trans t.settle_acts

theorem Steps.then {s t u : State} (h : Steps s t) (k : Acts t u) : Steps s u := h.trans (.acts k)

theorem Steps.settled {s t : State} (h : Steps s t) : Steps s t.settle := h.then t.settle_acts

/-! ### Guards -/

theorem State.enterGuarded_acts (s : State) (e : ExhibitNo) (h : (s.exhibit e).state.runsShow = true) : Acts s (s.enterGuarded e) := by
  unfold State.enterGuarded
  simp only
  refine .then (.enters e .guarded (by simp) (by simp) (.inl ⟨h.symm, fun hoff => by simp [hoff, ExhibitState.runsShow] at h⟩))
    ((State.putExhibit_aside _ _ _).trans (State.putSlot_aside _ _ _ (by rw [State.slot_putExhibit])))

theorem State.beginEpisode_quiet (s : State) (e : ExhibitNo) : Quiet s (s.beginEpisode e) := by
  unfold State.beginEpisode
  exact (State.putExhibit_aside s e _).trans (State.markCondition_quiet _ _ _)

theorem State.freeze_acts (s : State) (e : ExhibitNo) (h : (s.exhibit e).state.runsShow = true) : Acts s (s.freeze e) := by
  unfold State.freeze
  simp only
  have q := (State.enterGuarded_acts s e h).then
    ((Quiet.foldl State.freezeAxis_quiet ((s.enterGuarded e).boundAxes e) _).trans (State.grantScan_quiet _))
  split
  · exact q
  · exact q.then (State.beginEpisode_quiet _ _)

theorem State.openingAtHalt_acts (s : State) (e : ExhibitNo) (h : (s.exhibit e).state = .halting) : Acts s (s.openingAtHalt e) := by
  unfold State.openingAtHalt
  simp only
  have q := (Quiet.foldl State.stopStopping_quiet (s.boundAxes e) s).trans (State.grantScan_quiet _)
  split
  · exact .quiet q
  · refine q.acts (.then (.enters e .ready (by simp) (by simp) (.inl ?_)) (State.markCondition_quiet _ _ _))
    rw [q.keepsShows.state, h]
    exact ⟨rfl, by simp⟩

theorem State.exhibitOpening_acts (s : State) (e : ExhibitNo) : Acts s (s.exhibitOpening e) := by
  have q : Quiet s ((s.putExhibit e { s.exhibit e with guardOpen := true, settle := none }).evalReady e) :=
    (State.putExhibit_aside s e _).trans (State.evalReady_quiet _ _)
  unfold State.exhibitOpening
  simp only
  split
  case h_1 h | h_2 h => exact q.acts (State.freeze_acts _ _ (by rw [q.keepsShows.state, h]; rfl))
  case h_3 h => exact q.acts (State.openingAtHalt_acts _ _ (by rw [q.keepsShows.state, h]))
  all_goals exact .quiet q

theorem State.guardOpening_acts (s : State) (g : GuardNo) : Acts s (s.guardOpening g) := by
  unfold State.guardOpening
  split
  · exact .refl s
  · refine (State.setGuardLine_quiet s g _).acts (.forEach (fun e t => ?_) _)
    split
    · exact (State.exhibitOpening_acts t e).settled
    · exact .refl t

theorem State.exhibitClosing_quiet (s : State) (e : ExhibitNo) : Quiet s (s.exhibitClosing e) := by
  unfold State.exhibitClosing
  simp only
  split
  · exact State.putExhibit_aside _ _ _
  · exact .refl s

theorem State.guardClosing_quiet (s : State) (g : GuardNo) : Quiet s (s.guardClosing g) := by
  unfold State.guardClosing
  split
  · refine (State.setGuardLine_quiet s g _).trans (.forEach (fun e t => ?_) _)
    split
    · exact State.exhibitClosing_quiet _ _
    · exact .refl t
  · exact .refl s

theorem State.thawWait_acts (s : State) (e : ExhibitNo) : Acts s (s.thawWait e) := by
  unfold State.thawWait
  split
  · split
    · exact .refl s
    · exact State.completeWait_acts _ _
  · exact .refl s

theorem State.thaw_acts (s : State) (e : ExhibitNo) (complete : List AxisNo) (h : (s.exhibit e).state = .guarded) :
    Acts s (s.thaw e complete) := by
  have q := State.discardResume_quiet s e
  unfold State.thaw
  simp only
  refine q.acts (.trans (.enters e _ ?_ ?_ (.inl ?_)) (.trans (.quiet ((State.putSlot_aside _ _ _).trans
    (.foldl (fun t a => State.reportDone_quiet t a .move) complete _))) (State.thawWait_acts _ _)))
  · cases ((s.discardResume e).exhibit e).returnState.getD .running <;> simp [ReturnState.state]
  · cases ((s.discardResume e).exhibit e).returnState.getD .running <;> simp [ReturnState.state]
  · rw [q.keepsShows.state, h]
    refine ⟨?_, by simp⟩
    cases ((s.discardResume e).exhibit e).returnState.getD .running <;> rfl

/-- The requests of a resumption, while the exhibit is GUARDED. -/
theorem Resuming.foldl_quiet (e : ExhibitNo) (l : List AxisNo) (r : Resuming) (h : (r.state.exhibit e).state = .guarded) :
    Quiet r.state (l.foldl Resuming.axis r).state := by
  induction l generalizing r with
  | nil => exact .refl _
  | cons a l ih =>
    have q : Quiet r.state (r.axis a).state := State.resumeAxis_quiet r.state a (.inr ⟨e, .inl (by rw [h]; rfl)⟩)
    exact q.trans (ih (r.axis a) ((q.keepsShows.state e).trans h))

theorem State.resumption_acts (s : State) (e : ExhibitNo) (h : (s.exhibit e).state = .guarded) : Acts s (s.resumption e) := by
  unfold State.resumption
  simp only
  have q := (Resuming.foldl_quiet e (s.boundAxes e) { state := s, complete := [] } h).acts (State.settle_acts _)
  split
  · next hg => exact q.trans (State.thaw_acts _ _ _ hg)
  · exact q

theorem State.settleExpiry_acts (s : State) (e : ExhibitNo) : Acts s (s.settleExpiry e) := by
  unfold State.settleExpiry
  simp only
  split
  · exact .refl s
  · have q : Quiet s ((((s.putExhibit e { s.exhibit e with settle := none, guardOpen := false }).evalReady e)).clearingEvent
        (exhibitSource e) .guardHeld) :=
      ((State.putExhibit_aside s e _).trans (State.evalReady_quiet _ _)).trans
        (State.clearingEvent_quiet _ _ _)
    split
    · next h => exact q.acts (State.resumption_acts _ _ (by rw [q.keepsShows.state, h]))
    · exact .quiet q

theorem State.guardAlertExpiry_quiet (s : State) (e : ExhibitNo) : Quiet s (s.guardAlertExpiry e) := by
  unfold State.guardAlertExpiry
  simp only
  split
  · exact .refl s
  · exact (State.putExhibit_aside s e _).trans (State.raise_quiet _ _ _ _ _)

end Sys2Proof.Machine
end

section
/-! The gallery stop, the buttons and the part's clock in acts. -/

namespace Sys2Proof.Machine

/-! ### The gallery stop -/

/-- What each pass establishes for its own number and keeps for the others holds of all at the end. -/
theorem forEach_establishes {σ : Type} {n : Nat} {f : Fin n → σ → σ} (P : Fin n → σ → Prop) (own : ∀ i s, P i (f i s))
    (keep : ∀ i j s, P i s → P i (f j s)) (s : σ) (i : Fin n) : P i (forEach n f s) := by
  have hmem : ∀ (l : List (Fin n)) (t : σ), (P i t ∨ i ∈ l) → P i (l.foldl (fun u j => f j u) t) := by
    intro l
    induction l with
    | nil => simp
    | cons j l ih =>
      intro t ht
      refine ih _ ?_
      obtain ht | ht := ht
      · exact .inl (keep i j t ht)
      · obtain rfl | ht := List.mem_cons.1 ht
        · exact .inl (own i t)
        · exact .inr ht
  exact hmem _ s (.inr (List.mem_finRange i))

theorem State.exhibit_enterState_ite (s : State) (e f : ExhibitNo) (st : ExhibitState) :
    (s.enterState e st).exhibit f = if e = f then (s.exhibit e).entering st else s.exhibit f := by
  rw [State.enterState_form]; exact tget_tset _ _ _ _

theorem State.exhibit_endShow (s : State) (e f : ExhibitNo) : (s.endShow e).exhibit f = s.exhibit f := by
  rw [State.endShow_form]; rfl

theorem State.stopExhibit_state (s : State) (e f : ExhibitNo) :
    ((s.stopExhibit e).exhibit f).state =
      if e = f ∧ (s.exhibit e).state.stopEnds = true then .ready else (s.exhibit f).state := by
  have hq := (State.discardResume_quiet (s.endShow e) e).keepsShows
  unfold State.stopExhibit
  split
  · next h =>
    rw [show ∀ (u : State) (c : Condition), (u.markCondition e c).exhibit f = u.exhibit f from fun _ _ => rfl,
      State.exhibit_enterState_ite]
    split
    · next hef => rw [if_pos ⟨hef, h⟩]; rfl
    · next hef => rw [if_neg fun hc => hef hc.1, hq.state, State.exhibit_endShow]
  · next h => rw [if_neg fun hc => h hc.2]

theorem State.stopExhibit_acts (s : State) (e : ExhibitNo) : Acts s (s.stopExhibit e) := by
  unfold State.stopExhibit
  split
  · next h =>
    exact .then (.ends e .ready (.inl fun hoff => by simp [hoff, ExhibitState.stopEnds] at h) rfl (by simp) (by simp)
      (State.discardResume_quiet _ _)) (State.markCondition_quiet _ _ _)
  · exact .refl s

theorem State.dropEncore_quiet (s : State) (e : ExhibitNo) : Quiet s (s.dropEncore e) :=
  State.putExhibit_quiet s e _ ⟨rfl, rfl, fun h => by simp at h⟩

/-- An axis stopped where it is stands still, and no other axis changes. -/
theorem State.stopInPlace_axis (s : State) (a : AxisNo) :
    ((s.stopInPlace a).axis a).state.busy = false ∧ ∀ b, b ≠ a → (s.stopInPlace a).axis b = s.axis b := by
  have hstop : (s.axis a).state.drives = true →
      ((s.quickStop a).axis a).state.busy = false ∧ ∀ b, b ≠ a → (s.quickStop a).axis b = s.axis b := fun hd => by
    have hsets : Sets s (s.quickStopSilently a) a ((s.axis a).afterQuickStop.movedTo (s.axis a).encoder) (s.pool.returned a) := by
      unfold State.quickStopSilently
      rw [if_pos hd]
      exact (State.setPool_sets s a _).after (State.putAxisAt_sets _ _ _ _ _)
    have haxis : ∀ b, (s.quickStop a).axis b = (s.quickStopSilently a).axis b := fun b => by
      unfold State.quickStop
      simp only
      split <;> rfl
    refine ⟨?_, fun b hb => by rw [haxis, hsets.other hb]⟩
    obtain ⟨stale, hx⟩ := hsets.same
    rw [haxis, hx]
    obtain ⟨-, he⟩ | ⟨-, -, he⟩ | ⟨-, -, he⟩ := (s.axis a).afterQuickStop_cases <;> rw [he] <;> rfl
  have hleave : ((s.leaveAwait a).axis a).state.busy = false ∧ ∀ b, b ≠ a → (s.leaveAwait a).axis b = s.axis b := by
    unfold State.leaveAwait
    simp only
    split
    · have hsets := (State.setPool_sets s a (s.pool.left a)).after
        (State.putAxis_sets (s.leaveList a) a { s.axis a with state := .idle, request := none } false)
      obtain ⟨stale, hx⟩ := hsets.same
      exact ⟨by rw [hx]; rfl, fun b hb => hsets.other hb⟩
    · have hsets := (State.setPool_sets s a (s.pool.left a)).after
        (State.putAxisAt_sets (s.leaveList a) a (s.axis a).enterUnhomed (s.axis a).encoder false)
      obtain ⟨stale, hx⟩ := hsets.same
      exact ⟨by rw [hx]; rfl, fun b hb => hsets.other hb⟩
  unfold State.stopInPlace
  split
  case h_1 h | h_2 h | h_3 h => exact hstop (by rw [h]; rfl)
  case h_4 => exact hleave
  case h_5 h | h_6 h | h_7 h | h_8 h => exact ⟨by rw [h]; rfl, fun _ _ => rfl⟩

theorem ExhibitState.stopEnds_eq_false {st : ExhibitState} (h : st.stopEnds = false) :
    st ≠ .running ∧ st ≠ .suspended ∧ st ≠ .guarded ∧ st ≠ .halting := by
  revert h; cases st <;> simp [ExhibitState.stopEnds]

/-- The states of the exhibits once the gallery stop has ended the shows and halts. -/
theorem State.stopShows_state (s : State) (e : ExhibitNo) :
    ((forEach 48 (fun e u => State.stopExhibit u e) s).exhibit e).state.stopEnds = false := by
  refine forEach_establishes (fun e (t : State) => (t.exhibit e).state.stopEnds = false) (fun e t => ?_) (fun e f t h => ?_) s e
  · rw [State.stopExhibit_state]
    by_cases h : (t.exhibit e).state.stopEnds = true
    · rw [if_pos ⟨rfl, h⟩]; rfl
    · rw [if_neg fun hc => h hc.2]; simpa using h
  · rw [State.stopExhibit_state]
    split
    · rfl
    · exact h

/-- Before the scan at the end of the stop: what its acts leave. -/
def State.stopped (s : State) : State :=
  forEach 16 (fun a v => State.stopInPlace v a)
    (forEach 48 (fun e v => State.dropEncore v e) (forEach 48 (fun e u => State.stopExhibit u e) (s.setStop true)))

theorem State.stopAll_eq (s : State) : s.stopAll = s.stopped.grantScan := rfl

theorem State.stopped_acts (s : State) : Acts (s.setStop true) s.stopped :=
  (Acts.forEach (fun e t => State.stopExhibit_acts t e) _).then
    ((Quiet.forEach (fun e t => State.dropEncore_quiet t e) _).trans (.forEach (fun a t => State.stopInPlace_quiet t a) _))

theorem State.stopped_axis (s : State) (a : AxisNo) : (s.stopped.axis a).state.busy = false := by
  refine forEach_establishes (fun a (t : State) => (t.axis a).state.busy = false) (fun a t => (t.stopInPlace_axis a).1)
    (fun a b t h => ?_) _ a
  by_cases hab : a = b
  · subst hab; exact (t.stopInPlace_axis a).1
  · rw [(t.stopInPlace_axis b).2 a hab]; exact h

theorem State.stopped_exhibit (s : State) (e : ExhibitNo) : (s.stopped.exhibit e).state.stopEnds = false := by
  have q : Quiet (forEach 48 (fun e u => State.stopExhibit u e) (s.setStop true)) s.stopped :=
    (Quiet.forEach (fun e t => State.dropEncore_quiet t e) _).trans (.forEach (fun a t => State.stopInPlace_quiet t a) _)
  rw [q.keepsShows.state]
  exact State.stopShows_state _ e

/-- Nothing waits once every axis stands, so the scan grants nothing. -/
theorem State.stopAll_atRest (s : State) (h : s.WaitLaw) : s.stopAll.AtRest := by
  have hwait : s.stopped.WaitLaw :=
    waitLaw_kept.acts s.stopped_acts (waitLaw_kept.of_tables (s := s) (t := s.setStop true) rfl rfl h)
  have hnone : s.stopped.pool.waiting = [] := by
    rw [List.eq_nil_iff_forall_not_mem]
    intro w hw
    have hstate := hwait.1 w hw
    have := s.stopped_axis w.axis
    simp [hstate, AxisState.busy] at this
  rw [State.stopAll_eq, State.grantScan_nil _ hnone]
  exact ⟨s.stopped_axis, hnone, fun e => ExhibitState.stopEnds_eq_false (s.stopped_exhibit e)⟩

theorem State.stopAll_acts (s : State) : Acts s s.stopAll :=
  .stops (s.stopped_acts.then (State.grantScan_quiet _)) s.stopAll_atRest

theorem State.stopBegin_steps (s : State) : Steps s s.stopBegin := by
  unfold State.stopBegin
  simp only
  have h := s.stopAll_acts.settled.then (State.raise_quiet _ gallerySource .galleryStop 0 3)
  generalize s.stopAll.settle.raise gallerySource .galleryStop 0 3 = t at h ⊢
  refine (Steps.acts h).trans (.trans ?_ (.acts (.quiet (State.evalAllReady_quiet _))))
  split <;> exact .apart

theorem State.stopEnd_steps (s : State) : Steps s s.stopEnd := by
  unfold State.stopEnd
  simp only
  have hstop : Steps s (s.setStop false) :=
    .apart { Alike.of_tables (s := s) (t := { s with releaseWritten := false }) with stop := fun h => by simp [State.setStop] at h }
  refine hstop.trans (.trans ?_ (.acts (.quiet ((State.clearingEvent_quiet _ _ _).trans (State.evalAllReady_quiet _)))))
  split <;> exact .apart

theorem State.estopAssertion_steps (s : State) : Steps s s.estopAssertion := by
  unfold State.estopAssertion
  simp only
  split
  · exact .refl s
  · have q : Steps s (s.setEstop (.recognised true)) := .apart
    split
    · exact q.trans .apart
    · exact q.trans (State.stopBegin_steps _)

theorem State.estopRelease_steps (s : State) : Steps s s.estopRelease := by
  unfold State.estopRelease
  simp only
  split
  · have q : Steps s (s.setEstop (.recognised false)) := .apart
    split
    · exact q.trans (State.stopEnd_steps _)
    · exact q
  · exact .refl s

theorem State.stopWrite_steps (s : State) (value : Nat) : Steps s (s.stopWrite value) := by
  unfold State.stopWrite
  split
  · split
    · exact .apart
    · exact State.stopBegin_steps _
  · split
    · exact .refl s
    · split
      · exact .apart
      · exact State.stopEnd_steps _
  · exact .refl s

theorem State.writeStop_steps (s : State) (value : Nat) : Steps s (s.writeStop value) := by
  unfold State.writeStop
  split
  · exact .refl s
  · exact State.stopWrite_steps _ _

/-! ### Buttons -/

theorem KeepsShows.not_stopped {s t : State} (h : KeepsShows s t) (hs : s.stopInForce = false) : t.stopInForce = false := by
  by_contra ht
  simp [h.stop (by simpa using ht)] at hs

theorem State.countAccepted_quiet (s : State) (e : ExhibitNo) : Quiet s (s.countAccepted e) := State.putExhibit_aside _ _ _

theorem State.countIgnored_quiet (s : State) (e : ExhibitNo) : Quiet s (s.countIgnored e) := State.putExhibit_aside _ _ _

theorem State.encorePress_quiet (s : State) (e : ExhibitNo) (h : (s.exhibit e).state.keepsEncore = true) :
    Quiet s (s.encorePress e).state := by
  unfold State.encorePress
  simp only
  split
  · exact .trans (State.putExhibit_quiet s e { s.exhibit e with encore := true } ⟨rfl, rfl, fun _ => .inr h⟩)
      (State.countAccepted_quiet _ _)
  · exact State.countIgnored_quiet _ _

theorem State.startPress_acts (s : State) (e : ExhibitNo) : Acts s (s.startPress e).state := by
  unfold State.startPress
  simp only
  split
  · exact .quiet (State.countIgnored_quiet _ _)
  · next hblock =>
    have hstop : s.stopInForce = false := by simpa using fun h => hblock (.inl h)
    split
    case h_1 h =>
      split
      · exact (State.countAccepted_quiet s e).acts (State.completeWait_acts _ _)
      · exact .quiet (State.encorePress_quiet _ _ (by rw [h]; rfl))
    case h_2 h => exact .quiet (State.encorePress_quiet _ _ (by rw [h]; rfl))
    case h_3 h =>
      have q := State.countAccepted_quiet s e
      exact q.acts (State.startDefault_acts _ _ (by rw [q.keepsShows.state, h]; rfl) (q.keepsShows.not_stopped hstop))
    all_goals exact .quiet (State.countIgnored_quiet _ _)

theorem State.memberPress_acts (s : State) (e : ExhibitNo) : Acts s (s.memberPress e).state := by
  unfold State.memberPress
  simp only
  split
  · next h =>
    have q := State.countAccepted_quiet s e
    exact q.acts (State.startDefault_acts _ _ (by rw [q.keepsShows.state, h.1]; rfl) (q.keepsShows.not_stopped h.2.2))
  · exact .quiet (State.countIgnored_quiet _ _)

theorem State.groupPress_acts (s : State) (g : Fin 8) : Acts s (s.groupPress g).state := by
  unfold State.groupPress
  refine forEach_invariant (fun j : Judged => Acts s j.state) _ (fun e j h => ?_) _ (.refl s)
  split
  · exact h.trans (State.memberPress_acts _ _)
  · exact h

theorem State.callPress_quiet (s : State) (e : ExhibitNo) : Quiet s (s.callPress e).state := by
  unfold State.callPress
  split
  · exact State.countIgnored_quiet _ _
  · exact State.countIgnored_quiet _ _
  all_goals exact State.raise_quiet _ _ _ _ _

theorem State.ackPress_quiet (s : State) (st : StationNo) : Quiet s (s.ackPress st).state := by
  unfold State.ackPress
  split
  · next x hx =>
    refine .alert (.acknowledged x (State.shownAlert_mem (st := st) ?_))
    unfold State.ackPressEntry at hx
    split at hx
    · simp at hx
    · exact hx
  · exact .refl s

theorem State.judge_acts (s : State) (action : Action) : Acts s (s.judge action).state := by
  cases action with
  | none => exact .refl s
  | start e => exact State.startPress_acts s e
  | group g => exact State.groupPress_acts s g
  | call e => exact .quiet (State.callPress_quiet s e)
  | ack st => exact .quiet (State.ackPress_quiet s st)

theorem State.countDropped_quiet (s : State) (action : Action) : Quiet s (s.countDropped action) := by
  cases action with
  | none => exact .refl s
  | start e => exact State.countIgnored_quiet s e
  | group g =>
    refine .forEach (fun e t => ?_) s
    split
    · exact State.countIgnored_quiet t e
    · exact .refl t
  | call e => exact State.countIgnored_quiet s e
  | ack st => exact .refl s

theorem State.startLockout_quiet (s : State) (b : ButtonNo) : Quiet s (s.startLockout b) := by
  unfold State.startLockout
  simp only
  split
  · exact State.setLockout_quiet _ _ _
  · exact .refl s

theorem State.dispatch_acts (s : State) (b : ButtonNo) (action : Action) : Acts s (s.dispatch b action) := by
  unfold State.dispatch
  simp only
  split
  · exact .refl s
  · split
    · exact .quiet (State.countDropped_quiet _ _)
    · split
      · exact (State.judge_acts _ _).then (State.startLockout_quiet _ _)
      · exact State.judge_acts _ _

theorem State.setButton_steps (s : State) (b : ButtonNo) (x : Button) : Steps s (s.setButton b x) := .apart

/-- A button changes and a press of it is dispatched. -/
theorem State.pressed_steps (s : State) (b : ButtonNo) (x : Button) (action : Action) :
    Steps s ((s.setButton b x).dispatch b action).settle :=
  ((State.setButton_steps s b x).then (State.dispatch_acts _ _ _)).settled

theorem State.closure_steps (s : State) (b : ButtonNo) : Steps s (s.closure b) := by
  unfold State.closure
  simp only
  split
  · exact .refl s
  · split
    · exact State.pressed_steps _ _ _ _
    · exact State.setButton_steps _ _ _

theorem State.release_steps (s : State) (b : ButtonNo) : Steps s (s.release b) := by
  unfold State.release
  simp only
  split
  · split
    · exact State.pressed_steps _ _ _ _
    · exact State.setButton_steps _ _ _
  · exact .refl s

theorem State.longPress_steps (s : State) (b : ButtonNo) : Steps s (s.longPress b) := by
  unfold State.longPress
  simp only
  split
  · exact State.pressed_steps _ _ _ _
  · exact .refl s

theorem State.stuck_steps (s : State) (b : ButtonNo) : Steps s (s.stuck b) := by
  unfold State.stuck
  simp only
  split
  · exact (State.setButton_steps s b _).then (.quiet (State.raise_quiet _ _ _ _ _))
  · exact .refl s

theorem State.buttonReading_steps (s : State) (b : ButtonNo) (closed : Bool) : Steps s (s.buttonReading b closed) := by
  unfold State.buttonReading
  simp only
  split
  · exact State.setButton_steps _ _ _
  · split
    · exact State.setButton_steps _ _ _
    · split
      · exact State.closure_steps _ _
      · exact State.release_steps _ _

theorem State.holdMeetsParams_steps (s : State) (b : ButtonNo) : Steps s (s.holdMeetsParams b) := by
  unfold State.holdMeetsParams
  simp only
  have h : Steps s (if (s.button b).hold = .watched ∧ s.longMs ≤ (s.button b).holdTimer then s.longPress b else s) := by
    split
    · exact State.longPress_steps _ _
    · exact .refl s
  generalize (if (s.button b).hold = .watched ∧ s.longMs ≤ (s.button b).holdTimer then s.longPress b else s) = t at h ⊢
  split
  · exact h.trans (State.stuck_steps _ _)
  · exact h

theorem State.takeGalleryRecord_steps (s : State) : Steps s s.takeGalleryRecord := by
  unfold State.takeGalleryRecord
  exact Steps.trans .apart (.forEach (fun b t => State.holdMeetsParams_steps t b) _)

/-! ### Timers of shows and axes -/

theorem State.timeWaitExpiry_acts (s : State) (e : ExhibitNo) : Acts s (s.timeWaitExpiry e) := by
  unfold State.timeWaitExpiry
  simp only
  split
  · exact (State.completeWait_acts _ _).settled
  · exact .refl s

theorem State.pressTimeout_acts (s : State) (e : ExhibitNo) : Acts s (s.pressTimeout e) := by
  unfold State.pressTimeout
  simp only
  split
  · exact (State.skipSuccessor_acts _ _).settled
  · exact .refl s

theorem State.restExpiry_acts (s : State) (e : ExhibitNo) : Acts s (s.restExpiry e) := by
  unfold State.restExpiry
  simp only
  split
  · exact .refl s
  · next h =>
    have hrest : (s.exhibit e).state = .resting := by
      by_contra hne; exact h (.inl hne)
    split
    · next hgo =>
      have q := State.dropEncore_quiet s e
      exact (q.acts (State.startDefault_acts _ _ (by rw [q.keepsShows.state, hrest]; rfl) (q.keepsShows.not_stopped hgo.2.2))).settled
    · exact .enters e .ready (by simp) (by simp) (.inl (by rw [hrest]; exact ⟨rfl, by simp⟩))

theorem State.disturbance_acts (s : State) (a : AxisNo) : Acts s (s.disturbance a) := by
  unfold State.disturbance
  split
  · next h => exact Acts.settled (.quiet (.disturbs a h))
  · exact .refl s

theorem State.stall_acts (s : State) (a : AxisNo) : Acts s (s.stall a) := by
  unfold State.stall
  split
  · next h => exact Acts.settled (.quiet (State.faultAxis_quiet _ _ _ h))
  · exact .refl s

theorem State.homeSearchExhausted_acts (s : State) (a : AxisNo) : Acts s (s.homeSearchExhausted a) := by
  unfold State.homeSearchExhausted
  split
  · next h => exact Acts.settled (.quiet (State.faultAxis_quiet _ _ _ (by rw [h]; rfl)))
  · exact .refl s

theorem countUpTo_acts (a : AxisNo) (up : Bool) (n : Nat) (s : State) : Acts s (countUpTo a up n s) := by
  induction n generalizing s with
  | zero => exact .refl s
  | succ n ih => exact (Acts.settled (.quiet (State.encoderCount_quiet s a up))).trans (ih _)

theorem State.encoderChange_acts (s : State) (a : AxisNo) (delta : Int) : Acts s (s.encoderChange a delta) := countUpTo_acts _ _ _ _

end Sys2Proof.Machine
end

section
/-! Every command in acts: what the order unit and the port add to them. -/

namespace Sys2Proof.Machine

/-! ### Configuration of exhibits -/

theorem State.dropRole_form (s : State) (n : LayerName) (keep : ChannelNo → Bool) (l : Option ChannelNo) :
    s.dropRole n keep l = { s with channels := (s.dropRole n keep l).channels } := by
  unfold State.dropRole
  split
  · rfl
  · split <;> rfl

theorem State.dropRole_quiet (s : State) (n : LayerName) (keep : ChannelNo → Bool) (l : Option ChannelNo) (hn : n ≠ .alertLayer)
    (h : s.part = .cold → ∃ e, s.HasShow e) : Quiet s (s.dropRole n keep l) := by
  unfold State.dropRole
  split
  · exact .refl s
  · split
    · exact .refl s
    · exact State.setLayer_quiet _ _ _ _ hn h

theorem State.dropShowLamps_form (s : State) (keep : ChannelNo → Bool) (l : List (Option ChannelNo)) :
    l.foldl (fun u l => State.dropRole u .showLayer keep l) s =
      { s with channels := (l.foldl (fun u l => State.dropRole u .showLayer keep l) s).channels } :=
  foldl_invariant (fun t : State => t = { s with channels := t.channels }) _
    (fun t l h => by rw [State.dropRole_form t, h]) l s rfl

theorem State.dropRoles_form (s : State) (old new : Option ExhibitConfig) :
    s.dropRoles old new = { s with channels := (s.dropRoles old new).channels } := by
  unfold State.dropRoles
  split
  · rfl
  · simp only
    rw [State.dropRole_form, State.dropRole_form _ .readyLayer, State.dropShowLamps_form]

theorem State.dropBeacon_quiet (s : State) (e : ExhibitNo) {c : ExhibitConfig} (keep : ChannelNo → Bool)
    (h : (s.exhibit e).inForce = some c) : Quiet s (s.dropRole .alertLayer keep c.beaconLamp) := by
  unfold State.dropRole
  split
  · exact .refl s
  · next ch hch =>
    split
    · exact .refl s
    · exact .beacon e ch .idle ⟨c, h, .inr (.inr hch)⟩

/-- The roles of an exhibit in force are dropped. -/
theorem State.dropRoles_quiet (s : State) (e : ExhibitNo) (new : Option ExhibitConfig) :
    Quiet s (s.dropRoles (s.exhibit e).inForce new) := by
  unfold State.dropRoles
  split
  · exact .refl s
  · next c hc =>
    have hshow : ∀ t, KeepsShows s t → t.HasShow e := fun t ht => .inl (by rw [ht.state]; exact (Exhibit.inForce_some hc).1)
    have q1 : Quiet s (c.showLamps.toList.foldl (fun u l => State.dropRole u .showLayer
        (fun ch => (new.map fun d => d.namesShowLamp ch).getD false) l) s) :=
      foldl_invariant (Quiet s) _ (fun t l h => h.trans (State.dropRole_quiet t _ _ l (by simp) fun _ => ⟨e, hshow t h.keepsShows⟩)) _ s
        (.refl s)
    have q2 := q1.trans (State.dropRole_quiet _ .readyLayer (fun ch => (new.map fun d => d.readyLamp == some ch).getD false)
      c.readyLamp (by simp) fun _ => ⟨e, hshow _ q1.keepsShows⟩)
    exact q2.trans (State.dropBeacon_quiet _ e _ (by rw [q2.keepsShows.inForce, hc]))

theorem State.refreshBeacon_quiet (s : State) (e : ExhibitNo) : Quiet s (s.refreshBeacon e) := by
  unfold State.refreshBeacon
  split
  · exact .refl s
  · next c hc =>
    unfold State.chooseLamp State.chooseLayer
    split
    · exact .refl s
    · next ch hch =>
      split
      · exact .refl s
      · exact .beacon e ch _ ⟨c, hc, .inr (.inr hch)⟩

/-- What the checks of a record with enable yes say of the axes and channels it names (R2). -/
theorem State.exhibitRecord_free {s : State} {e : ExhibitNo} (h : s.exhibitRecordFault e = none) (hon : s.exhibitEnabled e = true) :
    (∀ a, some a ∈ (s.readExhibit e).axes.toList → s.axisElsewhere e a = false) ∧
    (∀ ch, (s.readExhibit e).namesChannel ch = true → s.channelElsewhere e ch = false) := by
  have hpass : firstFault (s.exhibitChecks e) = none := by
    unfold State.exhibitRecordFault at h
    have h1 : (s.exhibitField e 1).toNat = 1 := by
      have : s.exhibitField e 1 = 1 := by simpa [State.exhibitEnabled] using hon
      rw [this]; rfl
    rwa [h1] at h
  have hall := firstFault_eq_none hpass
  have hlamp : ∀ n, n < 10 → ∀ ch, fieldIndex 64 (s.exhibitField e (11 + n)) = some ch → s.channelElsewhere e ch = false := fun n hn ch hch => by
    have := hall (11 + n, s.lampFieldOk e (11 + n)) (by
      unfold State.exhibitChecks
      exact List.mem_append_left _ (List.mem_append_right _ (List.mem_map.2 ⟨n, by simpa using hn, rfl⟩)))
    simpa [State.lampFieldOk, hch] using this
  constructor
  · intro a ha
    obtain ⟨i, hi, hia⟩ := List.mem_iff_getElem.1 ha
    have hi4 : i < 4 := by simpa using hi
    have hfield : fieldIndex 16 (s.exhibitField e (7 + i)) = some a := by simpa [State.readExhibit] using hia
    have := hall (7 + i, s.axisFieldOk e ⟨i, hi4⟩) (by
      unfold State.exhibitChecks
      exact List.mem_append_left _ (List.mem_append_left _ (List.mem_append_right _
        (List.mem_map.2 ⟨⟨i, hi4⟩, List.mem_finRange _, rfl⟩))))
    simp only [State.axisFieldOk, hfield, Bool.and_eq_true, State.axisNameable, Bool.not_eq_true'] at this
    exact this.1.1.1
  · intro ch hch
    have hnames : some ch ∈ (s.readExhibit e).showLamps.toList ∨ (s.readExhibit e).readyLamp = some ch ∨
        (s.readExhibit e).beaconLamp = some ch := by
      simpa [ExhibitConfig.namesChannel, ExhibitConfig.namesShowLamp, or_assoc] using hch
    obtain hmem | hready | hbeacon := hnames
    · obtain ⟨i, hi, hic⟩ := List.mem_iff_getElem.1 hmem
      have hi8 : i < 8 := by simpa using hi
      exact hlamp i (by omega) ch (by simpa [State.readExhibit] using hic)
    · exact hlamp 8 (by omega) ch hready
    · exact hlamp 9 (by omega) ch hbeacon

theorem State.configureOn_acts (s : State) (e : ExhibitNo) (h : (s.exhibit e).state.takesConfigure = true) (hp : s.part = .run)
    (hf : s.exhibitRecordFault e = none) (hon : s.exhibitEnabled e = true) : Acts s (s.configureOn e (s.readExhibit e)) := by
  obtain ⟨haxis, hlamp⟩ := State.exhibitRecord_free hf hon
  have q := State.dropRoles_quiet s e (some (s.readExhibit e))
  have hform := State.dropRoles_form s (s.exhibit e).inForce (some (s.readExhibit e))
  unfold State.configureOn
  simp only
  generalize s.dropRoles (s.exhibit e).inForce (some (s.readExhibit e)) = t at q hform ⊢
  have hx : t.exhibit e = s.exhibit e := by rw [hform]; rfl
  have hput := Acts.configuresOn (s := t) e (s.readExhibit e) (s.guardLevel (s.readExhibit e).guard) (by rw [hx]; exact h)
    (by rw [hform]; exact hp) (fun a ha => by rw [hform]; exact haxis a ha) (fun ch hch => by rw [hform]; exact hlamp ch hch)
  rw [hx] at hput
  have hon' := (q.acts hput).then ((State.evalReady_quiet _ e).trans (State.refreshBeacon_quiet _ e))
  split
  · exact hon'.then (State.clearingEvent_quiet _ _ _)
  · exact hon'

theorem State.configureOff_acts (s : State) (e : ExhibitNo) (h : (s.exhibit e).state.takesConfigure = true) (hp : s.part = .run) :
    Acts s (s.configureOff e) := by
  have q := State.dropRoles_quiet s e none
  have hform := State.dropRoles_form s (s.exhibit e).inForce none
  unfold State.configureOff
  simp only
  split
  · exact .quiet (State.putExhibit_aside s e _)
  · generalize s.dropRoles (s.exhibit e).inForce none = t at q hform ⊢
    have hx : t.exhibit e = s.exhibit e := by rw [hform]; rfl
    have hput := Acts.configuresOff (s := t) e (by rw [hx]; exact h) (by rw [hform]; exact hp)
    rw [hx] at hput
    exact (q.acts hput).then (State.removeAlerts_quiet _ _)

/-! ### Maintenance and show orders -/

theorem State.unlock_acts (s : State) (e : ExhibitNo) (h : (s.exhibit e).state = .locked) : Acts s (s.unlock e) := by
  have q := State.clearFirst_quiet s e
  unfold State.unlock
  split
  · exact State.enterFaultedExhibit_acts _ _ (by rw [h]; rfl) (by rw [h]; simp)
  · exact q.acts (.then (.enters e .ready (by simp) (by simp) (.inl (by rw [q.keepsShows.state, h]; exact ⟨rfl, by simp⟩)))
      (State.removeAlerts_quiet _ _))

theorem State.restore_acts (s : State) (e : ExhibitNo) (h : (s.exhibit e).state = .faulted) : Acts s (s.restore e) := by
  have q : Quiet s ((((s.boundAxes e).foldl State.leaveFault s).removeFaultAlerts e).clearFirst e) :=
    ((Quiet.foldl State.leaveFault_quiet _ s).trans (State.removeAlerts_quiet _ _)).trans (State.clearFirst_quiet _ _)
  exact q.acts (.enters e .ready (by simp) (by simp) (.inl (by rw [q.keepsShows.state, h]; exact ⟨rfl, by simp⟩)))

theorem State.clearGuard_quiet (s : State) (e : ExhibitNo) : Quiet s (s.clearGuard e) :=
  State.putExhibit_quiet s e _ ⟨rfl, rfl, fun h => by simp at h⟩

theorem State.clear_acts (s : State) (e : ExhibitNo) (h : (s.exhibit e).state ≠ .off) : Acts s (s.clear e) := by
  have q := State.clearAxes_quiet s e
  have q' : Quiet ((s.clearAxes e).endShow e) ((((((((s.clearAxes e).endShow e).discardResume e).clearGuard e).setSource e .reset).clearFirst
      e).removeSource (exhibitSource e))) :=
    ((((State.discardResume_quiet _ e).trans (State.clearGuard_quiet _ e)).trans (State.setSource_quiet _ _ _)).trans
      (State.clearFirst_quiet _ _)).trans (State.removeAlerts_quiet _ _)
  unfold State.clear
  refine q.acts (.ends e _ (.inl (by rw [q.keepsShows.state]; exact h)) ?_ ?_ ?_ q')
  all_goals split <;> simp [ExhibitState.runsShow]

theorem State.startShowOrder_acts (s : State) (e : ExhibitNo) (w2 : Word) (h : (s.exhibit e).state.startable = true)
    (hstop : s.stopInForce = false) : Acts s (s.startShowOrder e w2) := by
  have q := State.dropEncore_quiet s e
  have hs : ((s.dropEncore e).exhibit e).state.startable = true := by rw [q.keepsShows.state]; exact h
  have hn := q.keepsShows.not_stopped hstop
  unfold State.startShowOrder
  simp only
  split
  · exact q.acts (State.startDefault_acts _ _ hs hn)
  · exact q.acts (State.startShow_acts _ _ _ hs hn)

theorem State.resumeShow_acts (s : State) (e : ExhibitNo) (h : (s.exhibit e).state = .suspended) : Acts s (s.resumeShow e) := by
  unfold State.resumeShow
  simp only
  have q := State.putSlot_aside (s.enterState e .running) e { (s.enterState e .running).slot e with status := none }
  refine .trans (.enters e .running (by simp) (by simp) (.inl (by rw [h]; exact ⟨rfl, by simp⟩))) (q.acts (State.runAct_acts _ _ (.inl ?_)))
  rw [q.keepsShows.state, State.exhibit_enterState]
  rfl

theorem State.haltShow_acts (s : State) (e : ExhibitNo) (h : (s.exhibit e).state.takesHalt = true) : Acts s (s.haltShow e) := by
  have hruns : (s.exhibit e).state.runsShow = true := by revert h; cases (s.exhibit e).state <;> simp [ExhibitState.takesHalt, ExhibitState.runsShow]
  have hoff : s.HasShow e := .inl fun ho => by simp [ho, ExhibitState.runsShow] at hruns
  have q : Quiet (s.endShow e) (((s.endShow e).discardResume e).haltAxes e) := (State.discardResume_quiet _ e).trans (State.haltAxes_quiet _ e)
  unfold State.haltShow
  simp only
  split
  · exact .ends e .halting hoff rfl (by simp) (fun _ => hruns) q
  · exact .then (.ends e .ready hoff rfl (by simp) (by simp) q) (State.markCondition_quiet _ _ _)

theorem State.cancelShow_acts (s : State) (e : ExhibitNo) : Acts s (s.cancelShow e) := by
  unfold State.cancelShow
  split
  · next h => exact .ends e .ready (.inl (by rw [h]; simp)) rfl (by simp) (by simp) (State.haltAxes_quiet _ e)
  · exact .quiet (State.dropEncore_quiet s e)

end Sys2Proof.Machine
end

section
/-! Every command in acts: the orders, the port and the rows of events. -/

namespace Sys2Proof.Machine

/-! ### Orders -/

/-- The state an answer leaves comes by acts. -/
abbrev Answer.ActsFrom (s : State) (x : Answer) : Prop := Acts s x.state

theorem Answer.actsFrom_taken {s t : State} (h : Acts s t) : (taken t).ActsFrom s := h

theorem State.forExhibit_acts (s : State) (w : Word) (f : ExhibitNo → Answer) (h : ∀ e, (f e).ActsFrom s) :
    (s.forExhibit w f).ActsFrom s := by
  unfold State.forExhibit
  split
  · exact .refl s
  · exact h _

theorem State.maintain_acts (s : State) (w1 : Word) (takes : ExhibitState → Bool) (f : ExhibitNo → State)
    (h : ∀ e, (s.exhibit e).state ≠ .off → takes (s.exhibit e).state = true → Acts s (f e)) : (s.maintain w1 takes f).ActsFrom s := by
  refine State.forExhibit_acts _ _ _ fun e => ?_
  split
  · exact .refl s
  · next hoff =>
    split
    · next ht => exact h e hoff ht
    · exact .refl s

theorem State.forAxis_acts (s : State) (n : Nat) (f : AxisNo → Answer) (h : ∀ a, (f a).ActsFrom s) : (s.forAxis n f).ActsFrom s := by
  unfold State.forAxis
  split
  · exact .refl s
  · exact h _

theorem State.orderConfigureExhibit_acts (w1 w2 : Word) (s : State) (hp : s.part = .run) :
    (State.orderConfigureExhibit w1 w2 s).ActsFrom s := by
  refine State.forExhibit_acts _ _ _ fun e => ?_
  split
  · exact .refl s
  · next hf =>
    split
    · next ht =>
      show Acts s (if s.exhibitEnabled e = true then s.configureOn e (s.readExhibit e) else s.configureOff e)
      split
      · next hon => exact State.configureOn_acts s e ht hp hf hon
      · exact State.configureOff_acts s e ht hp
    · exact .refl s

theorem State.orderLock_acts (w1 w2 : Word) (s : State) : (State.orderLock w1 w2 s).ActsFrom s :=
  State.maintain_acts _ _ _ _ fun e hoff ht => .enters e .locked (by simp) (by simp)
    (.inl ⟨by revert ht; cases (s.exhibit e).state <;> simp [ExhibitState.takesLock, ExhibitState.runsShow], hoff⟩)

theorem State.orderUnlock_acts (w1 w2 : Word) (s : State) : (State.orderUnlock w1 w2 s).ActsFrom s :=
  State.maintain_acts _ _ _ _ fun e _ ht => State.unlock_acts s e (by simpa using ht)

theorem State.orderRestore_acts (w1 w2 : Word) (s : State) : (State.orderRestore w1 w2 s).ActsFrom s :=
  State.maintain_acts _ _ _ _ fun e _ ht => State.restore_acts s e (by simpa using ht)

theorem State.orderClear_acts (w1 w2 : Word) (s : State) : (State.orderClear w1 w2 s).ActsFrom s :=
  State.maintain_acts _ _ _ _ fun e hoff _ => State.clear_acts s e hoff

theorem State.orderHalt_acts (w1 w2 : Word) (s : State) : (State.orderHalt w1 w2 s).ActsFrom s :=
  State.maintain_acts _ _ _ _ fun e _ ht => State.haltShow_acts s e ht

theorem State.orderStartShow_acts (w1 w2 : Word) (s : State) : (State.orderStartShow w1 w2 s).ActsFrom s := by
  refine State.forExhibit_acts _ _ _ fun e => ?_
  simp only
  split
  · exact .refl s
  split
  · exact .refl s
  split
  · exact .refl s
  split
  · exact .refl s
  · next h =>
    simp only [not_or, Bool.not_eq_false, Bool.not_eq_true] at h
    exact Answer.actsFrom_taken (State.startShowOrder_acts s e w2 h.1 h.2.2)

theorem State.orderResume_acts (w1 w2 : Word) (s : State) : (State.orderResume w1 w2 s).ActsFrom s := by
  refine State.forExhibit_acts _ _ _ fun e => ?_
  simp only
  split
  · exact .refl s
  split
  · exact .refl s
  split
  · exact .refl s
  · next h =>
    simp only [ne_eq, not_or, Decidable.not_not] at h
    exact Answer.actsFrom_taken (State.resumeShow_acts s e h.1)

theorem State.orderCancel_acts (w1 w2 : Word) (s : State) : (State.orderCancel w1 w2 s).ActsFrom s := by
  refine State.forExhibit_acts _ _ _ fun e => ?_
  simp only
  split
  · exact .refl s
  split
  · exact .refl s
  · exact Answer.actsFrom_taken (State.cancelShow_acts s e)

/-- The state an answer leaves comes by acts and by changes of the buttons. -/
abbrev Answer.StepsFrom (s : State) (x : Answer) : Prop := Steps s x.state

theorem State.orderConfigureGallery_steps (w1 w2 : Word) (s : State) : (State.orderConfigureGallery w1 w2 s).StepsFrom s := by
  unfold State.orderConfigureGallery
  split
  · exact .refl s
  · have h := State.takeGalleryRecord_steps s
    generalize s.takeGalleryRecord = t at h ⊢
    exact h

theorem State.takeButtonMap_steps (s : State) : Steps s s.takeButtonMap := by
  unfold State.takeButtonMap
  generalize tmap (fun b x => { x with entry := (s.readButton b).getD x.entry }) s.buttons = buttons
  exact .apart

theorem State.takeGroups_quiet (s : State) : Quiet s s.takeGroups := .aside .of_tables

theorem State.orderConfigureButtons_steps (w1 w2 : Word) (s : State) : (State.orderConfigureButtons w1 w2 s).StepsFrom s := by
  unfold State.orderConfigureButtons
  split
  · exact .refl s
  · exact s.takeButtonMap_steps

theorem State.orderConfigureGroups_acts (w1 w2 : Word) (s : State) : (State.orderConfigureGroups w1 w2 s).ActsFrom s :=
  Answer.actsFrom_taken (.quiet s.takeGroups_quiet)

theorem Layer.afterTable_setting (old new : Vector Pattern 32) (l : Layer) : (l.afterTable old new).setting = l.setting := by
  unfold Layer.afterTable
  split
  · split <;> rfl
  · rfl
  · rfl

theorem State.takeLampTables_alert (s : State) (ch : ChannelNo) :
    (s.takeLampTables.channel ch).alertLayer.setting = (s.channel ch).alertLayer.setting := by
  simp only [State.channel, State.takeLampTables, tget_tmap]
  exact Layer.afterTable_setting _ _ _

theorem State.takeLampTables_quiet (s : State) (hp : s.part = .run) : Quiet s s.takeLampTables := by
  have halert := s.takeLampTables_alert
  have hform : s.takeLampTables = { s with patterns := s.takeLampTables.patterns, channels := s.takeLampTables.channels } := by
    unfold State.takeLampTables; rfl
  generalize s.takeLampTables = t at halert hform ⊢
  have q : Quiet s { s with patterns := t.patterns } := .aside .of_tables
  refine q.trans (.of_channels (by rw [hform]) halert fun hc => by simp [hp] at hc)

theorem State.orderConfigureLamps_acts (w1 w2 : Word) (s : State) (hp : s.part = .run) : (State.orderConfigureLamps w1 w2 s).ActsFrom s := by
  unfold State.orderConfigureLamps
  split
  · exact .refl s
  · exact .quiet (State.takeLampTables_quiet s hp)

theorem State.orderConfigureStations_acts (w1 w2 : Word) (s : State) (hp : s.part = .run) :
    (State.orderConfigureStations w1 w2 s).ActsFrom s := by
  unfold State.orderConfigureStations
  split
  · exact .refl s
  · next h => exact .quiet (.stations h hp)

theorem State.orderConfigureAxis_acts (w1 w2 : Word) (s : State) (hp : s.part = .run) : (State.orderConfigureAxis w1 w2 s).ActsFrom s := by
  refine State.forAxis_acts _ _ _ fun a => ?_
  split
  · exact .refl s
  · next hf =>
    split
    · next ht => exact .quiet (.axis (.configures hf ht.1 hp) (State.putAxis_sets _ _ _ _) (State.putAxis_only _ _ _ _))
    · exact .refl s

theorem State.orderHome_acts (w1 w2 : Word) (s : State) (hp : s.part = .run) : (State.orderHome w1 w2 s).ActsFrom s := by
  refine State.forAxis_acts _ _ _ fun a => ?_
  split
  · exact .refl s
  · next h =>
    simp only [not_or, Bool.not_eq_true] at h
    exact .quiet (State.takeHome_quiet s a (.inl ⟨h.2.1, hp⟩))

theorem State.orderMove_acts (w1 w2 : Word) (s : State) (hp : s.part = .run) : (State.orderMove w1 w2 s).ActsFrom s := by
  refine State.forAxis_acts _ _ _ fun a => ?_
  simp only
  split
  · exact .refl s
  · next h =>
    simp only [not_or, Bool.not_eq_true] at h
    have q := State.takeMove_quiet s a (moveTarget w1 w2) (moveSet w1) (.inl ⟨h.2.1, hp⟩)
    show Acts s (s.moveOrder a (moveTarget w1 w2) (moveSet w1))
    unfold State.moveOrder
    simp only
    split
    · exact .quiet (q.trans (State.reportDone_quiet _ _ _))
    · exact .quiet q

theorem State.orderStopAxis_acts (w1 w2 : Word) (s : State) : (State.orderStopAxis w1 w2 s).ActsFrom s := by
  refine State.forAxis_acts _ _ _ fun a => ?_
  split
  · exact .refl s
  · exact .quiet ((State.haltAxis_quiet s a).trans (State.grantScan_quiet _))

theorem State.orderRestoreAxis_acts (w1 w2 : Word) (s : State) : (State.orderRestoreAxis w1 w2 s).ActsFrom s := by
  refine State.forAxis_acts _ _ _ fun a => ?_
  split
  · exact .refl s
  · show Acts s (s.restoreAxis a)
    unfold State.restoreAxis
    simp only
    split
    · exact .quiet (State.leaveFault_quiet s a)
    · exact .quiet ((State.leaveFault_quiet s a).trans (State.removeAlerts_quiet _ _))

theorem State.orderSetLamp_acts (w1 w2 : Word) (s : State) (hp : s.part = .run) : (State.orderSetLamp w1 w2 s).ActsFrom s := by
  unfold State.orderSetLamp
  split
  · exact .refl s
  · split
    · exact .refl s
    · split
      · exact .refl s
      · exact .quiet (State.setLayer_quiet _ _ _ _ (by simp) fun hc => by simp [hp] at hc)

theorem State.orderRaiseAlert_acts (w1 w2 : Word) (s : State) : (State.orderRaiseAlert w1 w2 s).ActsFrom s := by
  unfold State.orderRaiseAlert
  split
  · exact .refl s
  · simp only
    split
    · exact .refl s
    · split
      · exact .refl s
      · exact .quiet (State.raise_quiet _ _ _ _ _)

theorem State.orderAckAlert_acts (w1 w2 : Word) (s : State) : (State.orderAckAlert w1 w2 s).ActsFrom s := by
  unfold State.orderAckAlert
  split
  · exact .refl s
  · next x hx =>
    split
    · exact .refl s
    · exact .quiet (.alert (.acknowledged x (State.alert?_mem hx)))

theorem State.orderRemoveAlert_acts (w1 w2 : Word) (s : State) : (State.orderRemoveAlert w1 w2 s).ActsFrom s := by
  unfold State.orderRemoveAlert
  split
  · exact .refl s
  · exact .quiet (State.removeAlerts_quiet _ _)

theorem State.clearCold_acts (s : State) : Acts s.setRun s.clearCold := by
  unfold State.clearCold
  simp only
  have q : Quiet s.setRun (forEach 256 (fun b u => State.raiseStuck u b) s.setRun) := .forEach (fun b t => by
    unfold State.raiseStuck
    split
    · exact State.raise_quiet _ _ _ _ _
    · exact .refl t) _
  generalize forEach 256 (fun b u => State.raiseStuck u b) s.setRun = t at q ⊢
  split
  · exact .quiet ((q.trans (State.raise_quiet _ gallerySource .galleryStop 0 3)).trans (.aside .of_tables))
  · exact .quiet q

/-! ### What each command does -/

/-- What a command does: it acts; it answers an order after acts; or it is a row of the port that writes the exchange RAM or resets. -/
inductive Does (s : State) : Instr → State → Prop
  | acts {c : Instr} {t : State} (h : Acts s t) : Does s c t
  | steps {c : Instr} {t : State} (h : Steps s t) : Does s c t
  | answers {c : Instr} {u : State} (h : Steps s u) (hdeck : s.deck.state = .running) (code : Nat) (r : Result) (d : Nat) :
      Does s c (u.writeResult code r d).advanceWalk
  | clearsCold {u : State} (h : Acts s.setRun u) (hp : s.part = .cold) (hdeck : s.deck.state = .running) (code : Nat) (r : Result)
      (d : Nat) : Does s .clearCold (u.writeResult code r d).advanceWalk
  | deckCtl {c : Instr} (v : Word) : Does s c (s.deckCtlWrite v)
  | nbState {c : Instr} (v : Word) : Does s c (s.nbStateWrite v)
  | writes (both : Bool) (a : BitVec 14) (v : Word) : Does s (.exchangeRamWrite both a v) (s.writeWords a.toNat [v])
  | fills (src : SourceNo) (h : s.notice.full = false) : Does s .noticeFill (s.fillFrom src)
  | ages {c : Instr} (h : s.alerts ≠ []) :
      Does s c ((s.setAlerts (s.alerts.map fun x => { x with age := satAdd 65535 x.age 1 })).rewriteAlertImage)
  | endsClearing : Does s .ramClearingEnd (State.writeAllImages { s with ram := [], clearing := none })
  | partResets {c : Instr} (v : Word) (hc : c = .partReset v ∨ (c = .interruptMaskWrite v ∧ bit v 15 = true)) : Does s c s.partReset
  | powersOn : Does s .powerOnReset s.powerOnReset

theorem State.takeCell_does (s : State) (c : Instr) (owner : Word → Word → State → Answer) (hdeck : s.deck.state = .running)
    (h : ∀ w1 w2, (owner w1 w2 s).StepsFrom s) : Does s c (s.takeCell owner) := .answers (h _ _).settled hdeck _ _ _

theorem State.takeOrder_does (s : State) (c : Instr) (code : Nat) (owner : Word → Word → State → Answer)
    (h : ∀ w1 w2, (owner w1 w2 s).StepsFrom s) : Does s c (s.takeOrder code owner) := by
  unfold State.takeOrder
  split
  · next hd => exact State.takeCell_does s c owner hd.1 h
  · exact .acts (.refl s)

theorem State.inRun_does (s : State) (c : Instr) (code : Nat) (owner : Word → Word → State → Answer)
    (h : s.part = .run → ∀ w1 w2, (owner w1 w2 s).StepsFrom s) : Does s c (s.takeOrder code (State.inRun owner)) := by
  refine State.takeOrder_does s c code _ fun w1 w2 => ?_
  unfold State.inRun
  split
  · exact .refl s
  · next hc => exact h (by cases hp : s.part <;> simp [hp] at hc ⊢) w1 w2

theorem State.takeUnknown_does (s : State) (c : Instr) : Does s c s.takeUnknown := by
  unfold State.takeUnknown
  split
  · next hd => exact State.takeCell_does s c _ hd.1 fun _ _ => .refl s
  · exact .acts (.refl s)

theorem State.takeClearCold_does (s : State) : Does s .clearCold (s.takeOrder 0x01 State.orderClearCold) := by
  cases hp : s.part with
  | run =>
    refine State.takeOrder_does s _ _ _ fun w1 w2 => ?_
    unfold State.orderClearCold
    rw [if_pos hp]
    exact .refl s
  | cold =>
    unfold State.takeOrder
    split
    · next hd =>
      have howner : ∀ w1 w2, State.orderClearCold w1 w2 s = taken s.clearCold := fun _ _ => if_neg (by simp [hp])
      have hacts := s.clearCold_acts
      unfold State.takeCell
      simp only [howner]
      generalize s.clearCold = u at hacts ⊢
      exact .clearsCold hacts.settled hp hd.1 _ .taken 0
    · exact .acts (.refl s)

/-! ### Rows of the port -/

theorem State.writePartCtl_does (s : State) (c : Instr) (v : Word) (h : bit v 15 = true → c = .partReset v ∨ c = .interruptMaskWrite v) :
    Does s c (s.writePartCtl v) := by
  unfold State.writePartCtl
  split
  · exact .acts (.refl s)
  · split
    · next hb => exact .partResets v ((h hb).imp id fun h => ⟨h, hb⟩)
    · exact .steps .apart

theorem State.writeAttn_does (s : State) (c : Instr) (v : Word) : Does s c (s.writeAttn v) := by
  unfold State.writeAttn
  split
  · exact .acts (.refl s)
  · exact .steps .apart

theorem State.ramWrite_does (s : State) (both : Bool) (a : BitVec 14) (v : Word) :
    Does s (.exchangeRamWrite both a v) (s.ramWrite both a v) := by
  unfold State.ramWrite
  split
  · exact .acts (.refl s)
  split
  · exact .deckCtl v
  split
  · exact .nbState v
  · exact .writes both a v

theorem State.noticeFill_does (s : State) : Does s .noticeFill s.noticeFill := by
  unfold State.noticeFill
  split
  · exact .acts (.refl s)
  · next h =>
    split
    · exact .fills _ (by simpa using h)
    · exact .acts (.refl s)

theorem State.ramClearingEnd_does (s : State) : Does s .ramClearingEnd s.ramClearingEnd := by
  unfold State.ramClearingEnd
  split
  · exact .acts (.refl s)
  · exact .endsClearing

/-! ### Rows of lamps and stations -/

theorem State.lampPhaseStep_quiet (s : State) (ch : ChannelNo) (n : LayerName) : Quiet s (s.lampPhaseStep ch n) := by
  unfold State.lampPhaseStep
  simp only
  split
  · next p hpat hchange =>
    have hread : ∀ c, (s.setChannel ch (((s.channel ch).withLayer n { (s.channel ch).layer n with
        phase := p.stepPhase ((s.channel ch).layer n).phase }).refresh s.patterns)).channel c = if ch = c then
        (((s.channel ch).withLayer n { (s.channel ch).layer n with
          phase := p.stepPhase ((s.channel ch).layer n).phase }).refresh s.patterns) else s.channel c := fun c => tget_tset _ _ _ _
    refine .of_channels rfl (fun c => ?_) (fun _ _ c hdark => ?_)
    · rw [hread]
      split
      · next hc => subst hc; cases n <;> rfl
      · rfl
    · rw [hread]
      split
      · next hc =>
        -- a dark channel has no layer with a phase to step
        subst hc
        exfalso
        obtain ⟨ha, hs, hr, -, -⟩ := hdark
        cases n <;> simp [Channel.layer, ha, hs, hr, patternOf] at hpat
      · exact hdark
  · exact .refl s
  · exact .refl s

theorem State.pwmPeriod_quiet (s : State) : Quiet s s.pwmPeriod := by
  have hread : ∀ c, s.pwmPeriod.channel c = { s.channel c with output := (s.channel c).brightness } := fun c => by
    simp only [State.channel, State.pwmPeriod, tget_tmap]
  refine .of_channels rfl (fun c => by rw [hread]) (fun _ _ c hdark => ?_)
  obtain ⟨ha, hs, hr, hb, -⟩ := hdark
  rw [hread]
  exact ⟨ha, hs, hr, hb, hb⟩

/-- A station changes in nothing the laws speak of. -/
theorem State.setStation_quiet (s : State) (st : StationNo) (x : Station) (h : (s.station st).Alike x) : Quiet s (s.setStation st x) := by
  refine .aside { Alike.of_tables (s := s) (t := s) with station := fun u => ?_ }
  rw [show (s.setStation st x).station u = if st = u then x else s.station u from tget_tset _ _ _ _]
  split
  · next hu => subst hu; exact h
  · exact ⟨rfl, rfl, rfl, rfl, rfl⟩

theorem State.escalationExpiry_quiet (s : State) (n : Nat) : Quiet s (s.escalationExpiry n) := by
  unfold State.escalationExpiry
  split
  · next x hx =>
    split
    · exact .alert (.escalated x (State.alert?_mem hx))
    · exact .refl s
  · exact .refl s

theorem State.ageStep_does (s : State) (c : Instr) : Does s c s.ageStep := by
  unfold State.ageStep
  split
  · exact .acts (.refl s)
  · next h => exact .ages (by simpa using h)

/-! ### Every row -/

/-- Every command answers a next state, and does what its row says. -/
theorem exec_does (c : Instr) (s : State) : ∃ t, exec c s = .next t ∧ Does s c t := by
  cases c with
  | powerOnReset => exact ⟨_, rfl, .powersOn⟩
  | ramClearingEnd => exact ⟨_, rfl, s.ramClearingEnd_does⟩
  | partReset v => exact ⟨_, rfl, s.writePartCtl_does _ v fun _ => .inl rfl⟩
  | interruptMaskWrite v => exact ⟨_, rfl, s.writePartCtl_does _ v fun _ => .inr rfl⟩
  | attnClear v => exact ⟨_, rfl, s.writeAttn_does _ v⟩
  | stopRequest => exact ⟨_, rfl, .steps (s.writeStop_steps _)⟩
  | releaseRequest => exact ⟨_, rfl, .steps (s.writeStop_steps _)⟩
  | registerWriteNoEffect r v =>
    cases r with
    | partId => exact ⟨_, rfl, .acts (.refl s)⟩
    | stop => exact ⟨_, rfl, .steps (s.writeStop_steps _)⟩
  | exchangeRamWrite both a v => exact ⟨_, rfl, s.ramWrite_does both a v⟩
  | deckCtlWrite v => exact ⟨_, rfl, .deckCtl v⟩
  | nbStateWrite v => exact ⟨_, rfl, .nbState v⟩
  | noticeFill => exact ⟨_, rfl, s.noticeFill_does⟩
  | unknownOrder => exact ⟨_, rfl, s.takeUnknown_does _⟩
  | clearCold => exact ⟨_, rfl, s.takeClearCold_does⟩
  | configureGallery => exact ⟨_, rfl, s.inRun_does _ _ _ fun _ w1 w2 => State.orderConfigureGallery_steps w1 w2 s⟩
  | configureExhibit => exact ⟨_, rfl, s.inRun_does _ _ _ fun hp w1 w2 => .acts (State.orderConfigureExhibit_acts w1 w2 s hp)⟩
  | configureAxis => exact ⟨_, rfl, s.inRun_does _ _ _ fun hp w1 w2 => .acts (State.orderConfigureAxis_acts w1 w2 s hp)⟩
  | configureButtons => exact ⟨_, rfl, s.inRun_does _ _ _ fun _ w1 w2 => State.orderConfigureButtons_steps w1 w2 s⟩
  | configureGroups => exact ⟨_, rfl, s.inRun_does _ _ _ fun _ w1 w2 => .acts (State.orderConfigureGroups_acts w1 w2 s)⟩
  | configureLamps => exact ⟨_, rfl, s.inRun_does _ _ _ fun hp w1 w2 => .acts (State.orderConfigureLamps_acts w1 w2 s hp)⟩
  | configureStations => exact ⟨_, rfl, s.inRun_does _ _ _ fun hp w1 w2 => .acts (State.orderConfigureStations_acts w1 w2 s hp)⟩
  | startShow => exact ⟨_, rfl, s.inRun_does _ _ _ fun _ w1 w2 => .acts (State.orderStartShow_acts w1 w2 s)⟩
  | resume => exact ⟨_, rfl, s.inRun_does _ _ _ fun _ w1 w2 => .acts (State.orderResume_acts w1 w2 s)⟩
  | halt => exact ⟨_, rfl, s.inRun_does _ _ _ fun _ w1 w2 => .acts (State.orderHalt_acts w1 w2 s)⟩
  | cancel => exact ⟨_, rfl, s.inRun_does _ _ _ fun _ w1 w2 => .acts (State.orderCancel_acts w1 w2 s)⟩
  | clear => exact ⟨_, rfl, s.inRun_does _ _ _ fun _ w1 w2 => .acts (State.orderClear_acts w1 w2 s)⟩
  | lock => exact ⟨_, rfl, s.inRun_does _ _ _ fun _ w1 w2 => .acts (State.orderLock_acts w1 w2 s)⟩
  | unlock => exact ⟨_, rfl, s.inRun_does _ _ _ fun _ w1 w2 => .acts (State.orderUnlock_acts w1 w2 s)⟩
  | restore => exact ⟨_, rfl, s.inRun_does _ _ _ fun _ w1 w2 => .acts (State.orderRestore_acts w1 w2 s)⟩
  | home => exact ⟨_, rfl, s.inRun_does _ _ _ fun hp w1 w2 => .acts (State.orderHome_acts w1 w2 s hp)⟩
  | move => exact ⟨_, rfl, s.inRun_does _ _ _ fun hp w1 w2 => .acts (State.orderMove_acts w1 w2 s hp)⟩
  | stopAxis => exact ⟨_, rfl, s.inRun_does _ _ _ fun _ w1 w2 => .acts (State.orderStopAxis_acts w1 w2 s)⟩
  | restoreAxis => exact ⟨_, rfl, s.inRun_does _ _ _ fun _ w1 w2 => .acts (State.orderRestoreAxis_acts w1 w2 s)⟩
  | setLamp => exact ⟨_, rfl, s.inRun_does _ _ _ fun hp w1 w2 => .acts (State.orderSetLamp_acts w1 w2 s hp)⟩
  | raiseAlert => exact ⟨_, rfl, s.inRun_does _ _ _ fun _ w1 w2 => .acts (State.orderRaiseAlert_acts w1 w2 s)⟩
  | ackAlert => exact ⟨_, rfl, s.inRun_does _ _ _ fun _ w1 w2 => .acts (State.orderAckAlert_acts w1 w2 s)⟩
  | removeAlert => exact ⟨_, rfl, s.inRun_does _ _ _ fun _ w1 w2 => .acts (State.orderRemoveAlert_acts w1 w2 s)⟩
  | closure b => exact ⟨_, rfl, .steps (s.closure_steps b)⟩
  | release b => exact ⟨_, rfl, .steps (s.release_steps b)⟩
  | longPress b => exact ⟨_, rfl, .steps (s.longPress_steps b)⟩
  | stuck b => exact ⟨_, rfl, .steps (s.stuck_steps b)⟩
  | lockoutExpiry b => exact ⟨_, rfl, .acts (.quiet (s.setLockout_quiet b none))⟩
  | timeWaitExpiry e => exact ⟨_, rfl, .acts (s.timeWaitExpiry_acts e)⟩
  | pressTimeout e => exact ⟨_, rfl, .acts (s.pressTimeout_acts e)⟩
  | restExpiry e => exact ⟨_, rfl, .acts (s.restExpiry_acts e)⟩
  | axisUpdate a => exact ⟨_, rfl, .acts (Acts.settled (.quiet (s.axisUpdate_quiet a)))⟩
  | disturbance a => exact ⟨_, rfl, .acts (s.disturbance_acts a)⟩
  | stall a => exact ⟨_, rfl, .acts (s.stall_acts a)⟩
  | limitAsserted a l => exact ⟨_, rfl, .acts (Acts.settled (.quiet (s.limitAsserted_quiet a l)))⟩
  | limitReleased a l => exact ⟨_, rfl, .acts (.quiet (s.limitReleased_quiet a l))⟩
  | encoderCountChange a d => exact ⟨_, rfl, .acts (s.encoderChange_acts a d)⟩
  | speedMeasurement a => exact ⟨_, rfl, .acts (.quiet (s.speedMeasurement_quiet a))⟩
  | axisImageRefresh a => exact ⟨_, rfl, .acts (.quiet (s.writeAxisImage_quiet a))⟩
  | homeSwitchClosing a => exact ⟨_, rfl, .acts (.quiet (s.homeClosing_quiet a))⟩
  | homeSwitchOpening a => exact ⟨_, rfl, .acts (Acts.settled (.quiet (s.homeOpening_quiet a)))⟩
  | indexEvent a => exact ⟨_, rfl, .acts (Acts.settled (.quiet (s.indexEvent_quiet a)))⟩
  | homeSearchExhausted a => exact ⟨_, rfl, .acts (s.homeSearchExhausted_acts a)⟩
  | guardOpening g => exact ⟨_, rfl, .acts (s.guardOpening_acts g)⟩
  | guardClosing g => exact ⟨_, rfl, .acts (.quiet (s.guardClosing_quiet g))⟩
  | settleExpiry e => exact ⟨_, rfl, .acts (s.settleExpiry_acts e).settled⟩
  | guardAlertExpiry e => exact ⟨_, rfl, .acts (.quiet (s.guardAlertExpiry_quiet e))⟩
  | estopAssertion => exact ⟨_, rfl, .steps s.estopAssertion_steps⟩
  | estopRelease => exact ⟨_, rfl, .steps s.estopRelease_steps⟩
  | lampPhaseStep ch n => exact ⟨_, rfl, .acts (.quiet (s.lampPhaseStep_quiet ch n))⟩
  | pwmPeriod => exact ⟨_, rfl, .acts (.quiet s.pwmPeriod_quiet)⟩
  | holdoffExpiry st => exact ⟨_, rfl, .acts (.quiet (s.setStation_quiet st _ ⟨rfl, rfl, rfl, rfl, rfl⟩))⟩
  | escalationExpiry n => exact ⟨_, rfl, .acts (.quiet (s.escalationExpiry_quiet n))⟩
  | ageStep => exact ⟨_, rfl, s.ageStep_does _⟩
  | displayFrame st => exact ⟨_, rfl, .acts (.quiet (s.setStation_quiet st _ ⟨rfl, rfl, rfl, rfl, rfl⟩))⟩
  | buttonReading b closed => exact ⟨_, rfl, .steps (s.buttonReading_steps b closed)⟩

/-- The state a command leaves is the one it is said to leave. -/
theorem does_of_exec {c : Instr} {s t : State} (h : exec c s = .next t) : Does s c t := by
  obtain ⟨u, hu, hdoes⟩ := exec_does c s
  obtain rfl : u = t := by rw [hu] at h; exact Host.Outcome.next.inj h
  exact hdoes

end Sys2Proof.Machine
end

section
/-! Laws through every step; the exchange RAM, the queue and the notice box. -/

namespace Sys2Proof.Machine

/-! ### One step -/

/-- A step takes a command, or runs the clock on. -/
theorem step_cases {s t : State} (h : step s = .next t) : t = s.tick ∨ ∃ c rest, Does (s.setPending rest) c t := by
  unfold step at h
  split at h
  · exact .inl (Host.Outcome.next.inj h).symm
  · next c rest _ => exact .inr ⟨c, rest, does_of_exec h⟩

theorem Axis.alike_sampled (x : Axis) : x.Alike x.sampled := ⟨rfl, rfl, rfl, rfl, rfl, rfl, rfl, fun _ => rfl, fun _ => rfl⟩

theorem Slot.elapse_current (sl : Slot) : sl.elapse.current = sl.current := by
  unfold Slot.elapse
  split
  · rfl
  · split <;> rfl

/-- The laws see no change as the inputs are sampled. -/
theorem State.sampleFast_alike (s : State) : Alike s s.sampleFast := by
  have h : Alike s { s with row := s.row + 1, estop := s.estop.sampled Config.estopSamples } := .of_tables
  refine { h with axis := fun a => ?_ }
  rw [show s.sampleFast.axis a = (s.axis a).sampled from tget_tmap _ _ _]
  exact Axis.alike_sampled _

theorem State.elapseMs_alike (s : State) : Alike s s.elapseMs := by
  have hform : ∃ buttons guards, s.elapseMs = { s with
      clearing := elapsed s.clearing, cadence := s.cadence.elapse, buttons := buttons, guards := guards,
      exhibits := s.elapseMs.exhibits, slots := s.elapseMs.slots, channels := s.elapseMs.channels, alerts := s.elapseMs.alerts,
      stations := s.elapseMs.stations } := ⟨_, _, rfl⟩
  have halerts : s.elapseMs.alerts = s.alerts.map fun x => { x with timer := elapsed x.timer } := rfl
  have hexhibit : ∀ e, s.elapseMs.exhibit e = (s.exhibit e).elapse := fun e => tget_tmap _ _ _
  have hslot : ∀ e, s.elapseMs.slot e = (s.slot e).elapse := fun e => tget_tmap _ _ _
  have hchannel : ∀ ch, s.elapseMs.channel ch = (s.channel ch).elapse := fun ch => tget_tmap _ _ _
  have hstation : ∀ st, s.elapseMs.station st = { s.station st with holdoff := elapsed (s.station st).holdoff } := fun st => tget_tmap _ _ _
  generalize s.elapseMs = t at *
  obtain ⟨buttons, guards, hform⟩ := hform
  exact {
    part := fun hp => by rw [hform] at hp; exact hp
    stop := fun hs => by rw [hform] at hs; exact hs
    pool := by rw [hform]
    axis := fun a => by rw [hform]; exact .refl _
    exhibit := fun e => by rw [hexhibit]; exact ⟨rfl, rfl, .inl⟩
    slot := fun e => by rw [hslot, Slot.elapse_current]
    alerts := ⟨_, halerts, fun x => ⟨rfl, rfl, rfl, rfl, rfl, rfl⟩⟩
    station := fun st => by rw [hstation]; exact ⟨rfl, rfl, rfl, rfl, rfl⟩
    channel := fun ch => by rw [hchannel]; rfl
    dark := fun _ _ ch hd => by rw [hchannel]; exact hd }

/-- A law of the part's state that the acts keep. -/
structure StateLaw (L : State → Prop) : Prop where
  alike : ∀ {s t : State}, Alike s t → L s → L t
  acts : ∀ {s t : State}, Acts s t → L s → L t
  reset : L .reset

namespace StateLaw

variable {L : State → Prop} (h : StateLaw L)
include h

theorem tables {s t : State} (hs : L s) (part : t.part = s.part := by rfl) (stop : t.stopInForce = s.stopInForce := by rfl)
    (pool : t.pool = s.pool := by rfl) (axes : t.axes = s.axes := by rfl) (exhibits : t.exhibits = s.exhibits := by rfl)
    (slots : t.slots = s.slots := by rfl) (alerts : t.alerts = s.alerts := by rfl) (stations : t.stations = s.stations := by rfl)
    (channels : t.channels = s.channels := by rfl) : L t :=
  h.alike (.of_tables part stop pool axes exhibits slots alerts stations channels) hs

theorem tick (s : State) (hs : L s) : L s.tick := by
  have hfast : L s.sampleFast.nextQuarter := h.tables (h.alike s.sampleFast_alike hs)
  unfold State.tick
  simp only
  split
  · exact h.tables (h.alike (State.elapseMs_alike _) hfast)
  · exact h.tables hfast

theorem steps {s t : State} (k : Steps s t) (hs : L s) : L t := by
  induction k with
  | acts k => exact h.acts k hs
  | aside k _ => exact h.alike k hs
  | trans _ _ ih ik => exact ik (ih hs)

theorem answer {s : State} (hs : L s) (code : Nat) (r : Result) (d : Nat) : L (s.writeResult code r d).advanceWalk := by
  have hr : L (s.writeResult code r d) := h.tables hs
  unfold State.advanceWalk
  simp only
  split
  · exact h.tables hr
  · exact h.tables hr

theorem writeAllImages (s : State) (hs : L s) : L s.writeAllImages := by
  unfold State.writeAllImages
  simp only
  have hexhibits : L (forEach 48 (fun e u => State.writeExhibitImage u e) s) :=
    forEach_invariant L _ (fun e t ht => h.tables ht) s hs
  have haxes : L (forEach 16 (fun a u => State.writeAxisImage u a) (forEach 48 (fun e u => State.writeExhibitImage u e) s)) :=
    forEach_invariant L _ (fun a t ht => h.acts (.quiet (State.writeAxisImage_quiet t a)) ht) _ hexhibits
  generalize forEach 16 (fun a u => State.writeAxisImage u a) (forEach 48 (fun e u => State.writeExhibitImage u e) s) = t at haxes ⊢
  exact h.tables haxes

theorem resetAll (s : State) : L s.resetAll := by
  unfold State.resetAll
  generalize tmap (fun _ b => Button.resetKeeping b) s.buttons = buttons
  have haxis : ∀ a, tget (tmap (fun _ x => Axis.resetKeeping x) s.axes) a = (s.axis a).resetKeeping := fun a => tget_tmap _ _ _
  generalize tmap (fun _ x => Axis.resetKeeping x) s.axes = axes at haxis ⊢
  have hreset : ∀ a, State.reset.axis a = .reset := fun a => tget_replicate _ _
  have hx : Alike .reset { State.reset with axes := axes } :=
    { Alike.of_tables (s := .reset) (t := .reset) with
      axis := fun a => by
        rw [hreset, show State.axis { State.reset with axes := axes } a = (s.axis a).resetKeeping from haxis a]
        exact ⟨rfl, rfl, rfl, rfl, rfl, rfl, rfl, fun _ => rfl, fun _ => rfl⟩ }
  exact h.tables (h.alike hx h.reset)

theorem partReset (s : State) : L s.partReset := by
  unfold State.partReset
  simp only
  refine h.writeAllImages _ (h.tables (s := { s.resetAll with stations := tmap (fun _ x => x.resetKeeping) s.stations }) ?_)
  refine h.alike { Alike.of_tables (s := s.resetAll) (t := s.resetAll) with station := fun st => ?_ } (h.resetAll s)
  rw [show State.station { s.resetAll with stations := tmap (fun _ x => x.resetKeeping) s.stations } st = (s.station st).resetKeeping
    from tget_tmap _ _ _, show s.resetAll.station st = .reset from tget_replicate _ _]
  exact ⟨rfl, rfl, rfl, rfl, rfl⟩

theorem does {s t : State} {c : Instr} (hd : Does s c t) (hs : L s) : L t := by
  cases hd with
  | acts k => exact h.acts k hs
  | steps k => exact h.steps k hs
  | answers k hdeck code r d => exact h.answer (h.steps k hs) code r d
  | clearsCold k hp hdeck code r d =>
    have hrun : L s.setRun := h.alike { Alike.of_tables (s := s) (t := s) with part := fun hc => by simp [State.setRun] at hc } hs
    exact h.answer (h.acts k hrun) code r d
  | deckCtl v =>
    unfold State.deckCtlWrite
    simp only
    split
    · exact hs
    · split <;> exact h.tables hs
  | nbState v =>
    unfold State.nbStateWrite
    split
    · exact hs
    · split <;> exact h.tables hs
  | writes both a v => exact h.tables hs
  | fills src _ =>
    have hclear : L ((s.writeWords addrNoticeBox (s.noticeWords src)).clearSource src) := by
      unfold State.clearSource
      split <;> exact h.tables hs
    exact h.tables hclear
  | ages _ =>
    exact h.alike { Alike.of_tables (s := s) (t := s) with alerts := ⟨_, rfl, fun x => ⟨rfl, rfl, rfl, rfl, rfl, rfl⟩⟩ } hs
  | endsClearing => exact h.writeAllImages _ (h.tables hs)
  | partResets v hc => exact h.partReset s
  | powersOn => exact h.resetAll s

/-- Every step keeps the law. -/
theorem step {s t : State} (hs : L s) (hstep : Machine.step s = .next t) : L t := by
  obtain rfl | ⟨c, rest, hd⟩ := step_cases hstep
  · exact h.tick s hs
  · exact h.does hd (h.tables hs)

end StateLaw

/-- A law of the axes and the pool that holds right after a reset. -/
theorem AxisLaw.stateLaw {L : State → Prop} (h : AxisLaw L) (hr : L .reset) : StateLaw L where
  alike ha hs := h.alike ha.pool ha.axis hs
  acts k hs := h.acts k hs
  reset := hr

/-! ### The reset state -/

theorem State.exhibit_reset (e : ExhibitNo) : State.reset.exhibit e = .reset := tget_replicate _ _
theorem State.slot_reset (e : ExhibitNo) : State.reset.slot e = .reset := tget_replicate _ _
theorem State.axis_reset (a : AxisNo) : State.reset.axis a = .reset := tget_replicate _ _
theorem State.channel_reset (ch : ChannelNo) : State.reset.channel ch = .reset := tget_replicate _ _
theorem State.station_reset (st : StationNo) : State.reset.station st = .reset := tget_replicate _ _

end Sys2Proof.Machine
end

section
/-! What every command keeps of the queue, the part state, the notice box and the exchange RAM (O1, O3, O4, O5, O7). -/

namespace Sys2Proof.Machine

/-! ### Writes within the exchange RAM -/

theorem State.writeWords_keepsPort (s : State) (a : Nat) (ws : List Word) (ha : a + ws.length ≤ 16384)
    (hout : a + ws.length ≤ addrNoticeBox ∨ addrNoticeBox + 16 ≤ a) : KeepsPort s (s.writeWords a ws) :=
  ⟨rfl, rfl, rfl, fun hw => State.writeWords_wf s a ws hw ha, fun k hk => State.word_writeWords_out s a ws _ (by omega)⟩

theorem State.writeAllImages_keepsPort (s : State) : KeepsPort s s.writeAllImages := by
  have hexhibits : KeepsPort s (forEach 48 (fun e u => State.writeExhibitImage u e) s) :=
    forEach_invariant (KeepsPort s) _ (fun e t h => h.trans (State.writeExhibitImage_keepsPort t e)) s (.refl s)
  have haxes : KeepsPort s (forEach 16 (fun a u => State.writeAxisImage u a) (forEach 48 (fun e u => State.writeExhibitImage u e) s)) :=
    forEach_invariant (KeepsPort s) _ (fun a t h => h.trans (State.writeAxisImage_quiet t a).keepsPort) _ hexhibits
  unfold State.writeAllImages
  simp only
  refine haxes.trans (State.writeWords_keepsPort _ _ _ ?_ (.inr (by decide)))
  rw [State.alertImage_length]
  decide

theorem State.rewriteAlertImage_keepsPort (s : State) : KeepsPort s s.rewriteAlertImage :=
  ⟨rfl, rfl, rfl, s.rewriteAlertImage_wf, fun k hk => s.rewriteAlertImage_word _
    ⟨by simp only [addrNoticeBox, addrImageSeq]; omega, .inl (by simp only [addrNoticeBox, addrAlertImage]; omega)⟩⟩

/-- What a part reset leaves of the exchange RAM. -/
theorem State.partReset_ram (s : State) :
    (Memory.wf s.ram = true → Memory.wf s.partReset.ram = true) ∧
      ∀ k < 16, s.partReset.word (addrNoticeBox + k) = s.word (addrNoticeBox + k) := by
  unfold State.partReset
  generalize hu : ({ s.resetAll with
      ram := s.ram, clearing := none, stations := tmap (fun _ x => x.resetKeeping) s.stations
      cadence := { Cadence.reset with frame := s.cadence.frame } } : State) = u
  have hram : u.ram = s.ram := by rw [← hu]
  have h := (State.writeWords_keepsPort u addrDeckState [0, 0, 0] (by decide) (.inl (by decide))).trans (State.writeAllImages_keepsPort _)
  refine ⟨fun hw => h.wf (by rw [hram]; exact hw), fun k hk => (h.box k hk).trans ?_⟩
  unfold State.word
  rw [hram]

/-! ### The answer to an order -/

theorem State.advanceWalk_pending (s : State) : s.advanceWalk.pending = s.pending := by
  unfold State.advanceWalk; simp only; split <;> rfl

theorem State.advanceWalk_part (s : State) : s.advanceWalk.part = s.part := by
  unfold State.advanceWalk; simp only; split <;> rfl

theorem State.advanceWalk_box (s : State) (k : Nat) : s.advanceWalk.word (addrNoticeBox + k) = s.word (addrNoticeBox + k) := by
  unfold State.advanceWalk
  simp only
  split
  · rfl
  · exact State.word_writeWords_out _ _ _ _ (.inr (by simp only [addrDeckState, addrNoticeBox, List.length_singleton]; omega))

theorem State.writeResult_box (s : State) (code : Nat) (r : Result) (d : Nat) {k : Nat} (hk : k < 16) :
    (s.writeResult code r d).word (addrNoticeBox + k) = s.word (addrNoticeBox + k) := by
  rw [State.writeResult_word, if_neg (by simp only [addrNoticeBox, addrCell]; omega), if_neg (by simp only [addrNoticeBox, addrCell]; omega)]

theorem State.RamLaw.answer {s : State} (h : s.RamLaw) (hd : s.deck.state = .running) (code : Nat) (r : Result) (d : Nat) :
    (s.writeResult code r d).advanceWalk.RamLaw := by
  obtain ⟨hwf, hcount, hpos⟩ := h
  have hlt := hpos hd
  have hres : Memory.wf (s.writeResult code r d).ram = true :=
    State.writeWords_wf _ _ _ (State.writeWords_wf s _ _ hwf (by simp only [addrCell, List.length_singleton]; omega))
      (by simp only [addrCell, List.length_singleton]; omega)
  by_cases hlast : s.deck.position + 1 < s.deck.count
  · rw [State.advanceWalk_on (s.writeResult code r d) hlast]
    exact ⟨hres, hcount, fun _ => hlast⟩
  · rw [State.advanceWalk_done (s.writeResult code r d) (Nat.le_of_not_lt hlast)]
    exact ⟨State.writeWords_wf (s.writeResult code r d) addrDeckState [2] hres (by decide), hcount, fun h => by simp at h⟩

/-! ### Notices -/

theorem State.noticeWords_length (s : State) (src : SourceNo) : (s.noticeWords src).length = 16 := by
  unfold State.noticeWords
  split <;> rfl

theorem State.clearSource_ram (s : State) (src : SourceNo) :
    (s.clearSource src).ram = s.ram ∧ (s.clearSource src).deck = s.deck ∧ (s.clearSource src).part = s.part ∧
      (s.clearSource src).pending = s.pending := by
  unfold State.clearSource
  split <;> exact ⟨rfl, rfl, rfl, rfl⟩

/-! ### Every command -/

namespace Does

variable {s t : State} {c : Instr}

theorem pending (h : Does s c t) : t.pending = s.pending := by
  cases h with
  | acts k => exact k.keepsPort.pending
  | steps k => exact k.keepsPort.pending
  | answers k hdeck code r d => exact (State.advanceWalk_pending _).trans k.keepsPort.pending
  | clearsCold k hp hdeck code r d => exact (State.advanceWalk_pending _).trans k.keepsPort.pending
  | deckCtl v =>
    unfold State.deckCtlWrite
    simp only
    split
    · rfl
    · split <;> rfl
  | nbState v =>
    unfold State.nbStateWrite
    split
    · rfl
    · split <;> rfl
  | writes both a v => rfl
  | fills src _ => exact (State.clearSource_ram _ src).2.2.2
  | ages _ => rfl
  | endsClearing => exact (State.writeAllImages_keepsPort _).pending
  | partResets v hc => unfold State.partReset; exact (State.writeAllImages_keepsPort _).pending
  | powersOn => rfl

theorem part (h : Does s c t) : t.part = s.part ∨ (c = .clearCold ∧ s.part = .cold) ∨
    (t.part = .cold ∧ (c = .powerOnReset ∨ ∃ v, c = .partReset v ∨ (c = .interruptMaskWrite v ∧ bit v 15 = true))) := by
  cases h with
  | acts k => exact .inl k.keepsPort.part
  | steps k => exact .inl k.keepsPort.part
  | answers k hdeck code r d => exact .inl ((State.advanceWalk_part _).trans k.keepsPort.part)
  | clearsCold k hp hdeck code r d => exact .inr (.inl ⟨rfl, hp⟩)
  | deckCtl v =>
    unfold State.deckCtlWrite
    simp only
    split
    · exact .inl rfl
    · split <;> exact .inl rfl
  | nbState v =>
    unfold State.nbStateWrite
    split
    · exact .inl rfl
    · split <;> exact .inl rfl
  | writes both a v => exact .inl rfl
  | fills src _ => exact .inl (State.clearSource_ram _ src).2.2.1
  | ages _ => exact .inl rfl
  | endsClearing => exact .inl (State.writeAllImages_keepsPort _).part
  | partResets v hc => exact .inr (.inr ⟨by unfold State.partReset; exact (State.writeAllImages_keepsPort _).part, .inr ⟨v, hc⟩⟩)
  | powersOn => exact .inr (.inr ⟨rfl, .inl rfl⟩)

theorem box (h : Does s c t) (hreset : c ≠ .powerOnReset) (hclear : c ≠ .ramClearingEnd)
    (hwrite : ∀ both a v, c ≠ .exchangeRamWrite both a v) (hfill : c = .noticeFill → s.notice.full = true) {k : Nat} (hk : k < 16) :
    t.word (addrNoticeBox + k) = s.word (addrNoticeBox + k) := by
  have hout : ∀ (u : State) (a : Nat) (w : Word), a < 16 → (u.writeWords a [w]).word (addrNoticeBox + k) = u.word (addrNoticeBox + k) :=
    fun u a w ha => State.word_writeWords_out _ _ _ _ (.inr (by simp only [addrNoticeBox, List.length_singleton]; omega))
  cases h with
  | acts h => exact h.keepsPort.box k hk
  | steps h => exact h.keepsPort.box k hk
  | answers h hdeck code r d => rw [State.advanceWalk_box, State.writeResult_box _ _ _ _ hk, h.keepsPort.box k hk]
  | clearsCold h hp hdeck code r d => rw [State.advanceWalk_box, State.writeResult_box _ _ _ _ hk, h.keepsPort.box k hk]; rfl
  | deckCtl v =>
    unfold State.deckCtlWrite
    simp only
    split
    · rfl
    · split
      · exact hout s addrDeckCtl v (by decide)
      · exact (hout _ addrDeckState 1 (by decide)).trans (hout s addrDeckCtl v (by decide))
  | nbState v =>
    unfold State.nbStateWrite
    split
    · rfl
    · split
      · exact hout s addrNbState 0 (by decide)
      · exact hout s addrNbState _ (by decide)
  | writes both a v => exact absurd rfl (hwrite _ _ _)
  | fills src hf => rw [hfill rfl] at hf; exact absurd hf (by simp)
  | ages _ => exact (State.rewriteAlertImage_keepsPort _).box k hk
  | endsClearing => exact absurd rfl hclear
  | partResets v hc => exact s.partReset_ram.2 k hk
  | powersOn => exact absurd rfl hreset

theorem ramLaw (h : Does s c t) (hs : s.RamLaw) : t.RamLaw := by
  have hkeep : ∀ {u v : State}, KeepsPort u v → u.RamLaw → v.RamLaw := fun {u v} k hu => by
    obtain ⟨hwf, hdeck⟩ := hu
    refine ⟨k.wf hwf, ?_⟩
    rw [k.deck]
    exact hdeck
  obtain ⟨hwf, hcount, hpos⟩ := id hs
  cases h with
  | acts k => exact hkeep k.keepsPort hs
  | steps k => exact hkeep k.keepsPort hs
  | answers k hdeck code r d => exact (hkeep k.keepsPort hs).answer (by rw [k.keepsPort.deck, hdeck]) code r d
  | clearsCold k hp hdeck code r d =>
    exact (hkeep k.keepsPort (show s.setRun.RamLaw from hs)).answer (by rw [k.keepsPort.deck]; exact hdeck) code r d
  | deckCtl v =>
    have hctl : Memory.wf (s.writeWords addrDeckCtl [v]).ram = true := State.writeWords_wf s _ _ hwf (by decide : addrDeckCtl + 1 ≤ 16384)
    unfold State.deckCtlWrite
    simp only
    split
    · exact hs
    · split
      · exact ⟨hctl, hcount, hpos⟩
      · next h =>
        refine ⟨State.writeWords_wf (State.setDeck (s.writeWords addrDeckCtl [v]) _) addrDeckState [1] hctl (by decide), ?_, fun _ => ?_⟩
        · show v.toNat ≤ 64
          omega
        · show 0 < v.toNat
          omega
  | nbState v =>
    unfold State.nbStateWrite
    split
    · exact hs
    · split
      · exact ⟨State.writeWords_wf s _ _ hwf (by decide : addrNbState + 1 ≤ 16384), hcount, hpos⟩
      · exact ⟨State.writeWords_wf s _ _ hwf (by decide : addrNbState + 1 ≤ 16384), hcount, hpos⟩
  | writes both a v =>
    exact ⟨State.writeWords_wf s _ _ hwf (by have := a.isLt; simp only [List.length_singleton]; omega), hcount, hpos⟩
  | fills src _ =>
    obtain ⟨hram, hdeck, -⟩ := State.clearSource_ram (s.writeWords addrNoticeBox (s.noticeWords src)) src
    have hbox : Memory.wf (s.writeWords addrNoticeBox (s.noticeWords src)).ram = true :=
      State.writeWords_wf s _ _ hwf (by rw [State.noticeWords_length]; decide)
    rw [← hram] at hbox
    unfold State.fillFrom
    simp only
    generalize (s.writeWords addrNoticeBox (s.noticeWords src)).clearSource src = u at hbox hdeck ⊢
    refine ⟨State.writeWords_wf (u.setNotice _) addrNbState [1] hbox (by decide), ?_⟩
    show u.deck.count ≤ 64 ∧ (u.deck.state = .running → u.deck.position < u.deck.count)
    rw [hdeck]
    exact ⟨hcount, hpos⟩
  | ages _ => exact hkeep (State.rewriteAlertImage_keepsPort _) hs
  | endsClearing =>
    exact hkeep (State.writeAllImages_keepsPort _) (show State.RamLaw { s with ram := [], clearing := none } from ⟨rfl, hcount, hpos⟩)
  | partResets v hc =>
    refine ⟨s.partReset_ram.1 hwf, ?_⟩
    have hdeck : s.partReset.deck = .reset := by unfold State.partReset; exact (State.writeAllImages_keepsPort _).deck
    rw [hdeck]
    exact ⟨by decide, by decide⟩
  | powersOn => exact ⟨rfl, Nat.zero_le _, fun h => nomatch h⟩

end Does

theorem State.tick_port (s : State) : s.tick.ram = s.ram ∧ s.tick.deck = s.deck := by
  unfold State.tick
  simp only
  split <;> exact ⟨rfl, rfl⟩

/-! ### The statements -/

/-- Settles O1: the definition of a step at a queue that is not empty. -/
theorem stepTakesFront : Obligations.StepTakesFront := by
  unfold Obligations.StepTakesFront
  intro c rest s hq
  unfold step
  rw [hq]
  rfl

/-- Settles O3: every row answers, and neither its acts nor the port touch the queue. -/
theorem commandsKeepQueue : Obligations.CommandsKeepQueue := by
  unfold Obligations.CommandsKeepQueue
  intro c s
  obtain ⟨t, ht, hd⟩ := exec_does c s
  exact ⟨t, ht, hd.pending⟩

/-- Settles O4: the part state is written by CLEAR COLD and by the resets alone. -/
theorem partStateChanges : Obligations.PartStateChanges := by
  unfold Obligations.PartStateChanges
  intro c s t hwf h
  obtain hp | ⟨rfl, hp⟩ | ⟨hp, hc⟩ := (does_of_exec h).part
  · exact ⟨fun hr hc => by simp [hp, hr] at hc, fun hc hr => by simp [hp, hc] at hr⟩
  · exact ⟨fun hr => by simp [hp] at hr, fun _ _ => rfl⟩
  · refine ⟨fun _ _ => ?_, fun _ hr => by simp [hp] at hr⟩
    obtain hc | ⟨v, hc | ⟨rfl, hb⟩⟩ := hc
    · exact .inl hc
    · exact .inr ⟨v, hc⟩
    · simp [Instr.wellFormed, commandsPartReset] at hwf
      simp [bit, hwf] at hb

/-- Settles O5: no act of the blocks and no answer writes the 16 words of the box. -/
theorem fullBoxKept : Obligations.FullBoxKept := by
  unfold Obligations.FullBoxKept
  intro c s t h hreset hclear hwrite hfill k hk
  exact (does_of_exec h).box hreset hclear hwrite hfill hk

/-- Settles O7: every write stays within the 16,384 words, and the walk within the count of its DECK_CTL. -/
theorem ramLawKept : Obligations.RamLawKept := by
  unfold Obligations.RamLawKept
  intro s t hs h
  obtain rfl | ⟨c, rest, hd⟩ := step_cases h
  · obtain ⟨hram, hdeck⟩ := s.tick_port
    unfold State.RamLaw
    rw [hram, hdeck]
    exact hs
  · exact hd.ramLaw hs

end Sys2Proof.Machine
end

section
/-! The laws of exhibits, slots and alerts through every act (R7, R45, R137, R155, R177, R185). -/

namespace Sys2Proof.Machine

/-! ### Reading exhibits and slots after an act -/

theorem State.exhibit_putExhibit_ite (s : State) (e f : ExhibitNo) (x : Exhibit) :
    (s.putExhibit e x).exhibit f = if e = f then x else s.exhibit f := by
  rw [State.putExhibit_form]; exact tget_tset _ _ _ _

theorem State.slot_putSlot_ite (s : State) (e f : ExhibitNo) (x : Slot) :
    (s.putSlot e x).slot f = if e = f then x else s.slot f := by
  rw [State.putSlot_form]; exact tget_tset _ _ _ _

theorem State.slot_endShow_ite (s : State) (e f : ExhibitNo) :
    (s.endShow e).slot f = if e = f then (s.slot e).emptied else s.slot f := by
  rw [State.endShow_form]; exact tget_tset _ _ _ _

/-- What the laws of exhibits and slots read. -/
structure SameShows (s t : State) : Prop where
  state : ∀ e, (t.exhibit e).state = (s.exhibit e).state
  slot : ∀ e, (t.slot e).current.isSome = (s.slot e).current.isSome

theorem Quiet.sameShows {s t : State} (q : Quiet s t) : SameShows s t := ⟨q.keepsShows.state, q.keepsShows.slot⟩

/-! ### Slots (R45) -/

/-- The slot law by the states that run a show. -/
theorem State.slotLaw_iff (s : State) : s.SlotLaw ↔ ∀ e, (s.slot e).current.isSome = (s.exhibit e).state.runsShow := by
  refine forall_congr' fun e => ?_
  cases (s.slot e).current.isSome <;> cases (s.exhibit e).state <;> simp [ExhibitState.runsShow]

theorem State.SlotLaw.same {s t : State} (h : SameShows s t) (hs : s.SlotLaw) : t.SlotLaw := by
  rw [State.slotLaw_iff] at hs ⊢
  intro e
  rw [h.slot, h.state, hs e]

theorem Alike.sameShows {s t : State} (h : Alike s t) : SameShows s t := ⟨fun e => (h.exhibit e).state, h.slot⟩

theorem State.SlotLaw.acts {s t : State} (k : Acts s t) (hs : s.SlotLaw) : t.SlotLaw := by
  induction k with
  | quiet q => exact hs.same q.sameShows
  | @enters s e st hoff hhalt h =>
    rw [State.slotLaw_iff] at hs ⊢
    intro f
    rw [State.slot_enterState, State.exhibit_enterState_ite]
    split
    · next hef =>
      subst hef
      obtain ⟨hst, -⟩ | ⟨hst, hsome⟩ := h
      · rw [hs e]; exact hst.symm
      · rw [hsome]; exact hst.symm
    · exact hs f
  | @starts s e address h hstop =>
    rw [State.slotLaw_iff] at hs ⊢
    intro f
    rw [State.slot_enterState, State.exhibit_enterState_ite, State.slot_putSlot_ite]
    split
    · rfl
    · rw [State.exhibit_putSlot]; exact hs f
  | @ends s t e st h hshow hoff hhalt q =>
    rw [State.slotLaw_iff] at hs ⊢
    intro f
    rw [State.slot_enterState, State.exhibit_enterState_ite, q.keepsShows.slot, State.slot_endShow_ite]
    split
    · exact hshow.symm
    · rw [q.keepsShows.state, State.exhibit_endShow]; exact hs f
  | @repeats s t e address h q =>
    rw [State.slotLaw_iff] at hs ⊢
    intro f
    rw [State.exhibit_putSlot, q.keepsShows.state, State.exhibit_endShow, State.slot_putSlot_ite]
    split
    · next hef =>
      subst hef
      obtain h | h := h
      · exact h.symm
      · rw [← hs e, h]; rfl
    · next hef => rw [q.keepsShows.slot, State.slot_endShow_ite, if_neg hef]; exact hs f
  | @occupies s e x h hx =>
    rw [State.slotLaw_iff] at hs ⊢
    intro f
    rw [State.exhibit_putSlot, State.slot_putSlot_ite]
    split
    · next hef => subst hef; rw [hx, h]
    · exact hs f
  | @configuresOn s e c guardOpen h hp haxis hlamp =>
    rw [State.slotLaw_iff] at hs ⊢
    intro f
    rw [State.slot_putExhibit, State.exhibit_putExhibit_ite]
    split
    · next hef =>
      subst hef
      rw [hs e]
      show _ = (if (s.exhibit e).state = .off then ExhibitState.ready else (s.exhibit e).state).runsShow
      split
      · next ho => rw [ho]; rfl
      · rfl
    · exact hs f
  | @configuresOff s e h hp =>
    rw [State.slotLaw_iff] at hs ⊢
    intro f
    rw [State.slot_putExhibit, State.exhibit_putExhibit_ite]
    split
    · next hef =>
      subst hef
      rw [hs e]
      show (s.exhibit e).state.runsShow = false
      revert h
      cases (s.exhibit e).state <;> simp [ExhibitState.takesConfigure, ExhibitState.runsShow]
    · exact hs f
  | @stops s t h hrest ih => exact ih (hs.same ⟨fun _ => rfl, fun _ => rfl⟩)
  | trans h k ih ik => exact ik (ih hs)

theorem slotLaw_kept : StateLaw State.SlotLaw where
  alike h hs := hs.same h.sameShows
  acts k hs := hs.acts k
  reset := by
    rw [State.slotLaw_iff]
    intro e
    rw [State.slot_reset, State.exhibit_reset]
    rfl

/-! ### The encore flag (R7) -/

theorem State.encoreLaw_iff (s : State) : s.EncoreLaw ↔ ∀ e, (s.exhibit e).encore = true → (s.exhibit e).state.keepsEncore = true := by
  refine forall_congr' fun e => ?_
  cases (s.exhibit e).state <;> simp [ExhibitState.keepsEncore]

theorem State.EncoreLaw.same {s t : State} (hs : s.EncoreLaw) (he : ∀ e, t.exhibit e = s.exhibit e) : t.EncoreLaw := by
  unfold State.EncoreLaw
  simp only [he]
  exact hs

theorem State.EncoreLaw.alike {s t : State} (h : Alike s t) (hs : s.EncoreLaw) : t.EncoreLaw := by
  rw [State.encoreLaw_iff] at hs ⊢
  intro e henc
  rw [(h.exhibit e).state]
  obtain h | h := (h.exhibit e).encore henc
  · exact hs e h
  · exact h

theorem State.EncoreLaw.quiet {s t : State} (q : Quiet s t) (hs : s.EncoreLaw) : t.EncoreLaw := by
  induction q with
  | alike h k _ => exact hs.alike h
  | axis h ht only => exact hs.same only.exhibit
  | @completes s a kind h => exact hs.same (State.completeMotion_only s a kind).exhibit
  | alert h => exact hs.same fun e => by rw [h.act.1]; rfl
  | disturbs a h => exact hs.same fun e => by rw [State.disturb_form]; rfl
  | beacon e ch x h => exact hs.same fun _ => rfl
  | stations h hp => exact hs.same fun e => by rw [State.takeStationTable_form]; rfl
  | trans h k ih ik => exact ik (ih hs)

theorem State.EncoreLaw.enterState {s : State} (hs : s.EncoreLaw) (e : ExhibitNo) (st : ExhibitState) : (s.enterState e st).EncoreLaw := by
  rw [State.encoreLaw_iff] at hs ⊢
  intro f
  rw [State.exhibit_enterState_ite]
  split
  · intro h
    exact (Bool.and_eq_true _ _ ▸ (show ((s.exhibit e).encore && st.keepsEncore) = true from h)).2
  · exact hs f

theorem State.EncoreLaw.acts {s t : State} (k : Acts s t) (hs : s.EncoreLaw) : t.EncoreLaw := by
  induction k with
  | quiet q => exact hs.quiet q
  | enters e st => exact hs.enterState e st
  | @starts s e address h hstop => exact State.EncoreLaw.enterState (hs.same fun f => State.exhibit_putSlot s e f _) e .running
  | @ends s t e st _ _ _ _ q => exact State.EncoreLaw.enterState (State.EncoreLaw.quiet q (hs.same (State.exhibit_endShow s e))) e st
  | @repeats s t e address h q =>
    exact State.EncoreLaw.same (State.EncoreLaw.quiet q (hs.same (State.exhibit_endShow s e))) fun f => State.exhibit_putSlot t e f _
  | @occupies s e x h hx => exact hs.same fun f => State.exhibit_putSlot s e f x
  | @configuresOn s e c guardOpen h hp haxis hlamp =>
    rw [State.encoreLaw_iff] at hs ⊢
    intro f
    rw [State.exhibit_putExhibit_ite]
    split
    · intro henc
      have := hs e henc
      revert h
      cases hst : (s.exhibit e).state <;> simp [hst, ExhibitState.takesConfigure, ExhibitState.keepsEncore] at this ⊢
    · exact hs f
  | @configuresOff s e h hp =>
    rw [State.encoreLaw_iff] at hs ⊢
    intro f
    rw [State.exhibit_putExhibit_ite]
    split
    · intro henc
      simp [Exhibit.configuredOff, Exhibit.entering, ExhibitState.keepsEncore] at henc
    · exact hs f
  | @stops s t h hrest ih => exact ih (hs.same fun _ => rfl)
  | trans h k ih ik => exact ik (ih hs)

theorem encoreLaw_kept : StateLaw State.EncoreLaw where
  alike h hs := hs.alike h
  acts k hs := hs.acts k
  reset := by
    intro e
    rw [State.exhibit_reset]
    intro h
    simp [Exhibit.reset] at h

/-! ### COLD (R126, R154, R177, R185) -/

/-- An OFF axis makes no move but on CONFIGURE AXIS, in RUN, and nothing is granted with the list empty. -/
theorem Move.not_cold {s : State} {a : AxisNo} {y : Axis} {p : Pool} (hm : Move s a y p) (hcold : s.part = .cold) (hs : s.ColdLaw) : False := by
  obtain ⟨hshow, haxis, hwait, -, -⟩ := hs hcold
  have hmove : ¬ s.MayMove := by
    rintro (⟨-, hr⟩ | ⟨e, hr | hr⟩)
    · simp [hcold] at hr
    · simp [(hshow e).1, ExhibitState.runsShow] at hr
    · simp [(hshow e).2] at hr
  have hoff := haxis a
  cases hm with
  | configures h hst hp => simp [hcold] at hp
  | joins r h hr => exact hmove h
  | starts r h hr => exact hmove h
  | isGranted w rest hw => simp [hwait] at hw
  | quickStops h => simp [hoff, AxisState.drives] at h
  | faults _ h => simp [hoff, AxisState.drives] at h
  | resyncs h => simp [hoff, AxisState.disturbable] at h
  | isDisplaced h => simp [hoff, AxisState.disturbable] at h
  | slows _ h | pends _ h | replaces _ _ h | retargets _ _ h | advances _ h | brakes _ _ h | restarts _ _ h | losesHome h
    | recovers h | arrives _ h | leaves h | leavesUnhomed h => simp [hoff] at h

/-- The alert manager does nothing in COLD (R177). -/
theorem AlertStep.eq_of_cold {s t : State} (h : AlertStep s t) (hcold : s.part = .cold) (halerts : s.alerts = []) : t = s := by
  cases h with
  | raised src cause code severity => unfold State.raise State.raiseCase; rw [if_pos hcold]
  | removed p => unfold State.removeAlerts; rw [halerts]; rfl
  | acknowledged x hx => simp [halerts] at hx
  | escalated x hx => simp [halerts] at hx

theorem State.ColdLaw.alike {s t : State} (h : Alike s t) (hs : s.ColdLaw) : t.ColdLaw := by
  intro ht
  obtain ⟨hshow, haxis, hwait, halerts, hdark⟩ := hs (h.part ht)
  obtain ⟨f, hf, -⟩ := h.alerts
  refine ⟨fun e => ⟨by rw [(h.exhibit e).state, (hshow e).1], ?_⟩, fun a => by rw [(h.axis a).state, haxis a], by rw [h.pool, hwait],
    by rw [hf, halerts]; rfl, fun ch => h.dark (h.part ht) hshow ch (hdark ch)⟩
  have := h.slot e
  rw [(hshow e).2] at this
  simpa using this

theorem State.ColdLaw.quiet {s t : State} (q : Quiet s t) (hs : s.ColdLaw) : t.ColdLaw := by
  induction q with
  | alike h k _ => exact hs.alike h
  | axis h ht only =>
    intro hc
    exact (h.not_cold (only.part ▸ hc) hs).elim
  | @completes s a kind h =>
    intro hc
    have := (hs ((State.completeMotion_only s a kind).part ▸ hc)).2.1 a
    obtain h | h := h <;> simp [this] at h
  | @alert s t h =>
    intro hc
    have hcold : s.part = .cold := h.keepsPort.part ▸ hc
    rw [h.eq_of_cold hcold (hs hcold).2.2.2.1]
    exact hs hcold
  | @disturbs s a h =>
    intro hc
    rw [State.disturb_form] at hc
    simp [(hs hc).2.1 a, AxisState.disturbable] at h
  | @beacon s e ch x h =>
    intro hc
    obtain ⟨c, hin, -⟩ := h
    exact absurd ((hs hc).1 e).1 (Exhibit.inForce_some hin).1
  | @stations s h hp =>
    intro hc
    rw [State.takeStationTable_form] at hc
    simp [hp] at hc
  | trans h k ih ik => exact ik (ih hs)

theorem State.ColdLaw.not_hasShow {s : State} (hs : s.ColdLaw) {e : ExhibitNo} (h : s.HasShow e) : s.part ≠ .cold := fun hc => by
  obtain ⟨hoff, hslot⟩ := (hs hc).1 e
  obtain h | h := h
  · exact h hoff
  · simp [hslot] at h

/-- Outside COLD the law says nothing. -/
theorem State.ColdLaw.of_run {s t : State} (hp : s.part ≠ .cold) (h : KeepsPort s t) : t.ColdLaw := fun hc => absurd (h.part ▸ hc) hp

theorem State.ColdLaw.acts {s t : State} (k : Acts s t) (hs : s.ColdLaw) : t.ColdLaw := by
  induction k with
  | quiet q => exact hs.quiet q
  | @enters s e st hoff hhalt h =>
    exact .of_run (hs.not_hasShow (h.imp (·.2) (·.2))) (State.enterState_keepsPort s e st)
  | @starts s e address h hstop =>
    refine .of_run (hs.not_hasShow (e := e) (.inl fun ho => ?_)) (Acts.starts e address h hstop).keepsPort
    simp [ho, ExhibitState.startable] at h
  | @ends s t e st h hshow hoff hhalt q => exact .of_run (hs.not_hasShow h) (Acts.ends e st h hshow hoff hhalt q).keepsPort
  | @repeats s t e address h q => exact .of_run (hs.not_hasShow h.hasShow) (Acts.repeats e address h q).keepsPort
  | @occupies s e x h hx => exact .of_run (hs.not_hasShow (State.Runs.hasShow (.inl h))) (State.putSlot_keepsPort s e x)
  | @configuresOn s e c guardOpen h hp haxis hlamp => exact .of_run (by simp [hp]) (State.putExhibit_keepsPort s e _)
  | @configuresOff s e h hp => exact .of_run (by simp [hp]) (State.putExhibit_keepsPort s e _)
  | @stops s t h hrest ih => exact ih hs
  | trans h k ih ik => exact ik (ih hs)

theorem coldLaw_kept : StateLaw State.ColdLaw where
  alike h hs := hs.alike h
  acts k hs := hs.acts k
  reset := fun _ => ⟨fun e => by rw [State.exhibit_reset, State.slot_reset]; exact ⟨rfl, rfl⟩, fun a => by rw [State.axis_reset]; rfl, rfl, rfl,
    fun ch => by rw [State.channel_reset]; exact ⟨rfl, rfl, rfl, rfl, rfl⟩⟩

/-! ### The gallery stop (R137) -/

/-- What the gallery stop needs beside it: slots and waits as R45 and R117 say. -/
abbrev State.StopLaws (s : State) : Prop := s.SlotLaw ∧ s.WaitLaw ∧ s.StopLaw

theorem State.StopLaws.not_mayMove {s : State} (hs : s.StopLaws) (hstop : s.stopInForce = true) : ¬ s.MayMove := by
  obtain ⟨hslot, -, hlaw⟩ := hs
  obtain ⟨-, -, hshow⟩ := hlaw hstop
  have hnot : ∀ e, (s.exhibit e).state.runsShow = false := fun e => by
    obtain ⟨h1, h2, h3, -⟩ := hshow e
    revert h1 h2 h3
    cases (s.exhibit e).state <;> simp [ExhibitState.runsShow]
  rintro (⟨hr, -⟩ | ⟨e, hr | hr⟩)
  · simp [hstop] at hr
  · simp [hnot e] at hr
  · rw [(State.slotLaw_iff s).1 hslot e, hnot e] at hr
    simp at hr

/-- Under the gallery stop no axis sets out. -/
theorem Move.at_rest {s : State} {a : AxisNo} {y : Axis} {p : Pool} (hm : Move s a y p) (hs : s.StopLaws) (hstop : s.stopInForce = true) :
    y.state.busy = false ∧ p.waiting = [] := by
  have hmove := hs.not_mayMove hstop
  obtain ⟨hrest, hwait, -⟩ := hs.2.2 hstop
  have hb := hrest a
  have hleft : (s.pool.left a).waiting = [] := by simp [Pool.left, hwait]
  cases hm with
  | configures h hst hp =>
    refine ⟨?_, hwait⟩
    revert hst
    cases h : (s.axis a).state <;> simp [AxisState.takesConfigure, Axis.configured, h, AxisState.busy]
  | joins r h hr => exact absurd h hmove
  | starts r h hr => exact absurd h hmove
  | isGranted w rest hw => simp [hwait] at hw
  | quickStops h => revert h hb; cases (s.axis a).state <;> simp [AxisState.drives, AxisState.busy]
  | faults _ h => revert h hb; cases (s.axis a).state <;> simp [AxisState.drives, AxisState.busy]
  | resyncs h => exact ⟨hb, hwait⟩
  | isDisplaced h => exact ⟨rfl, hleft⟩
  | losesHome h => exact ⟨rfl, hwait⟩
  | recovers h => exact ⟨rfl, hwait⟩
  | slows _ h | pends _ h | replaces _ _ h | retargets _ _ h | advances _ h | brakes _ _ h | restarts _ _ h | arrives _ h | leaves h
    | leavesUnhomed h => simp [h, AxisState.busy] at hb

theorem State.StopLaw.of_same {s t : State} (hs : s.StopLaw) (hstop : t.stopInForce = true → s.stopInForce = true)
    (ha : ∀ a, (t.axis a).state = (s.axis a).state) (hp : t.pool = s.pool) (he : ∀ e, (t.exhibit e).state = (s.exhibit e).state) :
    t.StopLaw := by
  intro ht
  rw [hp]
  simp only [ha, he]
  exact hs (hstop ht)

theorem State.StopLaw.quiet {s t : State} (q : Quiet s t) (hs : s.StopLaws) : t.StopLaw := by
  induction q with
  | alike h k => exact hs.2.2.of_same h.stop (fun a => (h.axis a).state) h.pool fun e => (h.exhibit e).state
  | @axis s t a y p h ht only =>
    intro hstop
    rw [only.stopInForce] at hstop
    obtain ⟨hrest, hwait, hshow⟩ := hs.2.2 hstop
    obtain ⟨hy, hp⟩ := h.at_rest hs hstop
    obtain ⟨stale, hax⟩ := ht.axis
    refine ⟨fun b => ?_, by rw [ht.pool, hp], fun e => by rw [only.exhibit]; exact hshow e⟩
    rw [hax]
    split
    · exact hy
    · exact hrest b
  | @completes s a kind h =>
    intro hstop
    rw [(State.completeMotion_only s a kind).stopInForce] at hstop
    have := (hs.2.2 hstop).1 a
    obtain h | h := h <;> simp [h, AxisState.busy] at this
  | alert h =>
    exact hs.2.2.of_same (fun ht => by rw [h.act.1] at ht; exact ht) (fun a => by rw [h.act.1]; rfl) (by rw [h.act.1]) fun e => by rw [h.act.1]; rfl
  | @disturbs s a h =>
    obtain ⟨y, p, hm, ht⟩ := State.disturb_move s a h
    intro hstop
    rw [State.disturb_form] at hstop
    obtain ⟨hrest, hwait, hshow⟩ := hs.2.2 hstop
    obtain ⟨hy, hp⟩ := hm.at_rest hs hstop
    obtain ⟨stale, hax⟩ := ht.axis
    refine ⟨fun b => ?_, by rw [ht.pool, hp], fun e => by rw [State.disturb_form]; exact hshow e⟩
    rw [hax]
    split
    · exact hy
    · exact hrest b
  | beacon e ch x h => exact hs.2.2
  | stations h hp =>
    exact hs.2.2.of_same (fun ht => by rw [State.takeStationTable_form] at ht; exact ht) (fun a => by rw [State.takeStationTable_form]; rfl)
      (by rw [State.takeStationTable_form]) fun e => by rw [State.takeStationTable_form]; rfl
  | @trans s t u h k ih ik => exact ik ⟨hs.1.same h.sameShows, waitLaw_kept.quiet h hs.2.1, ih hs⟩

/-- An exhibit enters a state without a show under the gallery stop, or the stop is not in force. -/
theorem State.StopLaw.enterState {s : State} (hs : s.StopLaw) (e : ExhibitNo) (st : ExhibitState)
    (h : s.stopInForce = true → st.runsShow = false ∧ st ≠ .halting) : (s.enterState e st).StopLaw := by
  intro hstop
  rw [State.enterState_form] at hstop
  obtain ⟨hrest, hwait, hshow⟩ := hs hstop
  refine ⟨fun a => by rw [State.enterState_form]; exact hrest a, by rw [State.enterState_form]; exact hwait, fun f => ?_⟩
  rw [State.exhibit_enterState_ite]
  split
  · obtain ⟨hst, hne⟩ := h hstop
    show st ≠ .running ∧ st ≠ .suspended ∧ st ≠ .guarded ∧ st ≠ .halting
    revert hst hne
    cases st <;> simp [ExhibitState.runsShow]
  · exact hshow f

theorem State.StopLaws.not_runs {s : State} (hs : s.StopLaws) (hstop : s.stopInForce = true) (e : ExhibitNo) : ¬ s.Runs e := fun h =>
  hs.not_mayMove hstop (.inr ⟨e, h⟩)

theorem State.StopLaw.endShow {s : State} (hs : s.StopLaw) (e : ExhibitNo) : (s.endShow e).StopLaw :=
  hs.of_same (fun h => by rw [State.endShow_form] at h; exact h) (fun a => by rw [State.endShow_form]; rfl) (by rw [State.endShow_form])
    fun f => by rw [State.exhibit_endShow]

/-- Under the stop a show that ends has ended before: no exhibit runs one. -/
theorem State.StopLaws.endShow_slot {s : State} (hs : s.StopLaws) (hstop : s.stopInForce = true) (e : ExhibitNo) : (s.endShow e).SlotLaw := by
  have hslot := (State.slotLaw_iff s).1 hs.1
  rw [State.slotLaw_iff]
  intro f
  rw [State.exhibit_endShow, State.slot_endShow_ite]
  split
  · next hef =>
    subst hef
    have := hs.not_runs hstop e
    simp only [State.Runs, not_or, Bool.not_eq_true] at this
    rw [this.1]; rfl
  · exact hslot f

theorem State.StopLaw.of_not_stopped {t : State} (h : t.stopInForce = false) : t.StopLaw := fun hs => by simp [h] at hs

theorem State.StopLaw.acts {s t : State} (k : Acts s t) (hs : s.StopLaws) : t.StopLaws := by
  refine ⟨hs.1.acts k, waitLaw_kept.acts k hs.2.1, ?_⟩
  induction k with
  | quiet q => exact .quiet q hs
  | @enters s e st hoff hhalt h =>
    refine State.StopLaw.enterState hs.2.2 e st fun hstop => ⟨?_, hhalt⟩
    have hnot := hs.not_runs hstop e
    simp only [State.Runs, not_or, Bool.not_eq_true] at hnot
    obtain ⟨hst, -⟩ | ⟨-, hsome⟩ := h
    · rw [hst, hnot.1]
    · simp [hsome] at hnot
  | @starts s e address h hstop => exact .of_not_stopped (by rw [State.enterState_form, State.putSlot_form]; exact hstop)
  | @ends s t e st h hshow hoff hhalt q =>
    cases hstop : s.stopInForce with
    | false =>
      refine .of_not_stopped ?_
      rw [State.enterState_form]
      exact q.keepsShows.not_stopped (by rw [State.endShow_form]; exact hstop)
    | true =>
      have hend : (s.endShow e).StopLaws := ⟨hs.endShow_slot hstop e, waitLaw_kept.endShow s e hs.2.1, hs.2.2.endShow e⟩
      refine State.StopLaw.enterState (.quiet q hend) e st fun _ => ⟨hshow, fun hh => ?_⟩
      exact hs.not_runs hstop e (.inl (hhalt hh))
  | @repeats s t e address h q =>
    refine .of_not_stopped ?_
    rw [State.putSlot_form]
    refine q.keepsShows.not_stopped ?_
    rw [State.endShow_form]
    by_contra hstop
    exact hs.not_runs (by simpa using hstop) e h
  | @occupies s e x h hx =>
    exact hs.2.2.of_same (fun ht => by rw [State.putSlot_form] at ht; exact ht) (fun a => by rw [State.putSlot_form]; rfl)
      (by rw [State.putSlot_form]) fun f => by rw [State.exhibit_putSlot]
  | @configuresOn s e c guardOpen h hp haxis hlamp =>
    intro hstop
    rw [State.putExhibit_form] at hstop
    obtain ⟨hrest, hwait, hshow⟩ := hs.2.2 hstop
    refine ⟨fun a => by rw [State.putExhibit_form]; exact hrest a, by rw [State.putExhibit_form]; exact hwait, fun f => ?_⟩
    rw [State.exhibit_putExhibit_ite]
    split
    · revert h
      cases hst : (s.exhibit e).state <;> simp [hst, ExhibitState.takesConfigure, Exhibit.configuredOn]
    · exact hshow f
  | @configuresOff s e h hp =>
    intro hstop
    rw [State.putExhibit_form] at hstop
    obtain ⟨hrest, hwait, hshow⟩ := hs.2.2 hstop
    refine ⟨fun a => by rw [State.putExhibit_form]; exact hrest a, by rw [State.putExhibit_form]; exact hwait, fun f => ?_⟩
    rw [State.exhibit_putExhibit_ite]
    split
    · simp [Exhibit.configuredOff, Exhibit.entering]
    · exact hshow f
  | @stops s t h hrest ih => exact fun _ => hrest hs.2.1
  | @trans s t u h k ih ik => exact ik ⟨hs.1.acts h, waitLaw_kept.acts h hs.2.1, ih hs⟩

theorem State.waitLaw_reset : State.reset.WaitLaw := ⟨fun w hw => by simp [State.reset, Pool.reset] at hw, by simp [State.reset, Pool.reset]⟩

theorem stopLaws_kept : StateLaw State.StopLaws where
  alike h hs := ⟨hs.1.same h.sameShows, waitLaw_kept.alike h.pool h.axis hs.2.1,
    hs.2.2.of_same h.stop (fun a => (h.axis a).state) h.pool fun e => (h.exhibit e).state⟩
  acts k hs := State.StopLaw.acts k hs
  reset := ⟨slotLaw_kept.reset, State.waitLaw_reset, fun h => by simp [State.reset] at h⟩

end Sys2Proof.Machine
end

section
/-! The alert list and the bindings through every act (R3, R155), and the laws through every step (O8 to O15). -/

namespace Sys2Proof.Machine

/-! ### Laws of the tables that no axis belongs to -/

/-- A law of the exhibits, the slots, the list, the stations and the lamps. -/
structure TableLaw (L : State → Prop) : Prop where
  tables : ∀ {s t : State}, t.exhibits = s.exhibits → t.slots = s.slots → t.alerts = s.alerts → t.stations = s.stations →
    t.channels = s.channels → L s → L t
  alike : ∀ {s t : State}, Alike s t → L s → L t
  alert : ∀ {s t : State}, AlertStep s t → L s → L t
  beacon : ∀ {s : State} (e : ExhibitNo) (ch : ChannelNo) (x : Setting), s.BindsChannel e ch → L s → L (s.setLayer ch .alertLayer x)
  stations : ∀ {s : State}, s.stationRecordFault = none → L s → L s.takeStationTable

namespace TableLaw

variable {L : State → Prop} (h : TableLaw L)
include h

theorem only {s t : State} (k : OnlyAxes s t) (hs : L s) : L t := h.tables k.exhibits k.slots k.alerts k.stations k.channels hs

theorem disturb (s : State) (a : AxisNo) (hs : L s) : L (s.disturb a) := by
  unfold State.disturb
  simp only
  have hraise := h.alert (.raised (State.axisSource (s.putAxisAt a { s.axis a with followRun := 0 } (s.axis a).encoder true) a)
    .modelDisturbed 0 1) (h.only (State.putAxisAt_only s a { s.axis a with followRun := 0 } (s.axis a).encoder true) hs)
  generalize State.raise (s.putAxisAt a { s.axis a with followRun := 0 } (s.axis a).encoder true) _ .modelDisturbed 0 1 = u at hraise ⊢
  have hmark : L (if (u.axisOwner a).isNone = true then u.markDisturbed a else u) := by
    split
    · exact h.tables (s := u) (t := u.markDisturbed a) rfl rfl rfl rfl rfl hraise
    · exact hraise
  split
  · exact hmark
  · exact h.only (((State.leaveList_only _ _).trans (State.putAxis_only _ _ _ _)).trans (State.report_only _ _)) hmark

theorem quiet {s t : State} (q : Quiet s t) : L s → L t := by
  induction q with
  | alike ha k _ => exact h.alike ha
  | axis hm ht k => exact h.only k
  | @completes s a kind hs => exact h.only (State.completeMotion_only s a kind)
  | alert ha => exact h.alert ha
  | disturbs a hd => exact h.disturb _ a
  | beacon e ch x hb => exact h.beacon e ch x hb
  | stations hf hp => exact h.stations hf
  | trans _ _ ih ik => exact fun hs => ik (ih hs)

end TableLaw

/-! ### Numbers that no entry holds (R158) -/

/-- The number `i` tries after `n`. -/
def triedNumber (n i : Nat) : Nat :=
  if 65535 ≤ n then (if i = 0 then n else i) else if n + i ≤ 65535 then n + i else n + i - 65535

theorem triedNumber_zero (n : Nat) : triedNumber n 0 = n := by unfold triedNumber; split_ifs <;> omega

theorem nextAlertNumber_tried (n i : Nat) (hi : i < 40) : nextAlertNumber (triedNumber n i) = triedNumber n (i + 1) := by
  unfold nextAlertNumber triedNumber
  by_cases hn : 65535 ≤ n
  · by_cases h0 : i = 0
    · simp [hn, h0]
    · simp only [hn, h0, if_true, if_false]
      rw [if_neg (by omega), if_neg (by omega)]
  · by_cases hs : n + i ≤ 65535
    · simp only [hn, hs, if_true, if_false]
      split_ifs <;> omega
    · simp only [hn, hs, if_false]
      split_ifs <;> omega

theorem triedNumber_injective {n i j : Nat} (hi : i < 40) (hj : j < 40) (h : triedNumber n i = triedNumber n j) : i = j := by
  unfold triedNumber at h
  split_ifs at h <;> omega

/-- A search that ends on a number in use has found every number it tried in use. -/
theorem freeNumber_used (l : List Alert) (n k j : Nat) (hk : j + k < 40)
    (h : freeNumber l k (triedNumber n j) ∈ l.map (·.number)) : ∀ i, j ≤ i → i ≤ j + k → triedNumber n i ∈ l.map (·.number) := by
  induction k generalizing j with
  | zero =>
    intro i hji hij
    obtain rfl : i = j := by omega
    exact h
  | succ k ih =>
    intro i hji hij
    unfold freeNumber at h
    split at h
    · next hany =>
      rw [nextAlertNumber_tried n j (by omega)] at h
      by_cases hi : i = j
      · subst hi
        obtain ⟨x, hx, hn⟩ := List.any_eq_true.1 hany
        exact List.mem_map.2 ⟨x, hx, by simpa using hn⟩
      · exact ih (j + 1) (by omega) h i (by omega) (by omega)
    · next hany =>
      obtain ⟨x, hx, hn⟩ := List.mem_map.1 h
      exact absurd (List.any_eq_true.2 ⟨x, hx, by simpa using hn⟩) hany

/-- Among 34 numbers one is free of a list of at most 32 entries. -/
theorem freeNumber_free (l : List Alert) (n : Nat) (hl : l.length ≤ 32) : freeNumber l 33 n ∉ l.map (·.number) := by
  intro h
  rw [← triedNumber_zero n] at h
  have hused := freeNumber_used l n 33 0 (by omega) h
  have hnodup : ((List.range 33).map (triedNumber n)).Nodup := by
    refine List.Nodup.map_on (fun i hi j hj hij => ?_) List.nodup_range
    exact triedNumber_injective (by have := List.mem_range.1 hi; omega) (by have := List.mem_range.1 hj; omega) hij
  have hsub : ((List.range 33).map (triedNumber n)) ⊆ l.map (·.number) := fun m hm => by
    obtain ⟨i, hi, rfl⟩ := List.mem_map.1 hm
    exact hused i (Nat.zero_le i) (by have := List.mem_range.1 hi; omega)
  have hlen := (List.subperm_of_subset hnodup hsub).length_le
  simp only [List.length_map, List.length_range] at hlen
  omega

/-! ### The alert list (R155) -/

/-- The alert law of a list. -/
abbrev ListLaw (l : List Alert) : Prop :=
  l.length ≤ 32 ∧ (l.map (·.number)).Nodup ∧ (l.map fun x => (x.source, x.cause)).Nodup

theorem ListLaw.filter {l : List Alert} (h : ListLaw l) (p : Alert → Bool) : ListLaw (l.filter p) :=
  ⟨(List.length_filter_le p l).trans h.1, h.2.1.sublist (List.Sublist.map _ List.filter_sublist),
    h.2.2.sublist (List.Sublist.map _ List.filter_sublist)⟩

/-- Entries change, but none its number, its source or its cause. -/
theorem ListLaw.map {l : List Alert} (h : ListLaw l) (f : Alert → Alert)
    (hf : ∀ x ∈ l, (f x).number = x.number ∧ (f x).source = x.source ∧ (f x).cause = x.cause) : ListLaw (l.map f) := by
  have hnumber : (l.map f).map (·.number) = l.map (·.number) := by
    rw [List.map_map]; exact List.map_congr_left fun x hx => (hf x hx).1
  have hpair : (l.map f).map (fun x => (x.source, x.cause)) = l.map fun x => (x.source, x.cause) := by
    rw [List.map_map]; exact List.map_congr_left fun x hx => by simp [(hf x hx).2.1, (hf x hx).2.2]
  exact ⟨by rw [List.length_map]; exact h.1, by rw [hnumber]; exact h.2.1, by rw [hpair]; exact h.2.2⟩

theorem ListLaw.append {l : List Alert} (h : ListLaw l) (x : Alert) (hl : l.length < 32) (hn : x.number ∉ l.map (·.number))
    (hp : (x.source, x.cause) ∉ l.map fun x => (x.source, x.cause)) : ListLaw (l ++ [x]) := by
  refine ⟨by simp; omega, ?_, ?_⟩
  · rw [List.map_append, List.nodup_append]
    exact ⟨h.2.1, by simp, by simpa using hn⟩
  · rw [List.map_append, List.nodup_append]
    exact ⟨h.2.2, by simp, by simpa using hp⟩

theorem ListLaw.eq_of_number {l : List Alert} (h : ListLaw l) {x y : Alert} (hx : x ∈ l) (hy : y ∈ l) (hn : x.number = y.number) : x = y :=
  List.inj_on_of_nodup_map h.2.1 hx hy hn

/-- Without the entry of a number, the list is shorter. -/
theorem length_without {l : List Alert} {x : Alert} (hx : x ∈ l) : (l.filter fun z => z.number != x.number).length < l.length :=
  List.length_filter_lt_length_iff_exists.2 ⟨x, hx, by simp⟩

theorem State.closeAct_alerts (s : State) (fresh : List Nat) (sources : List SourceNo) : (s.closeAct fresh sources).alerts = s.alerts := by
  rw [State.closeAct_form]

/-- Routing changes the station and the timer of an entry alone. -/
theorem State.routed_form (s : State) (x : Alert) : s.routed x = { x with station := (s.routed x).station, timer := (s.routed x).timer } := by
  unfold State.routed
  split <;> rfl

/-- The list after a merge: the entry at the tail, with what the raise brings. -/
theorem State.mergeRaise_alerts (s : State) (x : Alert) (code severity : Nat) :
    ∃ y : Alert, (s.mergeRaise x code severity).alerts = (s.alerts.filter fun z => z.number != x.number) ++ [y] ∧
      y.number = x.number ∧ y.source = x.source ∧ y.cause = x.cause := by
  unfold State.mergeRaise
  simp only
  refine ⟨_, by rw [State.closeAct_alerts, State.noteRouting_form]; rfl, ?_, ?_, ?_⟩ <;> rw [State.routed_form]

/-- The list after a new entry. -/
theorem State.enterAlert_alerts (s : State) (others : List Alert) (gone : List SourceNo) (src : SourceNo) (cause : AlertCause)
    (code severity : Nat) :
    ∃ y : Alert, (s.enterAlert others gone src cause code severity).alerts = others ++ [y] ∧
      y.number = freeNumber others 33 s.nextNumber ∧ y.source = src ∧ y.cause = cause := by
  unfold State.enterAlert
  simp only
  refine ⟨_, by rw [State.closeAct_alerts, State.noteRouting_form]; rfl, ?_, ?_, ?_⟩ <;> rw [State.routed_form]

theorem State.alertOf?_some {s : State} {src : SourceNo} {cause : AlertCause} {x : Alert} (h : s.alertOf? src cause = some x) :
    x ∈ s.alerts ∧ x.source = src ∧ x.cause = cause := by
  have := List.find?_some h
  exact ⟨List.mem_of_find?_eq_some h, by simpa using this⟩

theorem State.alertOf?_none {s : State} {src : SourceNo} {cause : AlertCause} (h : s.alertOf? src cause = none) :
    (src, cause) ∉ s.alerts.map fun x => (x.source, x.cause) := by
  intro hm
  obtain ⟨x, hx, hp⟩ := List.mem_map.1 hm
  have := List.find?_eq_none.1 h x hx
  simp only [Prod.mk.injEq] at hp
  simp [hp] at this

theorem State.displaced_mem {s : State} {x : Alert} (h : s.displaced = some x) : x ∈ s.alerts := by
  unfold State.displaced at h
  split at h
  · next hf => obtain rfl := Option.some.inj h; exact List.mem_of_find?_eq_some hf
  · exact List.mem_of_find?_eq_some h

/-- The case of a raise, with what it found. -/
theorem State.raiseCase_spec (s : State) (src : SourceNo) (cause : AlertCause) (severity : Nat) :
    match s.raiseCase src cause severity with
    | .dropped => s.part = .cold
    | .merged x => s.part = .run ∧ s.alertOf? src cause = some x
    | .entered => s.part = .run ∧ s.alertOf? src cause = none ∧ s.alerts.length < 32
    | .displacing x => s.part = .run ∧ s.alertOf? src cause = none ∧ 32 ≤ s.alerts.length ∧ severity = 3 ∧ s.displaced = some x
    | .refused => s.part = .run ∧ s.alertOf? src cause = none ∧ 32 ≤ s.alerts.length ∧ (severity = 3 → s.displaced = none) := by
  have hrun : s.part ≠ .cold → s.part = .run := fun h => by cases hp : s.part <;> simp [hp] at h ⊢
  unfold State.raiseCase
  by_cases hc : s.part = .cold
  · simp [hc]
  rw [if_neg hc]
  cases hof : s.alertOf? src cause with
  | some x => exact ⟨hrun hc, by trivial⟩
  | none =>
    simp only
    by_cases hlen : s.alerts.length < Config.maxAlerts
    · rw [if_pos hlen]; exact ⟨hrun hc, by trivial, hlen⟩
    rw [if_neg hlen]
    have hlen' : 32 ≤ s.alerts.length := Nat.le_of_not_lt hlen
    by_cases hsev : severity = 3
    · rw [if_pos hsev]
      cases hd : s.displaced with
      | some x => exact ⟨hrun hc, by trivial, hlen', hsev, by trivial⟩
      | none => exact ⟨hrun hc, by trivial, hlen', fun _ => by trivial⟩
    · rw [if_neg hsev]; exact ⟨hrun hc, by trivial, hlen', fun h => absurd h hsev⟩

theorem ListLaw.raise {s : State} (h : ListLaw s.alerts) (src : SourceNo) (cause : AlertCause) (code severity : Nat) :
    ListLaw (s.raise src cause code severity).alerts := by
  have hcase := s.raiseCase_spec src cause severity
  unfold State.raise
  split
  · exact h
  · next x hx =>
    rw [hx] at hcase
    obtain ⟨hmem, -, -⟩ := State.alertOf?_some hcase.2
    obtain ⟨y, hy, hn, hsrc, hcau⟩ := s.mergeRaise_alerts x code severity
    rw [hy]
    refine (h.filter _).append y (lt_of_lt_of_le (length_without hmem) h.1) ?_ ?_
    · rw [hn]; intro hm
      obtain ⟨z, hz, hzn⟩ := List.mem_map.1 hm
      simp [hzn] at hz
    · rw [hsrc, hcau]; intro hm
      obtain ⟨z, hz, hzp⟩ := List.mem_map.1 hm
      obtain ⟨hzm, hzn⟩ := List.mem_filter.1 hz
      have : z = x := List.inj_on_of_nodup_map h.2.2 hzm hmem hzp
      simp [this] at hzn
  · next hx =>
    rw [hx] at hcase
    obtain ⟨-, hnone, hlen⟩ := hcase
    obtain ⟨y, hy, hn, hsrc, hcau⟩ := s.enterAlert_alerts s.alerts [] src cause code severity
    rw [hy]
    exact h.append y hlen (by rw [hn]; exact freeNumber_free _ _ h.1) (by rw [hsrc, hcau]; exact State.alertOf?_none hnone)
  · next x hx =>
    rw [hx] at hcase
    obtain ⟨-, hnone, -, -, hd⟩ := hcase
    have hmem := State.displaced_mem hd
    obtain ⟨y, hy, hn, hsrc, hcau⟩ := s.enterAlert_alerts (s.alerts.filter fun z => z.number != x.number) [x.source] src cause code severity
    rw [hy]
    have hf := h.filter fun z => z.number != x.number
    refine hf.append y (lt_of_lt_of_le (length_without hmem) h.1) (by rw [hn]; exact freeNumber_free _ _ hf.1) ?_
    rw [hsrc, hcau]; intro hm
    obtain ⟨z, hz, hzp⟩ := List.mem_map.1 hm
    exact State.alertOf?_none hnone (List.mem_map.2 ⟨z, (List.mem_filter.1 hz).1, hzp⟩)
  · exact h

/-- An entry of the list replaced by one of its number, source and cause. -/
theorem ListLaw.putAlert {s : State} (h : ListLaw s.alerts) {x y : Alert} (hx : x ∈ s.alerts) (hn : y.number = x.number)
    (hs : y.source = x.source) (hc : y.cause = x.cause) : ListLaw (s.putAlert y).alerts := by
  refine h.map _ fun z hz => ?_
  split
  · next he =>
    obtain rfl : z = x := h.eq_of_number hz hx (he.trans hn)
    exact ⟨hn, hs, hc⟩
  · exact ⟨rfl, rfl, rfl⟩

theorem ListLaw.step {s t : State} (k : AlertStep s t) (h : ListLaw s.alerts) : ListLaw t.alerts := by
  cases k with
  | raised => exact h.raise _ _ _ _
  | removed p => rw [State.removeAlerts_alerts]; exact h.filter _
  | acknowledged x hx =>
    unfold State.acknowledge
    split
    · rw [State.removeAlerts_alerts]; exact h.filter _
    · rw [State.closeAct_alerts]; exact h.putAlert hx rfl rfl rfl
  | escalated x hx =>
    unfold State.escalate
    split
    · rw [State.closeAct_alerts]; exact h.putAlert hx rfl rfl rfl
    · rw [State.closeAct_alerts]
      have hput := h.putAlert (y := { x with timer := none, exhausted := true }) hx rfl rfl rfl
      split
      · exact hput
      · exact hput

theorem State.AlertLaw.alike {s t : State} (h : Alike s t) (hs : s.AlertLaw) : t.AlertLaw := by
  obtain ⟨f, hf, hlike⟩ := h.alerts
  unfold State.AlertLaw
  rw [hf]
  exact ListLaw.map hs f fun x _ => ⟨(hlike x).number, (hlike x).source, (hlike x).cause⟩

theorem alertLaw_tables : TableLaw State.AlertLaw where
  tables _ _ ha _ _ hs := by unfold State.AlertLaw; rw [ha]; exact hs
  alike h hs := hs.alike h
  alert k hs := ListLaw.step k hs
  beacon _ _ _ _ hs := hs
  stations _ hs := by rw [State.takeStationTable_form]; exact hs

/-- A table law that no change of exhibits and slots breaks is kept by every act. -/
theorem TableLaw.acts_of_shows {L : State → Prop} (h : TableLaw L)
    (hshow : ∀ {s t : State}, t.alerts = s.alerts → t.stations = s.stations → L s → L t) {s t : State} (k : Acts s t) : L s → L t := by
  induction k with
  | quiet q => exact h.quiet q
  | enters e st => exact hshow (by rw [State.enterState_form]) (by rw [State.enterState_form])
  | starts e address =>
    exact hshow (by rw [State.enterState_form, State.putSlot_form]) (by rw [State.enterState_form, State.putSlot_form])
  | ends e st _ _ _ _ q =>
    exact fun hs => hshow (by rw [State.enterState_form]) (by rw [State.enterState_form])
      (h.quiet q (hshow (by rw [State.endShow_form]) (by rw [State.endShow_form]) hs))
  | repeats e address _ q =>
    exact fun hs => hshow (by rw [State.putSlot_form]) (by rw [State.putSlot_form])
      (h.quiet q (hshow (by rw [State.endShow_form]) (by rw [State.endShow_form]) hs))
  | occupies e x => exact hshow (by rw [State.putSlot_form]) (by rw [State.putSlot_form])
  | configuresOn e => exact hshow (by rw [State.putExhibit_form]) (by rw [State.putExhibit_form])
  | configuresOff e => exact hshow (by rw [State.putExhibit_form]) (by rw [State.putExhibit_form])
  | @stops s t _ _ ih => exact fun hs => ih (hshow (s := s) (t := s.setStop true) rfl rfl hs)
  | trans _ _ ih ik => exact fun hs => ik (ih hs)

theorem alertLaw_kept : StateLaw State.AlertLaw where
  alike h hs := hs.alike h
  acts k hs := alertLaw_tables.acts_of_shows (fun ha _ hs => by unfold State.AlertLaw; rw [ha]; exact hs) k hs
  reset := ⟨Nat.zero_le _, List.nodup_nil, List.nodup_nil⟩

/-! ### Bindings (R3) -/

/-- What the bindings are read from. -/
structure SameBindings (s t : State) : Prop where
  inForce : ∀ e, (t.exhibit e).inForce = (s.exhibit e).inForce
  callLamp : ∀ st, (t.station st).callLamp = (s.station st).callLamp

theorem SameBindings.bindLaw {s t : State} (h : SameBindings s t) (hs : s.BindLaw) : t.BindLaw := by
  unfold State.BindLaw State.BindsAxis State.BindsChannel at *
  simp only [h.inForce, h.callLamp]
  exact hs

theorem Alike.sameBindings {s t : State} (h : Alike s t) : SameBindings s t :=
  ⟨fun e => by unfold Exhibit.inForce; rw [(h.exhibit e).state, (h.exhibit e).config], fun st => (h.station st).callLamp⟩

theorem SameBindings.of_tables {s t : State} (he : t.exhibits = s.exhibits) (hst : t.stations = s.stations) : SameBindings s t :=
  ⟨fun e => by unfold State.exhibit; rw [he], fun st => by unfold State.station; rw [hst]⟩

/-- The selection and the refresh of a station keep its call lamp. -/
theorem State.refreshStation_callLamp (s : State) (st u : StationNo) :
    ((s.refreshStation st).station u).callLamp = (s.station u).callLamp := by
  unfold State.refreshStation
  simp only
  rw [State.chooseLamp_form, show ∀ (v : State) (c : Vector Channel 64), State.station { v with channels := c } u = v.station u from fun _ _ => rfl,
    show ∀ x, (s.setStation st x).station u = if st = u then x else s.station u from fun x => tget_tset _ _ _ _]
  split
  · next h => subst h; rfl
  · rfl

theorem State.closeAct_callLamp (s : State) (fresh : List Nat) (sources : List SourceNo) (u : StationNo) :
    ((s.closeAct fresh sources).station u).callLamp = (s.station u).callLamp := by
  unfold State.closeAct
  simp only
  have hselect : ((s.selectAll fresh).station u).callLamp = (s.station u).callLamp := by
    rw [show (s.selectAll fresh).station u = (s.station u).select s.alerts fresh u from tget_tmap _ _ _]; rfl
  have hrefresh : ((forEach 4 (fun st v => State.refreshStation v st) (s.selectAll fresh)).station u).callLamp = (s.station u).callLamp :=
    forEach_invariant (fun t : State => (t.station u).callLamp = (s.station u).callLamp) _
      (fun st t h => by rw [State.refreshStation_callLamp, h]) _ hselect
  exact foldl_invariant (fun t : State => (t.station u).callLamp = (s.station u).callLamp) _
    (fun t src h => by rw [State.refreshSourceBeacon_form]; exact h) sources _ hrefresh

/-- An act of the alert manager on a list made ready keeps the call lamps. -/
theorem AlertStep.callLamp {s t : State} (h : AlertStep s t) (u : StationNo) : (t.station u).callLamp = (s.station u).callLamp := by
  cases h with
  | raised src cause code severity =>
    unfold State.raise
    split
    · rfl
    · unfold State.mergeRaise
      simp only
      rw [State.closeAct_callLamp, State.noteRouting_form]
      rfl
    · unfold State.enterAlert
      simp only
      rw [State.closeAct_callLamp, State.noteRouting_form]
      rfl
    · unfold State.enterAlert
      simp only
      rw [State.closeAct_callLamp, State.noteRouting_form]
      rfl
    · rfl
  | removed p =>
    unfold State.removeAlerts
    split
    · exact State.closeAct_callLamp _ _ _ _
    · rfl
  | acknowledged x hx =>
    unfold State.acknowledge
    split
    · unfold State.removeAlerts
      split
      · exact State.closeAct_callLamp _ _ _ _
      · rfl
    · exact State.closeAct_callLamp _ _ _ _
  | escalated x hx =>
    unfold State.escalate
    split
    · exact State.closeAct_callLamp _ _ _ _
    · rw [State.closeAct_callLamp]; split <;> rfl

theorem lowest_eq_none {n : Nat} {p : Fin n → Bool} (h : lowest n p = none) (i : Fin n) : p i = false := by
  simpa using List.find?_eq_none.1 h i (List.mem_finRange i)

theorem State.channelOwner_none {s : State} {ch : ChannelNo} (h : s.channelOwner ch = none) (e : ExhibitNo) : ¬ s.BindsChannel e ch := by
  rintro ⟨c, hc, hnames⟩
  have := lowest_eq_none h e
  rw [Option.mem_def] at hc
  simp only [hc] at this
  have hname : c.namesChannel ch = true := by
    simp only [ExhibitConfig.namesChannel, ExhibitConfig.namesShowLamp, Bool.or_eq_true, beq_iff_eq, List.contains_iff_mem]
    tauto
  simp [hname] at this

/-- The call lamps a table names that passes its checks: no exhibit's, and no two stations' (R173). -/
theorem State.stationTable_lamps {s : State} (h : s.stationRecordFault = none) (st : StationNo) (ch : ChannelNo)
    (hst : ((s.station st).withRecord (s.stationRecord st)).callLamp = some ch) :
    (∀ e, ¬ s.BindsChannel e ch) ∧ ∀ u, u < st → ((s.station u).withRecord (s.stationRecord u)).callLamp ≠ some ch := by
  have hpass : s.stationFieldFault st = none := by
    unfold State.stationRecordFault at h
    rw [Option.map_eq_none_iff] at h
    simpa using lowest_eq_none h st
  have hidx : index? 64 (s.stationRecord st).lamp.toNat = some ch := hst
  have hval : (s.stationRecord st).lamp.toNat = ch.val := by
    unfold index? at hidx
    split at hidx
    · rw [← Option.some.inj hidx]
    · simp at hidx
  have hlamp : (s.stationRecord st).lamp ≠ 0xFFFF := fun hl => by
    rw [hl] at hval
    have := ch.isLt
    simp at hval
    omega
  unfold State.stationFieldFault at hpass
  simp only at hpass
  split at hpass
  · simp at hpass
  split at hpass
  · simp at hpass
  split at hpass
  · simp at hpass
  next hok =>
  simp only [ne_eq, hlamp, not_false_eq_true, true_and, not_or, hidx, Option.bind_some] at hok
  obtain ⟨-, howner, hother⟩ := hok
  refine ⟨State.channelOwner_none (by simpa using howner), fun u hu huch => ?_⟩
  have hnone := lowest_eq_none (by simpa using hother) u
  have hidxu : index? 64 (s.stationRecord u).lamp.toNat = some ch := huch
  have hvalu : (s.stationRecord u).lamp.toNat = ch.val := by
    unfold index? at hidxu
    split at hidxu
    · rw [← Option.some.inj hidxu]
    · simp at hidxu
  have heq : (s.stationRecord u).lamp = (s.stationRecord st).lamp := BitVec.eq_of_toNat_eq (by rw [hval, hvalu])
  simp only [heq, BEq.rfl, Bool.and_true, decide_eq_false_iff_not] at hnone
  exact hnone hu

theorem State.takeStationTable_callLamp (s : State) (st : StationNo) :
    (s.takeStationTable.station st).callLamp = ((s.station st).withRecord (s.stationRecord st)).callLamp := by
  unfold State.takeStationTable
  simp only
  refine forEach_invariant (fun t : State => (t.station st).callLamp = ((s.station st).withRecord (s.stationRecord st)).callLamp) _
    (fun u t h => by rw [State.refreshStation_callLamp, h]) _ ?_
  refine forEach_invariant (fun t : State => (t.station st).callLamp = ((s.station st).withRecord (s.stationRecord st)).callLamp) _
    (fun u t h => by rw [State.dropCallLamp_form]; exact h) _ ?_
  rw [show State.station { s with stations := tmap (fun st x => x.withRecord (s.stationRecord st)) s.stations } st =
    (s.station st).withRecord (s.stationRecord st) from tget_tmap _ _ _]

/-- CONFIGURE STATIONS keeps the bindings apart. -/
theorem State.BindLaw.stations {s : State} (hf : s.stationRecordFault = none) (hs : s.BindLaw) : s.takeStationTable.BindLaw := by
  have hforce : ∀ e, (s.takeStationTable.exhibit e).inForce = (s.exhibit e).inForce := fun e => by rw [State.takeStationTable_form]; rfl
  obtain ⟨haxis, hchannel, -, -⟩ := hs
  unfold State.BindLaw State.BindsAxis State.BindsChannel at *
  simp only [hforce, State.takeStationTable_callLamp]
  refine ⟨haxis, hchannel, fun ch e st hb hst => (State.stationTable_lamps hf st ch hst).1 e hb, fun ch st u hst hu => ?_⟩
  obtain hlt | heq | hgt := lt_trichotomy st u
  · exact absurd hst ((State.stationTable_lamps hf u ch hu).2 st hlt)
  · exact heq
  · exact absurd hu ((State.stationTable_lamps hf st ch hst).2 u hgt)

theorem bindLaw_tables : TableLaw State.BindLaw where
  tables he _ _ hst _ hs := (SameBindings.of_tables he hst).bindLaw hs
  alike h hs := h.sameBindings.bindLaw hs
  alert k hs := SameBindings.bindLaw ⟨fun e => by rw [k.act.1]; rfl, k.callLamp⟩ hs
  beacon _ _ _ _ hs := hs
  stations hf hs := hs.stations hf

/-- An exhibit that is not OFF enters another state than OFF: the bindings stay. -/
theorem State.BindLaw.enterState {s : State} (hs : s.BindLaw) (e : ExhibitNo) (st : ExhibitState) (hoff : st ≠ .off)
    (h : (s.exhibit e).state ≠ .off) : (s.enterState e st).BindLaw := by
  refine SameBindings.bindLaw ⟨fun f => ?_, fun u => by rw [State.enterState_form]; rfl⟩ hs
  rw [State.exhibit_enterState_ite]
  split
  · next hef =>
    subst hef
    show (if st = .off then none else (s.exhibit e).config) = (if (s.exhibit e).state = .off then none else (s.exhibit e).config)
    rw [if_neg hoff, if_neg h]
  · rfl

theorem State.SlotLaw.not_off {s : State} (h : s.SlotLaw) {e : ExhibitNo} (hs : s.HasShow e) : (s.exhibit e).state ≠ .off := by
  obtain hs | hs := hs
  · exact hs
  · intro hoff
    rw [(State.slotLaw_iff s).1 h e, hoff] at hs
    simp [ExhibitState.runsShow] at hs

/-- The binding law with the copy of a record that names nothing bound elsewhere. -/
theorem State.BindLaw.configuredOn {s : State} (hs : s.BindLaw) (e : ExhibitNo) (c : ExhibitConfig) (g : Bool)
    (haxis : ∀ a, some a ∈ c.axes.toList → s.axisElsewhere e a = false) (hlamp : ∀ ch, c.namesChannel ch = true → s.channelElsewhere e ch = false) :
    (s.putExhibit e ((s.exhibit e).configuredOn c g)).BindLaw := by
  have hstation : ∀ st, (s.putExhibit e ((s.exhibit e).configuredOn c g)).station st = s.station st := fun st => by rw [State.putExhibit_form]; rfl
  have hforce : ∀ f, ((s.putExhibit e ((s.exhibit e).configuredOn c g)).exhibit f).inForce = if e = f then some c else (s.exhibit f).inForce := fun f => by
    rw [State.exhibit_putExhibit_ite]
    split
    · show (if (if (s.exhibit e).state = .off then ExhibitState.ready else (s.exhibit e).state) = .off then none else some c) = some c
      rw [if_neg]
      split
      · simp
      · assumption
    · rfl
  obtain ⟨hsaxis, hschannel, hsstation, hscall⟩ := hs
  -- an axis or channel of the record is not bound to another exhibit
  have hfreeAxis : ∀ a f, some a ∈ c.axes.toList → e ≠ f → ¬ s.BindsAxis f a := fun a f ha hef hb => by
    obtain ⟨d, hd, hda⟩ := hb
    have hnone := haxis a ha
    unfold State.axisElsewhere at hnone
    have := lowest_eq_none (by simpa using hnone) f
    rw [Option.mem_def] at hd
    simp only [hd, Bool.and_eq_false_iff] at this
    obtain h | h := this
    · simp at h; exact hef h.symm
    · simp [ExhibitConfig.namesAxis, hda] at h
  have hnames : ∀ {d : ExhibitConfig} {ch : ChannelNo}, some ch ∈ d.showLamps.toList ∨ d.readyLamp = some ch ∨ d.beaconLamp = some ch →
      d.namesChannel ch = true := fun {d ch} h => by
    simp only [ExhibitConfig.namesChannel, ExhibitConfig.namesShowLamp, Bool.or_eq_true, beq_iff_eq, List.contains_iff_mem]
    tauto
  have hfreeLamp : ∀ ch, some ch ∈ c.showLamps.toList ∨ c.readyLamp = some ch ∨ c.beaconLamp = some ch →
      (∀ f, e ≠ f → ¬ s.BindsChannel f ch) ∧ ∀ st, (s.station st).callLamp ≠ some ch := fun ch hch => by
    have hnone := hlamp ch (hnames hch)
    unfold State.channelElsewhere at hnone
    rw [Bool.or_eq_false_iff] at hnone
    refine ⟨fun f hef hb => ?_, fun st hst => ?_⟩
    · obtain ⟨d, hd, hda⟩ := hb
      have := lowest_eq_none (by simpa using hnone.2) f
      rw [Option.mem_def] at hd
      simp only [hd, Bool.and_eq_false_iff] at this
      obtain h | h := this
      · simp at h; exact hef h.symm
      · rw [hnames hda] at h; simp at h
    · have hmem : s.station st ∈ s.stations.toList := by
        rw [Vector.mem_toList_iff]
        exact Vector.getElem_mem st.isLt
      have hnot : s.isCallLamp ch = false := hnone.1
      unfold State.isCallLamp at hnot
      exact absurd hst (by simpa using List.any_eq_false.1 hnot _ hmem)
  unfold State.BindLaw State.BindsAxis State.BindsChannel
  simp only [hforce, hstation]
  refine ⟨fun a f g hf hg => ?_, fun ch f g hf hg => ?_, fun ch f st hf => ?_, hscall⟩
  · by_cases hef : e = f <;> by_cases heg : e = g
    · exact hef.symm.trans heg
    · obtain ⟨d, hd, hda⟩ := hf
      obtain rfl : c = d := by simpa [hef] using hd
      rw [if_neg heg] at hg
      exact absurd hg (hfreeAxis a g hda heg)
    · obtain ⟨d, hd, hda⟩ := hg
      obtain rfl : c = d := by simpa [heg] using hd
      rw [if_neg hef] at hf
      exact absurd hf (hfreeAxis a f hda hef)
    · rw [if_neg hef] at hf
      rw [if_neg heg] at hg
      exact hsaxis a f g hf hg
  · by_cases hef : e = f <;> by_cases heg : e = g
    · exact hef.symm.trans heg
    · obtain ⟨d, hd, hda⟩ := hf
      obtain rfl : c = d := by simpa [hef] using hd
      rw [if_neg heg] at hg
      exact absurd hg ((hfreeLamp ch hda).1 g heg)
    · obtain ⟨d, hd, hda⟩ := hg
      obtain rfl : c = d := by simpa [heg] using hd
      rw [if_neg hef] at hf
      exact absurd hf ((hfreeLamp ch hda).1 f hef)
    · rw [if_neg hef] at hf
      rw [if_neg heg] at hg
      exact hschannel ch f g hf hg
  · by_cases hef : e = f
    · obtain ⟨d, hd, hda⟩ := hf
      obtain rfl : c = d := by simpa [hef] using hd
      exact (hfreeLamp ch hda).2 st
    · rw [if_neg hef] at hf
      exact hsstation ch f st hf

/-- The binding law with an exhibit taken out. -/
theorem State.BindLaw.configuredOff {s : State} (hs : s.BindLaw) (e : ExhibitNo) : (s.putExhibit e (s.exhibit e).configuredOff).BindLaw := by
  have hstation : ∀ st, (s.putExhibit e (s.exhibit e).configuredOff).station st = s.station st := fun st => by rw [State.putExhibit_form]; rfl
  have hforce : ∀ f c, ((s.putExhibit e (s.exhibit e).configuredOff).exhibit f).inForce = some c → (s.exhibit f).inForce = some c := fun f c h => by
    rw [State.exhibit_putExhibit_ite] at h
    split at h
    · simp [Exhibit.inForce, Exhibit.configuredOff, Exhibit.entering] at h
    · exact h
  have hbind : ∀ f ch, (s.putExhibit e (s.exhibit e).configuredOff).BindsChannel f ch → s.BindsChannel f ch := fun f ch ⟨c, hc, h⟩ => ⟨c, hforce f c hc, h⟩
  obtain ⟨haxis, hchannel, hsstation, hcall⟩ := hs
  refine ⟨fun a f g ⟨c, hc, hf⟩ ⟨d, hd, hg⟩ => haxis a f g ⟨c, hforce f c hc, hf⟩ ⟨d, hforce g d hd, hg⟩,
    fun ch f g hf hg => hchannel ch f g (hbind f ch hf) (hbind g ch hg), fun ch f st hf => ?_, fun ch st u => ?_⟩
  · rw [hstation]; exact hsstation ch f st (hbind f ch hf)
  · rw [hstation, hstation]; exact hcall ch st u

theorem State.BindLaw.endShow {s : State} (hs : s.BindLaw) (e : ExhibitNo) : (s.endShow e).BindLaw :=
  SameBindings.bindLaw ⟨fun f => by rw [State.exhibit_endShow], fun st => by rw [State.endShow_form]; rfl⟩ hs

theorem State.BindLaw.putSlot {s : State} (hs : s.BindLaw) (e : ExhibitNo) (x : Slot) : (s.putSlot e x).BindLaw :=
  SameBindings.bindLaw ⟨fun f => by rw [State.exhibit_putSlot], fun st => by rw [State.putSlot_form]; rfl⟩ hs

theorem State.BindLaw.acts {s t : State} (k : Acts s t) (hslot : s.SlotLaw) (hs : s.BindLaw) : t.BindLaw := by
  induction k with
  | quiet q => exact bindLaw_tables.quiet q hs
  | @enters s e st hoff hhalt h => exact hs.enterState e st hoff (hslot.not_off (h.imp (·.2) (·.2)))
  | @starts s e address h hstop =>
    refine (hs.putSlot e _).enterState e .running (by simp) ?_
    rw [State.exhibit_putSlot]
    intro ho
    simp [ho, ExhibitState.startable] at h
  | @ends s t e st h hshow hoff hhalt q =>
    refine State.BindLaw.enterState (bindLaw_tables.quiet q (hs.endShow e)) e st hoff ?_
    rw [q.keepsShows.state, State.exhibit_endShow]
    exact hslot.not_off h
  | @repeats s t e address h q => exact (bindLaw_tables.quiet q (hs.endShow e)).putSlot e _
  | @occupies s e x h hx => exact hs.putSlot e x
  | @configuresOn s e c guardOpen h hp haxis hlamp => exact hs.configuredOn e c guardOpen haxis hlamp
  | @configuresOff s e h hp => exact hs.configuredOff e
  | @stops s t h hrest ih => exact ih hslot hs
  | @trans s t u h k ih ik => exact ik (hslot.acts h) (ih hslot hs)

theorem State.inForce_reset (e : ExhibitNo) : (State.reset.exhibit e).inForce = none := by rw [State.exhibit_reset]; rfl

theorem bindLaws_kept : StateLaw fun s => s.SlotLaw ∧ s.BindLaw where
  alike h hs := ⟨hs.1.same h.sameShows, h.sameBindings.bindLaw hs.2⟩
  acts k hs := ⟨hs.1.acts k, State.BindLaw.acts k hs.1 hs.2⟩
  reset := by
    refine ⟨slotLaw_kept.reset, fun a e f ⟨c, hc, _⟩ => ?_, fun ch e f ⟨c, hc, _⟩ => ?_, fun ch e st ⟨c, hc, _⟩ => ?_, fun ch st u h => ?_⟩
    · simp [State.inForce_reset] at hc
    · simp [State.inForce_reset] at hc
    · simp [State.inForce_reset] at hc
    · rw [State.station_reset] at h; simp [Station.reset] at h

/-! ### The axis laws right after a reset -/

theorem State.unitLaw_reset : State.reset.UnitLaw := by decide

theorem State.heldLaw_reset : State.reset.HeldLaw := by
  have hax : ∀ a, State.reset.axis a = .reset := State.axis_reset
  refine ⟨State.waitLaw_reset, fun a h => ?_, fun a h => ?_, fun a _ => by rw [hax]; rfl, fun a h => ?_⟩
  · rw [hax] at h; simp [Axis.reset] at h
  · exact absurd (tget_replicate 0 a) h
  · rw [hax] at h; simp [Axis.reset] at h

theorem State.homedLaw_reset : State.reset.HomedLaw := by
  intro a
  rw [State.axis_reset]
  simp [Axis.reset]

theorem State.windowLaw_reset : State.reset.WindowLaw := by
  intro a
  rw [State.axis_reset]
  exact ⟨rfl, rfl⟩

theorem State.velocityLaw_reset : State.reset.VelocityLaw := by
  intro a
  rw [State.axis_reset]
  exact ⟨rfl, rfl⟩

/-! ### The statements -/

/-- Settles O8: every move of an axis takes units out of the free count and gives them back (R116, R117). -/
theorem poolLawsKept : Obligations.PoolLawsKept :=
  ⟨fun _ _ hs h => (unitLaw_kept.stateLaw State.unitLaw_reset).step hs h, fun _ _ hs h => (heldLaw_kept.stateLaw State.heldLaw_reset).step hs h⟩

/-- Settles O9: a slot is taken and emptied together with the state of its exhibit, and the flag is dropped on the way out. -/
theorem showLawsKept : Obligations.ShowLawsKept := ⟨fun _ _ hs h => encoreLaw_kept.step hs h, fun _ _ hs h => slotLaw_kept.step hs h⟩

/-- Settles O10. -/
theorem homedLawKept : Obligations.HomedLawKept := fun _ _ hs h =>
  (homedLaw_kept.stateLaw ⟨State.heldLaw_reset, State.homedLaw_reset⟩).step hs h

/-- Settles O11: a new entry takes one of 34 numbers, of which a full list holds 32 (R158). -/
theorem alertLawKept : Obligations.AlertLawKept := fun _ _ hs h => alertLaw_kept.step hs h

/-- Settles O12: no act of a block finds its condition in COLD. -/
theorem coldLawKept : Obligations.ColdLawKept := fun _ _ hs h => coldLaw_kept.step hs h

/-- Settles O13: the beginning of the stop leaves every axis at rest, and no act starts one under it. -/
theorem stopLawKept : Obligations.StopLawKept := fun _ _ hs h => stopLaws_kept.step hs h

/-- Settles O14. -/
theorem motionLawsKept : Obligations.MotionLawsKept :=
  ⟨fun _ _ hs h => (windowLaw_kept.stateLaw State.windowLaw_reset).step hs h,
    fun _ _ hs h => (velocityLaw_kept.stateLaw State.velocityLaw_reset).step hs h⟩

/-- Settles O15: a record that names what is bound elsewhere is not taken (R2, R173). -/
theorem bindLawKept : Obligations.BindLawKept := fun _ _ hs h => bindLaws_kept.step hs h

end Sys2Proof.Machine
end

section
/-! What the stations show (R161 to R163), and that every act keeps it so. -/

namespace Sys2Proof.Machine

/-! ### Selection (R161, R162) -/

theorem mem_raisedAt {l : List Alert} {st : StationNo} {x : Alert} :
    x ∈ raisedAt l st ↔ x ∈ l ∧ x.acked = false ∧ x.station = some st := by
  simp [raisedAt]

theorem mostUrgent_eq_none {l : List Alert} (h : mostUrgent l = none) : l = [] := by
  cases l with
  | nil => rfl
  | cons x xs =>
    unfold mostUrgent at h
    split at h
    · simp at h
    · split at h <;> simp at h

/-- The most urgent of the entries that meet `p` stands at a place of the whole list before which all that do are less severe. -/
theorem mostUrgent_filter (p : Alert → Bool) {l : List Alert} {x : Alert} (h : mostUrgent (l.filter p) = some x) :
    ∃ i < l.length, l[i]? = some x ∧ p x = true ∧ (∀ y ∈ l, p y = true → y.severity ≤ x.severity) ∧
      ∀ y ∈ l.take i, p y = true → y.severity < x.severity := by
  induction l generalizing x with
  | nil => simp [mostUrgent] at h
  | cons z zs ih =>
    -- the place in the tail, shifted by one, when the head is less severe
    have later (i : Nat) (hi : i < zs.length) (hx : zs[i]? = some x) (hp : p x = true)
        (hall : ∀ y ∈ zs, p y = true → y.severity ≤ x.severity) (hbefore : ∀ y ∈ zs.take i, p y = true → y.severity < x.severity)
        (hz : p z = true → z.severity < x.severity) :
        ∃ i < (z :: zs).length, (z :: zs)[i]? = some x ∧ p x = true ∧ (∀ y ∈ z :: zs, p y = true → y.severity ≤ x.severity) ∧
          ∀ y ∈ (z :: zs).take i, p y = true → y.severity < x.severity := by
      refine ⟨i + 1, by simpa using hi, by simpa using hx, hp, fun y hy hpy => ?_, fun y hy hpy => ?_⟩
      · obtain rfl | hy := List.mem_cons.1 hy
        · exact (hz hpy).le
        · exact hall y hy hpy
      · obtain rfl | hy := List.mem_cons.1 hy
        · exact hz hpy
        · exact hbefore y hy hpy
    by_cases hpz : p z = true
    · rw [List.filter_cons_of_pos hpz] at h
      unfold mostUrgent at h
      cases hrest : mostUrgent (zs.filter p) with
      | none =>
        rw [hrest] at h
        obtain rfl := Option.some.inj h
        refine ⟨0, by simp, by simp, hpz, fun y hy hpy => ?_, by simp⟩
        obtain rfl | hy := List.mem_cons.1 hy
        · exact le_rfl
        · have := List.filter_eq_nil_iff.1 (mostUrgent_eq_none hrest) y hy
          exact absurd hpy this
      | some u =>
        rw [hrest] at h
        obtain ⟨i, hi, hu, hpu, hall, hbefore⟩ := ih hrest
        simp only at h
        split at h
        · next hlt =>
          obtain rfl := Option.some.inj h
          exact later i hi hu hpu hall hbefore fun _ => hlt
        · next hge =>
          obtain rfl := Option.some.inj h
          refine ⟨0, by simp, by simp, hpz, fun y hy hpy => ?_, by simp⟩
          obtain rfl | hy := List.mem_cons.1 hy
          · exact le_rfl
          · exact (hall y hy hpy).trans (Nat.le_of_not_lt hge)
    · rw [List.filter_cons_of_neg hpz] at h
      obtain ⟨i, hi, hx, hp, hall, hbefore⟩ := ih h
      exact later i hi hx hp hall hbefore fun hz => absurd hz hpz

/-- The entry a station would take among all routed to it: the most severe, the oldest among equals. -/
def MostUrgentAt (l : List Alert) (st : StationNo) (n : Nat) : Prop :=
  ∃ i < l.length, ∀ x ∈ l[i]?, x.number = n ∧ x.acked = false ∧ x.station = some st ∧
    (∀ y ∈ l, y.acked = false → y.station = some st → y.severity ≤ x.severity) ∧
    (∀ y ∈ l.take i, y.acked = false → y.station = some st → y.severity < x.severity)

/-- The station may go on with the entry it shows (R161, R162). -/
def MayKeep (l : List Alert) (st : StationNo) (x : Alert) : Prop :=
  x ∈ l ∧ x.acked = false ∧ x.station = some st ∧ (3 ≤ x.severity ∨ ∀ y ∈ l, y.acked = false → y.station = some st → y.severity < 3)

/-- What a selection shows: the entry shown before, which may be kept; else the most urgent one; else nothing, with nothing routed. -/
theorem selectShown_cases (l : List Alert) (fresh : List Nat) (st : StationNo) (shown : Option Nat) :
    (∃ x, MayKeep l st x ∧ shown = some x.number ∧ x.number ∉ fresh ∧ selectShown l fresh st shown = shown) ∨
    (∃ n, selectShown l fresh st shown = some n ∧ MostUrgentAt l st n) ∨
    (selectShown l fresh st shown = none ∧ raisedAt l st = []) := by
  unfold selectShown
  simp only
  split
  · next x hx =>
    have hmem := mem_raisedAt.1 (List.mem_of_find?_eq_some hx)
    have hp := List.find?_some hx
    simp only [Bool.and_eq_true, Bool.or_eq_true, Bool.not_eq_true', beq_iff_eq, decide_eq_true_eq, List.any_eq_false] at hp
    obtain ⟨⟨hshown, hfresh⟩, hsev⟩ := hp
    refine .inl ⟨x, ⟨hmem.1, hmem.2.1, hmem.2.2, hsev.imp id fun h y hy hacked hst => ?_⟩, hshown, by simpa using hfresh, hshown.symm⟩
    exact Nat.lt_of_not_le (h y (mem_raisedAt.2 ⟨hy, hacked, hst⟩))
  · cases hm : mostUrgent (raisedAt l st) with
    | none => exact .inr (.inr ⟨rfl, mostUrgent_eq_none hm⟩)
    | some x =>
      obtain ⟨i, hi, hx, hp, hall, hbefore⟩ := mostUrgent_filter _ hm
      simp only [Bool.and_eq_true, Bool.not_eq_true', beq_iff_eq, and_imp] at hp hall hbefore
      refine .inr (.inl ⟨x.number, rfl, i, hi, fun y hy => ?_⟩)
      obtain rfl : x = y := by rw [Option.mem_def, hx] at hy; exact Option.some.inj hy
      exact ⟨rfl, hp.1, hp.2, hall, hbefore⟩

/-- An entry that may be kept and is not fresh is kept. -/
theorem selectShown_keeps {l : List Alert} {fresh : List Nat} {st : StationNo} {x : Alert} (h : MayKeep l st x) (hf : x.number ∉ fresh) :
    selectShown l fresh st (some x.number) = some x.number := by
  obtain ⟨hmem, hacked, hst, hsev⟩ := h
  unfold selectShown
  simp only
  split
  · next z hz =>
    have hp := List.find?_some hz
    simp only [Bool.and_eq_true, beq_iff_eq, Option.some.injEq] at hp
    rw [hp.1.1]
  · next hnone =>
    have := List.find?_eq_none.1 hnone x (mem_raisedAt.2 ⟨hmem, hacked, hst⟩)
    simp only [beq_self_eq_true, Bool.true_and, Bool.and_eq_true, Bool.or_eq_true, Bool.not_eq_true', decide_eq_true_eq, List.any_eq_false,
      not_and] at this
    refine absurd ?_ (this (by simpa using hf))
    exact hsev.imp id fun hall y hy => by have hy := mem_raisedAt.1 hy; have := hall y hy.1 hy.2.1 hy.2.2; omega

/-! ### The end of an act (R156) -/

theorem State.refreshStation_shown (s : State) (st u : StationNo) : ((s.refreshStation st).station u).shown = (s.station u).shown ∧
    ((s.refreshStation st).station u).holdoff = (s.station u).holdoff := by
  unfold State.refreshStation
  simp only
  rw [State.chooseLamp_form, show ∀ (v : State) (c : Vector Channel 64), State.station { v with channels := c } u = v.station u from fun _ _ => rfl,
    show ∀ x, (s.setStation st x).station u = if st = u then x else s.station u from fun x => tget_tset _ _ _ _]
  split
  · next h => subst h; exact ⟨rfl, rfl⟩
  · exact ⟨rfl, rfl⟩

/-- What an act leaves shown at a station, and its holdoff: what the station selects. -/
theorem State.closeAct_selects (s : State) (fresh : List Nat) (sources : List SourceNo) (u : StationNo) :
    ((s.closeAct fresh sources).station u).shown = ((s.station u).select s.alerts fresh u).shown ∧
    ((s.closeAct fresh sources).station u).holdoff = ((s.station u).select s.alerts fresh u).holdoff := by
  unfold State.closeAct
  simp only
  have hselect : (s.selectAll fresh).station u = (s.station u).select s.alerts fresh u := tget_tmap _ _ _
  have hrefresh := forEach_invariant
    (fun t : State => (t.station u).shown = ((s.station u).select s.alerts fresh u).shown ∧
      (t.station u).holdoff = ((s.station u).select s.alerts fresh u).holdoff)
    (fun (st : StationNo) v => State.refreshStation v st) (fun st t h => by
      rw [(State.refreshStation_shown t st u).1, (State.refreshStation_shown t st u).2]; exact h) (s.selectAll fresh)
    (by rw [hselect]; exact ⟨rfl, rfl⟩)
  exact foldl_invariant (fun t : State => (t.station u).shown = ((s.station u).select s.alerts fresh u).shown ∧
      (t.station u).holdoff = ((s.station u).select s.alerts fresh u).holdoff) _
    (fun t src h => by rw [State.refreshSourceBeacon_form]; exact h) sources _ hrefresh

/-- An act of the alert manager that changes the list is closed; without one the list, the stations and the lamps stay. -/
theorem AlertStep.closes {s t : State} (h : AlertStep s t) :
    (t.alerts = s.alerts ∧ t.stations = s.stations ∧ t.channels = s.channels) ∨
    ∃ (u : State) (fresh : List Nat) (sources : List SourceNo), t = u.closeAct fresh sources ∧
      u.stations = s.stations ∧ u.channels = s.channels ∧ u.exhibits = s.exhibits := by
  have hremoves (p : Alert → Bool) : ((s.removeAlerts p).alerts = s.alerts ∧ (s.removeAlerts p).stations = s.stations ∧
      (s.removeAlerts p).channels = s.channels) ∨ ∃ (u : State) (fresh : List Nat) (sources : List SourceNo),
      s.removeAlerts p = u.closeAct fresh sources ∧ u.stations = s.stations ∧ u.channels = s.channels ∧ u.exhibits = s.exhibits := by
    unfold State.removeAlerts
    split
    · exact .inr ⟨_, _, _, rfl, rfl, rfl, rfl⟩
    · exact .inl ⟨rfl, rfl, rfl⟩
  cases h with
  | raised src cause code severity =>
    unfold State.raise
    split
    · exact .inl ⟨rfl, rfl, rfl⟩
    · exact .inr ⟨_, _, _, rfl, by rw [State.noteRouting_form]; rfl, by rw [State.noteRouting_form]; rfl, by rw [State.noteRouting_form]; rfl⟩
    · exact .inr ⟨_, _, _, rfl, by rw [State.noteRouting_form]; rfl, by rw [State.noteRouting_form]; rfl, by rw [State.noteRouting_form]; rfl⟩
    · exact .inr ⟨_, _, _, rfl, by rw [State.noteRouting_form]; rfl, by rw [State.noteRouting_form]; rfl, by rw [State.noteRouting_form]; rfl⟩
    · exact .inl ⟨rfl, rfl, rfl⟩
  | removed p => exact hremoves p
  | acknowledged x hx =>
    unfold State.acknowledge
    split
    · exact hremoves _
    · exact .inr ⟨_, _, _, rfl, rfl, rfl, rfl⟩
  | escalated x hx =>
    unfold State.escalate
    split
    · exact .inr ⟨_, _, _, rfl, rfl, rfl, rfl⟩
    · refine .inr ⟨_, _, _, rfl, ?_, ?_, ?_⟩ <;> split <;> rfl

/-! ### What stations show, through every act -/

theorem State.closeAct_shownLaw (s : State) (fresh : List Nat) (sources : List SourceNo) : (s.closeAct fresh sources).ShownLaw := by
  intro st
  rw [State.closeAct_alerts, (State.closeAct_selects s fresh sources st).1]
  show (∀ n ∈ selectShown s.alerts fresh st (s.station st).shown, _) ∧ (selectShown s.alerts fresh st (s.station st).shown = none → _)
  obtain ⟨x, ⟨hmem, hacked, hst, hsev⟩, hshown, -, hsel⟩ | ⟨n, hsel, i, hi, hx⟩ | ⟨hsel, hnone⟩ :=
    selectShown_cases s.alerts fresh st (s.station st).shown
  · rw [hsel, hshown]
    refine ⟨fun n hn => ⟨x, hmem, Option.some.inj hn, hacked, hst, fun hlt => hsev.resolve_left (by omega)⟩, by simp⟩
  · rw [hsel]
    obtain ⟨hnum, hacked, hst, hall, -⟩ := hx _ (List.getElem?_eq_getElem hi)
    refine ⟨fun m hm => ⟨_, List.getElem_mem hi, hnum.trans (Option.some.inj hm), hacked, hst, fun hlt y hy hya hys => ?_⟩, by simp⟩
    exact lt_of_le_of_lt (hall y hy hya hys) hlt
  · rw [hsel]
    refine ⟨by simp, fun _ x hx => ?_⟩
    by_contra hraised
    simp only [ne_eq, not_or, not_not, Bool.not_eq_true] at hraised
    have : x ∈ raisedAt s.alerts st := mem_raisedAt.2 ⟨hx, hraised⟩
    simp [hnone] at this

/-- The law of a list and of what stations show. -/
theorem State.ShownLaw.same {s t : State} (f : Alert → Alert) (ha : t.alerts = s.alerts.map f) (hf : ∀ x : Alert, x.Alike (f x))
    (hst : ∀ st, (t.station st).shown = (s.station st).shown) (hs : s.ShownLaw) : t.ShownLaw := by
  intro st
  rw [ha, hst]
  obtain ⟨hsome, hnone⟩ := hs st
  refine ⟨fun n hn => ?_, fun hn y hy => ?_⟩
  · obtain ⟨x, hx, hnum, hacked, hroute, hsev⟩ := hsome n hn
    refine ⟨f x, List.mem_map_of_mem hx, by rw [(hf x).number, hnum], by rw [(hf x).acked, hacked], by rw [(hf x).station, hroute], ?_⟩
    rw [(hf x).severity]
    intro hlt y hy
    obtain ⟨z, hz, rfl⟩ := List.mem_map.1 hy
    rw [(hf z).acked, (hf z).station, (hf z).severity]
    exact hsev hlt z hz
  · obtain ⟨z, hz, rfl⟩ := List.mem_map.1 hy
    rw [(hf z).acked, (hf z).station]
    exact hnone hn z hz

theorem State.ShownLaw.of_tables {s t : State} (ha : t.alerts = s.alerts) (hst : t.stations = s.stations) (hs : s.ShownLaw) : t.ShownLaw :=
  hs.same id (by simp [ha]) (fun _ => ⟨rfl, rfl, rfl, rfl, rfl, rfl⟩) fun st => by unfold State.station; rw [hst]

theorem State.takeStationTable_shown (s : State) (u : StationNo) : (s.takeStationTable.station u).shown = (s.station u).shown := by
  unfold State.takeStationTable
  simp only
  refine forEach_invariant (fun t : State => (t.station u).shown = (s.station u).shown) _
    (fun st t h => by rw [(State.refreshStation_shown t st u).1, h]) _ ?_
  refine forEach_invariant (fun t : State => (t.station u).shown = (s.station u).shown) _
    (fun st t h => by rw [State.dropCallLamp_form]; exact h) _ ?_
  rw [show State.station { s with stations := tmap (fun st x => x.withRecord (s.stationRecord st)) s.stations } u =
    (s.station u).withRecord (s.stationRecord u) from tget_tmap _ _ _]
  rfl

theorem shownLaw_tables : TableLaw State.ShownLaw where
  tables _ _ ha hst _ hs := hs.of_tables ha hst
  alike h hs := by
    obtain ⟨f, ha, hf⟩ := h.alerts
    exact hs.same f ha hf fun st => (h.station st).shown
  alert h hs := by
    obtain ⟨ha, hst, -⟩ | ⟨u, fresh, sources, rfl, -⟩ := h.closes
    · exact hs.of_tables ha hst
    · exact u.closeAct_shownLaw fresh sources
  beacon _ _ _ _ hs := hs.of_tables rfl rfl
  stations _ hs := hs.same id (by rw [State.takeStationTable_form, List.map_id]) (fun _ => ⟨rfl, rfl, rfl, rfl, rfl, rfl⟩)
    (State.takeStationTable_shown _)

theorem shownLaw_kept : StateLaw State.ShownLaw where
  alike h hs := shownLaw_tables.alike h hs
  acts k hs := shownLaw_tables.acts_of_shows (fun ha hst hs => hs.of_tables ha hst) k hs
  reset := fun st => by
    rw [State.station_reset]
    exact ⟨fun n hn => by simp [Station.reset] at hn, fun _ x hx => by simp [State.reset] at hx⟩

end Sys2Proof.Machine
end

section
/-! What the display buses and the call lamps present (R164), through every act. -/

namespace Sys2Proof.Machine

/-! ### The settings of the ALERT layers -/

/-- The ALERT layers keep their settings. -/
def SameAlertSettings (s t : State) : Prop := ∀ ch, (t.channel ch).alertLayer.setting = (s.channel ch).alertLayer.setting

namespace SameAlertSettings

theorem refl (s : State) : SameAlertSettings s s := fun _ => rfl
theorem trans {s t u : State} (h : SameAlertSettings s t) (k : SameAlertSettings t u) : SameAlertSettings s u := fun ch => (k ch).trans (h ch)
theorem of_channels {s t : State} (h : t.channels = s.channels) : SameAlertSettings s t := fun ch => by unfold State.channel; rw [h]

theorem setLayer (s : State) (ch : ChannelNo) {n : LayerName} (x : Setting) (hn : n ≠ .alertLayer) : SameAlertSettings s (s.setLayer ch n x) := by
  intro c
  rw [State.channel_setLayer]
  split
  · next hc =>
    subst hc
    cases n with
    | alertLayer => exact absurd rfl hn
    | showLayer => rfl
    | readyLayer => rfl
  · rfl

theorem chooseLamp (s : State) (l : Option ChannelNo) {n : LayerName} (x : Setting) (hn : n ≠ .alertLayer) :
    SameAlertSettings s (s.chooseLamp l n x) := by
  unfold State.chooseLamp State.chooseLayer
  split
  · exact .refl s
  · split
    · exact .refl s
    · exact .setLayer s _ x hn

theorem enterState (s : State) (e : ExhibitNo) (st : ExhibitState) : SameAlertSettings s (s.enterState e st) := by
  unfold State.enterState State.evalReady
  have hput : SameAlertSettings s (s.putExhibit e ((s.exhibit e).entering st)) := .of_channels (by rw [State.putExhibit_form])
  split
  · exact hput
  · exact hput.trans (.chooseLamp _ _ _ (by decide))

theorem idleShowLamps (s : State) (lamps : List (Option ChannelNo)) : SameAlertSettings s (s.idleShowLamps lamps) := by
  refine foldl_invariant (SameAlertSettings s) _ (fun t l h => h.trans ?_) lamps s (.refl s)
  cases l with
  | none => exact .refl t
  | some ch => exact .setLayer t ch .idle (by decide)

theorem endShow (s : State) (e : ExhibitNo) : SameAlertSettings s (s.endShow e) := by
  unfold State.endShow
  have hput : SameAlertSettings s (s.putSlot e (s.slot e).emptied) := .of_channels (by rw [State.putSlot_form])
  simp only
  split
  · exact hput
  · exact hput.trans (.idleShowLamps _ _)

end SameAlertSettings

/-- The chosen setting is in force at the lamp chosen for. -/
theorem State.chooseLamp_setting (s : State) (ch : ChannelNo) (x : Setting) :
    ((s.chooseLamp (some ch) .alertLayer x).channel ch).alertLayer.setting = x := by
  unfold State.chooseLamp State.chooseLayer
  simp only
  split
  · next h => exact h
  · rw [State.channel_setLayer, if_pos rfl]; rfl

/-! ### A station brought up to date -/

/-- The station presents the entry it shows, as the list has it. -/
def State.Presents (s : State) (st : StationNo) : Prop :=
  ((s.station st).displayNumber, (s.station st).displaySeverity) = s.displayValues st ∧
  ∀ ch, (s.station st).callLamp = some ch → (s.channel ch).alertLayer.setting = s.callLampSetting st

/-- Each call lamp serves one station. -/
def State.CallLampsApart (s : State) : Prop :=
  ∀ (ch : ChannelNo) (st u : StationNo), (s.station st).callLamp = some ch → (s.station u).callLamp = some ch → st = u

/-- No call lamp is a lamp of an exhibit. -/
def State.CallLampsFree (s : State) : Prop :=
  ∀ (ch : ChannelNo) (e : ExhibitNo) (st : StationNo), s.BindsChannel e ch → (s.station st).callLamp ≠ some ch

theorem State.Presents.same {s t : State} {st : StationNo} (ha : t.alerts = s.alerts) (hst : t.station st = s.station st)
    (hch : ∀ ch, (s.station st).callLamp = some ch → (t.channel ch).alertLayer.setting = (s.channel ch).alertLayer.setting)
    (h : s.Presents st) : t.Presents st := by
  unfold State.Presents State.displayValues State.callLampSetting State.shownAlert State.alert? at *
  rw [ha, hst]
  exact ⟨h.1, fun ch hlamp => (hch ch hlamp).trans (h.2 ch hlamp)⟩

theorem State.refreshStation_station (s : State) (st u : StationNo) : (s.refreshStation st).station u =
    if st = u then { s.station st with displayNumber := (s.displayValues st).1, displaySeverity := (s.displayValues st).2 } else s.station u := by
  unfold State.refreshStation
  simp only
  rw [State.chooseLamp_form, show ∀ (v : State) (c : Vector Channel 64), State.station { v with channels := c } u = v.station u from fun _ _ => rfl]
  exact tget_tset _ _ _ _

theorem State.refreshStation_alerts (s : State) (st : StationNo) : (s.refreshStation st).alerts = s.alerts := by
  rw [State.refreshStation_form]

theorem State.refreshStation_presents (s : State) (st : StationNo) : (s.refreshStation st).Presents st := by
  have hst := s.refreshStation_station st st
  rw [if_pos rfl] at hst
  have hvalues : (s.refreshStation st).displayValues st = s.displayValues st := by
    unfold State.displayValues State.shownAlert State.alert?
    rw [hst, State.refreshStation_alerts]
  have hsetting : (s.refreshStation st).callLampSetting st = s.callLampSetting st := by
    unfold State.callLampSetting State.shownAlert State.alert?
    rw [hst, State.refreshStation_alerts]
  unfold State.Presents
  rw [hvalues, hsetting, hst]
  refine ⟨rfl, fun ch hlamp => ?_⟩
  have hlamp : (s.station st).callLamp = some ch := hlamp
  unfold State.refreshStation
  simp only
  rw [hlamp]
  exact State.chooseLamp_setting _ ch _

/-- The refresh of one station leaves what another presents. -/
theorem State.Presents.refreshStation {s : State} {st u : StationNo} (hapart : s.CallLampsApart) (h : s.Presents u) :
    (s.refreshStation st).Presents u := by
  by_cases hu : st = u
  · subst hu; exact s.refreshStation_presents st
  · refine State.Presents.same (State.refreshStation_alerts s st) (by rw [State.refreshStation_station, if_neg hu]) (fun ch hch => ?_) h
    unfold State.refreshStation
    simp only
    rw [State.chooseLamp_channel _ _ _ _ _ fun hlamp => hu (hapart ch st u hlamp hch)]
    rfl

theorem State.CallLampsApart.refreshStation {s : State} (st : StationNo) : (s.refreshStation st).CallLampsApart ↔ s.CallLampsApart := by
  unfold State.CallLampsApart
  simp only [State.refreshStation_callLamp]

/-- All stations brought up to date, one after another: every one presents what it shows. -/
theorem State.refreshAll_presents {s : State} (hapart : s.CallLampsApart) (u : StationNo) :
    (forEach 4 (fun st v => State.refreshStation v st) s).Presents u := by
  have hall := forEach_establishes (f := fun (st : StationNo) v => State.refreshStation v st) (fun st v => v.CallLampsApart → v.Presents st)
    (fun st v _ => v.refreshStation_presents st)
    (fun st w v h hv => State.Presents.refreshStation ((State.CallLampsApart.refreshStation w).1 hv) (h ((State.CallLampsApart.refreshStation w).1 hv)))
    s u
  exact hall (forEach_invariant State.CallLampsApart _ (fun st v h => (State.CallLampsApart.refreshStation st).2 h) s hapart)

/-- A beacon is no call lamp. -/
theorem State.Presents.refreshBeacon {s : State} {st : StationNo} (src : SourceNo) (hfree : s.CallLampsFree) (h : s.Presents st) :
    (s.refreshSourceBeacon src).Presents st := by
  refine h.same (by rw [State.refreshSourceBeacon_form]) (by rw [State.refreshSourceBeacon_form]; rfl) fun ch hch => ?_
  unfold State.refreshSourceBeacon
  split
  · rfl
  · next e _ =>
    unfold State.refreshBeacon
    split
    · rfl
    · next c hc => rw [State.chooseLamp_channel _ _ _ _ _ fun hb => hfree ch e st ⟨c, hc, .inr (.inr hb)⟩ hch]

/-- The end of an act brings every station up to date. -/
theorem State.closeAct_presents {s : State} (fresh : List Nat) (sources : List SourceNo) (hapart : s.CallLampsApart) (hfree : s.CallLampsFree)
    (u : StationNo) : (s.closeAct fresh sources).Presents u := by
  have hselect : ∀ st, ((s.selectAll fresh).station st).callLamp = (s.station st).callLamp := fun st => by
    rw [show (s.selectAll fresh).station st = (s.station st).select s.alerts fresh st from tget_tmap _ _ _]; rfl
  have hpresents : (forEach 4 (fun st v => State.refreshStation v st) (s.selectAll fresh)).Presents u :=
    State.refreshAll_presents (fun ch st w hst hw => hapart ch st w (by rw [← hselect]; exact hst) (by rw [← hselect]; exact hw)) u
  have hkeeps : (forEach 4 (fun st v => State.refreshStation v st) (s.selectAll fresh)).CallLampsFree :=
    forEach_invariant State.CallLampsFree (fun (st : StationNo) v => State.refreshStation v st) (fun st v h ch e w hb => by
      rw [State.refreshStation_callLamp]
      exact h ch e w (by obtain ⟨c, hc, hn⟩ := hb; rw [State.refreshStation_form] at hc; exact ⟨c, hc, hn⟩)) (s.selectAll fresh)
      (fun ch e st hb => by rw [hselect]; exact hfree ch e st hb)
  unfold State.closeAct
  simp only
  refine State.Presents.same (s := sources.foldl (fun v src => v.refreshSourceBeacon src) (forEach 4 (fun st v => State.refreshStation v st)
    (s.selectAll fresh))) rfl rfl (fun _ _ => rfl) ?_
  exact (foldl_invariant (fun t : State => t.CallLampsFree ∧ t.Presents u) _ (fun t src h =>
    ⟨fun ch e st hb => by
      rw [State.refreshSourceBeacon_form] at hb ⊢
      exact h.1 ch e st hb, h.2.refreshBeacon src h.1⟩) sources _ ⟨hkeeps, hpresents⟩).2

/-- With the numbers of entries apart, a station that presents its entry meets the law (R164). -/
theorem State.presentLaw_of_presents {s : State} (hlist : s.AlertLaw) (h : ∀ st, s.Presents st) : s.PresentLaw := by
  have hshown (st : StationNo) (n : Nat) (x : Alert) (hn : (s.station st).shown = some n) (hx : x ∈ s.alerts) (hxn : x.number = n) :
      s.shownAlert st = some x := by
    unfold State.shownAlert State.alert?
    rw [hn, Option.bind_some]
    obtain ⟨y, hy⟩ := Option.isSome_iff_exists.1 (List.find?_isSome (p := fun z : Alert => z.number == n).2 ⟨x, hx, by simpa using hxn⟩)
    rw [hy, ListLaw.eq_of_number hlist (List.mem_of_find?_eq_some hy) hx (by have := List.find?_some hy; simp at this; rw [this, hxn])]
  have hnone (st : StationNo) (hn : (s.station st).shown = none) : s.shownAlert st = none := by
    unfold State.shownAlert; rw [hn]; rfl
  intro st
  obtain ⟨hdisplay, hlamp⟩ := h st
  unfold State.displayValues at hdisplay
  unfold State.callLampSetting at hlamp
  refine ⟨fun hblank => ?_, fun n hn x hx hxn hon => ?_, fun ch hch => ⟨fun hn => ?_, fun n hn x hx hxn => ?_⟩⟩
  · obtain hn | hoff := hblank
    · rw [hnone st hn] at hdisplay
      exact Prod.mk.inj hdisplay
    · cases hs : s.shownAlert st <;> simp only [hs, hoff, Bool.false_eq_true, if_false] at hdisplay <;> exact Prod.mk.inj hdisplay
  · rw [hshown st n x hn hx hxn] at hdisplay
    simp only [hon, if_true] at hdisplay
    exact Prod.mk.inj hdisplay
  · rw [hlamp ch hch, hnone st hn]
  · rw [hlamp ch hch, hshown st n x hn hx hxn]

/-! ### What stations present, through every act -/

/-- What the law reads has not changed. -/
theorem State.PresentLaw.same {s t : State} (f : Alert → Alert) (ha : t.alerts = s.alerts.map f) (hf : ∀ x : Alert, x.Alike (f x))
    (hst : ∀ st, (s.station st).Alike (t.station st)) (hch : SameAlertSettings s t) (hs : s.PresentLaw) : t.PresentLaw := by
  intro st
  obtain ⟨hblank, hdisplay, hlamp⟩ := hs st
  rw [(hst st).shown, (hst st).enable, (hst st).number, (hst st).severity, (hst st).callLamp, ha]
  refine ⟨hblank, fun n hn y hy hyn hon => ?_, fun ch hc => ?_⟩
  · obtain ⟨x, hx, rfl⟩ := List.mem_map.1 hy
    rw [(hf x).source, (hf x).severity]
    exact hdisplay n hn x hx (by rw [← (hf x).number]; exact hyn) hon
  · rw [hch ch]
    refine ⟨(hlamp ch hc).1, fun n hn y hy hyn => ?_⟩
    obtain ⟨x, hx, rfl⟩ := List.mem_map.1 hy
    rw [(hf x).severity]
    exact (hlamp ch hc).2 n hn x hx (by rw [← (hf x).number]; exact hyn)

theorem State.PresentLaw.of_tables {s t : State} (ha : t.alerts = s.alerts) (hst : t.stations = s.stations) (hch : SameAlertSettings s t)
    (hs : s.PresentLaw) : t.PresentLaw :=
  hs.same id (by simp [ha]) (fun _ => ⟨rfl, rfl, rfl, rfl, rfl, rfl⟩)
    (fun st => by unfold State.station; rw [hst]; exact ⟨rfl, rfl, rfl, rfl, rfl⟩) hch

/-- A lamp of an exhibit is set: no call lamp is one. -/
theorem State.PresentLaw.beacon {s : State} {e : ExhibitNo} {ch : ChannelNo} (x : Setting) (hb : s.BindsChannel e ch) (hbind : s.BindLaw)
    (hs : s.PresentLaw) : (s.setLayer ch .alertLayer x).PresentLaw := by
  intro st
  obtain ⟨hblank, hdisplay, hlamp⟩ := hs st
  refine ⟨hblank, hdisplay, fun c hc => ?_⟩
  have hne : c ≠ ch := by rintro rfl; exact hbind.2.2.1 c e st hb hc
  rw [State.setLayer_channel_ne s .alertLayer x hne]
  exact hlamp c hc

theorem State.takeStationTable_presents {s : State} (hf : s.stationRecordFault = none) (hbind : s.BindLaw) (st : StationNo) :
    s.takeStationTable.Presents st := by
  have hapart : s.takeStationTable.CallLampsApart := (hbind.stations hf).2.2.2
  unfold State.takeStationTable at hapart ⊢
  simp only at hapart ⊢
  generalize forEach 4 (fun (st : StationNo) v => State.dropCallLamp v (s.station st).callLamp)
    { s with stations := tmap (fun st x => x.withRecord (s.stationRecord st)) s.stations } = u at hapart ⊢
  refine State.refreshAll_presents (fun ch st w hst hw => hapart ch st w ?_ ?_) st
  all_goals
    rw [forEach_invariant (fun v : State => ∀ i, (v.station i).callLamp = (u.station i).callLamp) (fun (st : StationNo) v => State.refreshStation v st)
      (fun st v h i => by rw [State.refreshStation_callLamp, h]) u fun _ => rfl]
    assumption

/-- The laws that say together what stations present. -/
def State.PresentLaws (s : State) : Prop := s.AlertLaw ∧ s.BindLaw ∧ s.PresentLaw

theorem presentLaws_tables : TableLaw State.PresentLaws where
  tables he hsl ha hst hch hs :=
    ⟨alertLaw_tables.tables he hsl ha hst hch hs.1, bindLaw_tables.tables he hsl ha hst hch hs.2.1, hs.2.2.of_tables ha hst (.of_channels hch)⟩
  alike h hs := by
    obtain ⟨f, ha, hf⟩ := h.alerts
    exact ⟨alertLaw_tables.alike h hs.1, bindLaw_tables.alike h hs.2.1, hs.2.2.same f ha hf h.station h.channel⟩
  alert {s t} h hs := by
    have hlist := alertLaw_tables.alert h hs.1
    have hbind := bindLaw_tables.alert h hs.2.1
    refine ⟨hlist, hbind, ?_⟩
    obtain ⟨ha, hst, hch⟩ | ⟨u, fresh, sources, rfl, hst, hch, he⟩ := h.closes
    · exact hs.2.2.of_tables ha hst (.of_channels hch)
    · have hu : u.BindLaw := (SameBindings.of_tables he hst).bindLaw hs.2.1
      exact State.presentLaw_of_presents hlist fun st => State.closeAct_presents fresh sources hu.2.2.2 hu.2.2.1 st
  beacon e ch x hb hs := ⟨hs.1, hs.2.1, hs.2.2.beacon x hb hs.2.1⟩
  stations hf hs := by
    have hlist := alertLaw_tables.stations hf hs.1
    exact ⟨hlist, hs.2.1.stations hf, State.presentLaw_of_presents hlist fun st => State.takeStationTable_presents hf hs.2.1 st⟩

theorem State.PresentLaw.enterState {s : State} (hs : s.PresentLaw) (e : ExhibitNo) (st : ExhibitState) : (s.enterState e st).PresentLaw :=
  hs.of_tables (by rw [State.enterState_form]) (by rw [State.enterState_form]) (.enterState s e st)

theorem State.PresentLaw.putSlot {s : State} (hs : s.PresentLaw) (e : ExhibitNo) (x : Slot) : (s.putSlot e x).PresentLaw :=
  hs.of_tables (by rw [State.putSlot_form]) (by rw [State.putSlot_form]) (.of_channels (by rw [State.putSlot_form]))

theorem State.PresentLaw.putExhibit {s : State} (hs : s.PresentLaw) (e : ExhibitNo) (x : Exhibit) : (s.putExhibit e x).PresentLaw :=
  hs.of_tables (by rw [State.putExhibit_form]) (by rw [State.putExhibit_form]) (.of_channels (by rw [State.putExhibit_form]))

theorem State.PresentLaws.endShow {s : State} (hs : s.PresentLaws) (e : ExhibitNo) : (s.endShow e).PresentLaws := by
  obtain ⟨hlist, hbind, hpresent⟩ := hs
  refine ⟨?_, hbind.endShow e, hpresent.of_tables (by rw [State.endShow_form]) (by rw [State.endShow_form]) (.endShow s e)⟩
  unfold State.AlertLaw
  rw [State.endShow_form]
  exact hlist

theorem State.PresentLaws.acts {s t : State} (k : Acts s t) (hslot : s.SlotLaw) (hs : s.PresentLaws) : t.PresentLaw := by
  induction k with
  | quiet q => exact (presentLaws_tables.quiet q hs).2.2
  | enters e st => exact hs.2.2.enterState e st
  | starts e address => exact (hs.2.2.putSlot e _).enterState e .running
  | ends e st _ _ _ _ q => exact (presentLaws_tables.quiet q (hs.endShow e)).2.2.enterState e st
  | repeats e address _ q => exact (presentLaws_tables.quiet q (hs.endShow e)).2.2.putSlot e _
  | occupies e x => exact hs.2.2.putSlot e x
  | configuresOn e => exact hs.2.2.putExhibit e _
  | configuresOff e => exact hs.2.2.putExhibit e _
  | stops _ _ ih => exact ih hslot hs
  | @trans s t u h k ih ik =>
    have hbinds := bindLaws_kept.acts h ⟨hslot, hs.2.1⟩
    exact ik hbinds.1 ⟨alertLaw_kept.acts h hs.1, hbinds.2, ih hslot hs⟩

theorem presentLaws_kept : StateLaw fun s => s.SlotLaw ∧ s.PresentLaws where
  alike h hs := ⟨hs.1.same h.sameShows, presentLaws_tables.alike h hs.2⟩
  acts k hs := ⟨hs.1.acts k, alertLaw_kept.acts k hs.2.1, (bindLaws_kept.acts k ⟨hs.1, hs.2.2.1⟩).2, State.PresentLaws.acts k hs.1 hs.2⟩
  reset := by
    refine ⟨slotLaw_kept.reset, alertLaw_kept.reset, bindLaws_kept.reset.2, fun st => ?_⟩
    rw [State.station_reset]
    exact ⟨fun _ => ⟨rfl, rfl⟩, fun n hn => by simp [Station.reset] at hn, fun ch hch => by simp [Station.reset] at hch⟩

end Sys2Proof.Machine
end

section
/-! How a station selects after an order on alerts, and the laws of stations and of the reset state (O59, O6). -/

namespace Sys2Proof.Machine

/-! ### The selection after an act -/

/-- How a station selects at the end of an act in which the entry `fresh` was made or re-raised (R161 to R163). -/
def State.SelectsAt (s t : State) (fresh : Option Nat) (st : StationNo) : Prop :=
  (∀ x ∈ t.alerts, (s.station st).shown = some x.number → x.acked = false → x.station = some st → fresh ≠ some x.number →
    (3 ≤ x.severity ∨ ∀ y ∈ t.alerts, y.acked = false → y.station = some st → y.severity < 3) →
    (t.station st).shown = some x.number) ∧
  ((t.station st).shown ≠ (s.station st).shown ∨ (fresh.isSome = true ∧ (t.station st).shown = fresh) →
    (t.station st).holdoff = some 1000 ∧ ∀ n ∈ (t.station st).shown, MostUrgentAt t.alerts st n) ∧
  ((t.station st).shown = (s.station st).shown → fresh = none ∨ (t.station st).shown ≠ fresh →
    (t.station st).holdoff = (s.station st).holdoff)

/-- Without an act every station goes on as it is. -/
theorem State.SelectsAt.of_same {s t : State} (h : t.stations = s.stations) (st : StationNo) : s.SelectsAt t none st := by
  have hst : t.station st = s.station st := by unfold State.station; rw [h]
  unfold State.SelectsAt
  rw [hst]
  exact ⟨fun _ _ hn _ _ _ _ => hn, fun h => by simp at h, fun _ _ => rfl⟩

/-- An act closed with `fresh`: every station selects. -/
theorem State.closeAct_selectsAt (s : State) (fresh : Option Nat) (sources : List SourceNo) (st : StationNo) :
    s.SelectsAt (s.closeAct fresh.toList sources) fresh st := by
  obtain ⟨hshown, hholdoff⟩ := s.closeAct_selects fresh.toList sources st
  have hmem : ∀ n, n ∈ fresh.toList ↔ fresh = some n := fun n => Option.mem_toList
  unfold State.SelectsAt
  rw [State.closeAct_alerts, hshown, hholdoff]
  unfold Station.select
  simp only
  refine ⟨fun x hx hn hacked hst hf hsev => ?_, fun h => ?_, fun hsame hf => ?_⟩
  · rw [hn]
    exact selectShown_keeps ⟨hx, hacked, hst, hsev⟩ (by rwa [hmem])
  · refine ⟨if_pos ?_, fun n hn => ?_⟩
    · obtain hne | ⟨hsome, he⟩ := h
      · simp [hne]
      · obtain ⟨n, rfl⟩ := Option.isSome_iff_exists.1 hsome
        rw [he]
        simp
    · obtain ⟨x, -, hold, hx, hkept⟩ | ⟨m, hm, hmost⟩ | ⟨hnone, -⟩ := selectShown_cases s.alerts fresh.toList st (s.station st).shown
      · obtain hne | ⟨-, he⟩ := h
        · exact absurd hkept hne
        · exact absurd ((hmem _).2 (by rw [← he, hkept, hold])) hx
      · rw [Option.mem_def, hm] at hn
        obtain rfl := Option.some.inj hn
        exact hmost
      · rw [Option.mem_def, hnone] at hn
        simp at hn
  · refine if_neg ?_
    rw [hsame] at hf ⊢
    cases fresh with
    | none => simp
    | some n =>
      simp only [bne_self_eq_false, Option.toList_some, List.any_cons, List.any_nil, Bool.or_false, Bool.false_or, beq_iff_eq]
      exact hf.resolve_left (by simp)

theorem State.SelectsAt.of_stations {s u t : State} {fresh : Option Nat} {st : StationNo} (h : u.stations = s.stations)
    (k : u.SelectsAt t fresh st) : s.SelectsAt t fresh st := by
  unfold State.SelectsAt State.station at *
  rw [h] at k
  exact k

theorem State.removeAlerts_selectsAt (s : State) (p : Alert → Bool) (st : StationNo) : s.SelectsAt (s.removeAlerts p) none st := by
  unfold State.removeAlerts
  split
  · exact State.SelectsAt.of_stations (u := s.setAlerts (s.alerts.filter fun x => !p x)) rfl (State.closeAct_selectsAt _ none _ st)
  · exact .of_same rfl st

theorem State.acknowledge_selectsAt (s : State) (x : Alert) (st : StationNo) : s.SelectsAt (s.acknowledge x) none st := by
  unfold State.acknowledge
  split
  · exact State.removeAlerts_selectsAt s _ st
  · exact State.SelectsAt.of_stations (u := s.putAlert { x with acked := true, timer := none }) rfl (State.closeAct_selectsAt _ none _ st)

/-- A raise that makes or re-raises an entry: that entry is at the tail, and the stations select with it fresh. -/
theorem State.raise_selectsAt (s : State) (src : SourceNo) (cause : AlertCause) (code severity : Nat) (hrun : s.part = .run)
    (h : (s.alertOf? src cause).isSome = true ∨ s.alerts.length < 32) :
    (s.raise src cause code severity).alerts.getLast?.map (·.number) = some (s.raiseNumber src cause severity) ∧
      ∀ st, s.SelectsAt (s.raise src cause code severity) (some (s.raiseNumber src cause severity)) st := by
  have hcase := s.raiseCase_spec src cause severity
  unfold State.raise State.raiseNumber
  cases hc : s.raiseCase src cause severity with
  | dropped => rw [hc] at hcase; rw [hrun] at hcase; simp at hcase
  | merged x =>
    refine ⟨?_, fun st => ?_⟩
    · obtain ⟨y, hy, hn, -, -⟩ := s.mergeRaise_alerts x code severity
      simp only [hy, List.getLast?_append, List.getLast?_singleton, Option.some_or, Option.map_some, hn]
    · unfold State.mergeRaise
      simp only
      exact State.SelectsAt.of_stations (by rw [State.noteRouting_form]; rfl) (State.closeAct_selectsAt _ (some x.number) _ st)
  | entered =>
    refine ⟨?_, fun st => ?_⟩
    · obtain ⟨y, hy, hn, -, -⟩ := s.enterAlert_alerts s.alerts [] src cause code severity
      simp only [hy, List.getLast?_append, List.getLast?_singleton, Option.some_or, Option.map_some, hn]
    · unfold State.enterAlert
      simp only
      exact State.SelectsAt.of_stations (by rw [State.noteRouting_form]; rfl) (State.closeAct_selectsAt _ (some _) _ st)
  | displacing x =>
    rw [hc] at hcase
    obtain ⟨-, hnone, hfull, -, -⟩ := hcase
    rw [hnone] at h
    simp at h
    omega
  | refused =>
    rw [hc] at hcase
    obtain ⟨-, hnone, hfull, -⟩ := hcase
    rw [hnone] at h
    simp at h
    omega

/-! ### The orders on alerts -/

/-- The result and the walk change neither the list nor the stations. -/
theorem State.takeCell_alerts (s u : State) (owner : Word → Word → State → Answer) (r : Result) (d : Nat)
    (ho : owner (s.word (addrCell s.deck.position + 1)) (s.word (addrCell s.deck.position + 2)) s = u.answer r d)
    (hrep : u.reports = []) : (s.takeCell owner).alerts = u.alerts ∧ (s.takeCell owner).stations = u.stations := by
  rw [State.takeCell_of_answer s u owner r d ho hrep]
  unfold State.advanceWalk
  simp only
  split
  · exact ⟨rfl, rfl⟩
  · exact ⟨rfl, rfl⟩

theorem State.SelectsAt.of_effect {s u t : State} {fresh : Option Nat} {st : StationNo} (h : t.alerts = u.alerts ∧ t.stations = u.stations)
    (k : s.SelectsAt u fresh st) : s.SelectsAt t fresh st := by
  unfold State.SelectsAt State.station at *
  rw [h.1, h.2]
  exact k

theorem State.closeAct_reports (s : State) (fresh : List Nat) (sources : List SourceNo) : (s.closeAct fresh sources).reports = s.reports := by
  rw [State.closeAct_form]

theorem AlertStep.reports {s t : State} (h : AlertStep s t) : t.reports = s.reports := by rw [h.act.1]

/-- ACK ALERT (0x32) or REMOVE ALERT (0x33) at a cell. -/
theorem State.orderAckAlert_answer (w1 w2 : Word) (s : State) : ∃ u r d, State.orderAckAlert w1 w2 s = u.answer r d ∧
    u.reports = s.reports ∧ ∀ st, s.SelectsAt u none st := by
  unfold State.orderAckAlert
  split
  · exact ⟨s, _, _, rfl, rfl, .of_same rfl⟩
  · next x hx =>
    split
    · exact ⟨s, _, _, rfl, rfl, .of_same rfl⟩
    · exact ⟨s.acknowledge x, .taken, 0, rfl, (AlertStep.acknowledged x (List.mem_of_find?_eq_some hx)).reports, s.acknowledge_selectsAt x⟩

theorem State.orderRemoveAlert_answer (w1 w2 : Word) (s : State) : ∃ u r d, State.orderRemoveAlert w1 w2 s = u.answer r d ∧
    u.reports = s.reports ∧ ∀ st, s.SelectsAt u none st := by
  unfold State.orderRemoveAlert
  split
  · exact ⟨s, _, _, rfl, rfl, .of_same rfl⟩
  · next x hx => exact ⟨_, .taken, 0, rfl, (AlertStep.removed _).reports, s.removeAlerts_selectsAt _⟩

/-- The halves of a raise's second operand: severity and code (R175). -/
theorem bits_high (w : Word) : bits w 8 8 = w.toNat / 256 := by
  have := w.isLt
  unfold bits
  norm_num
  omega

theorem bits_low (w : Word) : bits w 0 8 = w.toNat % 256 := by
  unfold bits
  norm_num

theorem State.sourceOff_eq_false {s : State} {src : SourceNo} (h : ∀ e, sourceExhibit src = some e → (s.exhibit e).state ≠ .off) :
    s.sourceOff src = false := by
  unfold State.sourceOff
  split
  · next e he => simpa using h e he
  · rfl

/-- A RAISE ALERT that names a source which is not OFF. -/
theorem State.orderRaiseAlert_valid (w1 w2 : Word) (s : State) (src : SourceNo) (hsrc : w1.toNat = src.val)
    (hoff : ∀ e, sourceExhibit src = some e → (s.exhibit e).state ≠ .off) (hlow : 256 ≤ w2.toNat) (hhigh : w2.toNat < 1024)
    (hcode : w2.toNat % 256 ≤ 63) :
    State.orderRaiseAlert w1 w2 s =
      (s.raise src .hostAlert (w2.toNat % 256) (w2.toNat / 256)).answer .taken (s.raiseNumber src .hostAlert (w2.toNat / 256)) := by
  unfold State.orderRaiseAlert
  rw [hsrc, index?_val]
  simp only [bits_high, bits_low, State.sourceOff_eq_false hoff, Bool.false_eq_true, if_false]
  rw [if_neg (by omega)]

/-- The order rows of alerts: the list and the stations after the cell is taken. -/
theorem exec_alertOrder_selects (s : State) (code w1 w2 : Nat) (fresh : Option Nat) (hcell : s.AtCell code w1 w2) (hrun : s.part = .run)
    (h : (code = 0x32 ∧ fresh = none) ∨ (code = 0x33 ∧ fresh = none) ∨
      (code = 0x31 ∧ (∃ src : SourceNo, w1 = src.val ∧ (∀ e, sourceExhibit src = some e → (s.exhibit e).state ≠ .off) ∧
        fresh = some (s.raiseNumber src .hostAlert (w2 / 256)) ∧
        ((s.alertOf? src .hostAlert).isSome = true ∨ s.alerts.length < 32)) ∧ 256 ≤ w2 ∧ w2 < 1024 ∧ w2 % 256 ≤ 63)) :
    ∃ t, exec (orderRow code) s = .next t ∧ (∀ n ∈ fresh, t.alerts.getLast?.map (·.number) = some n) ∧ ∀ st, s.SelectsAt t fresh st := by
  have ⟨_, _, _, hw1, hw2, hrep⟩ := hcell
  obtain ⟨rfl, rfl⟩ | ⟨rfl, rfl⟩ | ⟨rfl, ⟨src, rfl, hoff, rfl, hroom⟩, hlow, hhigh, hcode⟩ := h
  · obtain ⟨u, r, d, ho, hur, hsel⟩ :=
      State.orderAckAlert_answer (s.word (addrCell s.deck.position + 1)) (s.word (addrCell s.deck.position + 2)) s
    rw [← State.inRun_run s State.orderAckAlert _ _ hrun] at ho
    refine ⟨s.takeCell (State.inRun State.orderAckAlert), ?_, by simp, fun st => (hsel st).of_effect ?_⟩
    · rw [← State.takeOrder_atCell s _ w1 w2 _ hcell]; rfl
    · exact State.takeCell_alerts s u _ r d ho (hur.trans hrep)
  · obtain ⟨u, r, d, ho, hur, hsel⟩ :=
      State.orderRemoveAlert_answer (s.word (addrCell s.deck.position + 1)) (s.word (addrCell s.deck.position + 2)) s
    rw [← State.inRun_run s State.orderRemoveAlert _ _ hrun] at ho
    refine ⟨s.takeCell (State.inRun State.orderRemoveAlert), ?_, by simp, fun st => (hsel st).of_effect ?_⟩
    · rw [← State.takeOrder_atCell s _ w1 w2 _ hcell]; rfl
    · exact State.takeCell_alerts s u _ r d ho (hur.trans hrep)
  · have ho := State.orderRaiseAlert_valid (s.word (addrCell s.deck.position + 1)) (s.word (addrCell s.deck.position + 2)) s src hw1 hoff
      (by omega) (by omega) (by omega)
    rw [← State.inRun_run s State.orderRaiseAlert _ _ hrun, hw2] at ho
    have htake := State.takeCell_alerts s _ _ _ _ ho ((AlertStep.raised src .hostAlert _ _).reports.trans hrep)
    obtain ⟨hlast, hsel⟩ := s.raise_selectsAt src .hostAlert (w2 % 256) (w2 / 256) hrun hroom
    refine ⟨s.takeCell (State.inRun State.orderRaiseAlert), ?_, fun n hn => ?_, fun st => (hsel st).of_effect htake⟩
    · rw [← State.takeOrder_atCell s _ _ w2 _ hcell]; rfl
    · rw [htake.1, hlast]
      exact hn

/-! ### The statements -/

/-- Settles O59: the end of every act of the alert manager selects at every station and brings it up to date (R156); no other act
changes the list's routing, what stations show or an ALERT layer of a call lamp. -/
theorem shownAlertSelected : Obligations.ShownAlertSelected := by
  refine ⟨fun s t hs h => shownLaw_kept.step hs h, fun s t ⟨halert, hshown, hslot, hbind, hpresent⟩ h => ?_, ?_⟩
  · obtain ⟨hslot', halert', hbind', hpresent'⟩ := presentLaws_kept.step ⟨hslot, halert, hbind, hpresent⟩ h
    exact ⟨halert', shownLaw_kept.step hshown h, hslot', hbind', hpresent'⟩
  · intro s code w1 w2 fresh hcell hrun _ _ _ _ h
    exact exec_alertOrder_selects s code w1 w2 fresh hcell hrun h

/-- Settles O6: the laws, one by one, at the reset contents. -/
theorem resetMeetsLaws : Obligations.ResetMeetsLaws :=
  ⟨⟨rfl, by decide⟩, State.unitLaw_reset, encoreLaw_kept.reset, slotLaw_kept.reset, State.heldLaw_reset, State.homedLaw_reset,
    alertLaw_kept.reset, coldLaw_kept.reset, stopLaws_kept.reset.2.2, State.windowLaw_reset, State.velocityLaw_reset, bindLaws_kept.reset.2,
    shownLaw_kept.reset, presentLaws_kept.reset.2.2.2⟩

end Sys2Proof.Machine
end

section
/-! The part's clock (section 10.8): what 250 µs change, and which cadences they make due (O2, O58). -/

namespace Sys2Proof.Machine

/-! ### One tick -/

theorem InputFilter.sampled_eq (f : InputFilter) (n : Nat) : f.sampled n = f.afterSample n := by
  unfold InputFilter.sampled InputFilter.afterSample
  by_cases hl : f.pin = f.level
  · simp [hl]
  · by_cases hn : f.run + 1 < n
    · simp [hl, hn]
    · simp [hl, hn, Nat.le_of_not_lt hn]

/-- A tick inside a millisecond. -/
theorem State.tick_inside (s : State) (hq : s.cadence.quarter ≠ 3) :
    s.tick = s.sampleFast.nextQuarter.setPending (s.pending ++ (s.fastEvents ++ s.sampleFast.nextQuarter.frameEvents)) := by
  have hne : s.sampleFast.nextQuarter.cadence.quarter ≠ 0 := by
    show s.cadence.quarter + 1 ≠ 0
    revert hq
    generalize s.cadence.quarter = q
    revert q
    decide
  unfold State.tick
  simp only
  rw [if_neg hne]

/-- A tick that ends a millisecond. -/
theorem State.tick_ends (s : State) (hq : s.cadence.quarter = 3) :
    s.tick = s.sampleFast.nextQuarter.elapseMs.setPending (s.pending ++ (s.sampleFast.nextQuarter.elapseMs.timerEvents ++ (s.fastEvents ++
      (s.guardEvents ++ (s.sampleFast.nextQuarter.elapseMs.cadenceEvents ++ s.sampleFast.nextQuarter.elapseMs.frameEvents))))) := by
  have hzero : s.sampleFast.nextQuarter.cadence.quarter = 0 := by
    show s.cadence.quarter + 1 = 0
    rw [hq]; rfl
  unfold State.tick
  simp only
  rw [if_pos hzero]
  rfl

theorem step_idle {s : State} (h : s.pending = []) : step s = .next s.tick := by
  unfold step
  rw [h]

theorem State.tick_quarter (s : State) : s.tick.cadence.quarter = s.cadence.quarter + 1 := by
  by_cases hq : s.cadence.quarter = 3
  · rw [s.tick_ends hq]; rfl
  · rw [s.tick_inside hq]; rfl

theorem State.tick_frame (s : State) : s.tick.cadence.frame = if s.cadence.frame < 39 then s.cadence.frame + 1 else 0 := by
  have hcount : nextCount1 40 s.cadence.frame = if s.cadence.frame < 39 then s.cadence.frame + 1 else 0 := by
    unfold nextCount1; split_ifs <;> omega
  rw [← hcount]
  by_cases hq : s.cadence.quarter = 3
  · rw [s.tick_ends hq]; rfl
  · rw [s.tick_inside hq]; rfl

theorem State.tick_axis (s : State) (a : AxisNo) : s.tick.axis a = (s.axis a).sampled := by
  by_cases hq : s.cadence.quarter = 3
  · rw [s.tick_ends hq]; exact tget_tmap _ _ _
  · rw [s.tick_inside hq]; exact tget_tmap _ _ _

theorem nextCount1_succ {period n : Nat} : nextCount1 (period + 1) n = if n < period then n + 1 else 0 := by
  unfold nextCount1; split_ifs <;> omega

/-! ### What becomes due -/

/-- The rows that the cadences alone make due. -/
def isCadenceRow : Instr → Bool
  | .axisUpdate _ | .pwmPeriod | .axisImageRefresh _ | .speedMeasurement _ | .ageStep | .displayFrame _ => true
  | _ => false

theorem mem_dueWhen {due : Bool} {c d : Instr} : c ∈ dueWhen due d ↔ due = true ∧ c = d := by
  cases due <;> simp [dueWhen]

theorem orderRow_not_cadence (code : Nat) : isCadenceRow (orderRow code) = false := by
  unfold orderRow
  split <;> rfl

/-- Rows that are no cadences. -/
abbrev NoCadence (l : List Instr) : Prop := ∀ c ∈ l, isCadenceRow c = false

theorem NoCadence.append {l m : List Instr} (hl : NoCadence l) (hm : NoCadence m) : NoCadence (l ++ m) := fun c hc =>
  (List.mem_append.1 hc).elim (hl c) (hm c)

theorem NoCadence.flatMap {α : Type} {l : List α} {f : α → List Instr} (h : ∀ x, NoCadence (f x)) : NoCadence (l.flatMap f) := fun c hc => by
  obtain ⟨x, _, hx⟩ := List.mem_flatMap.1 hc
  exact h x c hx

theorem NoCadence.dueWhen {due : Bool} {d : Instr} (h : isCadenceRow d = false) : NoCadence (dueWhen due d) := fun c hc => by
  rw [(mem_dueWhen.1 hc).2, h]

theorem State.fastEvents_noCadence (s : State) : NoCadence s.fastEvents := by
  have hswitch (x : Axis) (a : AxisNo) : NoCadence (x.switchEvents a) :=
    .append (.append (.dueWhen (by split <;> rfl)) (.dueWhen (by split <;> rfl))) (.dueWhen (by split <;> rfl))
  exact .append (.append (.append (.flatMap fun _ => .dueWhen rfl) (.flatMap fun _ => hswitch _ _)) (.dueWhen (by split <;> rfl)))
    (.append (.dueWhen (orderRow_not_cadence _)) (.dueWhen rfl))

theorem State.guardEvents_noCadence (s : State) : NoCadence s.guardEvents := .flatMap fun _ => .dueWhen (by split <;> rfl)

theorem Slot.waitEvents_noCadence (sl : Slot) (e : ExhibitNo) : NoCadence (sl.waitEvents e) := by
  unfold Slot.waitEvents
  split
  · simp [NoCadence]
  · split <;> simp [NoCadence, isCadenceRow]

theorem State.timerEvents_noCadence (s : State) : NoCadence s.timerEvents := by
  refine .append (.append (.append (.append (.append (.dueWhen rfl) (.flatMap fun ch => ?_)) (.flatMap fun _ => .dueWhen rfl))
    (.flatMap fun _ => .dueWhen rfl)) (.flatMap fun b => ?_)) (.flatMap fun e => ?_)
  · exact .append (.append (.dueWhen rfl) (.dueWhen rfl)) (.dueWhen rfl)
  · exact .append (.append (.dueWhen rfl) (.dueWhen rfl)) (.dueWhen rfl)
  · exact .append (.append (.append (.dueWhen rfl) (.dueWhen rfl)) (.dueWhen rfl)) (Slot.waitEvents_noCadence _ e)

/-- A cadence row that waits after a tick on an empty queue is due by its count. -/
theorem State.mem_tick_pending {s : State} {c : Instr} (hs : s.pending = []) (hc : isCadenceRow c = true) :
    c ∈ s.tick.pending ↔ (s.cadence.quarter = 3 ∧ c ∈ s.tick.cadenceEvents) ∨ c ∈ s.tick.frameEvents := by
  have hno {l : List Instr} (hl : NoCadence l) : c ∉ l := fun h => by have := hl c h; rw [hc] at this; simp at this
  by_cases hq : s.cadence.quarter = 3
  · rw [s.tick_ends hq]
    show c ∈ s.pending ++ _ ↔ (_ ∧ c ∈ s.sampleFast.nextQuarter.elapseMs.cadenceEvents) ∨ c ∈ s.sampleFast.nextQuarter.elapseMs.frameEvents
    simp only [hs, List.nil_append, List.mem_append, hno (State.timerEvents_noCadence _), hno s.fastEvents_noCadence, hno s.guardEvents_noCadence,
      false_or, hq, true_and]
  · rw [s.tick_inside hq]
    show c ∈ s.pending ++ _ ↔ (_ ∧ _) ∨ c ∈ s.sampleFast.nextQuarter.frameEvents
    simp only [hs, List.nil_append, List.mem_append, hno s.fastEvents_noCadence, false_or, hq, false_and]

theorem mem_frameEvents {s : State} {c : Instr} : c ∈ s.frameEvents ↔ s.cadence.frame = 0 ∧ ∃ st, c = .displayFrame st := by
  unfold State.frameEvents
  split
  · next h => simp [h, eq_comm]
  · next h => simp [h]

theorem speedMeasurement_mem_cadenceEvents {s : State} {a : AxisNo} : .speedMeasurement a ∈ s.cadenceEvents ↔ s.cadence.speed = 0 := by
  unfold State.cadenceEvents
  simp only [List.mem_append, List.mem_map, List.mem_finRange, true_and, reduceCtorEq, exists_false, List.mem_singleton, false_or]
  constructor
  · rintro ((h | h) | h)
    · split at h
      · obtain ⟨b, -, hb⟩ := List.mem_flatMap.1 h
        simp [mem_dueWhen] at hb
      · simp at h
    · split at h
      · assumption
      · simp at h
    · split at h <;> simp at h
  · intro h
    rw [if_pos h]
    exact .inl (.inr (List.mem_map.2 ⟨a, List.mem_finRange a, rfl⟩))

theorem pwmPeriod_mem_cadenceEvents (s : State) : .pwmPeriod ∈ s.cadenceEvents := by
  unfold State.cadenceEvents
  simp

/-! ### The statements -/

/-- An output in the slices of a period (R143). -/
theorem Channel.lampOn_iff (c : Channel) (k : Fin 255) : c.lampOn k = true ↔ k.val < c.output := decide_eq_true_iff

theorem State.pwmPeriod_channel (s : State) (ch : ChannelNo) :
    s.pwmPeriod.channel ch = { s.channel ch with output := (s.channel ch).brightness } := by
  simp only [State.channel, State.pwmPeriod, tget_tmap]

/-- Settles O58. -/
theorem pwmPeriodTakesBrightness : Obligations.PwmPeriodTakesBrightness := by
  refine ⟨fun s => ⟨s.pwmPeriod, rfl, fun ch => ?_, rfl⟩, fun s hs => ⟨s.tick, step_idle hs, ?_, s.tick_quarter⟩⟩
  · rw [State.pwmPeriod_channel]
    simp only [Bool.eq_false_iff, ne_eq, Channel.lampOn_iff, true_and]
    exact ⟨fun _ => trivial, fun h k => by omega, fun h k => by omega⟩
  · rw [State.mem_tick_pending hs rfl]
    constructor
    · rintro (h | h)
      · exact h.1
      · obtain ⟨-, st, hst⟩ := mem_frameEvents.1 h
        simp at hst
    · exact fun h => .inl ⟨h, pwmPeriod_mem_cadenceEvents _⟩

theorem Slot.elapse_frozen {sl : Slot} (h : sl.frozen = true) : sl.elapse = sl := if_pos h

/-- A slot 1 ms later changes in its wait alone. -/
theorem Slot.elapse_form (sl : Slot) : sl.elapse = { sl with wait := sl.elapse.wait } := by
  unfold Slot.elapse
  split
  · rfl
  · split <;> rfl

theorem Button.elapse_eq (x : Button) : x.elapse = { x with
    holdTimer := (if x.hold = .opened ∨ x.hold = .stuck then x.holdTimer else x.holdTimer + 1), lockout := x.lockout.map (fun n => n - 1) } := by
  unfold Button.elapse elapsed
  cases x.hold <;> simp [HoldState.timed]

section
variable (s : State)

theorem State.elapseMs_station (st : StationNo) : s.elapseMs.station st = { s.station st with holdoff := elapsed (s.station st).holdoff } := by
  simp only [State.station, State.elapseMs, tget_tmap]

theorem State.elapseMs_exhibit (e : ExhibitNo) : s.elapseMs.exhibit e = (s.exhibit e).elapse := by
  simp only [State.exhibit, State.elapseMs, tget_tmap]

theorem State.elapseMs_slot (e : ExhibitNo) : s.elapseMs.slot e = (s.slot e).elapse := by
  simp only [State.slot, State.elapseMs, tget_tmap]

theorem State.elapseMs_button (b : ButtonNo) : s.elapseMs.button b = (s.button b).elapse := by
  simp only [State.button, State.elapseMs, tget_tmap]

theorem State.elapseMs_channel (ch : ChannelNo) : s.elapseMs.channel ch = (s.channel ch).elapse := by
  simp only [State.channel, State.elapseMs, tget_tmap]

theorem State.elapseMs_guardLine (g : GuardNo) : s.elapseMs.guardLine g = (s.guardLine g).sampled Config.guardSamples := by
  simp only [State.guardLine, State.elapseMs, tget_tmap]

end

/-- Settles O2. -/
theorem idleStepRunsClock : Obligations.IdleStepRunsClock := by
  intro s hs
  have hestop : s.estop.sampled Config.estopSamples = s.estop.afterSample 8 := InputFilter.sampled_eq _ _
  have hrow : s.tick.row = s.row + 1 ∧ s.tick.estop = s.estop.afterSample 8 := by
    rw [← hestop]
    by_cases hq : s.cadence.quarter = 3
    · rw [s.tick_ends hq]; exact ⟨rfl, rfl⟩
    · rw [s.tick_inside hq]; exact ⟨rfl, rfl⟩
  refine ⟨s.tick, step_idle hs, hrow.1, s.tick_quarter, s.tick_frame, hrow.2, fun a => ?_, fun hq => ?_, fun hq => ?_⟩
  · rw [State.tick_axis]
    unfold Axis.sampled
    simp only [InputFilter.sampled_eq]
    rfl
  · rw [s.tick_inside hq, hs]
    exact ⟨rfl, rfl⟩
  · have hend := s.tick_ends hq
    rw [hs] at hend
    have hstation : ∀ st, s.tick.station st = { s.station st with holdoff := elapsed (s.station st).holdoff } := fun st => by
      rw [hend]; exact State.elapseMs_station _ st
    have hexhibit : ∀ e, s.tick.exhibit e = (s.exhibit e).elapse := fun e => by rw [hend]; exact State.elapseMs_exhibit _ e
    have hslot : ∀ e, s.tick.slot e = (s.slot e).elapse := fun e => by rw [hend]; exact State.elapseMs_slot _ e
    have hbutton : ∀ b, s.tick.button b = (s.button b).elapse := fun b => by rw [hend]; exact State.elapseMs_button _ b
    have hchannel : ∀ ch, s.tick.channel ch = (s.channel ch).elapse := fun ch => by rw [hend]; exact State.elapseMs_channel _ ch
    have hguard : ∀ g, s.tick.guardLine g = (s.guardLine g).afterSample 3 := fun g => by
      rw [← InputFilter.sampled_eq, hend]; exact State.elapseMs_guardLine _ g
    refine ⟨by rw [hend]; rfl, by rw [hend]; exact nextCount1_succ, by rw [hend]; exact nextCount1_succ, by rw [hend]; exact nextCount1_succ,
      by rw [hend]; rfl, by rw [hend]; rfl, hstation, hexhibit, fun e => ?_, fun b => by rw [hbutton, Button.elapse_eq], hchannel, hguard,
      by rw [hend]; rfl⟩
    rw [hslot]
    refine ⟨Slot.elapse_form _, fun hf => by rw [Slot.elapse_frozen hf], fun hf => ?_⟩
    unfold Slot.elapse
    rw [if_neg (by simp [hf])]
    split <;> simp_all

end Sys2Proof.Machine
end

section
/-! Measured speed and axis images (section 4.10); escalation, ages and display frames (sections 9.4, 9.7, 9.11): O51, O60. -/

namespace Sys2Proof.Machine

/-! ### Words and images -/

theorem getD_eq_getElem {l : List Word} {k : Nat} (h : k < l.length) : (l[k]?).getD 0 = l[k] := by
  rw [List.getElem?_eq_getElem h, Option.getD_some]

theorem State.word_writeWords_getD (s : State) (a : Nat) (ws : List Word) {k : Nat} (h : k < ws.length) :
    (s.writeWords a ws).word (a + k) = (ws[k]?).getD 0 := by
  rw [State.word_writeWords_in s a ws k h, getD_eq_getElem h]

/-- An axis change that rewrites the image. -/
theorem State.putAxis_rewrites (s : State) (a : AxisNo) (x : Axis) : s.putAxis a x true = (s.setAxis a x).writeAxisImage a := by
  unfold State.putAxis
  simp

theorem State.writeAxisImage_axis (s : State) (a b : AxisNo) :
    (s.writeAxisImage a).axis b = if a = b then { s.axis a with imageStale := false } else s.axis b := tget_tset _ _ _ _

theorem State.setAxis_axis (s : State) (a b : AxisNo) (x : Axis) : (s.setAxis a x).axis b = if a = b then x else s.axis b := tget_tset _ _ _ _

theorem State.writeAxisImage_image (s : State) (a : AxisNo) {k : Nat} (hk : k < 8) :
    (s.writeAxisImage a).word (addrAxisImage a + k) = ((axisImage (s.axis a))[k]?).getD 0 := by
  have himage : axisImage ((s.setAxis a { s.axis a with imageStale := false }).axis a) = axisImage (s.axis a) := by
    rw [State.setAxis_axis, if_pos rfl]; rfl
  unfold State.writeAxisImage
  simp only [himage]
  exact State.word_writeWords_getD _ _ _ hk

/-! ### The speed cadence (R95) -/

theorem State.tick_speed (s : State) : s.tick.cadence.speed =
    if s.cadence.quarter = 3 then (if s.cadence.speed < 99 then s.cadence.speed + 1 else 0) else s.cadence.speed := by
  by_cases hq : s.cadence.quarter = 3
  · rw [s.tick_ends hq, if_pos hq]; exact nextCount1_succ
  · rw [s.tick_inside hq, if_neg hq]; rfl

/-- The measurement of an axis is due when its count starts anew. -/
theorem State.speedMeasurement_due {s : State} (hs : s.pending = []) (a : AxisNo) :
    .speedMeasurement a ∈ s.tick.pending ↔ s.cadence.quarter = 3 ∧ s.tick.cadence.speed = 0 := by
  rw [State.mem_tick_pending hs rfl, speedMeasurement_mem_cadenceEvents, mem_frameEvents]
  simp

/-- A frame is due on every bus when its count starts anew. -/
theorem State.displayFrame_due {s : State} (hs : s.pending = []) (st : StationNo) :
    .displayFrame st ∈ s.tick.pending ↔ s.tick.cadence.frame = 0 := by
  rw [State.mem_tick_pending hs rfl, mem_frameEvents]
  have hno : .displayFrame st ∉ s.tick.cadenceEvents := by
    unfold State.cadenceEvents
    simp only [List.mem_append, List.mem_map, List.mem_finRange, true_and, reduceCtorEq, exists_false, List.mem_singleton, false_or, not_or]
    refine ⟨⟨fun h => ?_, fun h => ?_⟩, fun h => ?_⟩
    · split at h
      · obtain ⟨b, -, hb⟩ := List.mem_flatMap.1 h
        simp [mem_dueWhen] at hb
      · simp at h
    · split at h <;> simp at h
    · split at h <;> simp at h
  simp [hno]

/-- Settles O51. -/
theorem speedAndImage : Obligations.SpeedAndImage := by
  refine ⟨fun s a => ⟨s.speedMeasurement a, rfl, ?_⟩, fun s hs => ⟨s.tick, step_idle hs, ?_⟩, fun s a => ⟨s.writeAxisImage a, rfl, ?_⟩⟩
  · unfold State.speedMeasurement
    simp only [State.putAxis_rewrites]
    refine ⟨by rw [State.writeAxisImage_axis, if_pos rfl, State.setAxis_axis, if_pos rfl], fun b hb => ?_, fun k _ hk => ?_, rfl⟩
    · rw [State.writeAxisImage_axis, if_neg hb.symm, State.setAxis_axis, if_neg hb.symm]
    · exact State.writeAxisImage_word _ a k hk
  · simp only [State.speedMeasurement_due hs, State.tick_speed]
    refine ⟨fun ⟨hq, hv⟩ => ?_, fun ⟨hq, hv⟩ => ?_, fun hq => ?_⟩
    · simp [hq, hv]
    · simp [hq, hv]
    · simp [hq]
  · refine ⟨fun k hk => State.writeAxisImage_image s a hk, fun k _ hk => State.writeAxisImage_word s a k hk, ?_, fun b hb => ?_, rfl⟩
    · rw [State.writeAxisImage_axis, if_pos rfl]
    · rw [State.writeAxisImage_axis, if_neg hb.symm]

/-! ### Escalation (R170, R171) -/

theorem State.alert?_number {s : State} {n : Nat} {x : Alert} (h : s.alert? n = some x) : x.number = n := by
  have := List.find?_some h
  simpa using this

theorem State.escalationExpiry_running {s : State} {n : Nat} {x : Alert} (h : s.alert? n = some x) (ht : x.timer ≠ none) :
    s.escalationExpiry n = s.escalate x := by
  unfold State.escalationExpiry
  rw [h]
  exact if_pos (Option.isSome_iff_ne_none.2 ht)

theorem State.escalate_moves {s : State} {x : Alert} {st : StationNo} (h : s.escalationTarget x = some st) :
    s.escalate x = (s.putAlert { x with station := some st, escalations := x.escalations + 1, timer := s.escalationStart st }).closeAct
      [] [x.source] := by
  unfold State.escalate
  rw [h]

theorem State.escalate_exhausts {s : State} {x : Alert} (h : s.escalationTarget x = none) :
    s.escalate x = (if x.exhausted then s.putAlert { x with timer := none, exhausted := true }
      else (s.putAlert { x with timer := none, exhausted := true }).markEscalated).closeAct [] [x.source] := by
  unfold State.escalate
  rw [h]

/-! ### Age (R176) -/

theorem State.rewriteAlertImage_image (s : State) {k : Nat} (hk : k < 256) :
    s.rewriteAlertImage.word (addrAlertImage + k) = ((s.rewriteAlertImage.alertImage)[k]?).getD 0 := by
  have hout : s.rewriteAlertImage.word (addrAlertImage + k) = (s.writeWords addrAlertImage s.alertImage).word (addrAlertImage + k) :=
    State.word_writeWords_out _ _ _ _ (.inr (by simp only [addrImageSeq, addrAlertImage, List.length_singleton]; omega))
  rw [hout, State.word_writeWords_getD _ _ _ (by rw [State.alertImage_length]; exact hk)]
  rfl

theorem State.rewriteAlertImage_seq (s : State) : s.rewriteAlertImage.word addrImageSeq = s.rewriteCount + 1 := State.word_writeWord _ _ _

theorem State.ageStep_some {s : State} (h : s.alerts ≠ []) :
    s.ageStep = (s.setAlerts (s.alerts.map fun x => { x with age := satAdd 65535 x.age 1 })).rewriteAlertImage :=
  if_neg (by simpa using h)

/-! ### Frames (R194) -/

theorem State.displayFrame_station (s : State) (st u : StationNo) : (s.displayFrame st).station u =
    if st = u then { s.station st with frame := mkWord (256 * (s.station st).displayNumber + (s.station st).displaySeverity) }
    else s.station u := tget_tset _ _ _ _

theorem mkWord_getLsbD (m : Nat) (i : Nat) (h : i < 16) : (mkWord m).getLsbD i = m.testBit i := by
  unfold mkWord
  rw [BitVec.getLsbD_ofNat, decide_eq_true h, Bool.true_and]

/-- Settles O60. -/
theorem escalationAgeDisplay : Obligations.EscalationAgeDisplay := by
  refine ⟨fun s n x hx ht => ⟨fun st u hst hu he => ?_, fun hend => ?_⟩, fun s hs => ?_, fun s hs => ?_, fun s st hn hv => ?_, fun s st => ?_,
    fun s hs => ⟨s.tick, step_idle hs, ?_⟩⟩
  · have htarget : s.escalationTarget x = some u := by
      unfold State.escalationTarget
      rw [if_pos he, hst]
      exact hu
    refine ⟨s.escalate x, by rw [← State.escalationExpiry_running hx ht]; rfl, ?_⟩
    rw [State.escalate_moves htarget, State.closeAct_alerts, State.closeAct_form]
    refine ⟨?_, fun k _ hk => ?_, rfl⟩
    · rw [← State.alert?_number hx]; rfl
    · exact State.closeAct_word _ _ _ k hk
  · have htarget : s.escalationTarget x = none := by
      unfold State.escalationTarget
      split
      · next hlt => exact hend.resolve_left (by omega)
      · rfl
    refine ⟨s.escalate x, by rw [← State.escalationExpiry_running hx ht]; rfl, ?_⟩
    have hact := s.escalate_act x
    rw [State.escalate_exhausts htarget] at hact ⊢
    refine ⟨?_, ?_, fun k _ hk => hact.2 k hk, ?_⟩
    · rw [State.closeAct_alerts, ← State.alert?_number hx]
      split <;> rfl
    · rw [State.closeAct_form]
      split
      · next he => simp [he, State.putAlert, State.setAlerts]
      · next he => simp [he, State.putAlert, State.setAlerts]
    · rw [State.closeAct_form]
      split <;> rfl
  · refine ⟨s.ageStep, rfl, ?_⟩
    rw [State.ageStep_some hs]
    exact ⟨rfl, rfl, State.rewriteAlertImage_seq _, fun k hk => State.rewriteAlertImage_image _ hk,
      fun k _ hk => State.rewriteAlertImage_word _ k hk, rfl⟩
  · have : s.ageStep = s := if_pos (by simpa using hs)
    exact congrArg Host.Outcome.next this
  · have hframe : ((s.displayFrame st).station st).frame.toNat = 256 * (s.station st).displayNumber + (s.station st).displaySeverity := by
      rw [State.displayFrame_station, if_pos rfl]
      exact mkWord_toNat (by omega)
    refine ⟨s.displayFrame st, rfl, by rw [hframe]; omega, by rw [hframe]; omega, ?_, fun u hu => ?_, rfl⟩
    · rw [State.displayFrame_station, if_pos rfl]
    · rw [State.displayFrame_station, if_neg hu.symm]
  · refine ⟨s.displayFrame st, rfl, fun n => ?_⟩
    unfold Station.frameBit
    rw [State.displayFrame_station, if_pos rfl]
    exact mkWord_getLsbD _ _ (by omega)
  · simp only [State.displayFrame_due hs, State.tick_frame]
    exact ⟨fun h => by rw [if_neg (by omega)]; simp, fun h => by rw [if_pos h]; simp⟩

end Sys2Proof.Machine
end

section
/-! The host bus port, the order deck and the notice box (sections 10.1 to 10.6): O18, O19, O20, O22. -/

namespace Sys2Proof.Machine

/-! ### During the RAM clearing (R186) -/

theorem State.isSome_clearing {s : State} (h : s.clearing ≠ none) : s.clearing.isSome = true := Option.isSome_iff_ne_none.2 h

theorem State.writePartCtl_clearing {s : State} (v : Word) (h : s.clearing ≠ none) : s.writePartCtl v = s := if_pos (State.isSome_clearing h)
theorem State.writeAttn_clearing {s : State} (v : Word) (h : s.clearing ≠ none) : s.writeAttn v = s := if_pos (State.isSome_clearing h)
theorem State.writeStop_clearing {s : State} (v : Nat) (h : s.clearing ≠ none) : s.writeStop v = s := if_pos (State.isSome_clearing h)
theorem State.deckCtlWrite_clearing {s : State} (v : Word) (h : s.clearing ≠ none) : s.deckCtlWrite v = s := if_pos (State.isSome_clearing h)
theorem State.nbStateWrite_clearing {s : State} (v : Word) (h : s.clearing ≠ none) : s.nbStateWrite v = s := if_pos (State.isSome_clearing h)

theorem State.ramWrite_clearing {s : State} (both : Bool) (a : BitVec 14) (v : Word) (h : s.clearing ≠ none) : s.ramWrite both a v = s :=
  if_pos (.inr (State.isSome_clearing h))

/-- A write to STOP of a value other than 1 and 2 (R135). -/
theorem State.writeStop_other (s : State) {v : Nat} (h1 : v ≠ 1) (h2 : v ≠ 2) : s.writeStop v = s := by
  unfold State.writeStop State.stopWrite
  split
  · rfl
  · split
    · exact absurd rfl h1
    · exact absurd rfl h2
    · rfl

/-! ### Writes to the exchange RAM (R178, R179) -/

theorem State.ramWrite_lands {s : State} {a : BitVec 14} (v : Word) (hc : s.clearing = none) (h0 : a ≠ 0) (h2 : a ≠ 2) :
    s.ramWrite false a v = s.writeWords a.toNat [v] := by
  have hdeck : a.toNat ≠ addrDeckCtl := fun h => h0 (BitVec.eq_of_toNat_eq (by rw [h]; rfl))
  have hbox : a.toNat ≠ addrNbState := fun h => h2 (BitVec.eq_of_toNat_eq (by rw [h]; rfl))
  unfold State.ramWrite
  rw [if_neg (by simp [hc]), if_neg hdeck, if_neg hbox]

theorem State.ramWrite_deckCtl (s : State) (v : Word) : s.ramWrite false 0 v = s.deckCtlWrite v := by
  by_cases hc : s.clearing = none
  · unfold State.ramWrite
    rw [if_neg (by simp [hc]), if_pos (by decide)]
  · rw [State.ramWrite_clearing _ _ _ hc, State.deckCtlWrite_clearing _ hc]

theorem State.ramWrite_nbState (s : State) (v : Word) : s.ramWrite false 2 v = s.nbStateWrite v := by
  by_cases hc : s.clearing = none
  · unfold State.ramWrite
    rw [if_neg (by simp [hc]), if_neg (by decide), if_pos (by decide)]
  · rw [State.ramWrite_clearing _ _ _ hc, State.nbStateWrite_clearing _ hc]

/-- One word written: the others stay. -/
theorem State.word_writeWord_ne (s : State) (a : Nat) (w : Word) {k : Nat} (h : k ≠ a) : (s.writeWords a [w]).word k = s.word k :=
  State.word_writeWords_out s a [w] k (by simp only [List.length_singleton]; omega)

/-- Settles O18. -/
theorem hostWritesLand : Obligations.HostWritesLand := by
  refine ⟨fun a v s hc h0 h2 => ?_, fun a v s => ⟨?_, ?_⟩, fun v s => ⟨?_, ?_⟩, fun s c hc h => ?_, fun s both a hc => ?_,
    fun s v => ⟨rfl, fun h1 h2 => ?_⟩⟩
  · refine ⟨s.writeWords a.toNat [v], ?_, State.word_writeWord _ _ _, fun k _ hk => State.word_writeWord_ne _ _ _ hk, rfl⟩
    exact congrArg Host.Outcome.next (State.ramWrite_lands v hc h0 h2)
  · exact congrArg Host.Outcome.next (if_pos (.inl rfl))
  · exact if_pos (.inl rfl)
  · exact congrArg Host.Outcome.next (State.ramWrite_deckCtl s v)
  · exact congrArg Host.Outcome.next (State.ramWrite_nbState s v)
  · refine (?_ : exec c s = .next s)
    obtain ⟨v, rfl | rfl | rfl | rfl | rfl⟩ | rfl | rfl | ⟨r, v, rfl⟩ | ⟨both, a, v, rfl⟩ := h
    · exact congrArg Host.Outcome.next (State.writePartCtl_clearing v hc)
    · exact congrArg Host.Outcome.next (State.writePartCtl_clearing v hc)
    · exact congrArg Host.Outcome.next (State.writeAttn_clearing v hc)
    · exact congrArg Host.Outcome.next (State.deckCtlWrite_clearing v hc)
    · exact congrArg Host.Outcome.next (State.nbStateWrite_clearing v hc)
    · exact congrArg Host.Outcome.next (State.writeStop_clearing 1 hc)
    · exact congrArg Host.Outcome.next (State.writeStop_clearing 2 hc)
    · cases r with
      | partId => rfl
      | stop => exact congrArg Host.Outcome.next (State.writeStop_clearing v.toNat hc)
    · exact congrArg Host.Outcome.next (State.ramWrite_clearing both a v hc)
  · exact if_pos (.inr (State.isSome_clearing hc))
  · refine congrArg Host.Outcome.next (State.writeStop_other s (fun h => h1 ?_) fun h => h2 ?_)
    · exact BitVec.eq_of_toNat_eq h
    · exact BitVec.eq_of_toNat_eq h

/-! ### The order deck and the notice box (R188, R192) -/

theorem State.deckCtlWrite_starts {s : State} {v : Word} (hc : s.clearing = none) (hd : s.deck.state ≠ .running) (h1 : 1 ≤ v.toNat)
    (h64 : v.toNat ≤ 64) :
    s.deckCtlWrite v = ((s.writeWords addrDeckCtl [v]).setDeck { state := .running, count := v.toNat, position := 0 }).writeWords addrDeckState [1] := by
  unfold State.deckCtlWrite
  simp only
  rw [if_neg (by simp [hc]), if_neg]
  rintro (h | h | h)
  · exact hd h
  · omega
  · omega

theorem State.deckCtlWrite_refused {s : State} {v : Word} (hc : s.clearing = none)
    (h : s.deck.state = .running ∨ v.toNat = 0 ∨ 64 < v.toNat) : s.deckCtlWrite v = (s.writeWords addrDeckCtl [v]).setAttn attnDeckRefused := by
  unfold State.deckCtlWrite
  simp only
  rw [if_neg (by simp [hc])]
  exact if_pos (h.imp id (Or.imp_left fun h => by omega))

/-- Settles O19. -/
theorem deckAndBoxWrites : Obligations.DeckAndBoxWrites := by
  refine ⟨fun v s hc => ⟨fun hd h1 h64 => ?_, fun h => ?_⟩, fun v s hc => ?_⟩
  · refine ⟨_, congrArg Host.Outcome.next (State.deckCtlWrite_starts hc hd h1 h64), rfl, rfl, rfl, ?_, State.word_writeWord _ _ _,
      fun k _ hk => ?_, rfl⟩
    · rw [State.word_writeWord_ne _ _ _ (by decide)]
      exact State.word_writeWord s _ _
    · rw [State.word_writeWord_ne _ _ _ (by unfold addrDeckState; omega)]
      exact State.word_writeWord_ne s _ _ (by unfold addrDeckCtl; omega)
  · exact ⟨_, congrArg Host.Outcome.next (State.deckCtlWrite_refused hc h), rfl, State.word_writeWord s _ _,
      fun k _ hk => State.word_writeWord_ne s _ _ (by unfold addrDeckCtl; omega), rfl⟩
  · refine ⟨s.nbStateWrite v, rfl, ?_⟩
    unfold State.nbStateWrite
    rw [if_neg (by simp [hc])]
    by_cases hv : v = 0
    · rw [if_pos hv]
      exact ⟨rfl, by simp [State.setNotice, hv], State.word_writeWord s _ _, fun k _ hk => State.word_writeWord_ne s _ _ hk, rfl⟩
    · rw [if_neg hv]
      refine ⟨rfl, by simpa [State.writeWords] using fun _ => hv, ?_, fun k _ hk => State.word_writeWord_ne s _ _ hk, rfl⟩
      rw [State.word_writeWord]
      cases hf : s.notice.full <;> simp [State.writeWords, hf, flag, mkWord]

/-! ### Orders turned away (R190) -/

/-- Every order but CLEAR COLD is COLD while the part is. -/
theorem orderRow_inRun {code : Nat} (h : code ∈ knownOrderCodes) (h1 : code ≠ 0x01) :
    ∃ owner, ∀ s, exec (orderRow code) s = .next (s.takeOrder code (State.inRun owner)) := by
  simp only [knownOrderCodes, List.mem_cons, List.not_mem_nil, or_false] at h
  obtain rfl | rfl | rfl | rfl | rfl | rfl | rfl | rfl | rfl | rfl | rfl | rfl | rfl | rfl | rfl | rfl | rfl | rfl | rfl | rfl | rfl | rfl |
    rfl | rfl := h
  · exact absurd rfl h1
  all_goals exact ⟨_, fun _ => rfl⟩

/-- Settles O22. -/
theorem ordersTurnedAway : Obligations.OrdersTurnedAway := by
  refine ⟨fun s code w1 w2 hcell hcode => ?_, fun s code w1 w2 hcell hcode h1 hcold => ?_⟩
  · have htake : s.takeUnknown = s.takeCell fun _ _ t => t.answer .unknown 0 := by
      refine if_pos ⟨hcell.1, ?_⟩
      rw [State.cellCode_eq, hcell.2.2.1]
      simpa using hcode
    exact ⟨_, congrArg Host.Outcome.next htake, State.takeCell_answered s _ code w1 w2 0 .unknown hcell (by omega) rfl⟩
  · obtain ⟨owner, hexec⟩ := orderRow_inRun hcode h1
    refine ⟨_, ?_, State.takeCell_answered s (State.inRun owner) code w1 w2 0 .cold hcell (by omega) (State.inRun_cold s owner _ _ hcold)⟩
    rw [hexec, State.takeOrder_atCell s code w1 w2 _ hcell]

/-! ### The next notice (R191) -/

/-- The place of a source in the search after the last posted one. -/
def noticeRank (last src : SourceNo) : Nat := (src.val + 48 - last.val) % 49

theorem noticeRank_lt (last src : SourceNo) : noticeRank last src < 49 := Nat.mod_lt _ (by decide)

/-- A source stands in the search at its place. -/
theorem noticeOrder_getElem? (last src : SourceNo) : (noticeOrder last)[noticeRank last src]? = some src := by
  have hlt := noticeRank_lt last src
  unfold noticeOrder
  rw [List.getElem?_map, List.getElem?_eq_getElem (by simpa using hlt), Option.map_some, List.getElem_finRange]
  refine congrArg some (Fin.ext ?_)
  show (last.val + 1 + noticeRank last src) % 49 = src.val
  unfold noticeRank
  omega

/-- The source that the search meets at a place has that place. -/
theorem noticeRank_of_getElem? {last src : SourceNo} {i : Nat} (h : (noticeOrder last)[i]? = some src) : noticeRank last src = i := by
  unfold noticeOrder at h
  obtain ⟨hi, h⟩ := List.getElem?_eq_some_iff.1 h
  simp only [List.length_map, List.length_finRange] at hi
  rw [List.getElem_map, List.getElem_finRange] at h
  subst h
  show ((last.val + 1 + i) % 49 + 48 - last.val) % 49 = i
  omega

/-- The first pending source of the search. -/
theorem State.nextSource_eq_some {s : State} {src : SourceNo} (hp : s.sourcePending src = true)
    (hfirst : ∀ j : SourceNo, s.sourcePending j = true → noticeRank s.notice.lastPosted src ≤ noticeRank s.notice.lastPosted j) :
    s.nextSource = some src := by
  obtain ⟨hlen, hget⟩ := List.getElem?_eq_some_iff.1 (noticeOrder_getElem? s.notice.lastPosted src)
  refine List.find?_eq_some_iff_getElem.2 ⟨hp, _, hlen, hget, fun j hj => ?_⟩
  by_contra hpending
  have hrank := noticeRank_of_getElem? (List.getElem?_eq_getElem (hj.trans hlen))
  have := hfirst _ (by simpa using hpending)
  omega

theorem State.nextSource_eq_none {s : State} (h : ∀ src, s.sourcePending src = false) : s.nextSource = none :=
  List.find?_eq_none.2 fun x _ => by simp [h x]

theorem sourceExhibit_eq_some {src : SourceNo} {e : ExhibitNo} (h : sourceExhibit src = some e) : src = exhibitSource e := by
  unfold sourceExhibit index? at h
  split at h
  · obtain rfl := Option.some.inj h; rfl
  · simp at h

theorem sourceExhibit_eq_none {src : SourceNo} (h : sourceExhibit src = none) : src = gallerySource := by
  unfold sourceExhibit index? at h
  split at h
  · simp at h
  · next hlt =>
    apply Fin.ext
    show src.val = 48
    omega

theorem sourceExhibit_exhibit (e : ExhibitNo) : sourceExhibit (exhibitSource e) = some e := index?_val e

theorem State.clearSource_exhibit (s : State) (e : ExhibitNo) : s.clearSource (exhibitSource e) = s.setSource e .reset := by
  unfold State.clearSource
  rw [sourceExhibit_exhibit]

theorem State.clearSource_gallery (s : State) : s.clearSource gallerySource = { s with gallery := .reset } := rfl

theorem State.sourcePending_exhibit (s : State) (e : ExhibitNo) : s.sourcePending (exhibitSource e) = (s.source e).pending := by
  unfold State.sourcePending
  rw [sourceExhibit_exhibit]

theorem State.sourcePending_gallery (s : State) : s.sourcePending gallerySource = s.gallery.pending := rfl

theorem source_cases (src : SourceNo) : src = gallerySource ∨ ∃ e, src = exhibitSource e := by
  cases h : sourceExhibit src with
  | none => exact .inl (sourceExhibit_eq_none h)
  | some e => exact .inr ⟨e, sourceExhibit_eq_some h⟩

theorem exhibitSource_injective {e f : ExhibitNo} (h : exhibitSource e = exhibitSource f) : e = f := by
  have := congrArg Fin.val h
  exact Fin.ext this

theorem State.setSource_source (s : State) (e f : ExhibitNo) (r : SourceRecord) : (s.setSource e r).source f = if e = f then r else s.source f :=
  tget_tset _ _ _ _

/-- A record cleared: the source has nothing pending, and the others are as they were (R21, R22). -/
theorem State.clearSource_spec (s : State) (src : SourceNo) :
    (s.clearSource src).sourcePending src = false ∧ (∀ j, j ≠ src → (s.clearSource src).sourcePending j = s.sourcePending j) ∧
    (∀ f, exhibitSource f ≠ src → (s.clearSource src).source f = s.source f) ∧ (src ≠ gallerySource → (s.clearSource src).gallery = s.gallery) ∧
    s.clearSource src = { s with sources := (s.clearSource src).sources, gallery := (s.clearSource src).gallery } := by
  obtain rfl | ⟨e, rfl⟩ := source_cases src
  · rw [State.clearSource_gallery]
    refine ⟨rfl, fun j hj => ?_, fun _ _ => rfl, fun h => absurd rfl h, rfl⟩
    obtain rfl | ⟨f, rfl⟩ := source_cases j
    · exact absurd rfl hj
    · rw [State.sourcePending_exhibit, State.sourcePending_exhibit]; rfl
  · rw [State.clearSource_exhibit]
    have hsource : ∀ f, exhibitSource f ≠ exhibitSource e → (s.setSource e .reset).source f = s.source f := fun f hf => by
      rw [State.setSource_source, if_neg fun h => hf (by rw [h])]
    refine ⟨?_, fun j hj => ?_, hsource, fun _ => rfl, rfl⟩
    · rw [State.sourcePending_exhibit, State.setSource_source, if_pos rfl]; rfl
    · obtain rfl | ⟨f, rfl⟩ := source_cases j
      · rfl
      · rw [State.sourcePending_exhibit, State.sourcePending_exhibit, hsource f hj]

/-- What the pending conditions are read from. -/
theorem State.sourcePending_congr {s t : State} (hs : t.sources = s.sources) (hg : t.gallery = s.gallery) (j : SourceNo) :
    t.sourcePending j = s.sourcePending j := by
  unfold State.sourcePending State.source
  rw [hs, hg]

/-- Settles O20. -/
theorem noticeFillTakesNext : Obligations.NoticeFillTakesNext := by
  refine ⟨fun s src hfull hp hfirst => ?_, fun s h => ?_⟩
  · have hfill : s.noticeFill = s.fillFrom src := by
      unfold State.noticeFill
      rw [hfull, State.nextSource_eq_some hp hfirst]
      rfl
    refine ⟨_, congrArg Host.Outcome.next hfill, ?_⟩
    have hbox : ∀ k < 16, (s.writeWords addrNoticeBox (s.noticeWords src)).word (addrNoticeBox + k) = ((s.noticeWords src)[k]?).getD 0 :=
      fun k hk => State.word_writeWords_getD _ _ _ (by rw [State.noticeWords_length]; exact hk)
    have hout : ∀ k, Outside addrNoticeBox 16 k → (s.writeWords addrNoticeBox (s.noticeWords src)).word k = s.word k :=
      fun k hk => State.word_writeWords_out _ _ _ _ (by rw [State.noticeWords_length]; exact hk)
    have hpend : ∀ j, (s.writeWords addrNoticeBox (s.noticeWords src)).sourcePending j = s.sourcePending j :=
      fun j => State.sourcePending_congr rfl rfl j
    obtain ⟨hself, hothers, hsource, hgallery, hform⟩ := State.clearSource_spec (s.writeWords addrNoticeBox (s.noticeWords src)) src
    unfold State.fillFrom
    simp only
    generalize (s.writeWords addrNoticeBox (s.noticeWords src)).clearSource src = u at *
    have hword : ∀ k, k ≠ addrNbState → (((u.setNotice { full := true, lastPosted := src }).writeWords addrNbState [1]).setAttn attnNotice).word k =
        (s.writeWords addrNoticeBox (s.noticeWords src)).word k := fun k hk => by
      refine (State.word_writeWord_ne (u.setNotice _) addrNbState 1 hk).trans ?_
      rw [hform]; rfl
    refine ⟨rfl, fun k hk => ?_, State.word_writeWord _ _ _, ?_, ?_, fun j hj => ?_, hsource, hgallery, fun k _ hk hk' => ?_, ?_⟩
    · rw [hword _ (by unfold addrNoticeBox addrNbState; omega), hbox k hk]
    · show u.attn ||| attnNotice = _
      rw [hform]; rfl
    · exact (State.sourcePending_congr rfl rfl src).trans hself
    · exact (State.sourcePending_congr rfl rfl j).trans ((hothers j hj).trans (hpend j))
    · rw [hword k hk, hout k hk']
    · rw [hform]; rfl
  · refine congrArg Host.Outcome.next ?_
    unfold State.noticeFill
    obtain hfull | hnone := h
    · exact if_pos hfull
    · rw [State.nextSource_eq_none hnone]
      split <;> rfl

end Sys2Proof.Machine
end

section
/-! The resets and the end of the RAM clearing (sections 10.4, 1.8, 4.12, 9.12): O21. -/

namespace Sys2Proof.Machine

/-! ### All images written (R181) -/

/-- The images of the exhibits, written one after another. -/
def State.writeExhibitImages (s : State) : State := forEach 48 (fun e u => State.writeExhibitImage u e) s

/-- The images of the axes, written one after another. -/
def State.writeAxisImages (s : State) : State := forEach 16 (fun a u => State.writeAxisImage u a) s

theorem State.writeAllImages_eq (s : State) :
    s.writeAllImages = s.writeExhibitImages.writeAxisImages.writeWords addrAlertImage s.alertImage := rfl

theorem State.writeExhibitImages_form (s : State) : s.writeExhibitImages = { s with ram := s.writeExhibitImages.ram } :=
  forEach_invariant (fun t : State => t = { s with ram := t.ram }) _ (fun e t h => by unfold State.writeExhibitImage; rw [h]; rfl) s rfl

theorem State.writeExhibitImages_tables (s : State) : s.writeExhibitImages.exhibits = s.exhibits ∧ s.writeExhibitImages.slots = s.slots ∧
    s.writeExhibitImages.axes = s.axes := by
  have h := s.writeExhibitImages_form
  generalize s.writeExhibitImages = t at h ⊢
  rw [h]
  exact ⟨rfl, rfl, rfl⟩

theorem State.writeExhibitImage_word_out (s : State) (e : ExhibitNo) {k : Nat} (h : OutsideExhibit e k) :
    (s.writeExhibitImage e).word k = s.word k := State.word_writeWords_out _ _ _ _ (by simpa [exhibitImage_length] using h)

theorem State.writeExhibitImages_out (s : State) {k : Nat} (h : k < 0x0D70 ∨ 0x0EF0 ≤ k) : s.writeExhibitImages.word k = s.word k :=
  forEach_invariant (fun t : State => t.word k = s.word k) _ (fun e t ht => by
    rw [State.writeExhibitImage_word_out t e (by unfold OutsideExhibit Outside addrExhibitImage; omega), ht]) s rfl

theorem State.writeExhibitImages_word (s : State) (e : ExhibitNo) {k : Nat} (hk : k < 8) :
    s.writeExhibitImages.word (addrExhibitImage e + k) = ((exhibitImage (s.exhibit e) (s.slot e))[k]?).getD 0 := by
  have hown (f : ExhibitNo) (u : State) :
      (u.writeExhibitImage f).word (addrExhibitImage f + k) = ((exhibitImage (u.exhibit f) (u.slot f))[k]?).getD 0 :=
    State.word_writeWords_getD _ _ _ hk
  have hall : s.writeExhibitImages.word (addrExhibitImage e + k) =
      ((exhibitImage (s.writeExhibitImages.exhibit e) (s.writeExhibitImages.slot e))[k]?).getD 0 :=
    forEach_establishes (f := fun (e : ExhibitNo) u => State.writeExhibitImage u e)
    (fun e u => u.word (addrExhibitImage e + k) = ((exhibitImage (u.exhibit e) (u.slot e))[k]?).getD 0) hown
    (fun f g u h => by
      by_cases hfg : f = g
      · subst hfg; exact hown f u
      · rw [State.writeExhibitImage_word_out u g (by
          have := Fin.val_ne_of_ne hfg
          unfold OutsideExhibit Outside addrExhibitImage
          omega)]
        exact h) s e
  obtain ⟨hexhibits, hslots, -⟩ := s.writeExhibitImages_tables
  rw [hall]
  unfold State.exhibit State.slot
  rw [hexhibits, hslots]

theorem State.writeAxisImages_form (s : State) : s.writeAxisImages = { s with axes := s.writeAxisImages.axes, ram := s.writeAxisImages.ram } :=
  forEach_invariant (fun t : State => t = { s with axes := t.axes, ram := t.ram }) _
    (fun a t h => by rw [State.writeAxisImage_form, h]) s rfl

theorem State.writeAxisImages_out (s : State) {k : Nat} (h : k < 0x0EF0 ∨ 0x0F70 ≤ k) : s.writeAxisImages.word k = s.word k :=
  forEach_invariant (fun t : State => t.word k = s.word k) _ (fun a t ht => by
    rw [State.writeAxisImage_word t a k (by unfold OutsideAxis Outside addrAxisImage; omega), ht]) s rfl

theorem State.writeAxisImages_axis (s : State) (a : AxisNo) : s.writeAxisImages.axis a = { s.axis a with imageStale := false } := by
  have hown (b : AxisNo) (u : State) : ((u.writeAxisImage b).axis b).imageStale = false := by rw [State.writeAxisImage_axis, if_pos rfl]
  have hstale := forEach_establishes (f := fun (a : AxisNo) u => State.writeAxisImage u a) (fun a u => (u.axis a).imageStale = false) hown
    (fun b c u h => by
      rw [State.writeAxisImage_axis]
      split
      · rfl
      · exact h) s a
  have hsame := forEach_invariant (fun t : State => t.axis a = { s.axis a with imageStale := (t.axis a).imageStale })
    (fun (a : AxisNo) u => State.writeAxisImage u a) (fun b t h => by
      rw [State.writeAxisImage_axis]
      split
      · next hb => subst hb; rw [h]
      · exact h) s rfl
  exact hsame.trans (by rw [hstale])

theorem State.writeAxisImages_word (s : State) (a : AxisNo) {k : Nat} (hk : k < 8) :
    s.writeAxisImages.word (addrAxisImage a + k) = ((axisImage (s.axis a))[k]?).getD 0 := by
  have hall : s.writeAxisImages.word (addrAxisImage a + k) = ((axisImage (s.writeAxisImages.axis a))[k]?).getD 0 :=
    forEach_establishes (f := fun (a : AxisNo) u => State.writeAxisImage u a)
    (fun a u => u.word (addrAxisImage a + k) = ((axisImage (u.axis a))[k]?).getD 0)
    (fun b u => by rw [State.writeAxisImage_image u b hk, State.writeAxisImage_axis, if_pos rfl]; rfl)
    (fun b c u h => by
      by_cases hbc : c = b
      · subst hbc
        rw [State.writeAxisImage_image u c hk, State.writeAxisImage_axis, if_pos rfl]; rfl
      · rw [State.writeAxisImage_word u c _ (by
          have := Fin.val_ne_of_ne hbc
          unfold OutsideAxis Outside addrAxisImage
          omega), State.writeAxisImage_axis, if_neg hbc]
        exact h) s a
  rw [hall, State.writeAxisImages_axis]
  rfl

theorem State.axis_writeWords (s : State) (k : Nat) (ws : List Word) (a : AxisNo) : (s.writeWords k ws).axis a = s.axis a := rfl

theorem State.writeExhibitImages_axis (s : State) (a : AxisNo) : s.writeExhibitImages.axis a = s.axis a := by
  unfold State.axis
  rw [s.writeExhibitImages_tables.2.2]

theorem State.writeAllImages_tables (s : State) : s.writeAllImages.buttons = s.buttons ∧ s.writeAllImages.guards = s.guards ∧
    s.writeAllImages.stations = s.stations := by
  have h := s.writeAllImages_form
  generalize s.writeAllImages = t at h ⊢
  rw [h]
  exact ⟨rfl, rfl, rfl⟩

theorem State.writeAllImages_axis (s : State) (a : AxisNo) : s.writeAllImages.axis a = { s.axis a with imageStale := false } := by
  rw [State.writeAllImages_eq, State.axis_writeWords, State.writeAxisImages_axis, State.writeExhibitImages_axis]

theorem State.writeAllImages_exhibit (s : State) (e : ExhibitNo) {k : Nat} (hk : k < 8) :
    s.writeAllImages.word (addrExhibitImage e + k) = ((exhibitImage (s.exhibit e) (s.slot e))[k]?).getD 0 := by
  rw [State.writeAllImages_eq, State.word_writeWords_out _ _ _ _ (.inr (by
      rw [State.alertImage_length]; unfold addrAlertImage addrExhibitImage; omega)),
    State.writeAxisImages_out _ (.inl (by unfold addrExhibitImage; omega)), State.writeExhibitImages_word s e hk]

theorem State.writeAllImages_axisImage (s : State) (a : AxisNo) {k : Nat} (hk : k < 8) :
    s.writeAllImages.word (addrAxisImage a + k) = ((axisImage (s.axis a))[k]?).getD 0 := by
  rw [State.writeAllImages_eq, State.word_writeWords_out _ _ _ _ (.inr (by
      rw [State.alertImage_length]; unfold addrAlertImage addrAxisImage; omega)), State.writeAxisImages_word _ a hk,
    State.writeExhibitImages_axis]

theorem State.writeAllImages_alert (s : State) {k : Nat} (hk : k < 256) :
    s.writeAllImages.word (addrAlertImage + k) = (s.alertImage[k]?).getD 0 :=
  State.word_writeWords_getD _ _ _ (by rw [State.alertImage_length]; exact hk)

theorem State.writeAllImages_out (s : State) {k : Nat} (h : k < 0x0C70 ∨ 0x0F70 ≤ k) : s.writeAllImages.word k = s.word k := by
  rw [State.writeAllImages_eq, State.word_writeWords_out _ _ _ _ (by rw [State.alertImage_length]; unfold addrAlertImage; omega),
    State.writeAxisImages_out _ (by omega), State.writeExhibitImages_out _ (by omega)]

/-- The image of an empty list (R176). -/
theorem State.alertImage_nil {s : State} (h : s.alerts = []) (k : Nat) : (s.alertImage[k]?).getD 0 = 0 := by
  have hzero : ∀ n, ((List.replicate n (0 : Word))[k]?).getD 0 = 0 := fun n => by
    rw [List.getElem?_replicate]
    split <;> rfl
  unfold State.alertImage
  rw [h, List.take_nil, List.flatMap_nil, List.nil_append]
  exact hzero _

/-- The image of an exhibit at its reset values (R23). -/
theorem exhibitImage_reset {k : Nat} (hk : k < 8) : ((exhibitImage .reset .reset)[k]?).getD 0 = if k = 1 then 0xFFFF else 0 := by
  have h : ∀ k : Fin 8, ((exhibitImage .reset .reset)[k.val]?).getD 0 = if k.val = 1 then 0xFFFF else 0 := by decide
  exact h ⟨k, hk⟩

/-- The image of an axis at its reset values does not show its switches (R101). -/
theorem axisImage_resetKeeping (x : Axis) {k : Nat} (hk : k < 8) : ((axisImage x.resetKeeping)[k]?).getD 0 = 0 := by
  have h : ∀ k : Fin 8, ((axisImage .reset)[k.val]?).getD 0 = 0 := by decide
  exact h ⟨k, hk⟩

/-! ### The resets (R186, R187) -/

/-- What a part reset leaves before the control words and the images are written. -/
def State.resetKeepingRam (s : State) : State :=
  { s.resetAll with
    ram := s.ram, clearing := none, stations := tmap (fun _ x => x.resetKeeping) s.stations
    cadence := { Cadence.reset with frame := s.cadence.frame } }

theorem State.partReset_eq (s : State) : s.partReset = (s.resetKeepingRam.writeWords addrDeckState [0, 0, 0]).writeAllImages := rfl

section
variable (s : State)

theorem State.resetAll_button (b : ButtonNo) : s.resetAll.button b = (s.button b).resetKeeping := by
  simp only [State.button, State.resetAll, tget_tmap]

theorem State.resetAll_guardLine (g : GuardNo) : s.resetAll.guardLine g = (s.guardLine g).resetKeeping := by
  simp only [State.guardLine, State.resetAll, tget_tmap]

theorem State.resetAll_axis (a : AxisNo) : s.resetAll.axis a = (s.axis a).resetKeeping := by
  simp only [State.axis, State.resetAll, tget_tmap]

theorem State.resetKeepingRam_station (st : StationNo) : s.resetKeepingRam.station st = (s.station st).resetKeeping := by
  simp only [State.station, State.resetKeepingRam, tget_tmap]

theorem State.resetKeepingRam_exhibit (e : ExhibitNo) : s.resetKeepingRam.exhibit e = .reset ∧ s.resetKeepingRam.slot e = .reset :=
  ⟨State.exhibit_reset e, State.slot_reset e⟩

theorem State.resetKeepingRam_axis (a : AxisNo) : s.resetKeepingRam.axis a = (s.axis a).resetKeeping := State.resetAll_axis s a

end

/-- The control words a part reset writes with 0 (R187). -/
theorem State.resetWords_word (s : State) (k : Nat) :
    (s.resetKeepingRam.writeWords addrDeckState [0, 0, 0]).word k = if 1 ≤ k ∧ k < 4 then 0 else s.word k := by
  by_cases hk : 1 ≤ k ∧ k < 4
  · obtain ⟨i, hi, rfl⟩ : ∃ i < 3, k = addrDeckState + i := ⟨k - 1, by omega, by unfold addrDeckState; omega⟩
    have hzero : ∀ i : Fin 3, (([0, 0, 0] : List Word)[i.val]?).getD 0 = 0 := by decide
    rw [if_pos hk, State.word_writeWords_getD _ _ _ hi]
    exact hzero ⟨i, hi⟩
  · rw [if_neg hk, State.word_writeWords_out _ _ _ _ (by unfold addrDeckState; simp only [List.length_cons, List.length_nil]; omega)]
    rfl

theorem State.partReset_word_out (s : State) {k : Nat} (h : k < 0x0C70 ∨ 0x0F70 ≤ k) :
    s.partReset.word k = if 1 ≤ k ∧ k < 4 then 0 else s.word k := by
  rw [State.partReset_eq, State.writeAllImages_out _ h, State.resetWords_word]

theorem State.ramClearingEnd_clears {s : State} (h : s.clearing ≠ none) :
    s.ramClearingEnd = State.writeAllImages { s with ram := [], clearing := none } := by
  unfold State.ramClearingEnd
  rw [if_neg (by simpa using h)]

/-- Settles O21. -/
theorem resetsLeave : Obligations.ResetsLeave := by
  refine ⟨fun v s hc hv => ⟨s.partReset, ?_, coldLaw_kept.partReset s, ?_, ?_⟩, fun s => ⟨s.powerOnReset, rfl, coldLaw_kept.resetAll s, rfl,
    fun k _ => rfl, rfl, s.resetAll_button, s.resetAll_guardLine, s.resetAll_axis⟩, fun s hc => ?_, fun s hc => ?_⟩
  · rw [exec_partReset_commanded s v hv, hc]; rfl
  · rw [State.partReset_eq, State.writeAllImages_form]; rfl
  · obtain ⟨hbuttons, hguards, hstations⟩ := State.writeAllImages_tables (s.resetKeepingRam.writeWords addrDeckState [0, 0, 0])
    have haxis := State.writeAllImages_axis (s.resetKeepingRam.writeWords addrDeckState [0, 0, 0])
    have hexhibit := State.writeAllImages_exhibit (s.resetKeepingRam.writeWords addrDeckState [0, 0, 0])
    have haxisImage := State.writeAllImages_axisImage (s.resetKeepingRam.writeWords addrDeckState [0, 0, 0])
    have halert := @State.writeAllImages_alert (s.resetKeepingRam.writeWords addrDeckState [0, 0, 0])
    have hout := @State.partReset_word_out s
    rw [State.partReset_eq] at hout ⊢
    refine ⟨fun b => ?_, fun g => ?_, fun a => ?_, fun st => ?_, ?_, ?_, ?_, ?_, fun k _ h4 hk => ?_, fun k _ hk => ?_, fun k _ hk hk' => ?_,
      fun e k hk => ?_, fun a k hk => ?_⟩
    · exact (congrArg (tget · b) hbuttons).trans (State.resetAll_button s b)
    · exact (congrArg (tget · g) hguards).trans (State.resetAll_guardLine s g)
    · rw [haxis]
      show { s.resetKeepingRam.axis a with imageStale := false } = _
      rw [State.resetKeepingRam_axis]; rfl
    · exact (congrArg (tget · st) hstations).trans (State.resetKeepingRam_station s st)
    · exact (hout (k := addrDeckCtl) (by decide)).trans (if_neg (by decide))
    · exact (hout (k := addrDeckState) (by decide)).trans (if_pos (by decide))
    · exact (hout (k := addrNbState) (by decide)).trans (if_pos (by decide))
    · exact (hout (k := addrImageSeq) (by decide)).trans (if_pos (by decide))
    · rw [hout (by omega), if_neg (by omega)]
    · rw [hout (by omega), if_neg (by omega)]
    · obtain ⟨i, hi, rfl⟩ : ∃ i < 256, k = addrAlertImage + i := ⟨k - 0x0C70, by omega, by unfold addrAlertImage; omega⟩
      rw [halert hi]
      exact State.alertImage_nil rfl i
    · rw [hexhibit e hk]
      show ((exhibitImage (s.resetKeepingRam.exhibit e) (s.resetKeepingRam.slot e))[k]?).getD 0 = _
      rw [(s.resetKeepingRam_exhibit e).1, (s.resetKeepingRam_exhibit e).2, exhibitImage_reset hk]
    · rw [haxisImage a hk]
      show ((axisImage (s.resetKeepingRam.axis a))[k]?).getD 0 = _
      rw [State.resetKeepingRam_axis, axisImage_resetKeeping _ hk]
  · refine ⟨_, congrArg Host.Outcome.next (State.ramClearingEnd_clears hc), ?_⟩
    have hform := State.writeAllImages_form { s with ram := [], clearing := none }
    refine ⟨by rw [hform], fun e k hk => ⟨State.writeAllImages_exhibit _ e hk, fun he hs => ?_⟩, fun a k hk => State.writeAllImages_axisImage _ a hk,
      fun k hk => ⟨State.writeAllImages_alert _ hk, fun ha => ?_⟩, fun k _ hk => ?_, fun a => State.writeAllImages_axis _ a, hform⟩
    · refine (State.writeAllImages_exhibit _ e hk).trans ?_
      show ((exhibitImage (s.exhibit e) (s.slot e))[k]?).getD 0 = _
      rw [he, hs, exhibitImage_reset hk]
    · exact (State.writeAllImages_alert _ hk).trans (State.alertImage_nil (s := { s with ram := [], clearing := none }) ha k)
    · rw [State.writeAllImages_out _ (by unfold Outside addrAlertImage at hk; omega)]; rfl
  · exact congrArg Host.Outcome.next (if_pos (by simp [hc]))

end Sys2Proof.Machine
end

section
/-! Lamp phases (section 8.3), the guard alert (section 7.4) and the end of the gallery stop (section 7.7): O54, O56, O57. -/

namespace Sys2Proof.Machine

/-! ### Phase steps (R145 to R147) -/

theorem Channel.layer_withLayer (c : Channel) (n m : LayerName) (l : Layer) : (c.withLayer n l).layer m = if n = m then l else c.layer m := by
  cases n <;> cases m <;> rfl

theorem Channel.layer_refresh (c : Channel) (table : Vector Pattern 32) (n : LayerName) : (c.refresh table).layer n = c.layer n := by
  cases n <;> rfl

theorem Channel.withLayer_output (c : Channel) (n : LayerName) (l : Layer) : (c.withLayer n l).output = c.output := by
  cases n <;> rfl

/-- The brightness is worked out from what the channel holds (R142). -/
theorem Channel.refresh_brightness (c : Channel) (table : Vector Pattern 32) : (c.refresh table).brightness = combined table (c.refresh table) := rfl

theorem State.setChannel_channel (s : State) (ch c : ChannelNo) (x : Channel) : (s.setChannel ch x).channel c = if ch = c then x else s.channel c :=
  tget_tset _ _ _ _

theorem State.lampPhaseStep_changes {s : State} {ch : ChannelNo} {name : LayerName} {p : Pattern}
    (hp : patternOf s.patterns ((s.channel ch).layer name).setting = some p) (hc : ((s.channel ch).layer name).phase.changes = true) :
    s.lampPhaseStep ch name = s.setChannel ch (((s.channel ch).withLayer name
      { (s.channel ch).layer name with phase := p.stepPhase ((s.channel ch).layer name).phase }).refresh s.patterns) := by
  unfold State.lampPhaseStep
  simp only [hp, hc]

/-- A layer without a changing phase makes no step (R144, R147). -/
theorem State.lampPhaseStep_stands {s : State} {ch : ChannelNo} {name : LayerName} (hc : ((s.channel ch).layer name).phase.changes = false) :
    s.lampPhaseStep ch name = s := by
  unfold State.lampPhaseStep
  simp only [hc]
  split <;> simp_all

theorem State.lampPhaseStep_idle {s : State} {ch : ChannelNo} {name : LayerName} (h : ((s.channel ch).layer name).setting = .idle) :
    s.lampPhaseStep ch name = s := by
  unfold State.lampPhaseStep
  simp only [h]
  rfl

/-- What a phase step leaves: the layer in its next phase, the brightness following it, and the rest as it was. -/
theorem exec_lampPhaseStep_changes {s : State} {ch : ChannelNo} {name : LayerName} {p : Pattern} {ph next : LampPhase}
    (hp : patternOf s.patterns ((s.channel ch).layer name).setting = some p) (hph : ((s.channel ch).layer name).phase = ph)
    (hc : ph.changes = true) (hnext : p.stepPhase ph = next) :
    ∃ t, exec (.lampPhaseStep ch name) s = .next t ∧
      (t.channel ch).layer name = { setting := ((s.channel ch).layer name).setting, phase := next } ∧
      (∀ other ∈ [LayerName.alertLayer, .showLayer, .readyLayer], other ≠ name → (t.channel ch).layer other = (s.channel ch).layer other) ∧
      (t.channel ch).brightness = combined s.patterns (t.channel ch) ∧ (t.channel ch).output = (s.channel ch).output ∧
      (∀ c, c ≠ ch → t.channel c = s.channel c) ∧ t = { s with channels := t.channels } := by
  subst hph
  refine ⟨_, congrArg Host.Outcome.next (State.lampPhaseStep_changes hp hc), ?_⟩
  simp only [State.setChannel_channel, if_true]
  refine ⟨?_, fun other _ hne => ?_, Channel.refresh_brightness _ _, ?_, fun c hc => if_neg hc.symm, rfl⟩
  · rw [Channel.layer_refresh, Channel.layer_withLayer, if_pos rfl, hnext]
  · rw [Channel.layer_refresh, Channel.layer_withLayer, if_neg hne.symm]
  · exact Channel.withLayer_output _ _ _

/-- The end of a sweep by REPEAT, KEEP and BOUNCE (Table 8-4). -/
theorem Pattern.sweepEnd (p : Pattern) (v l : Nat) (rising : Bool) (hv : v = if rising then 15 else 0) :
    p.stepPhase (.sweep v rising 1 l) = match p.repeats, p.keep, p.bounce with
      | false, true, _ => .hold v
      | false, false, _ => .hold 0
      | true, false, false => .sweep (if p.rise then 0 else 15) p.rise 16 (p.period * 10)
      | true, false, true => .sweep (if rising then 14 else 1) (!rising) 15 (p.period * 10)
      | true, true, false => .hold v
      | true, true, true => .hold (if p.rise then 0 else 15) := by
  subst hv
  unfold Pattern.stepPhase Pattern.sweepStep
  cases p.repeats <;> cases p.keep <;> cases p.bounce <;> cases rising <;> simp

/-- OFF and STEADY start in a phase that does not change (R144). -/
theorem Pattern.startPhase_constant {p : Pattern} (h : p.kind = .off ∨ p.kind = .steady) : p.startPhase = .constant := by
  unfold Pattern.startPhase
  obtain h | h := h <;> rw [h]

/-- Settles O57. -/
theorem phasesAndSweeps : Obligations.PhasesAndSweeps := by
  refine ⟨fun s ch name p ph next v n l hp hph h => ?_, fun s ch name h => congrArg Host.Outcome.next (State.lampPhaseStep_idle h),
    fun p v rising l _ hv => ?_, fun s ch name p v l rising next hp hph hv h => ?_, fun s ch name v h => ?_,
    fun s ch w1 w2 p hcell hrun hw1 hw2 howner hkind => ?_⟩
  · obtain ⟨rfl, rfl⟩ | ⟨rfl, rfl⟩ | ⟨rfl, hn, rfl⟩ | ⟨rfl, hn, rfl⟩ := h
    · exact exec_lampPhaseStep_changes hp hph rfl rfl
    · exact exec_lampPhaseStep_changes hp hph rfl rfl
    · exact exec_lampPhaseStep_changes hp hph rfl (if_pos hn)
    · exact exec_lampPhaseStep_changes hp hph rfl (if_pos hn)
  · have hend := p.sweepEnd v l rising hv
    refine ⟨fun hr hk => ?_, fun hr hk => ?_, fun hr hk hb => ?_, fun hr hk hb => ?_, fun hr hk hb => ?_, fun hr hk hb => ?_⟩ <;>
      simp_all only
  · refine exec_lampPhaseStep_changes hp hph rfl ((p.sweepEnd v l rising hv).trans ?_)
    obtain ⟨hr, hk, rfl⟩ | ⟨hr, hk, rfl⟩ | ⟨hr, hk, hb, rfl⟩ | ⟨hr, hk, hb, rfl⟩ | ⟨hr, hk, hb, rfl⟩ | ⟨hr, hk, hb, rfl⟩ := h <;>
      simp only [hr, hk]
    all_goals simp only [hb]
  · refine congrArg Host.Outcome.next (State.lampPhaseStep_stands ?_)
    obtain h | h := h <;> rw [h] <;> rfl
  · have ⟨_, _, _, hword1, hword2, _⟩ := hcell
    have hpw : w2 ≤ 31 := by have := p.isLt; omega
    have hnone : s.lampHolder ch = none := State.lampHolder_eq_none fun e he => by rw [howner] at he; simp at he
    have ho := (State.inRun_run s State.orderSetLamp _ _ hrun).trans
      (State.orderSetLamp_taken s (s.word (addrCell s.deck.position + 1)) (s.word (addrCell s.deck.position + 2)) ch (hword1.trans hw1)
        (by rw [hword2]; exact .inl hpw) hnone)
    rw [patternSetting_table (hword2.trans hw2)] at ho
    obtain ⟨t, hexec, hans, hchannel, -, -, -⟩ := exec_setLamp_taken s w1 w2 ch _ hcell ho
    have hlayer : (t.channel ch).showLayer = { setting := .table p, phase := .constant } := by
      rw [hchannel]
      show startLayer s.patterns (.table p) = _
      rw [startLayer_table, Pattern.startPhase_constant hkind]
    refine ⟨t, hexec, hans, hlayer, congrArg Host.Outcome.next (State.lampPhaseStep_stands ?_)⟩
    show (t.channel ch).showLayer.phase.changes = false
    rw [hlayer]
    rfl

/-! ### A new entry (R158, R160) -/

theorem State.raise_entered {s : State} {src : SourceNo} {cause : AlertCause} (code severity : Nat) (hrun : s.part = .run)
    (hnone : s.alertOf? src cause = none) (hlen : s.alerts.length < 32) :
    s.raise src cause code severity = s.enterAlert s.alerts [] src cause code severity := by
  have hcase : s.raiseCase src cause severity = .entered := by
    unfold State.raiseCase
    rw [if_neg (by rw [hrun]; decide), hnone]
    exact if_pos hlen
  unfold State.raise
  rw [hcase]

/-- A new entry as it is made, but for its routing. -/
def newAlert (number : Nat) (src : SourceNo) (cause : AlertCause) (code severity : Nat) : Alert :=
  { number := number, source := src, cause := cause, code := code, severity := severity, acked := false, station := none,
    repeats := 0, escalations := 0, timer := none, exhausted := false, age := 0 }

theorem State.enterAlert_list (s : State) (others : List Alert) (gone : List SourceNo) (src : SourceNo) (cause : AlertCause)
    (code severity : Nat) : (s.enterAlert others gone src cause code severity).alerts =
      others ++ [s.routed (newAlert (freeNumber others 33 s.nextNumber) src cause code severity)] := by
  unfold State.enterAlert
  simp only
  rw [State.closeAct_alerts, State.noteRouting_form]
  rfl

theorem State.routed_station (s : State) (x : Alert) : (s.routed x).station = s.routeOf (s.zone x.source) := by
  unfold State.routed
  split
  · next st h => exact h.symm
  · next h => exact h.symm

/-- What an entry is routed by (R160). -/
theorem State.routeOf_congr {s t : State} (hst : t.stations = s.stations) (hc : ∀ e, (t.exhibit e).config = (s.exhibit e).config)
    (src : SourceNo) : t.routeOf (t.zone src) = s.routeOf (s.zone src) := by
  have hzone : t.zone src = s.zone src := by
    unfold State.zone
    split
    · rfl
    · rw [hc]
  rw [hzone]
  unfold State.routeOf State.station
  rw [hst]

/-- The list after a raise that enters a new entry: the entry at its tail, RAISED and routed by its source (R158, R160). -/
theorem State.raise_entered_list {s : State} {src : SourceNo} {cause : AlertCause} (code severity : Nat) (hrun : s.part = .run)
    (hnone : s.alertOf? src cause = none) (hlen : s.alerts.length < 32) :
    ∃ y : Alert, (s.raise src cause code severity).alerts = s.alerts ++ [y] ∧ y.source = src ∧ y.cause = cause ∧ y.severity = severity ∧
      y.code = code ∧ y.acked = false ∧ y.station = s.routeOf (s.zone src) ∧ y.number = freeNumber s.alerts 33 s.nextNumber := by
  rw [State.raise_entered code severity hrun hnone hlen]
  refine ⟨_, State.enterAlert_list s s.alerts [] src cause code severity, ?_, ?_, ?_, ?_, ?_, State.routed_station _ _, ?_⟩ <;>
    rw [State.routed_form] <;> rfl

theorem State.raise_exhibits (s : State) (src : SourceNo) (cause : AlertCause) (code severity : Nat) :
    (s.raise src cause code severity).exhibits = s.exhibits := by rw [(s.raise_act src cause code severity).1]

/-! ### The guard alert (R133) -/

/-- Settles O54. -/
theorem guardAlertRaised : Obligations.GuardAlertRaised := by
  refine ⟨fun s e htimer hrun hnone hlen => ?_, fun s e h => congrArg Host.Outcome.next (if_pos (by rw [h]; rfl))⟩
  generalize hx : { s.exhibit e with guardAlert := none } = x
  have hexpiry : s.guardAlertExpiry e = (s.putExhibit e x).raise (exhibitSource e) .guardHeld 0 2 := by
    rw [← hx]
    exact if_neg (by simpa using htimer)
  refine ⟨_, congrArg Host.Outcome.next hexpiry, ?_⟩
  have hput := s.putExhibit_form e x
  have hword := s.putExhibit_word e x
  have hexhibit := (State.exhibit_putExhibit_ite s e · x)
  generalize s.putExhibit e x = u at hput hword hexhibit ⊢
  have halerts : u.alerts = s.alerts := by rw [hput]
  have hof : u.alertOf? (exhibitSource e) .guardHeld = none := by
    unfold State.alertOf?
    rw [halerts]
    exact hnone
  obtain ⟨y, hlist, hsrc, hcause, hsev, -, hacked, hst, -⟩ :=
    State.raise_entered_list 0 2 (by rw [hput]; exact hrun) hof (by rw [halerts]; exact hlen)
  have hroute : u.routeOf (u.zone (exhibitSource e)) = s.routeOf (s.zone (exhibitSource e)) :=
    State.routeOf_congr (by rw [hput]) (fun f => by
      rw [hexhibit]
      split
      · next hef => subst hef; rw [← hx]
      · rfl) _
  obtain ⟨hact, hwords⟩ := u.raise_act (exhibitSource e) .guardHeld 0 2
  have hsame : ∀ f, (u.raise (exhibitSource e) .guardHeld 0 2).exhibit f = u.exhibit f := fun f => by
    unfold State.exhibit
    rw [State.raise_exhibits]
  rw [halerts] at hlist
  refine ⟨?_, fun f hf => ?_, ?_, ?_, fun z hz => ?_, fun k _ hk hout => ?_, ?_⟩
  · rw [hsame, hexhibit, if_pos rfl]
  · rw [hsame, hexhibit, if_neg hf.symm]
  · rw [hlist]; simp
  · rw [hlist]; simp
  · rw [hlist, List.getLast?_append, List.getLast?_singleton, Option.some_or, Option.mem_def] at hz
    obtain rfl := Option.some.inj hz
    exact ⟨hsrc, hcause, hsev, hacked, hst.trans hroute⟩
  · rw [hwords k hk, hword k hout]
  · rw [hact, hput]

/-! ### The end of the gallery stop (R138) -/

/-- A removal changes the list, the stations, the lamps and the image. -/
theorem State.removeAlerts_form (s : State) (p : Alert → Bool) :
    s.removeAlerts p = { s with
      alerts := (s.removeAlerts p).alerts, stations := (s.removeAlerts p).stations, channels := (s.removeAlerts p).channels,
      rewriteCount := (s.removeAlerts p).rewriteCount, ram := (s.removeAlerts p).ram } := by
  unfold State.removeAlerts
  split
  · rw [State.closeAct_form]; rfl
  · rfl

/-- The end of the stop as it stands before the ready lamps are judged anew. -/
theorem State.stopEnd_eq (s : State) : s.stopEnd =
    ((State.setAttn (if s.part = .run then (s.setStop false).markStopOff else s.setStop false) attnStopChange).removeAlerts
      fun x => x.source == gallerySource && x.cause == .galleryStop && x.acked).evalAllReady := rfl

/-- What the end of the stop leaves (R138, R139). -/
theorem State.stopEnd_spec (s : State) :
    s.stopEnd.stopInForce = false ∧ s.stopEnd.releaseWritten = false ∧ s.stopEnd.attn = s.attn ||| 8#4 ∧
      s.stopEnd.gallery = { s.gallery with stopOff := s.gallery.stopOff || s.part == .run } ∧
      s.stopEnd.alerts = s.alerts.filter (fun x => !(x.source == gallerySource && x.cause == .galleryStop && x.acked)) ∧
      (∀ k < 16384, NotOfAlerts k → s.stopEnd.word k = s.word k) ∧
      s.stopEnd = { s with
        gallery := s.stopEnd.gallery, channels := s.stopEnd.channels, alerts := s.stopEnd.alerts, stations := s.stopEnd.stations,
        rewriteCount := s.stopEnd.rewriteCount, stopInForce := s.stopEnd.stopInForce, releaseWritten := s.stopEnd.releaseWritten,
        attn := s.stopEnd.attn, ram := s.stopEnd.ram } := by
  rw [State.stopEnd_eq]
  have hmark : (if s.part = .run then (s.setStop false).markStopOff else s.setStop false) =
      { s.setStop false with gallery := { s.gallery with stopOff := s.gallery.stopOff || s.part == .run } } := by
    have hcold : (PartState.cold == PartState.run) = false := rfl
    cases hp : s.part <;> simp [State.setStop, State.markStopOff, hp, hcold]
  rw [hmark]
  generalize hu : State.setAttn { s.setStop false with gallery := { s.gallery with stopOff := s.gallery.stopOff || s.part == .run } }
    attnStopChange = u
  generalize hp : (fun x : Alert => x.source == gallerySource && x.cause == .galleryStop && x.acked) = p
  have hform := u.removeAlerts_form p
  have hlist := u.removeAlerts_alerts p
  have hwords := (u.removeAlerts_act p).2
  have hready := (u.removeAlerts p).evalAllReady_form
  generalize u.removeAlerts p = v at hform hlist hwords hready ⊢
  generalize v.evalAllReady = w at hready ⊢
  have hword : ∀ k, w.word k = v.word k := fun k => by rw [hready]; rfl
  refine ⟨by rw [hready, hform, ← hu]; rfl, by rw [hready, hform, ← hu]; rfl, by rw [hready, hform, ← hu]; rfl, by rw [hready, hform, ← hu]; rfl,
    ?_, fun k _ hk => ?_, ?_⟩
  · rw [hready]
    show v.alerts = _
    rw [hlist, ← hu, ← hp]
    rfl
  · rw [hword, hwords k hk, ← hu]; rfl
  · rw [hready, hform, ← hu]; rfl

theorem State.estopRelease_ends {s : State} (hl : s.estop.level = true) (hr : s.releaseWritten = true) (hs : s.stopInForce = true) :
    s.estopRelease = (s.setEstop (.recognised false)).stopEnd := by
  unfold State.estopRelease
  rw [if_pos hl]
  exact if_pos ⟨hs, hr⟩

theorem State.estopRelease_first {s : State} (hl : s.estop.level = true) (h : s.stopInForce = false ∨ s.releaseWritten = false) :
    s.estopRelease = s.setEstop (.recognised false) := by
  unfold State.estopRelease
  rw [if_pos hl]
  refine if_neg fun ⟨hs, hr⟩ => ?_
  obtain h | h := h
  · rw [show (s.setEstop (.recognised false)).stopInForce = s.stopInForce from rfl, h] at hs; simp at hs
  · rw [show (s.setEstop (.recognised false)).releaseWritten = s.releaseWritten from rfl, h] at hr; simp at hr

theorem State.writeStop_two {s : State} (hc : s.clearing = none) : s.writeStop 2 =
    if s.stopInForce = false then s else if s.estop.level then s.setReleaseWritten true else s.stopEnd := if_neg (by simp [hc])

/-- Settles O56. -/
theorem galleryStopEnds : Obligations.GalleryStopEnds := by
  refine ⟨fun s ev h hs => ?_, fun s hc => ⟨fun hs hl => ?_, fun hs => ?_, fun hl h => ?_⟩⟩
  · obtain ⟨rfl, hl, hr⟩ | ⟨rfl, hc, hl⟩ := h
    · refine ⟨_, congrArg Host.Outcome.next (State.estopRelease_ends hl hr hs), ?_⟩
      obtain ⟨hstop, hwritten, hattn, hgallery, halerts, hword, hform⟩ := (s.setEstop (.recognised false)).stopEnd_spec
      generalize (s.setEstop (.recognised false)).stopEnd = t at *
      exact ⟨hstop, hwritten, hattn, by rw [hform]; rfl, hgallery, halerts, hword, by rw [hform]; rfl⟩
    · have hexec : s.writeStop 2 = s.stopEnd := by rw [State.writeStop_two hc, if_neg (by simp [hs]), if_neg (by simp [hl])]
      refine ⟨_, congrArg Host.Outcome.next hexec, ?_⟩
      obtain ⟨hstop, hwritten, hattn, hgallery, halerts, hword, hform⟩ := s.stopEnd_spec
      generalize s.stopEnd = t at *
      exact ⟨hstop, hwritten, hattn, by rw [hform]; exact hl, hgallery, halerts, hword, by rw [hform]⟩
  · have hexec : s.writeStop 2 = s.setReleaseWritten true := by rw [State.writeStop_two hc, if_neg (by simp [hs]), if_pos hl]
    exact ⟨_, congrArg Host.Outcome.next hexec, rfl⟩
  · have hexec : s.writeStop 2 = s := by rw [State.writeStop_two hc, if_pos hs]
    exact congrArg Host.Outcome.next hexec
  · exact ⟨_, congrArg Host.Outcome.next (State.estopRelease_first hl h), rfl⟩

end Sys2Proof.Machine
end

section
/-! One axis changed and nothing else but the pool and its image; reports that nobody waits for. -/

namespace Sys2Proof.Machine

/-! ### Reports taken one after another -/

/-- `n` reports are taken, and none is left. -/
inductive Takes : Nat → State → State → Prop
  | none {s : State} (h : s.reports = []) : Takes 0 s s
  | next {s t : State} {n : Nat} {r : Report} {rest : List Report} (h : s.reports = r :: rest)
      (k : Takes n (State.deliver { s with reports := rest } r) t) : Takes (n + 1) s t

theorem Takes.settleUpTo {n m : Nat} {s t : State} (h : Takes n s t) (hm : n ≤ m) : settleUpTo m s = t := by
  induction h generalizing m with
  | none h =>
    unfold Machine.settleUpTo
    split
    · rfl
    · rw [h]
  | @next s t n r rest h k ih =>
    obtain ⟨m, rfl⟩ : ∃ l, m = l + 1 := ⟨m - 1, by omega⟩
    unfold Machine.settleUpTo
    rw [h]
    exact ih (by omega)

theorem Takes.settle {n : Nat} {s t : State} (h : Takes n s t) (hn : n ≤ 4096) : s.settle = t := h.settleUpTo hn

/-- Reports that nobody takes up are dropped. -/
theorem Takes.dropped (s : State) (hl : ∀ r ∈ s.reports, ∀ rest, State.deliver { s with reports := rest } r = { s with reports := rest }) :
    Takes s.reports.length s { s with reports := [] } := by
  generalize hrs : s.reports = l at hl
  induction l generalizing s with
  | nil =>
    have hs : { s with reports := [] } = s := by rw [← hrs]
    rw [hs]
    exact .none hrs
  | cons r rest ih =>
    refine .next hrs ?_
    rw [hl r (List.mem_cons_self ..) rest]
    exact ih { s with reports := rest } rfl fun q hq => hl q (List.mem_cons_of_mem _ hq)

/-! ### Whom a report concerns -/

theorem State.Unwatched.slotAwaits {s : State} {a : AxisNo} (h : s.Unwatched a) {e : ExhibitNo} (he : s.axisOwner a = some e) {w : Wait}
    (hw : w.concerns a = true) : s.slotAwaits e w = false := by
  have hno := (h e he).2 w
  unfold State.slotAwaits
  rw [Bool.and_eq_false_iff]
  refine .inr (beq_eq_false_iff_ne.2 fun hwait => ?_)
  rw [hno hwait] at hw
  exact absurd hw (by decide)

theorem State.Unwatched.reportDone {s : State} {a : AxisNo} (h : s.Unwatched a) (kind : MotionKind) : s.reportDone a kind = s := by
  unfold State.reportDone
  split
  · rfl
  · next e he =>
    rw [h.slotAwaits he (by simp [Wait.concerns])]
    rfl

theorem State.Unwatched.reportRest {s : State} {a : AxisNo} (h : s.Unwatched a) : s.reportRest a = s := by
  unfold State.reportRest
  split
  · rfl
  · next e he =>
    rw [h.slotAwaits he (by simp [Wait.concerns]), show ((s.exhibit e).state == .halting) = false from beq_eq_false_iff_ne.2 (h e he).1]
    rfl

theorem State.Unwatched.uncrossed {s : State} {a : AxisNo} (h : s.Unwatched a) : s.Uncrossed a := by
  intro e he m up
  unfold Slot.awaitsCrossing
  rw [Bool.and_eq_false_iff]
  refine .inr ?_
  split
  · next b k sense hw =>
    have := (h e he).2 _ hw
    simp only [Wait.concerns, beq_eq_false_iff_ne] at this
    simp [Ne.symm this]
  · rfl

theorem State.Unwatched.of_unbound {s : State} {a : AxisNo} (h : s.axisOwner a = none) : s.Unwatched a := fun e he => by
  rw [h] at he; simp at he

theorem State.Uncrossed.of_unbound {s : State} {a : AxisNo} (h : s.axisOwner a = none) : s.Uncrossed a := fun e he => by
  rw [h] at he; simp at he

/-- Who watches an axis is read from the exhibits and the slots. -/
theorem State.axisOwner_congr {s t : State} (he : t.exhibits = s.exhibits) (a : AxisNo) : t.axisOwner a = s.axisOwner a := by
  unfold State.axisOwner State.exhibit
  rw [he]

theorem State.Unwatched.congr {s t : State} {a : AxisNo} (he : t.exhibits = s.exhibits) (hsl : t.slots = s.slots) (h : s.Unwatched a) :
    t.Unwatched a := by
  intro e ho
  rw [State.axisOwner_congr he] at ho
  unfold State.exhibit State.slot
  rw [he, hsl]
  exact h e ho

theorem State.Uncrossed.congr {s t : State} {a : AxisNo} (he : t.exhibits = s.exhibits) (hsl : t.slots = s.slots) (h : s.Uncrossed a) :
    t.Uncrossed a := by
  intro e ho m up
  rw [State.axisOwner_congr he] at ho
  unfold State.slot
  rw [hsl]
  exact h e ho m up

/-- A crossing that nobody waits for. -/
theorem State.Uncrossed.deliver {s : State} {a : AxisNo} (h : s.Uncrossed a) (m : Fin 4) (up : Bool) : s.deliver (.crossing a m up) = s := by
  unfold State.deliver
  simp only
  split
  · next e he => rw [h e he m up]; rfl
  · rfl

/-! ### Crossings of one change of P (R113) -/

theorem insertCrossed_length (upward : Bool) (c : CrossedMark) (l : List CrossedMark) : (insertCrossed upward c l).length = l.length + 1 := by
  induction l with
  | nil => rfl
  | cons d ds ih =>
    unfold insertCrossed
    split_ifs <;> simp [ih]

/-- A fold that adds at most one entry at a time. -/
theorem foldl_length_le {α β : Type} {f : List β → α → List β} (hf : ∀ acc i, (f acc i).length ≤ acc.length + 1) (l : List α) (acc : List β) :
    (l.foldl f acc).length ≤ acc.length + l.length := by
  induction l generalizing acc with
  | nil => simp
  | cons i l ih =>
    have := ih (f acc i)
    have := hf acc i
    simp only [List.foldl_cons, List.length_cons]
    omega

theorem crossings_length (x : Axis) (p : Int) : (crossings x p).length ≤ 4 := by
  unfold crossings
  refine (foldl_length_le (fun acc i => ?_) (List.finRange 4) []).trans (by simp)
  split
  · split
    · omega
    · exact (insertCrossed_length _ _ _).le
  · omega

/-! ### One axis changed -/

/-- The axis is as `y` says, but for the mark that its image is stale. -/
def Axis.Matches (x y : Axis) : Prop := x = { y with imageStale := x.imageStale }

theorem Axis.Matches.refl (x : Axis) : x.Matches x := rfl

theorem Axis.Matches.trans {x y z : Axis} (h : x.Matches y) (k : y.Matches z) : x.Matches z := by
  unfold Axis.Matches at *
  rw [h, k]

theorem Axis.Matches.symm {x y : Axis} (h : x.Matches y) : y.Matches x := by
  unfold Axis.Matches at *
  rw [h]

/-- Nothing has changed but that axis `a` is as `y` says, with its image, the pool is `p`, and at most `n` crossings of the axis have been
reported. -/
structure AxisTo (s t : State) (a : AxisNo) (y : Axis) (p : Pool) (n : Nat) : Prop where
  axis : (t.axis a).Matches y
  others : s.OtherAxes t a
  word : ∀ k, OutsideAxis a k → t.word k = s.word k
  pool : t.pool = p
  reports : ∃ rs : List Report, t.reports = s.reports ++ rs ∧ rs.length ≤ n ∧ ∀ r ∈ rs, ∃ m up, r = .crossing a m up
  form : t = { s with axes := t.axes, pool := t.pool, ram := t.ram, reports := t.reports }

namespace AxisTo

theorem refl (s : State) (a : AxisNo) : AxisTo s s a (s.axis a) s.pool 0 :=
  ⟨.refl _, fun _ _ => rfl, fun _ _ => rfl, rfl, ⟨[], by simp, le_rfl, by simp⟩, rfl⟩

theorem trans {s t u : State} {a : AxisNo} {y z : Axis} {p q : Pool} {n m : Nat} (h : AxisTo s t a y p n) (k : AxisTo t u a z q m) :
    AxisTo s u a z q (n + m) := by
  obtain ⟨rs, hrs, hn, hr⟩ := h.reports
  obtain ⟨qs, hqs, hm, hq⟩ := k.reports
  exact {
    axis := k.axis
    others := fun b hb => (k.others b hb).trans (h.others b hb)
    word := fun i hi => (k.word i hi).trans (h.word i hi)
    pool := k.pool
    reports := ⟨rs ++ qs, by rw [hqs, hrs, List.append_assoc], by rw [List.length_append]; omega,
      fun r hmem => (List.mem_append.1 hmem).elim (hr r) (hq r)⟩
    form := by rw [k.form, h.form] }

theorem congr {s t : State} {a : AxisNo} {y z : Axis} {p : Pool} {n : Nat} (h : AxisTo s t a y p n) (hy : y.Matches z) : AxisTo s t a z p n :=
  { h with axis := h.axis.trans hy }

theorem weaken {s t : State} {a : AxisNo} {y : Axis} {p : Pool} {n m : Nat} (h : AxisTo s t a y p n) (hm : n ≤ m) : AxisTo s t a y p m := by
  obtain ⟨rs, hrs, hn, hr⟩ := h.reports
  exact { h with reports := ⟨rs, hrs, hn.trans hm, hr⟩ }

section
variable {s t : State} {a : AxisNo} {y : Axis} {p : Pool} {n : Nat} (h : AxisTo s t a y p n)
include h

theorem exhibits : t.exhibits = s.exhibits := by rw [h.form]
theorem slots : t.slots = s.slots := by rw [h.form]
theorem owner : t.axisOwner a = s.axisOwner a := State.axisOwner_congr h.exhibits a
theorem unwatched (hw : s.Unwatched a) : t.Unwatched a := hw.congr h.exhibits h.slots
theorem uncrossed (hw : s.Uncrossed a) : t.Uncrossed a := hw.congr h.exhibits h.slots

/-- The reports of an act that only crossed marks, none awaited, are dropped. -/
theorem settle (hs : s.reports = []) (hc : s.Uncrossed a) (hn : n ≤ 4096) : AxisTo s t.settle a y p 0 := by
  obtain ⟨rs, hrs, hlen, hr⟩ := h.reports
  rw [hs, List.nil_append] at hrs
  have htakes : Takes t.reports.length t { t with reports := [] } := Takes.dropped t fun r hmem rest => by
    obtain ⟨m, up, rfl⟩ := hr r (hrs ▸ hmem)
    exact State.Uncrossed.deliver (State.Uncrossed.congr (s := t) (t := { t with reports := rest }) rfl rfl (h.uncrossed hc)) m up
  rw [htakes.settle (by rw [hrs]; omega)]
  exact {
    axis := h.axis
    others := h.others
    word := h.word
    pool := h.pool
    reports := ⟨[], by simp [hs], le_rfl, by simp⟩
    form := by rw [h.form] }

end

theorem form_silent {s t : State} {a : AxisNo} {y : Axis} {p : Pool} (h : AxisTo s t a y p 0) :
    t = { s with axes := t.axes, pool := t.pool, ram := t.ram } := by
  obtain ⟨rs, hrs, hn, -⟩ := h.reports
  obtain rfl : rs = [] := List.eq_nil_of_length_eq_zero (by omega)
  rw [List.append_nil] at hrs
  have hform := h.form
  rw [hrs] at hform
  exact hform

theorem form_axes {s t : State} {a : AxisNo} {y : Axis} (h : AxisTo s t a y s.pool 0) : t = { s with axes := t.axes, ram := t.ram } := by
  have hform := h.form_silent
  rw [h.pool] at hform
  exact hform

end AxisTo

/-! ### The operations on one axis -/

theorem State.setAxis_to (s : State) (a : AxisNo) (x : Axis) : AxisTo s (s.setAxis a x) a x s.pool 0 where
  axis := by rw [State.setAxis_axis, if_pos rfl]; exact .refl x
  others b hb := by rw [State.setAxis_axis, if_neg hb.symm]
  word _ _ := rfl
  pool := rfl
  reports := ⟨[], by simp [State.setAxis], le_rfl, by simp⟩
  form := rfl

theorem State.putAxis_to (s : State) (a : AxisNo) (x : Axis) (r : Bool) : AxisTo s (s.putAxis a x r) a x s.pool 0 := by
  obtain ⟨stale, hform⟩ := s.putAxis_form a x r
  have hword := s.putAxis_word a x r
  generalize s.putAxis a x r = t at hform hword ⊢
  have haxis : ∀ b, t.axis b = if a = b then { x with imageStale := stale } else s.axis b := fun b => by
    rw [hform]; exact tget_tset _ _ _ _
  exact {
    axis := by rw [haxis, if_pos rfl]; exact rfl
    others := fun b hb => by rw [haxis, if_neg hb.symm]
    word := hword
    pool := by rw [hform]
    reports := ⟨[], by rw [hform]; simp, le_rfl, by simp⟩
    form := by rw [hform] }

theorem State.setPool_to (s : State) (a : AxisNo) (p : Pool) : AxisTo s (s.setPool p) a (s.axis a) p 0 where
  axis := .refl _
  others _ _ := rfl
  word _ _ := rfl
  pool := rfl
  reports := ⟨[], by simp [State.setPool], le_rfl, by simp⟩
  form := rfl

theorem State.reportCrossings_to (s : State) (a : AxisNo) (cs : List CrossedMark) :
    AxisTo s (s.reportCrossings a cs) a (s.axis a) s.pool cs.length := by
  rw [State.reportCrossings_form]
  exact {
    axis := .refl _
    others := fun _ _ => rfl
    word := fun _ _ => rfl
    pool := rfl
    reports := ⟨cs.map fun c => .crossing a c.mark c.up, rfl, by simp, fun r hr => by
      obtain ⟨c, -, rfl⟩ := List.mem_map.1 hr
      exact ⟨c.mark, c.up, rfl⟩⟩
    form := rfl }

theorem State.putAxisAt_to (s : State) (a : AxisNo) (x : Axis) (p : Int) (r : Bool) : AxisTo s (s.putAxisAt a x p r) a (x.movedTo p) s.pool 4 := by
  have hput := s.putAxis_to a (x.movedTo p) r
  have hlen : (if (s.axis a).state = .off then [] else crossings (s.axis a) p).length ≤ 4 := by
    split
    · simp
    · exact crossings_length _ _
  unfold State.putAxisAt
  simp only
  generalize (if (s.axis a).state = .off then [] else crossings (s.axis a) p) = cs at hlen ⊢
  have hrep := (s.putAxis a (x.movedTo p) r).reportCrossings_to a cs
  rw [hput.pool] at hrep
  exact ((hput.trans hrep).congr hput.axis).weaken (by omega)

end Sys2Proof.Machine
end

section
/-! The encoder count (section 4.1) and the arrival of a homing (section 5.3): O49, O50. -/

namespace Sys2Proof.Machine

/-! ### Operations made of the elementary ones -/

theorem State.returnUnits_to (s : State) (a : AxisNo) : AxisTo s (s.returnUnits a) a (s.axis a) (s.pool.returned a) 0 := s.setPool_to a _

theorem State.resyncAs_to (s : State) (a : AxisNo) (y : Axis) :
    AxisTo s (s.resyncAs a y) a (y.movedTo (s.axis a).encoder) (s.pool.returned a) 4 := by
  have hreturn := s.returnUnits_to a
  have hput := (s.returnUnits a).putAxisAt_to a y (s.axis a).encoder true
  rw [hreturn.pool] at hput
  exact (hreturn.trans hput).weaken (by omega)

/-- The axis of a load of HOME_VALUE (R104, R108). -/
def Axis.loaded (y : Axis) (v : Int) : Axis :=
  ({ y with encoder := v, speedRef := y.speedRef + (v - y.encoder), followRun := 0 } : Axis).movedTo v

theorem State.loadHome_to (s : State) (a : AxisNo) (y : Axis) (v : Int) : AxisTo s (s.loadHome a y v) a (y.loaded v) s.pool 4 :=
  s.putAxisAt_to a _ v true

/-- The marks of a configured axis. -/
theorem Axis.marks_of_config {x : Axis} {c : AxisConfig} (h : x.config = some c) : x.marks = c.marks := by
  unfold Axis.marks
  rw [h]
  rfl

/-- The sides of the marks of a configured axis follow P (R112). -/
theorem Axis.movedTo_of_config {x : Axis} {c : AxisConfig} (h : x.config = some c) (hoff : x.state ≠ .off) (p : Int) :
    x.movedTo p = { x with pos := p, sides := sidesAt c.marks p } := by
  unfold Axis.movedTo
  rw [if_neg hoff, Axis.marks_of_config h]

theorem Axis.loaded_of_config {y : Axis} {c : AxisConfig} (h : y.config = some c) (hoff : y.state ≠ .off) (v : Int) :
    y.loaded v = { y with
      encoder := v, speedRef := y.speedRef + (v - y.encoder), followRun := 0, pos := v, sides := sidesAt c.marks v } := by
  exact Axis.movedTo_of_config (x := { y with encoder := v, speedRef := y.speedRef + (v - y.encoder), followRun := 0 }) h hoff v

theorem Pool.returned_free (p : Pool) (a : AxisNo) : (p.returned a).free = p.free + tget p.held a := rfl
theorem Pool.returned_held (p : Pool) (a : AxisNo) : tget (p.returned a).held a = 0 := tget_tset_same _ _ _
theorem Pool.returned_held_ne (p : Pool) {a b : AxisNo} (h : b ≠ a) : tget (p.returned a).held b = tget p.held b := tget_tset_ne _ _ h.symm
theorem Pool.returned_waiting (p : Pool) (a : AxisNo) : (p.returned a).waiting = p.waiting := rfl

/-! ### Switches and the index (R103, R108) -/

/-- An axis at rest at the end of its homing, before HOME_VALUE is loaded. -/
def Axis.homedAtRest (x : Axis) : Axis :=
  { x with state := .idle, vel := 0, acc := 0, dir := none, request := none, phase := none, homed := true, pulses := 0 }

/-- An axis that has arrived, HOME_VALUE loaded. -/
def Axis.homedBy (x : Axis) (c : AxisConfig) : Axis :=
  { x with
    state := .idle, vel := 0, acc := 0, dir := none, request := none, phase := none, homed := true, pulses := 0, followRun := 0,
    pos := c.homeValue, encoder := c.homeValue, speedRef := x.speedRef + (c.homeValue - x.encoder), sides := sidesAt c.marks c.homeValue }

/-- The arrival of a homing, with no axis waiting for units, up to its reports. -/
theorem State.arrive_reports {s : State} {a : AxisNo} {c : AxisConfig} (hc : (s.axis a).config = some c) (hempty : s.pool.waiting = []) :
    ∃ v, AxisTo s v a ((s.axis a).homedBy c) (s.pool.returned a) 4 ∧ s.arrive a c = (v.reportDone a .home).reportRest a := by
  have hreturn := s.returnUnits_to a
  have hload := (s.returnUnits a).loadHome_to a (s.axis a).homedAtRest c.homeValue
  rw [hreturn.pool] at hload
  rw [Axis.loaded_of_config (y := (s.axis a).homedAtRest) (c := c) hc (by simp [Axis.homedAtRest])] at hload
  have hall := (hreturn.trans hload).weaken (m := 4) (by omega)
  have harrive : s.arrive a c =
      (((s.returnUnits a).loadHome a (s.axis a).homedAtRest c.homeValue).grantScan.reportDone a .home).reportRest a := rfl
  rw [harrive]
  generalize (s.returnUnits a).loadHome a (s.axis a).homedAtRest c.homeValue = t at hall ⊢
  rw [State.grantScan_nil t (by rw [hall.pool]; exact hempty)]
  exact ⟨t, hall, rfl⟩

/-- The arrival of a homing that nobody waits for, with no axis waiting for units. -/
theorem State.arrive_to {s : State} {a : AxisNo} {c : AxisConfig} (hc : (s.axis a).config = some c) (hw : s.Unwatched a)
    (hempty : s.pool.waiting = []) : AxisTo s (s.arrive a c) a ((s.axis a).homedBy c) (s.pool.returned a) 4 := by
  obtain ⟨v, hv, harrive⟩ := State.arrive_reports hc hempty
  rw [harrive, (hv.unwatched hw).reportDone, (hv.unwatched hw).reportRest]
  exact hv

/-- Settles O49. -/
theorem homingArrives : Obligations.HomingArrives := by
  refine ⟨fun s a c hlevel hc => ⟨fun hst hph => ?_, fun hst => ?_⟩, fun s a c hst hph hc howner hrep hempty => ?_⟩
  · have hexec : s.homeClosing a =
        s.putAxis a { s.axis a with homeSwitch := .recognised true, phase := some .creep, vel := c.creepSpeed } false := by
      unfold State.homeClosing
      simp only [hlevel, hst, hph, hc, Bool.false_eq_true, if_false]
    refine ⟨_, congrArg Host.Outcome.next hexec, ?_⟩
    have hto := s.putAxis_to a { s.axis a with homeSwitch := .recognised true, phase := some .creep, vel := c.creepSpeed } false
    exact ⟨hto.axis, hto.others, hto.form_axes, fun k _ hk => hto.word k hk⟩
  · have hexec : s.homeClosing a = s.setAxis a { s.axis a with homeSwitch := .recognised true } := by
      unfold State.homeClosing
      simp only [hlevel, Bool.false_eq_true, if_false]
      split
      · next h _ _ => exact absurd h hst
      · rfl
    refine ⟨_, congrArg Host.Outcome.next hexec, ?_, (s.setAxis_to a _).others, rfl⟩
    rw [State.setAxis_axis, if_pos rfl]
    rfl
  · have hw := State.Unwatched.of_unbound howner
    have hexec : s.indexEvent a = s.arrive a c := by
      unfold State.indexEvent
      simp only [hst, hph, hc]
    have hto := (s.arrive_to hc hw hempty).settle hrep hw.uncrossed (by omega)
    refine ⟨(s.arrive a c).settle, by rw [← hexec]; rfl, ?_⟩
    refine ⟨hto.axis, ?_, ?_, ?_, hto.others, fun k _ hk => hto.word k hk, hto.form_silent⟩
    · rw [hto.pool, Pool.returned_free]
    · rw [hto.pool, Pool.returned_held]
    · rw [hto.pool, Pool.returned_waiting, hempty]

/-! ### The quadrature input (R80) -/

/-- The encoder count `m` counts on, within its range. -/
def countedTo (n : Int) (up : Bool) (m : Nat) : Int := if up then min 8388607 (n + m) else max (-8388608) (n - m)

/-- P follows the encoder count in OFF and UNHOMED. -/
def AxisState.followsEncoder (st : AxisState) : Prop := st = .off ∨ st = .unhomed

theorem State.encoderCount_eq (s : State) (a : AxisNo) (up : Bool) : s.encoderCount a up =
    if nextCount (s.axis a).encoder up = (s.axis a).encoder then s
    else if (s.axis a).state = .off ∨ (s.axis a).state = .unhomed then
      s.putAxisAt a { s.axis a with encoder := nextCount (s.axis a).encoder up } (nextCount (s.axis a).encoder up) false
    else s.putAxis a { s.axis a with encoder := nextCount (s.axis a).encoder up } false := by
  unfold State.encoderCount
  simp only
  split
  · rfl
  · cases (s.axis a).state <;> rfl

/-- One count. -/
theorem State.encoderCount_to {s : State} {a : AxisNo} (up : Bool) (hrep : s.reports = []) (hc : s.Uncrossed a)
    (hfollow : (s.axis a).state.followsEncoder → (s.axis a).pos = (s.axis a).encoder) :
    ∃ y : Axis, AxisTo s (s.encoderCount a up).settle a y s.pool 0 ∧ y.state = (s.axis a).state ∧
      y.encoder = nextCount (s.axis a).encoder up ∧ ((s.axis a).state.followsEncoder → y.pos = y.encoder) ∧
      (¬ (s.axis a).state.followsEncoder → y = { s.axis a with encoder := nextCount (s.axis a).encoder up }) := by
  rw [State.encoderCount_eq]
  split
  · next hsame =>
    rw [State.settle_nil s hrep, hsame]
    exact ⟨_, .refl s a, rfl, rfl, hfollow, fun _ => rfl⟩
  · split
    · next hf =>
      have hto := (s.putAxisAt_to a { s.axis a with encoder := nextCount (s.axis a).encoder up } (nextCount (s.axis a).encoder up) false).settle
        hrep hc (by omega)
      exact ⟨_, hto, rfl, rfl, fun _ => rfl, fun h => absurd hf h⟩
    · next hf =>
      have hto := (s.putAxis_to a { s.axis a with encoder := nextCount (s.axis a).encoder up } false).settle hrep hc (by omega)
      exact ⟨_, hto, rfl, rfl, fun h => absurd h hf, fun _ => rfl⟩

/-- Any number of counts in one direction. -/
theorem countUpTo_to (m : Nat) {s : State} {a : AxisNo} (up : Bool) (hrep : s.reports = []) (hc : s.Uncrossed a)
    (hlow : -8388608 ≤ (s.axis a).encoder) (hhigh : (s.axis a).encoder ≤ 8388607)
    (hfollow : (s.axis a).state.followsEncoder → (s.axis a).pos = (s.axis a).encoder) :
    ∃ y : Axis, AxisTo s (countUpTo a up m s) a y s.pool 0 ∧ y.state = (s.axis a).state ∧
      y.encoder = countedTo (s.axis a).encoder up m ∧ ((s.axis a).state.followsEncoder → y.pos = y.encoder) ∧
      (¬ (s.axis a).state.followsEncoder → y.Matches { s.axis a with encoder := countedTo (s.axis a).encoder up m }) := by
  induction m generalizing s with
  | zero =>
    have hzero : countedTo (s.axis a).encoder up 0 = (s.axis a).encoder := by
      unfold countedTo
      split <;> omega
    rw [hzero]
    exact ⟨_, .refl s a, rfl, rfl, hfollow, fun _ => .refl _⟩
  | succ m ih =>
    obtain ⟨y, hto, hstate, henc, hpos, hother⟩ := State.encoderCount_to up hrep hc hfollow
    have hy := hto.axis
    unfold Axis.Matches at hy
    have hsucc : countedTo (nextCount (s.axis a).encoder up) up m = countedTo (s.axis a).encoder up (m + 1) := by
      cases up <;> simp only [countedTo, nextCount, Config.maxPosition, Config.minPosition, if_true, Bool.false_eq_true, if_false] <;> omega
    have hbounds : -8388608 ≤ y.encoder ∧ y.encoder ≤ 8388607 := by
      rw [henc]
      cases up <;> simp only [nextCount, Config.maxPosition, Config.minPosition, if_true, Bool.false_eq_true, if_false] <;> omega
    have hreports : (s.encoderCount a up).settle.reports = [] := by
      rw [hto.form_silent]; exact hrep
    have hst : ((s.encoderCount a up).settle.axis a).state = (s.axis a).state := by rw [hy]; exact hstate
    have hen : ((s.encoderCount a up).settle.axis a).encoder = y.encoder := by rw [hy]
    have hps : ((s.encoderCount a up).settle.axis a).pos = y.pos := by rw [hy]
    obtain ⟨z, hto', hstate', henc', hpos', hother'⟩ := ih hreports (hto.uncrossed hc) (by rw [hen]; exact hbounds.1)
      (by rw [hen]; exact hbounds.2) (by rw [hst, hen, hps]; exact hpos)
    rw [hen, henc, hsucc] at henc' hother'
    rw [hst] at hstate' hpos' hother'
    rw [hto.pool] at hto'
    refine ⟨z, hto.trans hto', hstate', henc', hpos', fun hf => (hother' hf).trans ?_⟩
    unfold Axis.Matches
    rw [hy, hother hf]

/-- Settles O50. -/
theorem encoderCountFollowed : Obligations.EncoderCountFollowed := by
  intro s a delta n hrep hc hlow hhigh hn
  have hcounted : countedTo (s.axis a).encoder (decide (0 < delta)) delta.natAbs = n := by
    unfold countedTo
    by_cases hd : 0 < delta
    · simp only [hd, decide_true, if_true]; omega
    · simp only [hd, decide_false, Bool.false_eq_true, if_false]; omega
  refine ⟨fun hf hpos => ?_, fun hoff hun => ?_⟩
  · obtain ⟨y, hto, hstate, henc, hfollow, -⟩ := countUpTo_to delta.natAbs (decide (0 < delta)) hrep hc hlow hhigh fun _ => hpos
    rw [hcounted] at henc
    have hy := hto.axis
    refine ⟨s.encoderChange a delta, rfl, ?_, ?_, ?_, hto.others, fun k _ hk => hto.word k hk, hto.form_axes⟩
    · exact (congrArg Axis.encoder hy).trans henc
    · exact (congrArg Axis.pos hy).trans ((hfollow hf).trans henc)
    · exact (congrArg Axis.state hy).trans hstate
  · have hno : ¬ (s.axis a).state.followsEncoder := fun h => h.elim hoff hun
    obtain ⟨y, hto, -, -, -, hother⟩ := countUpTo_to delta.natAbs (decide (0 < delta)) hrep hc hlow hhigh fun h => absurd h hno
    have hy := hto.axis.trans (hother hno)
    rw [hcounted] at hy
    exact ⟨s.encoderChange a delta, rfl, hy, hto.others, fun k _ hk => hto.word k hk, hto.form_axes⟩

end Sys2Proof.Machine
end

section
/-! What the taking of a cell leaves, for every order (R189), and the answers of axis orders, show orders and maintenance orders
(R13, R71, R97): O28, O31, O34. -/

namespace Sys2Proof.Machine

/-! ### A cell answered after the act of its order -/

/-- The result and the walk do not read the reports. -/
theorem State.advanceWalk_reports (v : State) (code d : Nat) (r : Result) (rs : List Report) :
    (State.writeResult { v with reports := rs } code r d).advanceWalk = { (v.writeResult code r d).advanceWalk with reports := rs } := by
  unfold State.advanceWalk
  simp only
  by_cases h : (v.writeResult code r d).deck.position + 1 < (v.writeResult code r d).deck.count
  · rw [if_pos h, if_pos (by exact h)]; rfl
  · rw [if_neg h, if_neg (by exact h)]; rfl

theorem State.advanceWalk_keepsReports (v : State) (code d : Nat) (r : Result) : (v.writeResult code r d).advanceWalk.reports = v.reports := by
  unfold State.advanceWalk
  simp only
  split <;> rfl

/-- What the order unit reads and writes of is as before: ATTN, and the words below the images but IMAGE_SEQ. -/
abbrev KeepsCells (s t : State) : Prop := t.attn = s.attn ∧ ∀ k, k < 0x0200 → k ≠ 3 → t.word k = s.word k

theorem KeepsDesk.cells {s t : State} (h : KeepsDesk s t) : KeepsCells s t :=
  ⟨h.attn, fun k hk h3 => h.word k h3 (by simp only [addrAlertImage]; omega)⟩

/-- The taking of a cell whose order leaves the state `v`: the answer, and what follows from it. -/
theorem State.takeCell_effect (s v : State) (owner : Word → Word → State → Answer) {code w1 w2 d : Nat} {r : Result}
    (h : s.AtCell code w1 w2) (hd : d < 65536)
    (hr : (owner (s.word (addrCell s.deck.position + 1)) (s.word (addrCell s.deck.position + 2)) s).result = r)
    (hdet : (owner (s.word (addrCell s.deck.position + 1)) (s.word (addrCell s.deck.position + 2)) s).detail = d)
    (hv : (owner (s.word (addrCell s.deck.position + 1)) (s.word (addrCell s.deck.position + 2)) s).state.settle = v)
    (cells : KeepsCells s v) (deck : v.deck = s.deck) :
    s.Answered (s.takeCell owner) code r.code d ∧ (∀ k, k < 16384 → s.NotOfCell k → (s.takeCell owner).word k = v.word k) ∧
      s.takeCell owner =
        { v with ram := (s.takeCell owner).ram, deck := (s.takeCell owner).deck, attn := (s.takeCell owner).attn } := by
  obtain ⟨hrun, hpos, hcode, -, -, -⟩ := h
  obtain ⟨hattn, hlow⟩ := cells
  have hcell : addrCell s.deck.position < 0x0200 ∧ 3 < addrCell s.deck.position := by simp only [addrCell]; omega
  have htake : s.takeCell owner = (v.writeResult code r d).advanceWalk := by
    unfold State.takeCell
    simp only [hr, hdet, hv, State.cellCode_eq, hcode]
  have hat : State.AtCell { v with reports := [] } code (v.word (addrCell s.deck.position + 1)).toNat
      (v.word (addrCell s.deck.position + 2)).toNat := by
    refine ⟨?_, ?_, ?_, ?_, ?_, rfl⟩
    · exact (congrArg Deck.state deck).trans hrun
    · exact (congrArg Deck.position deck).trans_lt hpos
    · show (v.word (addrCell v.deck.position)).toNat / 256 = code
      rw [deck, hlow _ hcell.1 (by omega)]
      exact hcode
    · show (v.word (addrCell v.deck.position + 1)).toNat = _
      rw [deck]
    · show (v.word (addrCell v.deck.position + 2)).toNat = _
      rw [deck]
  have htrue := State.takeCell_answered { v with reports := [] } (fun _ _ t => t.answer r d) code _ _ d r hat hd rfl
  rw [State.takeCell_of_answer _ _ _ r d rfl rfl, State.advanceWalk_reports, State.cellCode_eq, hat.2.2.1] at htrue
  obtain ⟨⟨hres, hdetail, hon, hdone⟩, hwords, hform⟩ := htrue
  have hreports := State.advanceWalk_keepsReports v code d r
  rw [htake]
  generalize (v.writeResult code r d).advanceWalk = t at hres hdetail hon hdone hwords hform hreports ⊢
  have hstate : v.word addrDeckState = s.word addrDeckState := hlow 1 (by omega) (by omega)
  refine ⟨⟨?_, ?_, ?_, ?_⟩, ?_, ?_⟩
  · rw [← deck]; exact hres
  · rw [← deck]; exact hdetail
  · rw [← deck, ← hattn, ← hstate]; exact hon
  · rw [← deck, ← hattn]; exact hdone
  · intro k hk hnot
    refine hwords k hk ?_
    show k ≠ addrDeckState ∧ k ≠ addrCell v.deck.position ∧ k ≠ addrCell v.deck.position + 3
    rw [deck]
    exact hnot
  · have hback := congrArg (fun x : State => { x with reports := v.reports }) hform
    rw [← hreports] at hback ⊢
    exact hback

/-! ### Rows of orders -/

/-- The row of this code takes the cell and lets this owner judge it, once the part is in RUN. -/
abbrev RowOf (code : Nat) (owner : Word → Word → State → Answer) : Prop :=
  ∀ s, exec (orderRow code) s = .next (s.takeOrder code (State.inRun owner))

section
variable {s : State} {code w1 w2 d : Nat} {r : Result} {owner : Word → Word → State → Answer}

theorem RowOf.takes (hrow : RowOf code owner) (h : s.AtCell code w1 w2) :
    exec (orderRow code) s = .next (s.takeCell (State.inRun owner)) := by
  rw [hrow, State.takeOrder_atCell s code w1 w2 _ h]

/-- An order left without effect. -/
theorem RowOf.answered (hrow : RowOf code owner) (h : s.AtCell code w1 w2) (hp : s.part = .run) (hd : d < 65536)
    (ho : ∀ v1 v2 : Word, v1.toNat = w1 → v2.toNat = w2 → owner v1 v2 s = s.answer r d) :
    ∃ t, exec (orderRow code) s = .next t ∧ s.Answered t code r.code d ∧ s.OnlyAnswered t := by
  refine ⟨_, hrow.takes h, State.takeCell_answered s _ code w1 w2 d r h hd ?_⟩
  rw [State.inRun_run s owner _ _ hp]
  obtain ⟨-, -, -, h1, h2, -⟩ := h
  exact ho _ _ h1 h2

/-- A taken order: what its act leaves, the answer and the walk. -/
theorem RowOf.taken_over (hrow : RowOf code owner) (h : s.AtCell code w1 w2) (hp : s.part = .run) (hd : d < 65536) {u v : State}
    (ho : ∀ v1 v2 : Word, v1.toNat = w1 → v2.toNat = w2 → owner v1 v2 s = u.answer r d) (hv : u.settle = v)
    (cells : KeepsCells s v) (deck : v.deck = s.deck) :
    ∃ t, exec (orderRow code) s = .next t ∧ s.Answered t code r.code d ∧ (∀ k, k < 16384 → s.NotOfCell k → t.word k = v.word k) ∧
      t = { v with ram := t.ram, deck := t.deck, attn := t.attn } := by
  refine ⟨_, hrow.takes h, ?_⟩
  have hanswer : State.inRun owner (s.word (addrCell s.deck.position + 1)) (s.word (addrCell s.deck.position + 2)) s = u.answer r d := by
    rw [State.inRun_run s owner _ _ hp]
    obtain ⟨-, -, -, h1, h2, -⟩ := h
    exact ho _ _ h1 h2
  exact State.takeCell_effect s v _ h hd (by rw [hanswer]; rfl) (by rw [hanswer]; rfl) (by rw [hanswer]; exact hv) cells deck

/-- The same where the act keeps the buttons as well. -/
theorem RowOf.taken (hrow : RowOf code owner) (h : s.AtCell code w1 w2) (hp : s.part = .run) (hd : d < 65536) {u v : State}
    (ho : ∀ v1 v2 : Word, v1.toNat = w1 → v2.toNat = w2 → owner v1 v2 s = u.answer r d) (hv : u.settle = v)
    (desk : KeepsDesk s v) (deck : v.deck = s.deck) :
    ∃ t, exec (orderRow code) s = .next t ∧ s.Answered t code r.code d ∧ (∀ k, k < 16384 → s.NotOfCell k → t.word k = v.word k) ∧
      t = { v with ram := t.ram, deck := t.deck, attn := t.attn } := hrow.taken_over h hp hd ho hv desk.cells deck

/-- A taken order whose act is known by its acts only. -/
theorem RowOf.taken_acts (hrow : RowOf code owner) (h : s.AtCell code w1 w2) (hp : s.part = .run) (hd : d < 65536)
    (ho : ∀ v1 v2 : Word, v1.toNat = w1 → v2.toNat = w2 → (owner v1 v2 s).result = r ∧ (owner v1 v2 s).detail = d)
    (hacts : ∀ v1 v2, (owner v1 v2 s).ActsFrom s) : ∃ t, exec (orderRow code) s = .next t ∧ s.Answered t code r.code d := by
  obtain ⟨-, -, -, h1, h2, -⟩ := id h
  obtain ⟨hr, hdet⟩ := ho _ _ h1 h2
  have hsettled := (hacts (s.word (addrCell s.deck.position + 1)) (s.word (addrCell s.deck.position + 2))).settled
  have hin := State.inRun_run s owner (s.word (addrCell s.deck.position + 1)) (s.word (addrCell s.deck.position + 2)) hp
  rw [← hin] at hr hdet hsettled
  exact ⟨_, hrow.takes h, (State.takeCell_effect s _ _ h hd hr hdet rfl hsettled.keepsDesk.cells hsettled.keepsPort.deck).1⟩

end

/-! ### Operands -/

theorem index?_none {n k : Nat} (h : n ≤ k) : index? n k = none := dif_neg (by omega)

theorem State.forExhibit_bad (s : State) (w : Word) (f : ExhibitNo → Answer) (h : 47 < w.toNat) :
    s.forExhibit w f = s.answer .badValue 0 := by
  unfold State.forExhibit
  rw [index?_none (by omega)]

theorem State.forExhibit_valid (s : State) {w : Word} (f : ExhibitNo → Answer) {e : ExhibitNo} (h : w.toNat = e.val) :
    s.forExhibit w f = f e := by
  unfold State.forExhibit
  rw [h, index?_val]

theorem State.forAxis_bad (s : State) {n : Nat} (f : AxisNo → Answer) (h : 15 < n) : s.forAxis n f = s.answer .badValue 0 := by
  unfold State.forAxis
  rw [index?_none (by omega)]

theorem State.forAxis_valid (s : State) {n : Nat} (f : AxisNo → Answer) {a : AxisNo} (h : n = a.val) : s.forAxis n f = f a := by
  unfold State.forAxis
  rw [h, index?_val]

theorem word_eq_none {w : Word} : w = 0xFFFF ↔ w.toNat = 65535 := by
  rw [← BitVec.toNat_inj]
  exact Iff.rfl

theorem AxisState.code_lt (st : AxisState) : st.code < 65536 := by
  cases st <;> decide

/-! ### Show orders (R71) -/

/-- An order judged as Table 3-6 says. -/
structure ShowOrder (code : Nat) (owner : Word → Word → State → Answer) : Prop where
  row : RowOf code owner
  bad : ∀ (s : State) (v1 v2 : Word), 47 < v1.toNat ∨ (code = 0x10 ∧ 12287 < v2.toNat ∧ v2.toNat ≠ 65535) →
    owner v1 v2 s = s.answer .badValue 0
  absent : ∀ (s : State) (v1 v2 : Word) (e : ExhibitNo), v1.toNat = e.val → (code = 0x10 → v2.toNat ≤ 12287 ∨ v2.toNat = 65535) →
    s.ShowAbsent code e → owner v1 v2 s = s.answer .absent 0
  pending : ∀ (s : State) (v1 v2 : Word) (e : ExhibitNo), v1.toNat = e.val → (code = 0x10 → v2.toNat ≤ 12287 ∨ v2.toNat = 65535) →
    ¬ s.ShowAbsent code e → s.ShowPending code e → owner v1 v2 s = s.answer .pending (s.source e).conditionSet
  notNow : ∀ (s : State) (v1 v2 : Word) (e : ExhibitNo), v1.toNat = e.val → (code = 0x10 → v2.toNat ≤ 12287 ∨ v2.toNat = 65535) →
    ¬ s.ShowAbsent code e → ¬ s.ShowPending code e → s.ShowNotNow code e → owner v1 v2 s = s.answer .notNow (s.exhibit e).state.code
  taken : ∀ (s : State) (v1 v2 : Word) (e : ExhibitNo), v1.toNat = e.val → (code = 0x10 → v2.toNat ≤ 12287 ∨ v2.toNat = 65535) →
    ¬ s.ShowAbsent code e → ¬ s.ShowPending code e → ¬ s.ShowNotNow code e → (owner v1 v2 s).result = .taken ∧ (owner v1 v2 s).detail = 0
  acts : ∀ (s : State) (v1 v2 : Word), (owner v1 v2 s).ActsFrom s

theorem ExhibitState.showAbsent_iff (st : ExhibitState) : st.showAbsent = true ↔ st = .off ∨ st = .locked ∨ st = .faulted := by
  cases st <;> decide

theorem ExhibitState.startable_iff (st : ExhibitState) : st.startable = true ↔ st = .ready ∨ st = .resting := by
  cases st <;> decide

theorem SourceRecord.holdsOrders_iff (r : SourceRecord) : r.holdsOrders = true ↔
    r.ended.isSome = true ∨ r.halted = true ∨ r.faulted.isSome = true ∨ r.suspended = true ∨ r.stopped = true := by
  simp only [SourceRecord.holdsOrders, Bool.or_eq_true, or_assoc]

/-- START SHOW in range: its judgement line by line. -/
theorem State.orderStartShow_valid (s : State) {v1 v2 : Word} {e : ExhibitNo} (h1 : v1.toNat = e.val)
    (h2 : v2.toNat ≤ 12287 ∨ v2.toNat = 65535) : State.orderStartShow v1 v2 s =
      if (s.exhibit e).state.showAbsent then s.answer .absent 0
      else if (s.source e).holdsOrders then s.answer .pending (s.source e).conditionSet
      else if (s.exhibit e).state.startable = false ∨ (s.exhibit e).guardOpen ∨ s.stopInForce then s.notNowExhibit e
      else Machine.taken (s.startShowOrder e v2) := by
  unfold State.orderStartShow
  rw [State.forExhibit_valid s _ h1]
  simp only
  refine if_neg fun ⟨hge, hne⟩ => ?_
  rw [ne_eq, word_eq_none] at hne
  simp only [Config.storeWords] at hge
  omega

theorem State.orderResume_valid (s : State) {v1 : Word} (v2 : Word) {e : ExhibitNo} (h1 : v1.toNat = e.val) :
    State.orderResume v1 v2 s =
      if (s.exhibit e).state.showAbsent then s.answer .absent 0
      else if (s.source e).holdsOrders then s.answer .pending (s.source e).conditionSet
      else if (s.exhibit e).state ≠ .suspended ∨ s.stopInForce then s.notNowExhibit e
      else Machine.taken (s.resumeShow e) := by
  unfold State.orderResume
  rw [State.forExhibit_valid s _ h1]

theorem State.maintain_valid (s : State) {v1 : Word} {e : ExhibitNo} (takes : ExhibitState → Bool) (effect : ExhibitNo → State)
    (h1 : v1.toNat = e.val) : s.maintain v1 takes effect =
      if (s.exhibit e).state = .off then s.answer .absent 0
      else if takes (s.exhibit e).state then Machine.taken (effect e) else s.notNowExhibit e := by
  unfold State.maintain
  rw [State.forExhibit_valid s _ h1]

theorem State.orderCancel_valid (s : State) {v1 : Word} (v2 : Word) {e : ExhibitNo} (h1 : v1.toNat = e.val) :
    State.orderCancel v1 v2 s =
      if (s.exhibit e).state = .off then s.answer .absent 0
      else if (s.exhibit e).state ≠ .suspended ∧ (s.exhibit e).encore = false then s.notNowExhibit e
      else Machine.taken (s.cancelShow e) := by
  unfold State.orderCancel
  rw [State.forExhibit_valid s _ h1]

/-- Table 3-6 for the orders that start or resume a show. -/
theorem State.showAbsent_iff (s : State) {code : Nat} (h : code = 0x10 ∨ code = 0x11) (e : ExhibitNo) :
    s.ShowAbsent code e ↔ (s.exhibit e).state.showAbsent = true := by
  rw [ExhibitState.showAbsent_iff]
  exact or_congr Iff.rfl (and_iff_right h)

theorem State.showPending_iff (s : State) {code : Nat} (h : code = 0x10 ∨ code = 0x11) (e : ExhibitNo) :
    s.ShowPending code e ↔ (s.source e).holdsOrders = true := by
  rw [SourceRecord.holdsOrders_iff]
  exact and_iff_right h

/-- HALT and CANCEL are ABSENT only for an OFF exhibit, and nothing pending holds them back. -/
theorem State.showAbsent_end {s : State} {code : Nat} (h : code = 0x12 ∨ code = 0x13) {e : ExhibitNo} :
    s.ShowAbsent code e ↔ (s.exhibit e).state = .off := or_iff_left fun ⟨hc, _⟩ => by omega

theorem State.showPending_end {s : State} {code : Nat} (h : code = 0x12 ∨ code = 0x13) {e : ExhibitNo} : ¬ s.ShowPending code e :=
  fun ⟨hc, _⟩ => by omega

theorem State.showNotNow_start (s : State) (e : ExhibitNo) (h : (s.exhibit e).state.showAbsent = false) : s.ShowNotNow 0x10 e ↔
    (s.exhibit e).state.startable = false ∨ (s.exhibit e).guardOpen = true ∨ s.stopInForce = true := by
  simp only [State.ShowNotNow, true_and, Nat.reduceEqDiff, false_and, or_false]
  cases hst : (s.exhibit e).state <;> simp_all [ExhibitState.showAbsent, ExhibitState.startable]

theorem State.showNotNow_resume (s : State) (e : ExhibitNo) : s.ShowNotNow 0x11 e ↔
    (s.exhibit e).state ≠ .suspended ∨ s.stopInForce = true := by simp [State.ShowNotNow]

theorem State.showNotNow_halt (s : State) (e : ExhibitNo) : s.ShowNotNow 0x12 e ↔ (s.exhibit e).state.takesHalt = false := by
  simp only [State.ShowNotNow, true_and, Nat.reduceEqDiff, false_and, false_or, or_false]
  cases (s.exhibit e).state <;> simp [ExhibitState.takesHalt]

theorem State.showNotNow_cancel (s : State) (e : ExhibitNo) : s.ShowNotNow 0x13 e ↔
    (s.exhibit e).state ≠ .suspended ∧ (s.exhibit e).encore = false := by simp [State.ShowNotNow]

theorem orderStartShow_showOrder : ShowOrder 0x10 State.orderStartShow where
  row _ := rfl
  bad s v1 v2 h := by
    obtain h | ⟨-, hgt, hne⟩ := h
    · exact State.forExhibit_bad s _ _ h
    · unfold State.orderStartShow State.forExhibit
      split
      · rfl
      · exact if_pos ⟨by simp only [Config.storeWords]; omega, fun he => hne (word_eq_none.1 he)⟩
  absent s v1 v2 e h1 h2 ha := by
    rw [s.orderStartShow_valid h1 (h2 rfl), if_pos ((s.showAbsent_iff (.inl rfl) e).1 ha)]
  pending s v1 v2 e h1 h2 ha hp := by
    rw [s.showAbsent_iff (.inl rfl)] at ha
    rw [s.orderStartShow_valid h1 (h2 rfl), if_neg ha, if_pos ((s.showPending_iff (.inl rfl) e).1 hp)]
  notNow s v1 v2 e h1 h2 ha hp hn := by
    rw [s.showAbsent_iff (.inl rfl)] at ha
    rw [s.showPending_iff (.inl rfl)] at hp
    rw [s.showNotNow_start e (by simpa using ha)] at hn
    rw [s.orderStartShow_valid h1 (h2 rfl), if_neg ha, if_neg hp, if_pos hn]
    rfl
  taken s v1 v2 e h1 h2 ha hp hn := by
    rw [s.showAbsent_iff (.inl rfl)] at ha
    rw [s.showPending_iff (.inl rfl)] at hp
    rw [s.showNotNow_start e (by simpa using ha)] at hn
    rw [s.orderStartShow_valid h1 (h2 rfl), if_neg ha, if_neg hp, if_neg hn]
    exact ⟨rfl, rfl⟩
  acts s v1 v2 := s.orderStartShow_acts v1 v2

theorem orderResume_showOrder : ShowOrder 0x11 State.orderResume where
  row _ := rfl
  bad s v1 v2 h := State.forExhibit_bad s _ _ (h.resolve_right (by omega))
  absent s v1 v2 e h1 _ ha := by rw [s.orderResume_valid v2 h1, if_pos ((s.showAbsent_iff (.inr rfl) e).1 ha)]
  pending s v1 v2 e h1 _ ha hp := by
    rw [s.showAbsent_iff (.inr rfl)] at ha
    rw [s.orderResume_valid v2 h1, if_neg ha, if_pos ((s.showPending_iff (.inr rfl) e).1 hp)]
  notNow s v1 v2 e h1 _ ha hp hn := by
    rw [s.showAbsent_iff (.inr rfl)] at ha
    rw [s.showPending_iff (.inr rfl)] at hp
    rw [s.orderResume_valid v2 h1, if_neg ha, if_neg hp, if_pos ((s.showNotNow_resume e).1 hn)]
    rfl
  taken s v1 v2 e h1 _ ha hp hn := by
    rw [s.showAbsent_iff (.inr rfl)] at ha
    rw [s.showPending_iff (.inr rfl)] at hp
    rw [s.showNotNow_resume e] at hn
    rw [s.orderResume_valid v2 h1, if_neg ha, if_neg hp, if_neg hn]
    exact ⟨rfl, rfl⟩
  acts s v1 v2 := s.orderResume_acts v1 v2

theorem orderHalt_showOrder : ShowOrder 0x12 State.orderHalt where
  row _ := rfl
  bad s v1 v2 h := State.forExhibit_bad s _ _ (h.resolve_right (by omega))
  absent s v1 v2 e h1 _ ha := by rw [State.orderHalt, s.maintain_valid _ _ h1, if_pos (State.showAbsent_end (.inl rfl) |>.1 ha)]
  pending s v1 v2 e h1 _ ha hp := absurd hp (State.showPending_end (.inl rfl))
  notNow s v1 v2 e h1 _ ha _ hn := by
    rw [State.showAbsent_end (.inl rfl)] at ha
    rw [s.showNotNow_halt] at hn
    rw [State.orderHalt, s.maintain_valid _ _ h1, if_neg ha, if_neg (by simp [hn])]
    rfl
  taken s v1 v2 e h1 _ ha _ hn := by
    rw [State.showAbsent_end (.inl rfl)] at ha
    rw [s.showNotNow_halt] at hn
    rw [State.orderHalt, s.maintain_valid _ _ h1, if_neg ha, if_pos (by simpa using hn)]
    exact ⟨rfl, rfl⟩
  acts s v1 v2 := s.orderHalt_acts v1 v2

theorem orderCancel_showOrder : ShowOrder 0x13 State.orderCancel where
  row _ := rfl
  bad s v1 v2 h := State.forExhibit_bad s _ _ (h.resolve_right (by omega))
  absent s v1 v2 e h1 _ ha := by rw [s.orderCancel_valid v2 h1, if_pos (State.showAbsent_end (.inr rfl) |>.1 ha)]
  pending s v1 v2 e h1 _ ha hp := absurd hp (State.showPending_end (.inr rfl))
  notNow s v1 v2 e h1 _ ha _ hn := by
    rw [State.showAbsent_end (.inr rfl)] at ha
    rw [s.orderCancel_valid v2 h1, if_neg ha, if_pos ((s.showNotNow_cancel e).1 hn)]
    rfl
  taken s v1 v2 e h1 _ ha _ hn := by
    rw [State.showAbsent_end (.inr rfl)] at ha
    rw [s.showNotNow_cancel] at hn
    rw [s.orderCancel_valid v2 h1, if_neg ha, if_neg hn]
    exact ⟨rfl, rfl⟩
  acts s v1 v2 := s.orderCancel_acts v1 v2

/-- The row of each show order has its judgement. -/
theorem showOrder_exists {code : Nat} (h : 0x10 ≤ code) (h' : code ≤ 0x13) : ∃ owner, ShowOrder code owner := by
  obtain rfl | rfl | rfl | rfl : code = 0x10 ∨ code = 0x11 ∨ code = 0x12 ∨ code = 0x13 := by omega
  · exact ⟨_, orderStartShow_showOrder⟩
  · exact ⟨_, orderResume_showOrder⟩
  · exact ⟨_, orderHalt_showOrder⟩
  · exact ⟨_, orderCancel_showOrder⟩

theorem SourceRecord.conditionSet_lt (r : SourceRecord) : r.conditionSet < 65536 := by
  have hflag : ∀ (b : Bool) (i : Nat), flag b i ≤ 2 ^ i := fun b i => by
    unfold flag
    split <;> simp
  have h0 := hflag r.ended.isSome 0
  have h1 := hflag r.halted 1
  have h2 := hflag r.suspended 2
  have h3 := hflag r.faulted.isSome 3
  have h4 := hflag r.signal.isSome 4
  have h5 := hflag r.guarded 5
  have h6 := hflag r.stopped 6
  unfold SourceRecord.conditionSet
  norm_num at *
  omega

/-- Settles O28. -/
theorem showOrdersAnswered : Obligations.ShowOrdersAnswered := by
  intro s code w1 w2 hcell hp hlow hhigh
  obtain ⟨owner, ho⟩ := showOrder_exists hlow hhigh
  refine ⟨fun hbad => ?_, fun e he hrange => ⟨fun ha => ?_, fun ha hpend => ?_, fun ha hpend hnow => ?_, fun ha hpend hnow => ?_⟩⟩
  · exact ho.row.answered hcell hp (r := .badValue) (by omega) fun v1 v2 h1 h2 => ho.bad s v1 v2 (by rw [h1, h2]; exact hbad)
  · exact ho.row.answered hcell hp (r := .absent) (by omega) fun v1 v2 h1 h2 => ho.absent s v1 v2 e (h1.trans he) (by rwa [h2]) ha
  · exact ho.row.answered hcell hp (r := .pending) (SourceRecord.conditionSet_lt _) fun v1 v2 h1 h2 =>
      ho.pending s v1 v2 e (h1.trans he) (by rwa [h2]) ha hpend
  · exact ho.row.answered hcell hp (r := .notNow) (ExhibitState.code_lt _) fun v1 v2 h1 h2 =>
      ho.notNow s v1 v2 e (h1.trans he) (by rwa [h2]) ha hpend hnow
  · exact ho.row.taken_acts hcell hp (r := .taken) (by omega) (fun v1 v2 h1 h2 =>
      ho.taken s v1 v2 e (h1.trans he) (by rwa [h2]) ha hpend hnow) (ho.acts s)

/-! ### Maintenance orders (R13) -/

/-- The row of each maintenance order judges the exhibit by its state. -/
theorem maintenanceOrder_exists {code : Nat} (h : 0x14 ≤ code) (h' : code ≤ 0x17) :
    ∃ (owner : Word → Word → State → Answer) (takes : ExhibitState → Bool) (effect : State → ExhibitNo → State), RowOf code owner ∧
      (∀ v1 v2 s, owner v1 v2 s = s.maintain v1 takes (effect s)) ∧ (∀ st, st ≠ .off → (takes st = true ↔ st.Maintained code)) ∧
      ∀ s v1 v2, (owner v1 v2 s).ActsFrom s := by
  obtain rfl | rfl | rfl | rfl : code = 0x14 ∨ code = 0x15 ∨ code = 0x16 ∨ code = 0x17 := by omega
  · exact ⟨State.orderClear, fun _ => true, State.clear, fun _ => rfl, fun _ _ _ => rfl,
      fun st hoff => by simp [ExhibitState.Maintained, hoff], fun s v1 v2 => s.orderClear_acts v1 v2⟩
  · exact ⟨State.orderLock, ExhibitState.takesLock, fun s e => s.enterState e .locked, fun _ => rfl, fun _ _ _ => rfl,
      fun st hoff => by cases st <;> simp [ExhibitState.Maintained, ExhibitState.takesLock], fun s v1 v2 => s.orderLock_acts v1 v2⟩
  · exact ⟨State.orderUnlock, fun st => st == .locked, State.unlock, fun _ => rfl, fun _ _ _ => rfl,
      fun st hoff => by cases st <;> simp [ExhibitState.Maintained], fun s v1 v2 => s.orderUnlock_acts v1 v2⟩
  · exact ⟨State.orderRestore, fun st => st == .faulted, State.restore, fun _ => rfl, fun _ _ _ => rfl,
      fun st hoff => by cases st <;> simp [ExhibitState.Maintained], fun s v1 v2 => s.orderRestore_acts v1 v2⟩

/-- Settles O31. -/
theorem maintenanceOrdersAnswered : Obligations.MaintenanceOrdersAnswered := by
  intro s code w1 w2 hcell hp hlow hhigh
  obtain ⟨owner, takes, effect, hrow, howner, htakes, hacts⟩ := maintenanceOrder_exists hlow hhigh
  refine ⟨fun hbad => ?_, fun e he => ⟨fun hoff => ?_, fun hoff hnot => ?_, fun htaken => ?_⟩⟩
  · exact hrow.answered hcell hp (r := .badValue) (by omega) fun v1 v2 h1 _ => by
      rw [howner]; exact State.forExhibit_bad _ _ _ (h1 ▸ hbad)
  · exact hrow.answered hcell hp (r := .absent) (by omega) fun v1 v2 h1 _ => by
      rw [howner, s.maintain_valid _ _ (h1.trans he), if_pos hoff]
  · exact hrow.answered hcell hp (r := .notNow) (ExhibitState.code_lt _) fun v1 v2 h1 _ => by
      rw [howner, s.maintain_valid _ _ (h1.trans he), if_neg hoff, if_neg (mt (htakes _ hoff).1 hnot)]
      rfl
  · have hoff : (s.exhibit e).state ≠ .off := fun hoff => by
      rw [hoff] at htaken
      simp [ExhibitState.Maintained] at htaken
    refine hrow.taken_acts hcell hp (r := .taken) (by omega) (fun v1 v2 h1 _ => ?_) (hacts s)
    rw [howner, s.maintain_valid _ _ (h1.trans he), if_neg hoff, if_pos ((htakes _ hoff).2 htaken)]
    exact ⟨rfl, rfl⟩

/-! ### Axis orders (R97) -/

theorem moveAxis_eq (w : Word) : moveAxis w = w.toNat / 1024 := by
  have := w.isLt
  unfold moveAxis bits
  norm_num
  omega

theorem State.axisHeld_iff (s : State) (a : AxisNo) :
    s.axisHeld a = true ↔ ∃ e, s.axisOwner a = some e ∧ (s.exhibit e).state ≠ .locked := by
  unfold State.axisHeld
  split
  · next e he => simp [he]
  · next he => simp [he]

/-- The operand of an axis order that names the axis. -/
abbrev axisOperand (code : Nat) (v : Word) : Nat := if code = 0x21 then v.toNat / 1024 else v.toNat

/-- An axis order judged by the axis: out of range, or turned away by what holds the axis back. -/
structure AxisOrder (code : Nat) (owner : Word → Word → State → Answer) : Prop where
  row : RowOf code owner
  bad : ∀ (s : State) (v1 v2 : Word), 15 < axisOperand code v1 → owner v1 v2 s = s.answer .badValue 0
  notNow : ∀ (s : State) (v1 v2 : Word) (a : AxisNo), axisOperand code v1 = a.val →
    (code ≠ 0x23 ∧ s.axisHeld a = true) ∨ ((code = 0x20 ∨ code = 0x21) ∧ s.stopInForce = true) ∨ (s.axis a).state = .off →
    owner v1 v2 s = s.notNowAxis a

theorem orderHome_axisOrder : AxisOrder 0x20 State.orderHome where
  row _ := rfl
  bad s v1 v2 h := State.forAxis_bad s _ h
  notNow s v1 v2 a h hn := by
    rw [State.orderHome, s.forAxis_valid (n := v1.toNat) _ h]
    refine if_pos ?_
    obtain ⟨-, hheld⟩ | ⟨-, hstop⟩ | hoff := hn
    · exact .inl hheld
    · exact .inr (.inl hstop)
    · exact .inr (.inr (by rw [hoff]; rfl))

theorem orderMove_axisOrder : AxisOrder 0x21 State.orderMove where
  row _ := rfl
  bad s v1 v2 h := State.forAxis_bad s _ (by rw [moveAxis_eq]; exact h)
  notNow s v1 v2 a h hn := by
    rw [State.orderMove, s.forAxis_valid _ ((moveAxis_eq v1).trans h)]
    refine if_pos ?_
    obtain ⟨-, hheld⟩ | ⟨-, hstop⟩ | hoff := hn
    · exact .inl hheld
    · exact .inr (.inl hstop)
    · exact .inr (.inr (by unfold Axis.moveCase; rw [hoff]))

theorem orderStopAxis_axisOrder : AxisOrder 0x22 State.orderStopAxis where
  row _ := rfl
  bad s v1 v2 h := State.forAxis_bad s _ h
  notNow s v1 v2 a h hn := by
    rw [State.orderStopAxis, s.forAxis_valid (n := v1.toNat) _ h]
    refine if_pos ?_
    obtain ⟨-, hheld⟩ | ⟨hc, -⟩ | hoff := hn
    · exact .inl hheld
    · omega
    · exact .inr (by rw [hoff]; rfl)

theorem orderRestoreAxis_axisOrder : AxisOrder 0x23 State.orderRestoreAxis where
  row _ := rfl
  bad s v1 v2 h := State.forAxis_bad s _ h
  notNow s v1 v2 a h hn := by
    rw [State.orderRestoreAxis, s.forAxis_valid (n := v1.toNat) _ h]
    refine if_pos ?_
    obtain ⟨hc, -⟩ | ⟨hc, -⟩ | hoff := hn
    · omega
    · omega
    · exact .inr (by rw [hoff]; simp)

theorem axisOrder_exists {code : Nat} (h : 0x20 ≤ code) (h' : code ≤ 0x23) : ∃ owner, AxisOrder code owner := by
  obtain rfl | rfl | rfl | rfl : code = 0x20 ∨ code = 0x21 ∨ code = 0x22 ∨ code = 0x23 := by omega
  · exact ⟨_, orderHome_axisOrder⟩
  · exact ⟨_, orderMove_axisOrder⟩
  · exact ⟨_, orderStopAxis_axisOrder⟩
  · exact ⟨_, orderRestoreAxis_axisOrder⟩

/-- HOME where no homing request is taken. -/
theorem State.orderHome_notNow (s : State) {v1 : Word} (v2 : Word) {a : AxisNo} (h1 : v1.toNat = a.val)
    (h : (s.axis a).state ≠ .unhomed ∧ (s.axis a).state ≠ .idle) : State.orderHome v1 v2 s = s.notNowAxis a := by
  rw [State.orderHome, s.forAxis_valid _ h1]
  refine if_pos (.inr (.inr ?_))
  obtain ⟨hun, hidle⟩ := h
  cases hst : (s.axis a).state <;> simp_all [AxisState.takesHome]

/-- MOVE where no move request is taken. -/
theorem State.orderMove_notNow (s : State) {v1 : Word} (v2 : Word) {a : AxisNo} (h1 : v1.toNat / 1024 = a.val)
    (h : (s.axis a).state = .off ∨ (s.axis a).state = .unhomed ∨ (s.axis a).state = .homing ∨ (s.axis a).state = .faulted ∨
      ((s.axis a).state = .awaitPower ∧ (s.axis a).request = some .home)) : State.orderMove v1 v2 s = s.notNowAxis a := by
  rw [State.orderMove, s.forAxis_valid _ ((moveAxis_eq v1).trans h1)]
  refine if_pos (.inr (.inr ?_))
  unfold Axis.moveCase
  obtain h | h | h | h | ⟨h, hr⟩ := h
  · rw [h]
  · rw [h]
  · rw [h]
  · rw [h]
  · simp only [h, hr]

/-- Settles O34. -/
theorem axisOrdersTurnedAway : Obligations.AxisOrdersTurnedAway := by
  refine ⟨fun s code w1 w2 n hcell hlow hhigh hn => ⟨fun hcold => ?_, fun hp hbad => ?_, fun a hp ha hnow => ?_⟩,
    fun s code w1 w2 a hcell hp h => ?_⟩
  · obtain ⟨-, hcold'⟩ := ordersTurnedAway
    refine hcold' s code w1 w2 hcell ?_ (by omega) hcold
    obtain rfl | rfl | rfl | rfl : code = 0x20 ∨ code = 0x21 ∨ code = 0x22 ∨ code = 0x23 := by omega
    all_goals decide
  · obtain ⟨owner, ho⟩ := axisOrder_exists hlow hhigh
    refine ho.row.answered hcell hp (r := .badValue) (by omega) fun v1 v2 h1 _ => ho.bad s v1 v2 ?_
    rw [axisOperand, h1]
    exact hn ▸ hbad
  · obtain ⟨owner, ho⟩ := axisOrder_exists hlow hhigh
    refine ho.row.answered hcell hp (r := .notNow) (AxisState.code_lt _) fun v1 v2 h1 _ => ho.notNow s v1 v2 a ?_ ?_
    · rw [axisOperand, h1]
      exact hn ▸ ha
    · rw [State.axisHeld_iff]
      exact hnow
  · obtain ⟨rfl, h1, hst⟩ | ⟨rfl, h1, hst⟩ := h
    · exact orderHome_axisOrder.row.answered hcell hp (r := .notNow) (AxisState.code_lt _) fun v1 v2 hv1 _ =>
        s.orderHome_notNow v2 (hv1.trans h1) hst
    · exact orderMove_axisOrder.row.answered hcell hp (r := .notNow) (AxisState.code_lt _) fun v1 v2 hv1 _ =>
        s.orderMove_notNow v2 (by rw [hv1]; exact h1) hst

end Sys2Proof.Machine
end

section
/-! The alert orders (R157 to R159, R165, R167, R169, R175): O39, O40. -/

namespace Sys2Proof.Machine

/-! ### Acknowledgement and removal -/

/-- An acknowledgement changes the list, what stations show of it, and its image. -/
theorem State.acknowledge_form (s : State) (x : Alert) :
    s.acknowledge x = { s with
      alerts := (s.acknowledge x).alerts, stations := (s.acknowledge x).stations, channels := (s.acknowledge x).channels,
      rewriteCount := (s.acknowledge x).rewriteCount, ram := (s.acknowledge x).ram } := by
  unfold State.acknowledge
  split
  · exact s.removeAlerts_form _
  · rw [State.closeAct_form]; rfl

theorem State.sourceGuardOpen_exhibit (s : State) (e : ExhibitNo) : s.sourceGuardOpen (exhibitSource e) = (s.exhibit e).guardOpen := by
  unfold State.sourceGuardOpen
  rw [sourceExhibit_exhibit]

theorem State.ackRemoves_of_removed {s : State} {x : Alert} (h : s.RemovedByAck x) : s.ackRemoves x = true := by
  unfold State.ackRemoves
  obtain h | ⟨h, hguard⟩ | ⟨h, hstop⟩ := h
  · simp only [List.mem_cons, List.not_mem_nil, or_false] at h
    obtain h | h | h | h | h := h <;> rw [h]
  · rw [h]
    simp only [Bool.not_eq_true']
    unfold State.sourceGuardOpen
    split
    · rfl
    · next e he => exact hguard e (sourceExhibit_eq_some he)
  · rw [h]
    simp [hstop]

theorem State.ackRemoves_of_acked {s : State} {x : Alert} (h : s.AckedByAck x) : s.ackRemoves x = false := by
  unfold State.ackRemoves
  obtain h | ⟨h, e, hsrc, hguard⟩ | ⟨h, hstop⟩ := h
  · simp only [List.mem_cons, List.not_mem_nil, or_false] at h
    obtain h | h := h <;> rw [h]
  · rw [h, hsrc]
    simp [State.sourceGuardOpen_exhibit, hguard]
  · rw [h]
    simp [hstop]

/-- The list after an acknowledgement that removes the entry. -/
theorem State.acknowledge_removed {s : State} {x : Alert} (h : s.RemovedByAck x) :
    (s.acknowledge x).alerts = s.alerts.filter fun z => z.number != x.number := by
  unfold State.acknowledge
  rw [if_pos (State.ackRemoves_of_removed h), State.removeAlerts_alerts]
  rfl

/-- The list after an acknowledgement that leaves the entry ACKED. -/
theorem State.acknowledge_acked {s : State} {x : Alert} (h : s.AckedByAck x) :
    (s.acknowledge x).alerts = s.alerts.map fun z => if z.number = x.number then { x with acked := true, timer := none } else z := by
  unfold State.acknowledge
  rw [if_neg (by simp [State.ackRemoves_of_acked h]), State.closeAct_alerts]
  rfl

/-! ### ACK ALERT and REMOVE ALERT -/

theorem AlertStep.settle {s u : State} (h : AlertStep s u) (hrep : s.reports = []) : u.settle = u :=
  State.settle_nil u (h.reports.trans hrep)

/-- An alert order whose act is one of the alert manager. -/
theorem RowOf.taken_alert {s u : State} {code w1 w2 d : Nat} {r : Result} {owner : Word → Word → State → Answer} (hrow : RowOf code owner)
    (h : s.AtCell code w1 w2) (hp : s.part = .run) (hd : d < 65536)
    (ho : ∀ v1 v2 : Word, v1.toNat = w1 → v2.toNat = w2 → owner v1 v2 s = u.answer r d) (hu : AlertStep s u) :
    ∃ t, exec (orderRow code) s = .next t ∧ s.Answered t code r.code d ∧ (∀ k, k < 16384 → s.NotOfCell k → t.word k = u.word k) ∧
      t = { u with ram := t.ram, deck := t.deck, attn := t.attn } := by
  obtain ⟨-, -, -, -, -, hrep⟩ := id h
  exact hrow.taken h hp hd ho (hu.settle hrep) hu.act.keepsDesk (by rw [hu.act.1])

/-- Settles O40. -/
theorem ackAndRemoveAlert : Obligations.AckAndRemoveAlert := by
  have hack : RowOf 0x32 State.orderAckAlert := fun _ => rfl
  have hremove : RowOf 0x33 State.orderRemoveAlert := fun _ => rfl
  refine ⟨fun s n w2 hcell => ⟨fun hcold => ?_, fun hp hnone => ?_, fun x hx hp hacked => ?_, fun x hx hp hraised => ?_⟩,
    fun s n w2 hcell hp => ⟨fun hnone => ?_, fun hsome => ?_⟩⟩
  · exact ordersTurnedAway.2 s 0x32 n w2 hcell (by decide) (by omega) hcold
  · refine hack.answered hcell hp (r := .absent) (by omega) fun v1 v2 h1 _ => ?_
    unfold State.orderAckAlert
    rw [h1, hnone]
  · refine hack.answered hcell hp (r := .notNow) (by omega) fun v1 v2 h1 _ => ?_
    unfold State.orderAckAlert
    rw [h1, hx]
    exact if_pos hacked
  · have hn := State.alert?_number hx
    obtain ⟨t, hexec, hans, hword, hform⟩ := hack.taken_alert hcell hp (r := .taken) (d := 0) (u := s.acknowledge x) (by omega)
      (fun v1 v2 h1 _ => by
        unfold State.orderAckAlert
        rw [h1, hx]
        exact if_neg (by simp [hraised])) (.acknowledged x (State.alert?_mem hx))
    have halerts : t.alerts = (s.acknowledge x).alerts := by rw [hform]
    refine ⟨t, hexec, hans, fun h => ?_, fun h => ?_, fun k hk hnot hout => ?_, ?_⟩
    · rw [halerts, State.acknowledge_removed h, hn]
    · rw [halerts, State.acknowledge_acked h, hn]
    · rw [hword k hk hnot, (s.acknowledge_act x).2 k hout]
    · rw [hform, s.acknowledge_form x]
  · refine hremove.answered hcell hp (r := .absent) (by omega) fun v1 v2 h1 _ => ?_
    unfold State.orderRemoveAlert
    rw [h1, hnone]
  · obtain ⟨x, hx⟩ := Option.ne_none_iff_exists'.1 hsome
    have hn := State.alert?_number hx
    obtain ⟨t, hexec, hans, hword, hform⟩ := hremove.taken_alert hcell hp (r := .taken) (d := 0)
      (u := s.removeAlerts fun z => z.number == x.number) (by omega)
      (fun v1 v2 h1 _ => by
        unfold State.orderRemoveAlert
        rw [h1, hx]
        rfl) (.removed _)
    have halerts : t.alerts = (s.removeAlerts fun z => z.number == x.number).alerts := by rw [hform]
    refine ⟨t, hexec, hans, ?_, fun k hk hnot hout => ?_, ?_⟩
    · rw [halerts, State.removeAlerts_alerts, hn]
      rfl
    · rw [hword k hk hnot, (s.removeAlerts_act _).2 k hout]
    · rw [hform, s.removeAlerts_form]

/-! ### What becomes of a raise (R157 to R159) -/

/-- A number given to a new entry is one of 1 to 65535. -/
theorem freeNumber_range (l : List Alert) (k : Nat) {n : Nat} (h : 1 ≤ n ∧ n ≤ 65535) : 1 ≤ freeNumber l k n ∧ freeNumber l k n ≤ 65535 := by
  induction k generalizing n with
  | zero => exact h
  | succ k ih =>
    unfold freeNumber
    split
    · refine ih ?_
      unfold nextAlertNumber
      split <;> omega
    · exact h

/-- A raise that merges. -/
theorem State.raiseCase_merged {s : State} {src : SourceNo} {cause : AlertCause} (severity : Nat) (hrun : s.part = .run) {x : Alert}
    (hx : s.alertOf? src cause = some x) : s.raiseCase src cause severity = .merged x := by
  unfold State.raiseCase
  rw [if_neg (by rw [hrun]; decide), hx]

theorem State.raiseCase_entered {s : State} {src : SourceNo} {cause : AlertCause} (severity : Nat) (hrun : s.part = .run)
    (hnone : s.alertOf? src cause = none) (hlen : s.alerts.length < 32) : s.raiseCase src cause severity = .entered := by
  unfold State.raiseCase
  rw [if_neg (by rw [hrun]; decide), hnone]
  exact if_pos hlen

/-- A raise into a full list that displaces an entry. -/
theorem State.raiseCase_displacing {s : State} {src : SourceNo} {cause : AlertCause} (hrun : s.part = .run)
    (hnone : s.alertOf? src cause = none) (hlen : s.alerts.length = 32) {x : Alert} (hx : s.displaced = some x) :
    s.raiseCase src cause 3 = .displacing x := by
  unfold State.raiseCase
  rw [if_neg (by rw [hrun]; decide), hnone]
  simp only [Config.maxAlerts, hlen, hx, lt_irrefl, if_true, if_false]

/-- A raise into a full list that is refused. -/
theorem State.raiseCase_refused {s : State} {src : SourceNo} {cause : AlertCause} {severity : Nat} (hrun : s.part = .run)
    (hnone : s.alertOf? src cause = none) (hlen : s.alerts.length = 32) (h : severity < 3 ∨ s.displaced = none) :
    s.raiseCase src cause severity = .refused := by
  unfold State.raiseCase
  rw [if_neg (by rw [hrun]; decide), hnone]
  simp only [Config.maxAlerts, hlen, lt_irrefl, if_false]
  split
  · next h3 =>
    rw [h.resolve_left (by omega)]
  · rfl

/-- The entry after a merge: RAISED, routed anew, with what the raise brings. -/
def State.mergedAlert (s : State) (x : Alert) (code severity : Nat) : Alert :=
  s.routed { x with
    repeats := satAdd 255 x.repeats 1, code := code, severity := severity, acked := false, age := 0, escalations := 0, exhausted := false }

theorem State.mergeRaise_list (s : State) (x : Alert) (code severity : Nat) :
    (s.mergeRaise x code severity).alerts = (s.alerts.filter fun z => z.number != x.number) ++ [s.mergedAlert x code severity] := by
  unfold State.mergeRaise
  simp only
  rw [State.closeAct_alerts, State.noteRouting_form]
  rfl

theorem State.mergeRaise_nextNumber (s : State) (x : Alert) (code severity : Nat) :
    (s.mergeRaise x code severity).nextNumber = s.nextNumber := by
  unfold State.mergeRaise
  simp only
  rw [State.closeAct_form, State.noteRouting_form]
  rfl

/-- Entering an alert counts no overflow. -/
theorem State.enterAlert_overflow (s : State) (others : List Alert) (gone : List SourceNo) (src : SourceNo) (cause : AlertCause)
    (code severity : Nat) : (s.enterAlert others gone src cause code severity).gallery.overflow = s.gallery.overflow := by
  unfold State.enterAlert
  simp only
  rw [State.closeAct_form]
  unfold State.noteRouting
  split <;> rfl

/-- What a merged entry holds. -/
theorem State.mergedAlert_spec (s : State) (x : Alert) (code severity : Nat) :
    (s.mergedAlert x code severity).number = x.number ∧ (s.mergedAlert x code severity).source = x.source ∧
      (s.mergedAlert x code severity).cause = x.cause ∧ (s.mergedAlert x code severity).code = code ∧
      (s.mergedAlert x code severity).severity = severity ∧ (s.mergedAlert x code severity).acked = false ∧
      (s.mergedAlert x code severity).repeats = min 255 (x.repeats + 1) ∧ (s.mergedAlert x code severity).escalations = 0 ∧
      (s.mergedAlert x code severity).age = 0 ∧ (s.mergedAlert x code severity).exhausted = false ∧
      (s.mergedAlert x code severity).station = s.routeOf (s.zone x.source) := by
  refine ⟨?_, ?_, ?_, ?_, ?_, ?_, by unfold State.mergedAlert; rw [State.routed_form]; rfl, ?_, ?_, ?_, State.routed_station _ _⟩ <;> (unfold State.mergedAlert; rw [State.routed_form])

/-- A new entry, routed. -/
def State.enteredAlert (s : State) (others : List Alert) (src : SourceNo) (cause : AlertCause) (code severity : Nat) : Alert :=
  s.routed (newAlert (freeNumber others 33 s.nextNumber) src cause code severity)

theorem State.enteredAlert_spec (s : State) (others : List Alert) (src : SourceNo) (cause : AlertCause) (code severity : Nat) :
    (s.enteredAlert others src cause code severity).number = freeNumber others 33 s.nextNumber ∧
      (s.enteredAlert others src cause code severity).source = src ∧ (s.enteredAlert others src cause code severity).cause = cause ∧
      (s.enteredAlert others src cause code severity).code = code ∧ (s.enteredAlert others src cause code severity).severity = severity ∧
      (s.enteredAlert others src cause code severity).acked = false ∧ (s.enteredAlert others src cause code severity).repeats = 0 ∧
      (s.enteredAlert others src cause code severity).escalations = 0 ∧ (s.enteredAlert others src cause code severity).age = 0 ∧
      (s.enteredAlert others src cause code severity).exhausted = false ∧
      (s.enteredAlert others src cause code severity).station = s.routeOf (s.zone src) := by
  refine ⟨?_, ?_, ?_, ?_, ?_, ?_, ?_, ?_, ?_, ?_, State.routed_station _ _⟩ <;> (unfold State.enteredAlert; rw [State.routed_form]; rfl)

/-! ### The oldest entry to be displaced -/

theorem find?_of_getElem? {α : Type} {p : α → Bool} {l : List α} {i : Nat} {x : α} (hx : l[i]? = some x) (hp : p x = true)
    (hbefore : ∀ y ∈ l.take i, p y = false) : l.find? p = some x := by
  induction l generalizing i with
  | nil => simp at hx
  | cons y l ih =>
    cases i with
    | zero =>
      obtain rfl : y = x := by simpa using hx
      simp [hp]
    | succ i =>
      rw [List.find?_cons_of_neg (by simp [hbefore y (by simp)])]
      exact ih (by simpa using hx) fun z hz => hbefore z (by simp [hz])

/-- An entry taken out of the list by its number, the numbers being apart. -/
theorem filter_number_eq_eraseIdx {l : List Alert} (h : (l.map (·.number)).Nodup) {i : Nat} {x : Alert} (hx : l[i]? = some x) :
    (l.filter fun z => z.number != x.number) = l.eraseIdx i := by
  induction l generalizing i with
  | nil => simp at hx
  | cons y l ih =>
    obtain ⟨hnot, hrest⟩ := List.nodup_cons.1 h
    cases i with
    | zero =>
      obtain rfl : y = x := by simpa using hx
      rw [List.eraseIdx_cons_zero, List.filter_cons_of_neg (by simp)]
      refine List.filter_eq_self.2 fun z hz => ?_
      simp only [bne_iff_ne, ne_eq]
      exact fun he => hnot (List.mem_map.2 ⟨z, hz, he⟩)
    | succ i =>
      have hxl : l[i]? = some x := by simpa using hx
      have hmem : x ∈ l := List.mem_of_getElem? hxl
      rw [List.eraseIdx_cons_succ, List.filter_cons_of_pos, ih hrest hxl]
      simp only [bne_iff_ne, ne_eq]
      exact fun he => hnot (List.mem_map.2 ⟨x, hmem, he.symm⟩)

theorem length_filter_number {l : List Alert} (h : (l.map (·.number)).Nodup) {x : Alert} (hx : x ∈ l) :
    (l.filter fun z => z.number != x.number).length + 1 = l.length := by
  obtain ⟨i, hi⟩ := List.getElem?_of_mem hx
  have hlt : i < l.length := (List.getElem?_eq_some_iff.1 hi).1
  rw [filter_number_eq_eraseIdx h hi, List.length_eraseIdx_of_lt hlt]
  omega

/-- The oldest ACKED entry, or else the oldest of severity 1. -/
theorem State.displaced_at {s : State} {i : Nat} {x : Alert} (hx : s.alerts[i]? = some x)
    (h : (x.acked = true ∧ ∀ y ∈ s.alerts.take i, y.acked = false) ∨
      ((∀ y ∈ s.alerts, y.acked = false) ∧ x.severity = 1 ∧ ∀ y ∈ s.alerts.take i, y.severity ≠ 1)) : s.displaced = some x := by
  unfold State.displaced
  obtain ⟨hacked, hbefore⟩ | ⟨hnone, hsev, hbefore⟩ := h
  · rw [find?_of_getElem? (p := fun x : Alert => x.acked) hx hacked hbefore]
  · rw [List.find?_eq_none.2 fun y hy => by simp [hnone y hy]]
    exact find?_of_getElem? (p := fun x : Alert => x.severity == 1) hx (by simp [hsev]) fun y hy => by simpa using hbefore y hy

theorem State.displaced_none {s : State} (h : ∀ y ∈ s.alerts, y.acked = false ∧ y.severity ≠ 1) : s.displaced = none := by
  unfold State.displaced
  rw [List.find?_eq_none.2 fun y hy => by simp [(h y hy).1]]
  exact List.find?_eq_none.2 fun y hy => by simpa using (h y hy).2

/-! ### RAISE ALERT -/

/-- A RAISE ALERT that is taken: the raise, and the number it answers. -/
theorem exec_raiseAlert_taken {s : State} {src : SourceNo} {w2 code sev : Nat} (hcell : s.AtCell 0x31 src.val w2) (hp : s.part = .run)
    (hw2 : w2 = 256 * sev + code) (hcode : code ≤ 63) (hlow : 1 ≤ sev) (hhigh : sev ≤ 3)
    (hoff : ∀ e, sourceExhibit src = some e → (s.exhibit e).state ≠ .off) (hnumber : s.raiseNumber src .hostAlert sev < 65536) :
    ∃ t, exec .raiseAlert s = .next t ∧ s.Answered t 0x31 0 (s.raiseNumber src .hostAlert sev) ∧
      (∀ k, k < 16384 → s.NotOfCell k → t.word k = (s.raise src .hostAlert code sev).word k) ∧
      t = { s.raise src .hostAlert code sev with ram := t.ram, deck := t.deck, attn := t.attn } := by
  have hrow : RowOf 0x31 State.orderRaiseAlert := fun _ => rfl
  refine hrow.taken_alert hcell hp (r := .taken) hnumber (fun v1 v2 h1 h2 => ?_) (.raised _ _ _ _)
  have hdiv : v2.toNat / 256 = sev := by omega
  have hmod : v2.toNat % 256 = code := by omega
  rw [State.orderRaiseAlert_valid v1 v2 s src h1 hoff (by omega) (by omega) (by omega), hdiv, hmod]

theorem State.raise_refused {s : State} {src : SourceNo} {cause : AlertCause} {severity : Nat} (code : Nat)
    (h : s.raiseCase src cause severity = .refused) : s.raise src cause code severity = s.markOverflow ∧
      s.raiseNumber src cause severity = 0 := by
  unfold State.raise State.raiseNumber
  rw [h]
  exact ⟨rfl, rfl⟩

/-- A full list refuses a raise: an overflow is counted, and nothing else is changed (R159). -/
theorem exec_raiseAlert_refused {s : State} {src : SourceNo} {w2 code sev : Nat} (hcell : s.AtCell 0x31 src.val w2) (hp : s.part = .run)
    (hw2 : w2 = 256 * sev + code) (hcode : code ≤ 63) (hlow : 1 ≤ sev) (hhigh : sev ≤ 3)
    (hoff : ∀ e, sourceExhibit src = some e → (s.exhibit e).state ≠ .off) (hcase : s.raiseCase src .hostAlert sev = .refused) :
    ∃ t, exec .raiseAlert s = .next t ∧ s.Answered t 0x31 0 0 ∧
      t.gallery = { s.gallery with overflow := some (min 255 (s.gallery.overflow.getD 0 + 1)) } ∧
      (∀ k < 16384, s.NotOfCell k → t.word k = s.word k) ∧
      t = { s with gallery := t.gallery, ram := t.ram, deck := t.deck, attn := t.attn } := by
  obtain ⟨hraise, hnumber⟩ := State.raise_refused code hcase
  obtain ⟨t, hexec, hans, hword, hform⟩ := exec_raiseAlert_taken hcell hp hw2 hcode hlow hhigh hoff (by rw [hnumber]; omega)
  rw [hnumber] at hans
  rw [hraise] at hword hform
  have hgallery : t.gallery = s.markOverflow.gallery := by rw [hform]
  refine ⟨t, hexec, hans, hgallery, hword, ?_⟩
  rw [hgallery]
  exact hform

/-- A raise that makes a new entry, among the entries that stay. -/
theorem exec_raiseAlert_entered {s : State} {src : SourceNo} {w2 code sev : Nat} (hcell : s.AtCell 0x31 src.val w2) (hp : s.part = .run)
    (hw2 : w2 = 256 * sev + code) (hcode : code ≤ 63) (hlow : 1 ≤ sev) (hhigh : sev ≤ 3)
    (hoff : ∀ e, sourceExhibit src = some e → (s.exhibit e).state ≠ .off) (hn1 : 1 ≤ s.nextNumber) (hn2 : s.nextNumber ≤ 65535)
    {others : List Alert} (hlen : others.length ≤ 32) {gone : List SourceNo}
    (hraise : s.raise src .hostAlert code sev = s.enterAlert others gone src .hostAlert code sev)
    (hnumber : s.raiseNumber src .hostAlert sev = freeNumber others 33 s.nextNumber) :
    ∃ t, exec .raiseAlert s = .next t ∧ s.Answered t 0x31 0 (s.enteredAlert others src .hostAlert code sev).number ∧
      t.alerts = others ++ [s.enteredAlert others src .hostAlert code sev] ∧
      (∀ z ∈ others, z.number ≠ (s.enteredAlert others src .hostAlert code sev).number) ∧
      1 ≤ (s.enteredAlert others src .hostAlert code sev).number ∧ (s.enteredAlert others src .hostAlert code sev).number ≤ 65535 ∧
      t.gallery.overflow = s.gallery.overflow ∧ (∀ k < 16384, s.NotOfCell k → NotOfAlerts k → t.word k = s.word k) ∧
      t = { s with alerts := t.alerts, stations := t.stations, channels := t.channels, nextNumber := t.nextNumber,
                   rewriteCount := t.rewriteCount, gallery := t.gallery, ram := t.ram, deck := t.deck, attn := t.attn } := by
  have hrange := freeNumber_range others 33 ⟨hn1, hn2⟩
  obtain ⟨t, hexec, hans, hword, hform⟩ := exec_raiseAlert_taken hcell hp hw2 hcode hlow hhigh hoff (by rw [hnumber]; omega)
  have hnew : (s.enteredAlert others src .hostAlert code sev).number = freeNumber others 33 s.nextNumber :=
    (s.enteredAlert_spec others src .hostAlert code sev).1
  rw [hnumber, ← hnew] at hans
  rw [hraise] at hword hform
  have hlist := s.enterAlert_list others gone src .hostAlert code sev
  have hoverflow := s.enterAlert_overflow others gone src .hostAlert code sev
  obtain ⟨hact, hwords⟩ := s.enterAlert_act others gone src .hostAlert code sev
  generalize s.enterAlert others gone src .hostAlert code sev = u at *
  refine ⟨t, hexec, hans, ?_, fun z hz he => ?_, by omega, by omega, ?_, fun k hk hnot hout => ?_, ?_⟩
  · rw [show t.alerts = u.alerts by rw [hform]]
    exact hlist
  · exact freeNumber_free others s.nextNumber hlen (List.mem_map.2 ⟨z, hz, he.trans hnew⟩)
  · rw [show t.gallery = u.gallery by rw [hform]]
    exact hoverflow
  · rw [hword k hk hnot, hwords k hout]
  · rw [hform, hact]

/-- Settles O39. -/
theorem raiseAlertEnters : Obligations.RaiseAlertEnters := by
  refine ⟨fun s src w2 code sev hcell hp hw2 hcode hlow hhigh hoff hn1 hn2 hlaw hnumbers => ⟨fun hnone hlen => ?_, fun x hx => ?_,
    fun hnone hlen hsev => ?_⟩, fun s src w2 code i hcell hp hw2 hcode hoff hn1 hn2 hlaw hnumbers hnone hlen => ⟨fun x hx hold => ?_,
    fun hnot => ?_⟩, fun s w1 w2 hcell hp => ⟨fun hbad => ?_, fun e he hcode hlow hhigh hoff => ?_⟩⟩
  · have hcase := State.raiseCase_entered sev hp hnone hlen
    obtain ⟨t, hexec, hans, hlist, hapart, h1, h2, -, hword, hform⟩ := exec_raiseAlert_entered hcell hp hw2 hcode hlow hhigh hoff hn1 hn2
      (others := s.alerts) (gone := []) (by omega) (by unfold State.raise; rw [hcase]) (by unfold State.raiseNumber; rw [hcase])
    obtain ⟨-, hsrc, hcause, hcod, hsev, hacked, hrep, hesc, hage, hexh, hst⟩ := s.enteredAlert_spec s.alerts src .hostAlert code sev
    generalize s.enteredAlert s.alerts src .hostAlert code sev = y at *
    refine ⟨t, hexec, by rw [hlist]; simpa using hans, by rw [hlist]; simp, by rw [hlist]; simp, fun z hz => ?_, hword, hform⟩
    obtain rfl : y = z := by simpa [hlist] using hz
    exact ⟨hsrc, hcause, hcod, hsev, hacked, hrep, hesc, hage, hexh, hst, hapart, h1, h2⟩
  · have hcase := State.raiseCase_merged sev hp hx
    obtain ⟨hmem, hxsrc, hxcause⟩ := State.alertOf?_some hx
    have hnumber : s.raiseNumber src .hostAlert sev = x.number := by unfold State.raiseNumber; rw [hcase]
    have hraise : s.raise src .hostAlert code sev = s.mergeRaise x code sev := by unfold State.raise; rw [hcase]
    obtain ⟨t, hexec, hans, -, hform⟩ := exec_raiseAlert_taken hcell hp hw2 hcode hlow hhigh hoff (by
      rw [hnumber]; have := hnumbers x hmem; omega)
    rw [hraise] at hform
    rw [hnumber] at hans
    have hlist : t.alerts = _ := (congrArg State.alerts hform).trans (s.mergeRaise_list x code sev)
    have hnext : t.nextNumber = s.nextNumber := (congrArg State.nextNumber hform).trans (s.mergeRaise_nextNumber x code sev)
    obtain ⟨hnum, hsrc, hcause, hcod, hsev, hacked, hrep, hesc, hage, hexh, hst⟩ := s.mergedAlert_spec x code sev
    generalize s.mergedAlert x code sev = y at *
    refine ⟨t, hexec, hans, hnext, ?_, by rw [hlist]; simp, fun z hz => ?_⟩
    · rw [hlist, List.length_append, List.length_singleton]
      exact length_filter_number hlaw.2.1 hmem
    · obtain rfl : y = z := by simpa [hlist] using hz
      exact ⟨hnum, hsrc.trans hxsrc, hcause.trans hxcause, hcod, hsev, hacked, hrep, hesc, hage, hexh, hxsrc ▸ hst⟩
  · exact exec_raiseAlert_refused hcell hp hw2 hcode hlow hhigh hoff (State.raiseCase_refused hp hnone hlen (.inl hsev))
  · have hcase := State.raiseCase_displacing hp hnone hlen (State.displaced_at hx hold)
    have hothers : (s.alerts.filter fun z => z.number != x.number) = s.alerts.eraseIdx i := filter_number_eq_eraseIdx hlaw.2.1 hx
    have hi : i < s.alerts.length := (List.getElem?_eq_some_iff.1 hx).1
    have hcount : (s.alerts.eraseIdx i).length = 31 := by rw [List.length_eraseIdx_of_lt hi]; omega
    obtain ⟨t, hexec, hans, hlist, hapart, h1, h2, hover, hword, hform⟩ := exec_raiseAlert_entered hcell hp hw2 hcode (by omega) (by omega)
      hoff hn1 hn2 (others := s.alerts.eraseIdx i) (gone := [x.source]) (by omega)
      (by unfold State.raise; simp only [hcase, hothers]) (by unfold State.raiseNumber; simp only [hcase, hothers])
    obtain ⟨-, hsrc, hcause, hcod, hsev, hacked, hrep, -, -, -, hst⟩ := s.enteredAlert_spec (s.alerts.eraseIdx i) src .hostAlert code 3
    generalize s.enteredAlert (s.alerts.eraseIdx i) src .hostAlert code 3 = y at *
    refine ⟨t, hexec, by rw [hlist]; simpa using hans, by rw [hlist]; simp [hcount], by rw [hlist]; simp, fun z hz => ?_, hover, hword, hform⟩
    obtain rfl : y = z := by simpa [hlist] using hz
    exact ⟨hsrc, hcause, hcod, hsev, hacked, hrep, hst, hapart, h1, h2⟩
  · exact exec_raiseAlert_refused hcell hp hw2 hcode (by omega) (by omega) hoff
      (State.raiseCase_refused hp hnone hlen (.inr (State.displaced_none hnot)))
  · have hrow : RowOf 0x31 State.orderRaiseAlert := fun _ => rfl
    refine hrow.answered hcell hp (r := .badValue) (by omega) fun v1 v2 h1 h2 => ?_
    unfold State.orderRaiseAlert
    split
    · rfl
    · next src hsrc =>
      have hsrc' : v1.toNat < 49 := by
        by_contra hge
        rw [index?_none (by omega)] at hsrc
        simp at hsrc
      simp only [bits_high, bits_low]
      exact if_pos (by omega)
  · have hrow : RowOf 0x31 State.orderRaiseAlert := fun _ => rfl
    refine hrow.answered hcell hp (r := .absent) (by omega) fun v1 v2 h1 h2 => ?_
    unfold State.orderRaiseAlert
    rw [show v1.toNat = (exhibitSource e).val from h1.trans he, index?_val]
    simp only [bits_high, bits_low]
    rw [if_neg (by omega)]
    refine if_pos ?_
    unfold State.sourceOff
    rw [sourceExhibit_exhibit]
    simpa using hoff

end Sys2Proof.Machine
end

section
/-! What the requests, stops and faults of one axis leave (R82 to R86, R88, R94, R99, R104, R106, R118), and the axis orders:
O26, O35, O36, O37. -/

namespace Sys2Proof.Machine

/-! ### One axis changed by an order -/

theorem AxisTo.keepsDesk {s t : State} {a : AxisNo} {y : Axis} {p : Pool} {n : Nat} (h : AxisTo s t a y p n) : KeepsDesk s t :=
  .of_word (fun k _ hk => h.word k (.inl (by simp only [addrAlertImage, addrAxisImage] at *; omega))) (by rw [h.form]) (by rw [h.form])

theorem AxisTo.deck {s t : State} {a : AxisNo} {y : Axis} {p : Pool} {n : Nat} (h : AxisTo s t a y p n) : t.deck = s.deck := by rw [h.form]

/-- Where no crossing has been reported there is nothing to settle. -/
theorem AxisTo.settle_silent {s t : State} {a : AxisNo} {y : Axis} {p : Pool} (h : AxisTo s t a y p 0) (hs : s.reports = []) :
    t.settle = t := State.settle_nil t (by rw [h.form_silent]; exact hs)

/-- A taken order that changes one axis. -/
theorem RowOf.taken_axis {s u : State} {code w1 w2 d : Nat} {r : Result} {owner : Word → Word → State → Answer} (hrow : RowOf code owner)
    (h : s.AtCell code w1 w2) (hp : s.part = .run) (hd : d < 65536)
    (ho : ∀ v1 v2 : Word, v1.toNat = w1 → v2.toNat = w2 → owner v1 v2 s = u.answer r d) {a : AxisNo} {y : Axis} {p : Pool}
    (hu : AxisTo s u.settle a y p 0) :
    ∃ t, exec (orderRow code) s = .next t ∧ s.Answered t code r.code d ∧ (t.axis a).Matches y ∧ t.pool = p ∧ s.OtherAxes t a ∧
      (∀ k < 16384, s.NotOfCell k → OutsideAxis a k → t.word k = s.word k) ∧
      t = { s with axes := t.axes, pool := t.pool, ram := t.ram, deck := t.deck, attn := t.attn } := by
  obtain ⟨t, hexec, hans, hword, hform⟩ := hrow.taken h hp hd ho rfl hu.keepsDesk hu.deck
  have hstep := hu.form_silent
  have haxis := hu.axis
  have hothers := hu.others
  have hpool := hu.pool
  have hwords := hu.word
  generalize u.settle = v at *
  have haxes : ∀ b, t.axis b = v.axis b := fun b => by rw [hform]; rfl
  refine ⟨t, hexec, hans, ?_, ?_, fun b hb => ?_, fun k hk hnot hout => ?_, ?_⟩
  · rw [haxes]; exact haxis
  · rw [hform]; exact hpool
  · rw [haxes]; exact hothers b hb
  · rw [hword k hk hnot, hwords k hout]
  · rw [hform, hstep]

/-! ### CONFIGURE AXIS (R78, R79) -/

theorem firstFault_mem {l : List (Nat × Bool)} {n : Nat} (h : firstFault l = some n) : n ∈ l.map Prod.fst := by
  induction l with
  | nil => simp [firstFault] at h
  | cons c l ih =>
    unfold firstFault at h
    split at h
    · exact List.mem_cons_of_mem _ (ih h)
    · obtain rfl := Option.some.inj h
      exact List.mem_cons_self ..

/-- The fields of an axis record are 1 to 27. -/
theorem AxisConfig.checks_lt (c : AxisConfig) : ∀ n ∈ c.checks.map Prod.fst, n < 28 := by
  intro n hn
  simp only [AxisConfig.checks, speedSetChecks, List.map_append, List.map_cons, List.map_nil, List.map_flatMap, List.map_map,
    List.mem_append, List.mem_cons, List.not_mem_nil, or_false, List.mem_flatMap, List.mem_map, List.mem_finRange, true_and,
    Function.comp_apply] at hn
  obtain (((h | h) | ⟨i, h⟩) | h) | ⟨m, h⟩ := hn
  all_goals omega

theorem State.axisRecordFault_lt {s : State} {a : AxisNo} {n : Nat} (h : s.axisRecordFault a = some n) : n < 65536 := by
  unfold State.axisRecordFault at h
  split at h
  · next k hk =>
    obtain rfl := Option.some.inj h
    have := AxisConfig.checks_lt _ k (firstFault_mem hk)
    omega
  · unfold Axis.windowFault at h
    split_ifs at h <;> simp_all <;> omega

/-- An axis change that changes a mark side rewrites the image (R79, R96). -/
theorem State.putAxis_sides (s : State) (a : AxisNo) (x : Axis) (r : Bool) (h : x.sides ≠ (s.axis a).sides) :
    s.putAxis a x r = (s.setAxis a x).writeAxisImage a := by
  unfold State.putAxis
  refine if_pos ?_
  simp [Ne.symm h]

theorem AxisState.busy_takesConfigure (st : AxisState) : st.takesConfigure = !st.busy := by cases st <;> rfl

/-- Settles O26. -/
theorem configureAxisTakesRecord : Obligations.ConfigureAxisTakesRecord := by
  have hrow : RowOf 0x04 State.orderConfigureAxis := fun _ => rfl
  have htaken : ∀ (s : State) (a : AxisNo) (v1 v2 : Word), v1.toNat = a.val → s.axisRecordFault a = none → s.axisHeld a = false →
      (s.axis a).state.busy = false →
      State.orderConfigureAxis v1 v2 s = (s.putAxis a ((s.axis a).configured (s.readAxis a)) false).answer .taken 0 :=
    fun s a v1 v2 h1 hf hheld hbusy => by
      rw [State.orderConfigureAxis, s.forAxis_valid (n := v1.toNat) _ h1, hf]
      exact if_pos ⟨by rw [AxisState.busy_takesConfigure, hbusy]; rfl, hheld⟩
  refine ⟨fun s a w2 hcell hp => ⟨fun n hn => ?_, fun hf hheld => ?_, fun hf hheld hbusy => ?_⟩, fun s w1 w2 hcell hp hbad => ?_,
    fun s a w2 hcell hp hf hheld hbusy => ?_⟩
  · refine hrow.answered hcell hp (r := .badValue) (State.axisRecordFault_lt hn) fun v1 v2 h1 _ => ?_
    rw [State.orderConfigureAxis, s.forAxis_valid (n := v1.toNat) _ h1, hn]
  · refine hrow.answered hcell hp (r := .notNow) (AxisState.code_lt _) fun v1 v2 h1 _ => ?_
    rw [State.orderConfigureAxis, s.forAxis_valid (n := v1.toNat) _ h1, hf]
    refine if_neg fun ⟨htakes, hfree⟩ => ?_
    rw [AxisState.busy_takesConfigure] at htakes
    simp_all
  · obtain ⟨-, -, -, -, -, hrep⟩ := id hcell
    have hto := s.putAxis_to a ((s.axis a).configured (s.readAxis a)) false
    rw [← hto.settle_silent hrep] at hto
    obtain ⟨t, hexec, hans, haxis, hpool, hothers, hword, hform⟩ := hrow.taken_axis hcell hp (r := .taken) (d := 0) (by omega)
      (fun v1 v2 h1 _ => htaken s a v1 v2 h1 hf hheld hbusy) hto
    have hsides : (t.axis a).sides = sidesAt (s.readAxis a).marks (s.axis a).pos := congrArg Axis.sides haxis
    refine ⟨t, hexec, hans, ?_, fun m => ?_, hothers, hword, ?_⟩
    · rw [hsides]; exact haxis
    · rw [hsides]; exact tget_tmap _ _ _
    · rw [hpool] at hform; exact hform
  · exact hrow.answered hcell hp (r := .badValue) (by omega) fun v1 v2 h1 _ => State.forAxis_bad s _ (h1 ▸ hbad)
  · obtain ⟨-, -, -, -, -, hrep⟩ := id hcell
    have hto := s.putAxis_to a ((s.axis a).configured (s.readAxis a)) false
    have hsettle := hto.settle_silent hrep
    obtain ⟨t, hexec, -, hword, hform⟩ := hrow.taken hcell hp (r := .taken) (d := 0) (by omega)
      (fun v1 v2 h1 _ => htaken s a v1 v2 h1 hf hheld hbusy) hsettle hto.keepsDesk hto.deck
    have haxis : t.axis a = (s.putAxis a ((s.axis a).configured (s.readAxis a)) false).axis a := by rw [hform]; rfl
    refine ⟨t, hexec, fun hsides k hk => ?_⟩
    have hchanged : ((s.axis a).configured (s.readAxis a)).sides ≠ (s.axis a).sides := by
      rw [haxis, hto.axis] at hsides
      exact hsides
    have hpos : s.deck.position < 64 := hcell.2.1
    rw [hword _ (by simp only [addrAxisImage]; omega)
      ⟨by simp only [addrAxisImage, addrDeckState]; omega, by simp only [addrAxisImage, addrCell]; omega,
        by simp only [addrAxisImage, addrCell]; omega⟩, haxis, State.putAxis_sides _ _ _ _ hchanged, State.writeAxisImage_image _ _ hk,
      State.writeAxisImage_axis, if_pos rfl]
    rfl

/-! ### Requests for units (R118) -/

theorem Axis.draw_of_config {x : Axis} {c : AxisConfig} (h : x.config = some c) : x.draw = c.draw := by
  unfold Axis.draw
  rw [h]
  rfl

theorem Axis.speedSet_of_config {x : Axis} {c : AxisConfig} (h : x.config = some c) (i : Fin 4) : x.speedSet i = tget c.sets i := by
  unfold Axis.speedSet
  rw [h]

/-- Units are free and nobody waits: a request is granted at once. -/
abbrev Pool.Grants (p : Pool) (draw : Nat) : Prop := p.waiting = [] ∧ draw ≤ p.free

/-- A request granted at once: the pool, the request, and then its start. -/
theorem State.requestPower_granted {s : State} {a : AxisNo} {x : Axis} (h : s.pool.Grants x.draw) :
    s.requestPower a x = ((s.setPool (s.pool.granted a x.draw)).setAxis a x).startGranted a :=
  if_pos ⟨by rw [h.1]; rfl, h.2⟩

theorem State.granted_to (s : State) (a : AxisNo) (x : Axis) :
    AxisTo s ((s.setPool (s.pool.granted a x.draw)).setAxis a x) a x (s.pool.granted a x.draw) 0 :=
  (s.setPool_to a (s.pool.granted a x.draw)).trans (State.setAxis_to _ a x)

/-- A move that is granted at once starts. -/
theorem State.requestPower_move_to {s : State} {a : AxisNo} {x : Axis} {t : Int} {i : Fin 4} (h : s.pool.Grants x.draw)
    (hr : x.request = some (.move t i)) (hne : t ≠ x.pos) :
    AxisTo s (s.requestPower a x) a (x.enterMoving t i) (s.pool.granted a x.draw) 0 := by
  have hgranted := s.granted_to a x
  have haxis : ((s.setPool (s.pool.granted a x.draw)).setAxis a x).axis a = x := by rw [State.setAxis_axis, if_pos rfl]
  rw [State.requestPower_granted h]
  generalize (s.setPool (s.pool.granted a x.draw)).setAxis a x = u at hgranted haxis ⊢
  have hstart : u.startGranted a = u.putAxis a (x.enterMoving t i) false := by
    unfold State.startGranted
    simp only [haxis, hr, if_neg hne]
  have hput := u.putAxis_to a (x.enterMoving t i) false
  rw [hgranted.pool, ← hstart] at hput
  exact hgranted.trans hput

/-- A homing that is granted at once starts. -/
theorem State.requestPower_home_to {s : State} {a : AxisNo} {x : Axis} {c : AxisConfig} (h : s.pool.Grants x.draw)
    (hr : x.request = some .home) (hc : x.config = some c) :
    AxisTo s (s.requestPower a x) a (x.enterHoming c) (s.pool.granted a x.draw) 0 := by
  have hgranted := s.granted_to a x
  have haxis : ((s.setPool (s.pool.granted a x.draw)).setAxis a x).axis a = x := by rw [State.setAxis_axis, if_pos rfl]
  rw [State.requestPower_granted h]
  generalize (s.setPool (s.pool.granted a x.draw)).setAxis a x = u at hgranted haxis ⊢
  have hstart : u.startGranted a = u.putAxis a (x.enterHoming c) false := by
    unfold State.startGranted
    simp only [haxis, hr, hc]
  have hput := u.putAxis_to a (x.enterHoming c) false
  rw [hgranted.pool, ← hstart] at hput
  exact hgranted.trans hput

/-- A request that is not granted waits at the tail of the list. -/
theorem State.requestPower_waits_to {s : State} {a : AxisNo} {x : Axis} (h : s.pool.waiting ≠ [] ∨ s.pool.free < x.draw) :
    AxisTo s (s.requestPower a x) a { x with state := .awaitPower } (s.pool.joined a x.draw) 0 := by
  have hwaits : s.requestPower a x = (s.setPool (s.pool.joined a x.draw)).putAxis a { x with state := .awaitPower } false := by
    refine if_neg fun ⟨hempty, hfree⟩ => ?_
    obtain h | h := h
    · exact h (List.isEmpty_iff.1 hempty)
    · omega
  rw [hwaits]
  have hput := (s.setPool (s.pool.joined a x.draw)).putAxis_to a { x with state := .awaitPower } false
  exact (s.setPool_to a (s.pool.joined a x.draw)).trans hput

theorem Pool.granted_free (p : Pool) (a : AxisNo) (n : Nat) : (p.granted a n).free = p.free - n := rfl
theorem Pool.granted_held (p : Pool) (a : AxisNo) (n : Nat) : tget (p.granted a n).held a = tget p.held a + n := tget_tset_same _ _ _
theorem Pool.granted_held_ne (p : Pool) {a b : AxisNo} (n : Nat) (h : b ≠ a) : tget (p.granted a n).held b = tget p.held b :=
  tget_tset_ne _ _ h.symm
theorem Pool.granted_waiting (p : Pool) (a : AxisNo) (n : Nat) : (p.granted a n).waiting = p.waiting := rfl

/-! ### Homing requests (R104 to R106) -/

/-- The axis of a taken homing request, before it asks for its draw: HOME_VALUE is loaded into an UNHOMED one. -/
def Axis.askingHome (x : Axis) (c : AxisConfig) : Axis :=
  { (if x.state = .unhomed then x.loaded c.homeValue else x) with request := some .home }

/-- What the load leaves of the axis. -/
theorem Axis.loaded_spec {x : Axis} {c : AxisConfig} (hc : x.config = some c) (hst : x.state = .unhomed) (v : Int) :
    (x.loaded v).config = some c ∧ (x.loaded v).pos = v ∧ (x.loaded v).encoder = v ∧ (x.loaded v).homeSwitch = x.homeSwitch ∧
      (x.loaded v).homed = x.homed := by
  rw [Axis.loaded_of_config hc (by rw [hst]; simp)]
  exact ⟨hc, rfl, rfl, rfl, rfl⟩

theorem Axis.askingHome_spec {x : Axis} {c : AxisConfig} (hc : x.config = some c) :
    (x.askingHome c).config = some c ∧ (x.askingHome c).pos = (if x.state = .unhomed then c.homeValue else x.pos) ∧
      (x.askingHome c).encoder = (if x.state = .unhomed then c.homeValue else x.encoder) ∧
      (x.askingHome c).homeSwitch = x.homeSwitch ∧ (x.askingHome c).homed = x.homed := by
  unfold Axis.askingHome
  split
  · next h => exact Axis.loaded_spec hc h c.homeValue
  · exact ⟨hc, rfl, rfl, rfl, rfl⟩

theorem Axis.Matches.pos {x y : Axis} (h : x.Matches y) : x.pos = y.pos := by
  rw [h]
theorem Axis.Matches.vel {x y : Axis} (h : x.Matches y) : x.vel = y.vel := by
  rw [h]

theorem Axis.Matches.request {x y : Axis} (h : x.Matches y) (r : Option Request) :
    ({ x with request := r } : Axis).Matches { y with request := r } := by
  unfold Axis.Matches at *
  rw [h]

theorem Axis.Matches.enterHoming {x y : Axis} (h : x.Matches y) (c : AxisConfig) : (x.enterHoming c).Matches (y.enterHoming c) := by
  unfold Axis.Matches at *
  rw [h]
  rfl

theorem Axis.Matches.awaitPower {x y : Axis} (h : x.Matches y) :
    ({ x with state := .awaitPower } : Axis).Matches { y with state := .awaitPower } := by
  unfold Axis.Matches at *
  rw [h]

/-- A taken homing request, up to its asking for the draw. -/
theorem State.takeHome_asks {s : State} {a : AxisNo} {c : AxisConfig} (hc : (s.axis a).config = some c)
    (hst : (s.axis a).state = .unhomed ∨ (s.axis a).state = .idle) :
    ∃ (t : State) (y z : Axis), s.takeHome a = t.requestPower a y ∧ y.Matches ((s.axis a).askingHome c) ∧ AxisTo s t a z s.pool 4 := by
  unfold State.takeHome Axis.askingHome
  obtain h | h := hst
  · have hload := s.loadHome_to a (s.axis a) c.homeValue
    refine ⟨s.loadHome a (s.axis a) c.homeValue, _, _, by simp only [hc, h]; rfl, ?_, hload⟩
    rw [if_pos h]
    exact hload.axis.request _
  · refine ⟨s, { s.axis a with request := some .home }, _, by simp only [hc, h], ?_, (AxisTo.refl s a).weaken (by omega)⟩
    rw [if_neg (by rw [h]; simp)]
    exact .refl _

/-- A homing that starts at once. -/
theorem State.takeHome_starts_to {s : State} {a : AxisNo} {c : AxisConfig} (hc : (s.axis a).config = some c)
    (hst : (s.axis a).state = .unhomed ∨ (s.axis a).state = .idle) (h : s.pool.Grants c.draw) :
    AxisTo s (s.takeHome a) a (((s.axis a).askingHome c).enterHoming c) (s.pool.granted a c.draw) 4 := by
  obtain ⟨t, y, z, htake, hy, hto⟩ := State.takeHome_asks hc hst
  have hconfig : y.config = some c := (congrArg Axis.config hy).trans (Axis.askingHome_spec hc).1
  have hrequest : y.request = some .home := congrArg Axis.request hy
  have hpower := State.requestPower_home_to (s := t) (a := a) (x := y) (by rw [Axis.draw_of_config hconfig, hto.pool]; exact h) hrequest
    hconfig
  rw [Axis.draw_of_config hconfig, hto.pool] at hpower
  rw [htake]
  exact (hto.trans hpower).congr (hy.enterHoming c)

/-- A homing that waits for its units. -/
theorem State.takeHome_waits_to {s : State} {a : AxisNo} {c : AxisConfig} (hc : (s.axis a).config = some c)
    (hst : (s.axis a).state = .unhomed ∨ (s.axis a).state = .idle) (h : s.pool.waiting ≠ [] ∨ s.pool.free < c.draw) :
    AxisTo s (s.takeHome a) a { (s.axis a).askingHome c with state := .awaitPower } (s.pool.joined a c.draw) 4 := by
  obtain ⟨t, y, z, htake, hy, hto⟩ := State.takeHome_asks hc hst
  have hconfig : y.config = some c := (congrArg Axis.config hy).trans (Axis.askingHome_spec hc).1
  have hpower := State.requestPower_waits_to (s := t) (a := a) (x := y) (by rw [Axis.draw_of_config hconfig, hto.pool]; exact h)
  rw [Axis.draw_of_config hconfig, hto.pool] at hpower
  rw [htake]
  exact (hto.trans hpower).congr hy.awaitPower

/-- HOME where it is taken. -/
theorem State.orderHome_taken (s : State) {v1 : Word} (v2 : Word) {a : AxisNo} (h1 : v1.toNat = a.val) (hheld : s.axisHeld a = false)
    (hstop : s.stopInForce = false) (hst : (s.axis a).state = .unhomed ∨ (s.axis a).state = .idle) :
    State.orderHome v1 v2 s = (s.takeHome a).answer .taken 0 := by
  rw [State.orderHome, s.forAxis_valid (n := v1.toNat) _ h1]
  refine if_neg fun h => ?_
  obtain h | h | h := h
  · simp [hheld] at h
  · simp [hstop] at h
  · obtain hst | hst := hst <;> rw [hst] at h <;> simp [AxisState.takesHome] at h

/-- Settles O35. -/
theorem homeOrderStartsHoming : Obligations.HomeOrderStartsHoming := by
  intro s a w2 c hcell hp hstop hheld hunwatched hc hst
  obtain ⟨-, -, -, -, -, hrep⟩ := id hcell
  obtain ⟨hconfig, hpos, henc, hswitch, hhomed⟩ := Axis.askingHome_spec hc
  refine ⟨fun hempty hfree => ?_, fun hwaits => ?_⟩
  · have hto := (State.takeHome_starts_to hc hst ⟨hempty, hfree⟩).settle hrep hunwatched.uncrossed (by omega)
    obtain ⟨t, hexec, hans, haxis, hpool, hothers, hword, hform⟩ := orderHome_axisOrder.row.taken_axis hcell hp (r := .taken) (d := 0)
      (by omega) (fun v1 v2 h1 _ => s.orderHome_taken v2 h1 hheld hstop hst) hto
    have hphase : (((s.axis a).askingHome c).enterHoming c).phase = some (if (s.axis a).homeSwitch.level then .creep else .seek) := by
      rw [← hswitch]; rfl
    have hvel : (((s.axis a).askingHome c).enterHoming c).vel = if (s.axis a).homeSwitch.level then c.creepSpeed else c.seekSpeed := by
      rw [← hswitch]; rfl
    refine ⟨t, hexec, hans, congrArg Axis.state haxis, congrArg Axis.homed haxis, (congrArg Axis.pos haxis).trans hpos,
      (congrArg Axis.encoder haxis).trans henc, (congrArg Axis.phase haxis).trans hphase, (congrArg Axis.vel haxis).trans hvel,
      congrArg Axis.acc haxis, congrArg Axis.travelled haxis, congrArg Axis.dir haxis, congrArg Axis.request haxis, ?_, ?_, ?_, ?_, hothers,
      hword, hform⟩
    · rw [hpool]; rfl
    · rw [hpool, Pool.granted_held]
    · intro b hb
      rw [hpool, Pool.granted_held_ne _ _ hb]
    · rw [hpool]; exact hempty
  · have hto := (State.takeHome_waits_to hc hst hwaits).settle hrep hunwatched.uncrossed (by omega)
    obtain ⟨t, hexec, hans, haxis, hpool, hothers, hword, hform⟩ := orderHome_axisOrder.row.taken_axis hcell hp (r := .taken) (d := 0)
      (by omega) (fun v1 v2 h1 _ => s.orderHome_taken v2 h1 hheld hstop hst) hto
    refine ⟨t, hexec, hans, congrArg Axis.state haxis, congrArg Axis.request haxis, (congrArg Axis.homed haxis).trans hhomed, hpool,
      fun hun => ⟨?_, ?_⟩, hothers, hword, hform⟩
    · exact (congrArg Axis.pos haxis).trans (hpos.trans (if_pos hun))
    · exact (congrArg Axis.encoder haxis).trans (henc.trans (if_pos hun))

/-- The only axis that waits leaves the list. -/
theorem Pool.left_sole {p : Pool} {a : AxisNo} (h : p.waiting.map (·.axis) = [a]) : p.left a = { p with waiting := [] } := by
  obtain ⟨w, hw, hwa⟩ := List.map_eq_singleton_iff.1 h
  unfold Pool.left
  rw [hw, List.filter_cons_of_neg (by simp [hwa]), List.filter_nil]

/-! ### Move requests (R82, R84 to R86) -/

theorem Axis.clamp_of_config {x : Axis} {c : AxisConfig} (h : x.config = some c) (t : Int) : x.clamp t = max c.low (min c.high t) := by
  unfold Axis.clamp
  rw [h]

/-- The axis of a taken move request, with the flag that says whether its target was clamped. -/
def Axis.asked (x : Axis) (t : Int) : Axis := { x with clamped := decide (x.clamp t ≠ t) }

/-- A move request to where the axis stands. -/
theorem State.takeMove_complete_to {s : State} {a : AxisNo} {t : Int} (i : Fin 4) (h : (s.axis a).moveCase t = .complete) :
    AxisTo s (s.takeMove a t i) a ((s.axis a).asked t) s.pool 0 := by
  unfold State.takeMove
  simp only [h]
  exact s.putAxis_to a _ false

/-- The axis of a move request that asks for its draw. -/
def Axis.askingMove (x : Axis) (t : Int) (i : Fin 4) : Axis := { x.asked t with request := some (.move (x.clamp t) i) }

theorem State.takeMove_start {s : State} {a : AxisNo} {t : Int} (i : Fin 4) (h : (s.axis a).moveCase t = .start) :
    s.takeMove a t i = s.requestPower a ((s.axis a).askingMove t i) := by
  unfold State.takeMove
  simp only [h]
  rfl

/-- A move that starts at once. -/
theorem State.takeMove_starts_to {s : State} {a : AxisNo} {t : Int} (i : Fin 4) {c : AxisConfig} (hc : (s.axis a).config = some c)
    (h : (s.axis a).moveCase t = .start) (hne : (s.axis a).clamp t ≠ (s.axis a).pos) (hpool : s.pool.Grants c.draw) :
    AxisTo s (s.takeMove a t i) a (((s.axis a).askingMove t i).enterMoving ((s.axis a).clamp t) i) (s.pool.granted a c.draw) 0 := by
  have hdraw : ((s.axis a).askingMove t i).draw = c.draw := Axis.draw_of_config (x := (s.axis a).askingMove t i) hc
  rw [State.takeMove_start i h, ← hdraw]
  exact State.requestPower_move_to (by rw [hdraw]; exact hpool) rfl hne

/-- A move that waits for its units. -/
theorem State.takeMove_waits_to {s : State} {a : AxisNo} {t : Int} (i : Fin 4) {c : AxisConfig} (hc : (s.axis a).config = some c)
    (h : (s.axis a).moveCase t = .start) (hpool : s.pool.waiting ≠ [] ∨ s.pool.free < c.draw) :
    AxisTo s (s.takeMove a t i) a { (s.axis a).askingMove t i with state := .awaitPower } (s.pool.joined a c.draw) 0 := by
  have hdraw : ((s.axis a).askingMove t i).draw = c.draw := Axis.draw_of_config (x := (s.axis a).askingMove t i) hc
  rw [State.takeMove_start i h, ← hdraw]
  exact State.requestPower_waits_to (by rw [hdraw]; exact hpool)

/-- A move that replaces the one that waits, or becomes the pending move of a stop. -/
theorem State.takeMove_pends_to {s : State} {a : AxisNo} {t : Int} (i : Fin 4)
    (h : (s.axis a).moveCase t = .replace ∨ (s.axis a).moveCase t = .stopPending) :
    AxisTo s (s.takeMove a t i) a { (s.axis a).asked t with request := some (.move ((s.axis a).clamp t) i) } s.pool 0 := by
  unfold State.takeMove
  obtain h | h := h
  · simp only [h]
    exact s.putAxis_to a _ false
  · simp only [h]
    exact s.putAxis_to a _ false

/-- A move to where the waiting axis stands: it leaves the list. -/
theorem State.takeMove_replaceComplete_to {s : State} {a : AxisNo} {t : Int} (i : Fin 4)
    (h : (s.axis a).moveCase t = .replaceComplete) (hleft : (s.pool.left a).waiting = []) :
    AxisTo s (s.takeMove a t i) a { (s.axis a).asked t with state := .idle, request := none } (s.pool.left a) 0 := by
  have hput := (s.leaveList a).putAxis_to a { (s.axis a).asked t with state := .idle, request := none } false
  have htake : s.takeMove a t i =
      ((s.leaveList a).putAxis a { (s.axis a).asked t with state := .idle, request := none } false).grantScan := by
    unfold State.takeMove
    simp only [h]
    rfl
  rw [htake, State.grantScan_nil _ (by rw [hput.pool]; exact hleft)]
  exact (s.setPool_to a (s.pool.left a)).trans hput

/-- A move ahead of a MOVING axis. -/
theorem State.takeMove_ahead_to {s : State} {a : AxisNo} {t : Int} (i : Fin 4) (h : (s.axis a).moveCase t = .ahead) :
    AxisTo s (s.takeMove a t i) a { (s.axis a).asked t with
      move := some { target := (s.axis a).clamp t, speedSet := i }, vel := boundVelocity (s.axis a).vel ((s.axis a).speedSet i) }
      s.pool 0 := by
  unfold State.takeMove
  simp only [h]
  exact s.putAxis_to a _ false

/-- A move behind a MOVING axis: it stops first. -/
theorem State.takeMove_behind_to {s : State} {a : AxisNo} {t : Int} (i : Fin 4) (h : (s.axis a).moveCase t = .behind) :
    AxisTo s (s.takeMove a t i) a (((s.axis a).asked t).enterStopping (some (.move ((s.axis a).clamp t) i))) s.pool 0 := by
  unfold State.takeMove
  simp only [h]
  exact s.putAxis_to a _ false

theorem OnlyAxes.unwatched {s t : State} {a : AxisNo} (h : OnlyAxes s t) (hw : s.Unwatched a) : t.Unwatched a :=
  hw.congr (by rw [h.form]) (by rw [h.form])

/-- A MOVE of an axis that nobody watches reports nothing. -/
theorem State.Unwatched.moveOrder {s : State} {a : AxisNo} (h : s.Unwatched a) (t : Int) (i : Fin 4) :
    s.moveOrder a t i = s.takeMove a t i := by
  unfold State.moveOrder
  simp only
  split
  · exact ((State.takeMove_only s a t i).unwatched h).reportDone .move
  · rfl

/-- MOVE where it is taken. -/
theorem State.orderMove_taken (s : State) {v1 v2 : Word} {a : AxisNo} (h1 : v1.toNat / 1024 = a.val) (hheld : s.axisHeld a = false)
    (hstop : s.stopInForce = false) (hw : s.Unwatched a) (hcase : (s.axis a).moveCase (moveTarget v1 v2) ≠ .refused) :
    State.orderMove v1 v2 s = (s.takeMove a (moveTarget v1 v2) (moveSet v1)).answer .taken
      (if (s.axis a).clamp (moveTarget v1 v2) = moveTarget v1 v2 then 0 else 1) := by
  rw [State.orderMove, s.forAxis_valid _ ((moveAxis_eq v1).trans h1)]
  simp only
  rw [if_neg, hw.moveOrder]
  intro h
  obtain h | h | h := h
  · simp [hheld] at h
  · simp [hstop] at h
  · exact hcase h

/-- A taken MOVE: the answer, and the one axis it changes. -/
theorem exec_move_taken {s : State} {a : AxisNo} {w1 w2 : Word} {c : AxisConfig} {i : Fin 4} {x target : Int}
    (hcell : s.AtCell 0x21 w1.toNat w2.toNat) (hp : s.part = .run) (hstop : s.stopInForce = false) (hheld : s.axisHeld a = false)
    (hw : s.Unwatched a) (hc : (s.axis a).config = some c) (h1 : w1.toNat / 1024 = a.val) (hi : i = moveSet w1)
    (hx : x = moveTarget w1 w2) (ht : target = max c.low (min c.high x)) (hcase : (s.axis a).moveCase x ≠ .refused) {y : Axis} {p : Pool}
    (hto : AxisTo s (s.takeMove a x i) a y p 0) :
    ∃ t, exec .move s = .next t ∧ s.Answered t 0x21 0 (if target = x then 0 else 1) ∧ (t.axis a).Matches y ∧ t.pool = p ∧
      s.OtherAxes t a ∧ (∀ k < 16384, s.NotOfCell k → OutsideAxis a k → t.word k = s.word k) ∧
      t = { s with axes := t.axes, pool := t.pool, ram := t.ram, deck := t.deck, attn := t.attn } := by
  obtain ⟨-, -, -, -, -, hrep⟩ := id hcell
  rw [← hto.settle_silent hrep] at hto
  refine orderMove_axisOrder.row.taken_axis hcell hp (r := .taken) (by split <;> omega) (fun v1 v2 hv1 hv2 => ?_) hto
  obtain rfl := BitVec.eq_of_toNat_eq hv1
  obtain rfl := BitVec.eq_of_toNat_eq hv2
  subst hi hx
  rw [s.orderMove_taken h1 hheld hstop hw hcase, Axis.clamp_of_config hc, ht]

/-- Settles O36. -/
theorem moveOrderMovesAxis : Obligations.MoveOrderMovesAxis := by
  refine ⟨fun s a w1 w2 c i x target hcell hp hstop hheld hw hc h1 hi hx ht => ⟨fun hst heq => ?_, fun hst hne hempty hfree => ?_,
    fun hst hne hwaits => ?_, fun hst hahead => ?_, fun hst hbehind => ?_⟩,
    fun s a w1 w2 c i x target hcell hp hstop hheld hw hc h1 hi hx ht => ⟨fun hcond => ?_, fun hst hreq heq hlist => ?_⟩⟩
  all_goals have hclamp : (s.axis a).clamp x = target := (Axis.clamp_of_config hc x).trans ht.symm
  all_goals subst hclamp
  · have hcase : (s.axis a).moveCase x = .complete := by simp [Axis.moveCase, hst, heq]
    obtain ⟨t, hexec, hans, haxis, hpool, hothers, hword, hform⟩ := exec_move_taken hcell hp hstop hheld hw hc h1 hi hx ht
      (by simp [hcase]) (State.takeMove_complete_to i hcase)
    rw [hpool] at hform
    exact ⟨t, hexec, hans, haxis, hothers, hword, hform⟩
  · have hcase : (s.axis a).moveCase x = .start := by simp [Axis.moveCase, hst, hne]
    have hspeed := Axis.speedSet_of_config hc i
    obtain ⟨t, hexec, hans, haxis, hpool, hothers, hword, hform⟩ := exec_move_taken hcell hp hstop hheld hw hc h1 hi hx ht
      (by simp [hcase]) (State.takeMove_starts_to i hc hcase hne ⟨hempty, hfree⟩)
    refine ⟨t, hexec, hans, ?_, ?_, ?_, fun b hb => ?_, ?_, hothers, hword, hform⟩
    · rw [← hspeed]
      exact haxis
    · rw [hpool, Pool.granted_free]
    · rw [hpool, Pool.granted_held]
    · rw [hpool, Pool.granted_held_ne _ _ hb]
    · rw [hpool]; exact hempty
  · have hcase : (s.axis a).moveCase x = .start := by simp [Axis.moveCase, hst, hne]
    obtain ⟨t, hexec, hans, haxis, hpool, hothers, -, -⟩ := exec_move_taken hcell hp hstop hheld hw hc h1 hi hx ht
      (by simp [hcase]) (State.takeMove_waits_to i hc hcase hwaits)
    exact ⟨t, hexec, hans, congrArg Axis.state haxis, congrArg Axis.request haxis, haxis.pos, hpool, hothers⟩
  · have hcase : (s.axis a).moveCase x = .ahead := by simp [Axis.moveCase, hst, hahead]
    obtain ⟨t, hexec, hans, haxis, hpool, hothers, -, -⟩ := exec_move_taken hcell hp hstop hheld hw hc h1 hi hx ht
      (by simp [hcase]) (State.takeMove_ahead_to i hcase)
    refine ⟨t, hexec, hans, (congrArg Axis.state haxis).trans hst, congrArg Axis.move haxis, ?_, haxis.pos, hothers, hpool⟩
    rw [← Axis.speedSet_of_config hc i]
    exact congrArg Axis.vel haxis
  · have hcase : (s.axis a).moveCase x = .behind := by simp [Axis.moveCase, hst, hbehind]
    obtain ⟨t, hexec, hans, haxis, hpool, hothers, -, -⟩ := exec_move_taken hcell hp hstop hheld hw hc h1 hi hx ht
      (by simp [hcase]) (State.takeMove_behind_to i hcase)
    exact ⟨t, hexec, hans, congrArg Axis.state haxis, congrArg Axis.request haxis, haxis.vel, haxis.pos,
      congrArg Axis.stopBound haxis, hothers, hpool⟩
  · have hcase : (s.axis a).moveCase x = .replace ∨ (s.axis a).moveCase x = .stopPending := by
      obtain ⟨hst, ⟨r, hr, hhome⟩, hne⟩ | hst := hcond
      · cases r with
        | home => exact absurd rfl hhome
        | move t j => exact .inl (by simp [Axis.moveCase, hst, Option.mem_def.1 hr, hne])
      · exact .inr (by simp [Axis.moveCase, hst])
    obtain ⟨t, hexec, hans, haxis, hpool, hothers, hword, hform⟩ := exec_move_taken hcell hp hstop hheld hw hc h1 hi hx ht
      (by obtain h | h := hcase <;> simp [h]) (State.takeMove_pends_to i hcase)
    rw [hpool] at hform
    exact ⟨t, hexec, hans, haxis, hothers, hword, hform⟩
  · have hcase : (s.axis a).moveCase x = .replaceComplete := by
      obtain ⟨r, hr, hhome⟩ := hreq
      cases r with
      | home => exact absurd rfl hhome
      | move t j => simp [Axis.moveCase, hst, Option.mem_def.1 hr, heq]
    have hleft := Pool.left_sole hlist
    obtain ⟨t, hexec, hans, haxis, hpool, hothers, hword, hform⟩ := exec_move_taken hcell hp hstop hheld hw hc h1 hi hx ht
      (by simp [hcase]) (State.takeMove_replaceComplete_to i hcase (by rw [hleft]))
    exact ⟨t, hexec, hans, haxis, hpool.trans hleft, hothers, hword, hform⟩

/-! ### Stops and faults of one axis (R88, R89, R94, R99) -/

/-- STOP AXIS of a MOVING axis begins a controlled stop. -/
theorem State.haltAxis_moving_to {s : State} {a : AxisNo} (h : (s.axis a).state = .moving) :
    AxisTo s (s.haltAxis a) a ((s.axis a).enterStopping none) s.pool 0 := by
  unfold State.haltAxis State.controlledStop
  simp only [h]
  exact s.putAxis_to a _ false

/-- A STOPPING axis loses its pending move. -/
theorem State.haltAxis_stopping_to {s : State} {a : AxisNo} (h : (s.axis a).state = .stopping) :
    AxisTo s (s.haltAxis a) a { s.axis a with request := none } s.pool 0 := by
  unfold State.haltAxis State.controlledStop
  simp only [h]
  exact s.putAxis_to a _ false

/-- A quick stop of a HOMING axis. -/
theorem State.quickStop_homing_to {s : State} {a : AxisNo} (h : (s.axis a).state = .homing) :
    AxisTo s (s.quickStop a) a ((s.axis a).enterUnhomed.movedTo (s.axis a).encoder) (s.pool.returned a) 4 := by
  have hresync := s.resyncAs_to a (s.axis a).enterUnhomed
  have hsilent : s.quickStopSilently a = s.resyncAs a (s.axis a).enterUnhomed := by
    unfold State.quickStopSilently Axis.afterQuickStop
    rw [if_pos (by rw [h]; rfl), if_pos h]
  have hstate : ((s.resyncAs a (s.axis a).enterUnhomed).axis a).state = .unhomed := by rw [hresync.axis]; rfl
  have hquick : s.quickStop a = s.resyncAs a (s.axis a).enterUnhomed := by
    unfold State.quickStop
    simp only [hsilent]
    exact if_neg (by rw [hstate]; simp)
  rw [hquick]
  exact hresync

/-- An axis in AWAIT_POWER as it leaves the list (R121). -/
def Axis.unqueued (x : Axis) : Axis := if x.homed then { x with state := .idle, request := none } else x.enterUnhomed.movedTo x.encoder

theorem State.leaveAwait_to (s : State) (a : AxisNo) : AxisTo s (s.leaveAwait a) a (s.axis a).unqueued (s.pool.left a) 4 := by
  have hleave := s.setPool_to a (s.pool.left a)
  unfold State.leaveAwait Axis.unqueued
  simp only
  split
  · have hput := (s.leaveList a).putAxis_to a { s.axis a with state := .idle, request := none } false
    exact (hleave.trans hput).weaken (by omega)
  · have hput := (s.leaveList a).putAxisAt_to a (s.axis a).enterUnhomed (s.axis a).encoder false
    exact (hleave.trans hput).weaken (by omega)

theorem Axis.unqueued_spec (x : Axis) :
    x.unqueued.state = (if x.homed then .idle else .unhomed) ∧ x.unqueued.request = none ∧ x.unqueued.homed = x.homed := by
  unfold Axis.unqueued
  split
  · next h => exact ⟨rfl, rfl, rfl⟩
  · next h => exact ⟨rfl, rfl, (Bool.eq_false_iff.2 h).symm⟩

/-- The axis as it leaves its fault (R94). -/
def Axis.restored (x : Axis) : Axis :=
  if x.cause = some .homeFail ∨ x.homed = false ∨ x.inWindow x.pos = false then x.enterUnhomed.movedTo x.encoder
  else { x with state := .idle, cause := none, followRun := 0 }

theorem State.leaveFault_to {s : State} {a : AxisNo} (h : (s.axis a).state = .faulted) :
    AxisTo s (s.leaveFault a) a (s.axis a).restored s.pool 4 := by
  unfold State.leaveFault Axis.restored
  simp only
  rw [if_neg (by simpa using h)]
  split
  · exact s.putAxisAt_to a _ _ false
  · exact (s.putAxis_to a _ false).weaken (by omega)

theorem Axis.restored_homed {x : Axis} (hcause : x.cause ≠ some .homeFail) (hhomed : x.homed = true) (hw : x.inWindow x.pos = true) :
    x.restored.state = .idle ∧ x.restored.pos = x.pos ∧ x.restored.homed = true := by
  unfold Axis.restored
  rw [if_neg (by simp [hcause, hhomed, hw])]
  exact ⟨rfl, rfl, hhomed⟩

theorem Axis.restored_unhomed {x : Axis} (h : x.cause = some .homeFail ∨ x.homed = false ∨ x.inWindow x.pos = false) :
    x.restored.state = .unhomed ∧ x.restored.pos = x.encoder ∧ x.restored.homed = false := by
  unfold Axis.restored
  rw [if_pos h]
  exact ⟨rfl, rfl, rfl⟩

theorem Axis.restored_spec (x : Axis) : x.restored.cause = none ∧ x.restored.state ≠ .faulted := by
  unfold Axis.restored
  split
  · exact ⟨rfl, by simp [Axis.movedTo, Axis.enterUnhomed]⟩
  · exact ⟨rfl, by simp⟩

/-! ### STOP AXIS and RESTORE AXIS (R99, R100) -/

/-- STOP AXIS where it is taken. -/
theorem State.orderStopAxis_taken (s : State) {v1 : Word} (v2 : Word) {a : AxisNo} (h1 : v1.toNat = a.val) (hheld : s.axisHeld a = false)
    (hbusy : (s.axis a).state.busy = true) : State.orderStopAxis v1 v2 s = ((s.haltAxis a).grantScan).answer .taken 0 := by
  rw [State.orderStopAxis, s.forAxis_valid (n := v1.toNat) _ h1]
  exact if_neg (by simp [hheld, hbusy])

/-- A taken STOP AXIS that leaves nobody waiting. -/
theorem exec_stopAxis_taken {s : State} {a : AxisNo} {w2 : Nat} (hcell : s.AtCell 0x22 a.val w2) (hp : s.part = .run)
    (hheld : s.axisHeld a = false) (hw : s.Unwatched a) (hbusy : (s.axis a).state.busy = true) {y : Axis} {p : Pool} {n : Nat}
    (hto : AxisTo s (s.haltAxis a) a y p n) (hn : n ≤ 4096) (hempty : p.waiting = []) :
    ∃ t, exec .stopAxis s = .next t ∧ s.Answered t 0x22 0 0 ∧ (t.axis a).Matches y ∧ t.pool = p ∧ s.OtherAxes t a ∧
      (∀ k < 16384, s.NotOfCell k → OutsideAxis a k → t.word k = s.word k) ∧
      t = { s with axes := t.axes, pool := t.pool, ram := t.ram, deck := t.deck, attn := t.attn } := by
  obtain ⟨-, -, -, -, -, hrep⟩ := id hcell
  refine orderStopAxis_axisOrder.row.taken_axis hcell hp (r := .taken) (d := 0) (by omega)
    (fun v1 v2 h1 _ => s.orderStopAxis_taken v2 h1 hheld hbusy) ?_
  rw [State.grantScan_nil _ (by rw [hto.pool]; exact hempty)]
  exact hto.settle hrep hw.uncrossed hn

/-- Reports of crossings that nobody waits for are dropped. -/
theorem State.settle_crossings {u : State} {a : AxisNo} (hr : ∀ r ∈ u.reports, ∃ m up, r = .crossing a m up) (hlen : u.reports.length ≤ 4096)
    (hc : u.Uncrossed a) : u.settle = { u with reports := [] } :=
  (Takes.dropped u fun r hmem rest => by
    obtain ⟨m, up, rfl⟩ := hr r hmem
    exact State.Uncrossed.deliver (State.Uncrossed.congr (s := u) (t := { u with reports := rest }) rfl rfl hc) m up).settle hlen

theorem lowest_isSome {n : Nat} {p : Fin n → Bool} : (lowest n p).isSome = true ↔ ∃ i, p i = true := by
  simp [lowest]

/-- RESTORE AXIS where it is taken. -/
theorem State.orderRestoreAxis_taken (s : State) {v1 : Word} (v2 : Word) {a : AxisNo} (h1 : v1.toNat = a.val) (howner : s.axisOwner a = none)
    (hst : (s.axis a).state = .faulted) : State.orderRestoreAxis v1 v2 s = (s.restoreAxis a).answer .taken 0 := by
  rw [State.orderRestoreAxis, s.forAxis_valid (n := v1.toNat) _ h1]
  exact if_neg (by simp [howner, hst])

/-- Some other unbound axis is FAULTED. -/
abbrev State.OthersFaulted (s : State) (a : AxisNo) : Prop := ∃ b, b ≠ a ∧ s.axisOwner b = none ∧ (s.axis b).state = .faulted

theorem State.someUnboundFaulted_iff {s t : State} {a : AxisNo} {y : Axis} {p : Pool} {n : Nat} (h : AxisTo s t a y p n)
    (hy : y.state ≠ .faulted) : t.someUnboundFaulted = true ↔ s.OthersFaulted a := by
  unfold State.someUnboundFaulted
  rw [lowest_isSome]
  have howner : ∀ b, t.axisOwner b = s.axisOwner b := State.axisOwner_congr h.exhibits
  have ha : (t.axis a).state ≠ .faulted := by rw [h.axis]; exact hy
  constructor
  · rintro ⟨b, hb⟩
    rw [Bool.and_eq_true, Option.isNone_iff_eq_none, beq_iff_eq, howner] at hb
    have hne : b ≠ a := fun he => ha (he ▸ hb.2)
    exact ⟨b, hne, hb.1, by rw [← h.others b hne]; exact hb.2⟩
  · rintro ⟨b, hne, hb1, hb2⟩
    refine ⟨b, ?_⟩
    rw [Bool.and_eq_true, Option.isNone_iff_eq_none, beq_iff_eq, howner, h.others b hne]
    exact ⟨hb1, hb2⟩

/-- A removal of alerts leaves axes, exhibits, slots and reports. -/
theorem State.removeAlerts_keeps (s : State) (p : Alert → Bool) : (s.removeAlerts p).axes = s.axes ∧ (s.removeAlerts p).exhibits = s.exhibits ∧
    (s.removeAlerts p).slots = s.slots ∧ (s.removeAlerts p).reports = s.reports := by
  rw [s.removeAlerts_form p]
  exact ⟨rfl, rfl, rfl, rfl⟩

/-- What RESTORE AXIS leaves, all reports settled. -/
theorem State.restoreAxis_spec {s : State} {a : AxisNo} (hrep : s.reports = []) (howner : s.axisOwner a = none)
    (hst : (s.axis a).state = .faulted) :
    KeepsDesk s (s.restoreAxis a).settle ∧ ((s.restoreAxis a).settle.axis a).Matches (s.axis a).restored ∧
      s.OtherAxes (s.restoreAxis a).settle a ∧
      (∀ k, NotOfAlerts k → OutsideAxis a k → (s.restoreAxis a).settle.word k = s.word k) ∧
      (s.OthersFaulted a → (s.restoreAxis a).settle.alerts = s.alerts) ∧
      (¬ s.OthersFaulted a → (s.restoreAxis a).settle.alerts =
        s.alerts.filter fun x => !(x.source == gallerySource && x.cause == .axisFault)) ∧
      (s.restoreAxis a).settle = { s with
        axes := (s.restoreAxis a).settle.axes, channels := (s.restoreAxis a).settle.channels, alerts := (s.restoreAxis a).settle.alerts,
        stations := (s.restoreAxis a).settle.stations, rewriteCount := (s.restoreAxis a).settle.rewriteCount,
        ram := (s.restoreAxis a).settle.ram } := by
  have hto := State.leaveFault_to hst
  have hw := State.Uncrossed.of_unbound howner
  have hiff := State.someUnboundFaulted_iff hto (s.axis a).restored_spec.2
  unfold State.restoreAxis
  simp only
  generalize s.leaveFault a = t at hto hiff ⊢
  split
  · next h =>
    have hsettled := hto.settle hrep hw (by omega)
    generalize t.settle = v at hsettled ⊢
    have hform := hsettled.form_axes
    exact ⟨hsettled.keepsDesk, hsettled.axis, hsettled.others, fun k _ hk => hsettled.word k hk, fun _ => by rw [hform],
      fun hnot => absurd (hiff.1 h) hnot, by rw [hform]⟩
  · next h =>
    obtain ⟨rs, hrs, hn, hr⟩ := hto.reports
    rw [hrep, List.nil_append] at hrs
    obtain ⟨haxes, hexhibits, hslots, hreports⟩ := t.removeAlerts_keeps fun x => x.source == gallerySource && x.cause == .axisFault
    have hsettle := State.settle_crossings (u := t.removeAlerts fun x => x.source == gallerySource && x.cause == .axisFault) (a := a)
      (by rw [hreports, hrs]; exact hr) (by rw [hreports, hrs]; omega) ((hto.uncrossed hw).congr hexhibits hslots)
    have halerts := t.removeAlerts_alerts fun x => x.source == gallerySource && x.cause == .axisFault
    have hform := t.removeAlerts_form fun x => x.source == gallerySource && x.cause == .axisFault
    obtain ⟨hact, hword⟩ := t.removeAlerts_act fun x => x.source == gallerySource && x.cause == .axisFault
    have hdesk := (AlertAct.keepsDesk ⟨hact, hword⟩)
    have htalerts : t.alerts = s.alerts := by rw [hto.form]
    rw [hsettle]
    generalize (t.removeAlerts fun x => x.source == gallerySource && x.cause == .axisFault) = u at *
    have haxis : ∀ b, State.axis { u with reports := [] } b = t.axis b := fun b => by
      show tget u.axes b = tget t.axes b
      rw [haxes]
    refine ⟨?_, ?_, fun b hb => ?_, fun k hk hout => ?_, fun hsome => absurd (hiff.2 hsome) h, fun _ => ?_, ?_⟩
    · exact (hto.keepsDesk.trans hdesk).trans .of_ram
    · rw [haxis]; exact hto.axis
    · rw [haxis]; exact hto.others b hb
    · exact (hword k hk).trans (hto.word k hout)
    · exact halerts.trans (by rw [htalerts])
    · have htpool := hto.pool
      have htform := hto.form
      rw [htpool] at htform
      rw [hform, htform]
      simp [hrep]

/-- Settles O37. -/
theorem stopAndRestoreAxis : Obligations.StopAndRestoreAxis := by
  refine ⟨fun s a w2 hcell hp hheld hw => ⟨fun hst hempty => ?_, fun hst hempty => ?_, fun hst hempty => ?_, fun hst hlist => ?_,
    fun hbusy => ?_⟩, fun s a w2 hcell hp => ⟨fun howner hst => ?_, fun hnot => ?_⟩⟩
  · obtain ⟨t, hexec, hans, haxis, hpool, hothers, hword, hform⟩ := exec_stopAxis_taken hcell hp hheld hw (by rw [hst]; rfl)
      (State.haltAxis_moving_to hst) (by omega) hempty
    rw [hpool] at hform
    exact ⟨t, hexec, hans, haxis, hothers, hword, hform⟩
  · obtain ⟨t, hexec, hans, haxis, hpool, hothers, hword, hform⟩ := exec_stopAxis_taken hcell hp hheld hw (by rw [hst]; rfl)
      (State.haltAxis_stopping_to hst) (by omega) hempty
    exact ⟨t, hexec, hans, haxis, hothers, hpool⟩
  · have hhalt : s.haltAxis a = s.quickStop a := by unfold State.haltAxis; rw [hst]
    have hto := State.quickStop_homing_to hst
    rw [← hhalt] at hto
    obtain ⟨t, hexec, hans, haxis, hpool, hothers, hword, hform⟩ := exec_stopAxis_taken hcell hp hheld hw (by rw [hst]; rfl)
      hto (by omega) (by rw [Pool.returned_waiting]; exact hempty)
    refine ⟨t, hexec, hans, congrArg Axis.state haxis, congrArg Axis.homed haxis, haxis.pos, haxis.vel, ?_, ?_, hothers⟩
    · rw [hpool, Pool.returned_free]
    · rw [hpool, Pool.returned_held]
  · have hhalt : s.haltAxis a = s.leaveAwait a := by unfold State.haltAxis; rw [hst]
    have hleft := Pool.left_sole hlist
    obtain ⟨t, hexec, hans, haxis, hpool, hothers, hword, hform⟩ := exec_stopAxis_taken hcell hp hheld hw (by rw [hst]; rfl)
      (hhalt ▸ s.leaveAwait_to a) (n := 4) (by omega) (by rw [hleft])
    obtain ⟨hstate, hrequest, -⟩ := (s.axis a).unqueued_spec
    exact ⟨t, hexec, hans, (congrArg Axis.state haxis).trans hstate, (congrArg Axis.request haxis).trans hrequest, hpool.trans hleft, hothers⟩
  · refine orderStopAxis_axisOrder.row.answered hcell hp (r := .notNow) (AxisState.code_lt _) fun v1 v2 h1 _ => ?_
    rw [State.orderStopAxis, s.forAxis_valid (n := v1.toNat) _ h1]
    exact if_pos (.inr hbusy)
  · obtain ⟨-, -, -, -, -, hrep⟩ := id hcell
    obtain ⟨hdesk, haxis, hothers, hword, hstay, hgone, hform⟩ := State.restoreAxis_spec hrep howner hst
    obtain ⟨t, hexec, hans, htword, htform⟩ := orderRestoreAxis_axisOrder.row.taken hcell hp (r := .taken) (d := 0) (by omega)
      (fun v1 v2 h1 _ => s.orderRestoreAxis_taken v2 h1 howner hst) rfl hdesk (by rw [hform])
    generalize (s.restoreAxis a).settle = v at *
    have hta : ∀ b, t.axis b = v.axis b := fun b => by rw [htform]; rfl
    have halerts : t.alerts = v.alerts := by rw [htform]
    rw [← hta] at haxis
    refine ⟨t, hexec, hans, (congrArg Axis.cause haxis).trans (s.axis a).restored_spec.1, fun hcause hhomed hwindow => ?_, fun h => ?_,
      fun hnone => ?_, fun hsome => ?_, fun b hb => ?_, fun k hk hnot halert hout => ?_, ?_⟩
    · obtain ⟨hstate, hpos, hhome⟩ := Axis.restored_homed hcause hhomed hwindow
      exact ⟨(congrArg Axis.state haxis).trans hstate, haxis.pos.trans hpos, (congrArg Axis.homed haxis).trans hhome⟩
    · obtain ⟨hstate, hpos, hhome⟩ := Axis.restored_unhomed h
      exact ⟨(congrArg Axis.state haxis).trans hstate, haxis.pos.trans hpos, (congrArg Axis.homed haxis).trans hhome⟩
    · rw [halerts]
      exact hgone fun ⟨b, hb, hb1, hb2⟩ => hnone b hb hb1 hb2
    · rw [halerts]
      exact hstay hsome
    · rw [hta]; exact hothers b hb
    · rw [htword k hk hnot, hword k halert hout]
    · rw [htform, hform]
  · refine orderRestoreAxis_axisOrder.row.answered hcell hp (r := .notNow) (AxisState.code_lt _) fun v1 v2 h1 _ => ?_
    rw [State.orderRestoreAxis, s.forAxis_valid (n := v1.toNat) _ h1]
    exact if_pos (hnot.imp (fun h => Option.isSome_iff_ne_none.2 h) id)

end Sys2Proof.Machine
end

section
/-! Readings, holds and presses of visitor buttons (R25 to R30, R35, R36, R41, R42): O41, O42. -/

namespace Sys2Proof.Machine

/-! ### The buttons after a change of one -/

theorem State.button_setButton_ne (s : State) {b c : ButtonNo} (x : Button) (h : c ≠ b) : (s.setButton b x).button c = s.button c :=
  tget_tset_ne _ _ h.symm

theorem State.setButton_only (s : State) (b : ButtonNo) (x : Button) : s.OnlyButton (s.setButton b x) b x :=
  ⟨s.button_setButton b x, fun _ h => s.button_setButton_ne x h⟩

/-- A state with the same buttons has the same button changed. -/
theorem State.OnlyButton.of_buttons {s t u : State} {b : ButtonNo} {x : Button} (h : s.OnlyButton t b x) (hu : u.buttons = t.buttons) :
    s.OnlyButton u b x := by
  unfold State.OnlyButton State.button at *
  rwa [hu]

/-- The lockout of a button that has none starts, where its entry has one. -/
theorem State.startLockout_spec {s : State} {b : ButtonNo} (h : (s.button b).lockout = none) :
    s.OnlyButton (s.startLockout b) b (s.button b).lockedOut ∧ s.startLockout b = { s with buttons := (s.startLockout b).buttons } := by
  unfold State.startLockout Button.lockedOut
  simp only
  split
  · exact ⟨s.setButton_only b _, rfl⟩
  · exact ⟨⟨by rw [← h], fun _ _ => rfl⟩, rfl⟩

/-! ### Dispatch (R35, R36) -/

theorem State.dispatch_none (s : State) (b : ButtonNo) : s.dispatch b .none = s := rfl

theorem State.dispatch_dropped {s : State} {b : ButtonNo} {act : Action} (hact : act ≠ .none) (h : (s.button b).lockout ≠ none) :
    s.dispatch b act = s.countDropped act := by
  unfold State.dispatch
  rw [if_neg hact, if_pos (Option.isSome_iff_ne_none.2 h)]

theorem State.dispatch_judged {s : State} {b : ButtonNo} {act : Action} (hact : act ≠ .none) (h : (s.button b).lockout = none) :
    s.dispatch b act = if (s.judge act).effect then (s.judge act).state.startLockout b else (s.judge act).state := by
  unfold State.dispatch
  rw [if_neg hact, if_neg (by rw [h]; decide)]

/-- A press leaves the button as the press itself leaves it, but for its lockout, and hands its action to the dispatch. -/
theorem State.GivesPress.spec {s : State} {b : ButtonNo} {p : Instr} {act : Action} {x : Button} (h : s.GivesPress b p act x) :
    exec p s = .next ((s.setButton b x).dispatch b act).settle ∧ x.lockout = (s.button b).lockout := by
  obtain ⟨rfl, hlevel, hlong, rfl, rfl⟩ | ⟨rfl, hlevel, hhold, rfl, rfl⟩ | ⟨rfl, hhold, rfl, rfl⟩ := h
  · refine ⟨congrArg Host.Outcome.next (a₁ := s.closure b) ?_, rfl⟩
    unfold State.closure
    simp only
    rw [if_neg (by simp [hlevel]), if_pos hlong]
    rfl
  · refine ⟨congrArg Host.Outcome.next (a₁ := s.release b) ?_, rfl⟩
    unfold State.release
    simp only
    rw [if_pos hlevel, if_pos hhold]
    rfl
  · refine ⟨congrArg Host.Outcome.next (a₁ := s.longPress b) ?_, rfl⟩
    unfold State.longPress
    simp only
    rw [if_pos hhold]
    rfl

/-- A press dropped by the lockout. -/
theorem State.GivesPress.dropped {s : State} {b : ButtonNo} {p : Instr} {act : Action} {x : Button} (h : s.GivesPress b p act x)
    (hact : act ≠ .none) (hlock : (s.button b).lockout ≠ none) : exec p s = .next ((s.setButton b x).countDropped act).settle := by
  obtain ⟨hexec, hx⟩ := h.spec
  rwa [State.dispatch_dropped hact (by rwa [s.button_setButton, hx])] at hexec

/-- A press judged without effect: no lockout starts. -/
theorem State.GivesPress.judged {s v : State} {b : ButtonNo} {p : Instr} {act : Action} {x : Button} (h : s.GivesPress b p act x)
    (hact : act ≠ .none) (hlock : (s.button b).lockout = none) (hj : (s.setButton b x).judge act = { state := v, effect := false }) :
    exec p s = .next v.settle := by
  obtain ⟨hexec, hx⟩ := h.spec
  rwa [State.dispatch_judged hact (by rw [s.button_setButton, hx, hlock]), hj, if_neg Bool.false_ne_true] at hexec

/-- A press judged with effect: the lockout starts. -/
theorem State.GivesPress.effective {s v : State} {b : ButtonNo} {p : Instr} {act : Action} {x : Button} (h : s.GivesPress b p act x)
    (hact : act ≠ .none) (hlock : (s.button b).lockout = none) (hj : (s.setButton b x).judge act = { state := v, effect := true })
    (hbuttons : v.buttons = (s.setButton b x).buttons) (hrep : v.reports = []) :
    ∃ t, exec p s = .next t ∧ s.OnlyButton t b x.lockedOut ∧ t = { v with buttons := t.buttons } := by
  obtain ⟨hexec, hx⟩ := h.spec
  rw [State.dispatch_judged hact (by rw [s.button_setButton, hx, hlock]), hj, if_pos rfl] at hexec
  have honly := (s.setButton_only b x).of_buttons hbuttons
  have hb := honly.1
  obtain ⟨⟨hsame, hothers⟩, hform⟩ := State.startLockout_spec (s := v) (b := b) (by rw [hb, hx, hlock])
  generalize v.startLockout b = w at *
  have hsettle : w.settle = w := State.settle_nil w (by rw [hform]; exact hrep)
  rw [hsettle] at hexec
  exact ⟨w, hexec, ⟨by rw [hsame, hb], fun c hc => (hothers c hc).trans (honly.2 c hc)⟩, hform⟩

/-! ### Counted presses (R19) -/

theorem State.countIgnored_spec (s : State) (e : ExhibitNo) :
    s.OnlyIgnored (s.countIgnored e) e ∧ (∀ k, OutsideExhibit e k → (s.countIgnored e).word k = s.word k) ∧
      s.countIgnored e = { s with exhibits := (s.countIgnored e).exhibits, ram := (s.countIgnored e).ram } := by
  unfold State.countIgnored
  refine ⟨⟨?_, fun f hf => ?_⟩, fun k hk => s.putExhibit_word e _ k hk, ?_⟩
  · rw [State.exhibit_putExhibit_ite, if_pos rfl]
    rfl
  · rw [State.exhibit_putExhibit_ite, if_neg hf.symm]
  · rw [State.putExhibit_form]

/-- A press that ends in one more count of the exhibit's ignored presses. -/
theorem ignored_press_spec {s : State} {b : ButtonNo} {x : Button} {e : ExhibitNo} (hrep : s.reports = []) :
    ∃ t, ((s.setButton b x).countIgnored e).settle = t ∧ s.OnlyButton t b x ∧ s.OnlyIgnored t e ∧
      (∀ k, OutsideExhibit e k → t.word k = s.word k) ∧
      t = { s with buttons := t.buttons, exhibits := t.exhibits, ram := t.ram } := by
  obtain ⟨hignored, hword, hform⟩ := (s.setButton b x).countIgnored_spec e
  have hbuttons : ((s.setButton b x).countIgnored e).buttons = (s.setButton b x).buttons := by rw [hform]
  refine ⟨_, State.settle_nil _ (by rw [hform]; exact hrep), (s.setButton_only b x).of_buttons hbuttons, hignored, hword, ?_⟩
  rw [hbuttons]
  exact hform

/-- A press that is counted as ignored at its exhibit, dropped by the lockout or judged so. -/
theorem exec_press_ignored {s : State} {b : ButtonNo} {p : Instr} {act : Action} {x : Button} {e : ExhibitNo} (h : s.GivesPress b p act x)
    (hrep : s.reports = []) (hact : act ≠ .none) (hdrop : (s.setButton b x).countDropped act = (s.setButton b x).countIgnored e)
    (hj : (s.button b).lockout ≠ none ∨ (s.setButton b x).judge act = (s.setButton b x).pressIgnored e) :
    ∃ t, exec p s = .next t ∧ s.OnlyButton t b x ∧ s.OnlyIgnored t e ∧ (∀ k < 16384, OutsideExhibit e k → t.word k = s.word k) ∧
      t = { s with buttons := t.buttons, exhibits := t.exhibits, ram := t.ram } := by
  have hexec : exec p s = .next ((s.setButton b x).countIgnored e).settle := by
    by_cases hlock : (s.button b).lockout = none
    · exact h.judged hact hlock (hj.resolve_left (fun hn => hn hlock))
    · rw [h.dropped hact hlock, hdrop]
  obtain ⟨t, ht, honly, hignored, hword, hform⟩ := ignored_press_spec (s := s) (b := b) (x := x) (e := e) hrep
  exact ⟨t, by rw [hexec, ht], honly, hignored, fun k _ hk => hword k hk, hform⟩

/-! ### CALL presses (R41) -/

/-- A CALL press that is ignored and counted. -/
theorem exec_call_ignored {s : State} {b : ButtonNo} {p : Instr} {x : Button} {e : ExhibitNo} (h : s.GivesPress b p (.call e) x)
    (hrep : s.reports = []) (hno : (s.button b).lockout ≠ none ∨ (s.exhibit e).state = .off ∨ (s.exhibit e).state = .locked) :
    ∃ t, exec p s = .next t ∧ s.OnlyButton t b x ∧ s.OnlyIgnored t e ∧ (∀ k < 16384, OutsideExhibit e k → t.word k = s.word k) ∧
      t = { s with buttons := t.buttons, exhibits := t.exhibits, ram := t.ram } := by
  refine exec_press_ignored h hrep (by simp) rfl (hno.imp_right fun hstate => ?_)
  show (s.setButton b x).callPress e = _
  have hexhibit : (s.setButton b x).exhibit e = s.exhibit e := rfl
  unfold State.callPress
  rw [hexhibit]
  obtain hstate | hstate := hstate <;> rw [hstate]

/-- A CALL press at an exhibit that takes it raises VISITOR_CALL. -/
theorem State.callPress_raises {s : State} {e : ExhibitNo} (hoff : (s.exhibit e).state ≠ .off) (hlocked : (s.exhibit e).state ≠ .locked) :
    s.callPress e = { state := s.raise (exhibitSource e) .visitorCall 0 1, effect := s.raiseTakes (exhibitSource e) .visitorCall 1 } := by
  unfold State.callPress
  split
  · next h => exact absurd h hoff
  · next h => exact absurd h hlocked
  all_goals rfl

/-- A CALL press makes a new entry, and the lockout starts. -/
theorem exec_call_enters {s : State} {b : ButtonNo} {p : Instr} {x : Button} {e : ExhibitNo} (h : s.GivesPress b p (.call e) x)
    (hrep : s.reports = []) (hlock : (s.button b).lockout = none) (hoff : (s.exhibit e).state ≠ .off)
    (hlocked : (s.exhibit e).state ≠ .locked) (hrun : s.part = .run)
    (hnone : s.alertOf? (exhibitSource e) .visitorCall = none) (hlen : s.alerts.length < 32) :
    ∃ t, exec p s = .next t ∧ s.OnlyButton t b x.lockedOut ∧
      t.alerts = s.alerts ++ [s.enteredAlert s.alerts (exhibitSource e) .visitorCall 0 1] ∧
      (∀ k < 16384, NotOfAlerts k → t.word k = s.word k) ∧
      t = { s with buttons := t.buttons, alerts := t.alerts, stations := t.stations, channels := t.channels,
                   nextNumber := t.nextNumber, rewriteCount := t.rewriteCount, gallery := t.gallery, ram := t.ram } := by
  have hraise := State.raise_entered (s := s.setButton b x) (src := exhibitSource e) (cause := .visitorCall) 0 1 hrun hnone hlen
  have hact := (s.setButton b x).raise_act (exhibitSource e) .visitorCall 0 1
  have htakes : (s.setButton b x).raiseTakes (exhibitSource e) .visitorCall 1 = true := by
    unfold State.raiseTakes
    rw [State.raiseCase_entered (s := s.setButton b x) 1 hrun hnone hlen]
  have hlist := State.enterAlert_list (s.setButton b x) (s.setButton b x).alerts [] (exhibitSource e) .visitorCall 0 1
  have hjudge : (s.setButton b x).judge (.call e) =
      { state := (s.setButton b x).raise (exhibitSource e) .visitorCall 0 1, effect := true } := by
    rw [← htakes]
    exact State.callPress_raises (s := s.setButton b x) hoff hlocked
  obtain ⟨hform, hword⟩ := hact
  rw [← hraise] at hlist
  generalize (s.setButton b x).raise (exhibitSource e) .visitorCall 0 1 = v at *
  obtain ⟨t, hexec, honly, ht⟩ := h.effective (by simp) hlock hjudge (by rw [hform]) (by rw [hform]; exact hrep)
  have halerts : t.alerts = v.alerts := by rw [ht]
  refine ⟨t, hexec, honly, halerts.trans hlist, fun k _ hk => ?_, ?_⟩
  · rw [show t.word k = v.word k by rw [ht]; rfl, hword k hk]
    rfl
  · rw [ht, hform]
    rfl

/-! ### Readings (R25 to R27) -/

/-- A button changes while its press waits: its input is that of the change. -/
theorem pressed_input {s : State} {b : ButtonNo} {x : Button} {act : Action} :
    (((s.setButton b x).dispatch b act).settle.button b).input = x.input := by
  rw [(State.dispatch_acts (s.setButton b x) b act).settled.keepsDesk.button b, s.button_setButton]

theorem State.closure_input (s : State) (b : ButtonNo) (h : (s.button b).input.level = false) :
    ((s.closure b).button b).input = .recognised true := by
  unfold State.closure
  simp only
  rw [if_neg (by simp [h])]
  split
  · exact pressed_input
  · rw [s.button_setButton]

theorem State.release_input (s : State) (b : ButtonNo) (h : (s.button b).input.level = true) :
    ((s.release b).button b).input = .recognised false := by
  unfold State.release
  simp only
  rw [if_pos h]
  split
  · exact pressed_input
  · rw [s.button_setButton]

/-- Settles O41. -/
theorem buttonReadingAndHolds : Obligations.ButtonReadingAndHolds := by
  refine ⟨fun s b closed f hf => ⟨fun hsame => ?_, fun hdiff hrun => ?_, fun hdiff hrun => ?_⟩, fun s b hlevel hrep hact => ?_,
    fun s b hlevel hrep hact => ?_, fun s b => ⟨fun hlevel => ?_, fun hlevel => ?_⟩⟩
  · subst hf
    refine ⟨_, congrArg Host.Outcome.next (a₁ := s.buttonReading b closed) (if_pos hsame), ?_⟩
    obtain ⟨hb, hothers⟩ := s.setButton_only b { s.button b with input := { (s.button b).input with pin := closed, run := 0 } }
    exact ⟨hb, hothers, rfl⟩
  · subst hf
    refine ⟨_, congrArg Host.Outcome.next (a₁ := s.buttonReading b closed) ((if_neg hdiff).trans (if_pos hrun)), ?_⟩
    obtain ⟨hb, hothers⟩ := s.setButton_only b
      { s.button b with input := { (s.button b).input with pin := closed, run := (s.button b).input.nextRun } }
    exact ⟨hb, hothers, rfl⟩
  · subst hf
    have hreading : s.buttonReading b closed = if closed then s.closure b else s.release b :=
      (if_neg hdiff).trans (if_neg (by unfold InputFilter.nextRun satAdd; omega))
    cases closed with
    | true =>
      rw [if_pos rfl] at hreading ⊢
      exact ⟨s.closure b, congrArg Host.Outcome.next hreading, s.closure_input b (by simpa using hdiff), congrArg Host.Outcome.next hreading⟩
    | false =>
      rw [if_neg Bool.false_ne_true] at hreading ⊢
      exact ⟨s.release b, congrArg Host.Outcome.next hreading, s.release_input b (by simpa using hdiff), congrArg Host.Outcome.next hreading⟩
  · by_cases hlong : (s.button b).entry.longAction = .none
    · have hnone : (s.button b).entry.action = .none := hact.resolve_left fun h => h hlong
      have hpress : s.GivesPress b (.closure b) .none _ := .inl ⟨rfl, hlevel, hlong, hnone.symm, rfl⟩
      obtain ⟨hexec, -⟩ := hpress.spec
      rw [State.dispatch_none, State.settle_nil _ (by exact hrep)] at hexec
      rw [if_pos hlong]
      obtain ⟨hb, hothers⟩ := s.setButton_only b
        { s.button b with input := { pin := true, level := true, run := 0 }, holdTimer := 0, hold := .plain }
      exact ⟨_, hexec, hb, hothers, rfl⟩
    · rw [if_neg hlong]
      obtain ⟨hb, hothers⟩ := s.setButton_only b
        { s.button b with input := { pin := true, level := true, run := 0 }, holdTimer := 0, hold := .watched }
      refine ⟨_, congrArg Host.Outcome.next (a₁ := s.closure b) ?_, hb, hothers, rfl⟩
      exact (if_neg (by simp [hlevel])).trans (if_neg hlong)
  · obtain ⟨hb, hothers⟩ := s.setButton_only b
      { s.button b with input := { pin := false, level := false, run := 0 }, holdTimer := 0, hold := .opened }
    refine ⟨_, ?_, hb, hothers, rfl⟩
    by_cases hhold : (s.button b).hold = .watched
    · have hnone : (s.button b).entry.action = .none := hact.resolve_left fun h => h hhold
      have hpress : s.GivesPress b (.release b) .none _ := .inr (.inl ⟨rfl, hlevel, hhold, hnone.symm, rfl⟩)
      obtain ⟨hexec, -⟩ := hpress.spec
      rwa [State.dispatch_none, State.settle_nil _ (by exact hrep)] at hexec
    · exact congrArg Host.Outcome.next (a₁ := s.release b) ((if_pos hlevel).trans (if_neg hhold))
  · exact congrArg Host.Outcome.next (a₁ := s.closure b) (if_pos hlevel)
  · exact congrArg Host.Outcome.next (a₁ := s.release b) (if_neg (by simp [hlevel]))

/-! ### The stuck time (R29, R30) -/

/-- The source of a BUTTON_STUCK whose entry names a present exhibit by its action, or by its long action where the action names none. -/
theorem State.stuckSource_exhibit {s : State} {entry : ButtonEntry} {e : ExhibitNo} (he : (s.exhibit e).state ≠ .off)
    (h : entry.action = .start e ∨ entry.action = .call e ∨
      (entry.longAction = .call e ∧ ∀ f, entry.action = .start f ∨ entry.action = .call f → (s.exhibit f).state = .off)) :
    s.stuckSource entry = exhibitSource e := by
  have hpresent : s.presentSource (some e) = some (exhibitSource e) := if_neg he
  unfold State.stuckSource
  obtain h | h | ⟨hlong, hact⟩ := h
  · rw [h, show (Action.start e).stuckExhibit = some e from rfl, hpresent]
  · rw [h, show (Action.call e).stuckExhibit = some e from rfl, hpresent]
  · have hnone : s.presentSource entry.action.stuckExhibit = none := by
      cases haction : entry.action with
      | start f => exact if_pos (hact f (.inl haction))
      | call f => exact if_pos (hact f (.inr haction))
      | none => rfl
      | group g => rfl
      | ack st => rfl
    rw [hnone, hlong, show (LongAction.call e).action.stuckExhibit = some e from rfl, hpresent]

/-- The source of a BUTTON_STUCK whose entry names no present exhibit. -/
theorem State.stuckSource_gallery {s : State} {entry : ButtonEntry}
    (h : ∀ e, entry.action = .start e ∨ entry.action = .call e ∨ entry.longAction = .call e → (s.exhibit e).state = .off) :
    s.stuckSource entry = gallerySource := by
  have haction : s.presentSource entry.action.stuckExhibit = none := by
    cases hact : entry.action with
    | start f => exact if_pos (h f (.inl hact))
    | call f => exact if_pos (h f (.inr (.inl hact)))
    | none => rfl
    | group g => rfl
    | ack st => rfl
  have hlong : s.presentSource entry.longAction.action.stuckExhibit = none := by
    cases hact : entry.longAction with
    | call f => exact if_pos (h f (.inr (.inr hact)))
    | none => rfl
    | ack st => rfl
  unfold State.stuckSource
  rw [haction, hlong]

/-- The button that has met its stuck time. -/
def State.stuckButton (s : State) (b : ButtonNo) : Button :=
  { s.button b with hold := .stuck, holdTimer := max (s.button b).holdTimer s.stuckMs }

theorem exec_stuck {s : State} {b : ButtonNo} (h : (s.button b).hold = .plain ∨ (s.button b).hold = .longGiven) :
    exec (.stuck b) s = .next ((s.setButton b (s.stuckButton b)).raise (s.stuckSource (s.button b).entry) .buttonStuck 0 1) :=
  congrArg Host.Outcome.next (a₁ := s.stuck b) (if_pos h)

/-- The stuck time in RUN: a new BUTTON_STUCK entry. -/
theorem exec_stuck_enters {s : State} {b : ButtonNo} {src : SourceNo} (h : (s.button b).hold = .plain ∨ (s.button b).hold = .longGiven)
    (hsrc : s.stuckSource (s.button b).entry = src) (hrun : s.part = .run) (hnone : s.alertOf? src .buttonStuck = none)
    (hlen : s.alerts.length < 32) :
    ∃ t y, exec (.stuck b) s = .next t ∧ s.OnlyButton t b (s.stuckButton b) ∧ t.alerts = s.alerts ++ [y] ∧
      (y.source = src ∧ y.cause = .buttonStuck ∧ y.severity = 1 ∧ y.acked = false ∧ y.station = s.routeOf (s.zone src)) ∧
      (∀ k < 16384, NotOfAlerts k → t.word k = s.word k) ∧
      t = { s with buttons := t.buttons, alerts := t.alerts, stations := t.stations, channels := t.channels,
                   nextNumber := t.nextNumber, rewriteCount := t.rewriteCount, gallery := t.gallery, ram := t.ram } := by
  obtain ⟨y, hlist, hy1, hy2, hy3, -, hy4, hy5, -⟩ :=
    State.raise_entered_list (s := s.setButton b (s.stuckButton b)) (src := src) (cause := .buttonStuck) 0 1 hrun hnone hlen
  have hexec := exec_stuck h
  obtain ⟨hform, hword⟩ := (s.setButton b (s.stuckButton b)).raise_act src .buttonStuck 0 1
  rw [hsrc] at hexec
  generalize (s.setButton b (s.stuckButton b)).raise src .buttonStuck 0 1 = t at *
  exact ⟨t, y, hexec, (s.setButton_only b _).of_buttons (by rw [hform]), hlist, ⟨hy1, hy2, hy3, hy4, hy5⟩, fun k _ hk => hword k hk, by rw [hform]; rfl⟩

/-- Settles O42. -/
theorem longAndStuck : Obligations.LongAndStuck := by
  refine ⟨fun s b e hhold hlong hrep hrun => ⟨fun hlock hoff hlocked hnone hlen => ?_, fun hlock => ?_⟩, fun s b hhold => ?_,
    fun s b hhold => ⟨fun hcold => ?_, fun hrun hno hnone hlen => ?_, fun e hrun hoff hentry hnone hlen => ?_⟩, fun s b h1 h2 => ?_⟩
  · have hpress : s.GivesPress b (.longPress b) (.call e) _ := .inr (.inr ⟨rfl, hhold, by rw [hlong]; rfl, rfl⟩)
    obtain ⟨t, hexec, ⟨hb, hothers⟩, halerts, hword, hform⟩ := exec_call_enters hpress hrep hlock hoff hlocked hrun hnone hlen
    obtain ⟨-, hsrc, hcause, hcode, hsev, hacked, -, -, -, -, hstation⟩ := s.enteredAlert_spec s.alerts (exhibitSource e) .visitorCall 0 1
    refine ⟨t, hexec, by rw [hb], by rw [hb], by rw [halerts]; simp, by rw [halerts]; simp, fun y hy => ?_, hothers, hword, hform⟩
    obtain rfl : s.enteredAlert s.alerts (exhibitSource e) .visitorCall 0 1 = y := by simpa [halerts] using hy
    exact ⟨hsrc, hcause, hsev, hcode, hacked, hstation⟩
  · have hpress : s.GivesPress b (.longPress b) (.call e) _ := .inr (.inr ⟨rfl, hhold, by rw [hlong]; rfl, rfl⟩)
    obtain ⟨t, hexec, ⟨hb, hothers⟩, ⟨he, hexhibits⟩, hword, hform⟩ := exec_call_ignored hpress hrep (.inl hlock)
    exact ⟨t, hexec, by rw [hb], by rw [hb], he, hexhibits, hothers, hword, hform⟩
  · exact congrArg Host.Outcome.next (a₁ := s.longPress b) (if_neg hhold)
  · have hraise : (s.setButton b (s.stuckButton b)).raise (s.stuckSource (s.button b).entry) .buttonStuck 0 1 = s.setButton b (s.stuckButton b) := by
      unfold State.raise State.raiseCase
      rw [if_pos (by rw [State.setButton_part, hcold])]
    obtain ⟨hb, hothers⟩ := s.setButton_only b (s.stuckButton b)
    exact ⟨_, (exec_stuck hhold).trans (congrArg Host.Outcome.next hraise), by rw [hb]; rfl, hothers, rfl⟩
  · obtain ⟨t, y, hexec, ⟨hb, hothers⟩, halerts, ⟨hsrc, hcause, hsev, hacked, -⟩, hword, hform⟩ :=
      exec_stuck_enters hhold (State.stuckSource_gallery hno) hrun hnone hlen
    refine ⟨t, hexec, by rw [hb]; rfl, by rw [halerts]; simp, fun z hz => ?_, hothers, hword, hform⟩
    obtain rfl : y = z := by simpa [halerts] using hz
    exact ⟨hsrc, hcause, hsev, hacked⟩
  · obtain ⟨t, y, hexec, ⟨hb, hothers⟩, halerts, ⟨hsrc, hcause, hsev, hacked, hstation⟩, hword, hform⟩ :=
      exec_stuck_enters hhold (State.stuckSource_exhibit hoff hentry) hrun hnone hlen
    refine ⟨t, hexec, by rw [hb]; rfl, by rw [halerts]; simp, by rw [halerts]; simp, fun z hz => ?_, hothers, hword, hform⟩
    obtain rfl : y = z := by simpa [halerts] using hz
    exact ⟨hsrc, hcause, hsev, hacked, hstation⟩
  · exact congrArg Host.Outcome.next (a₁ := s.stuck b) (if_neg (by simp [h1, h2]))

end Sys2Proof.Machine
end

section
/-! What an act leaves of one exhibit, its slot and its source record, and the run of a show to its next wait (R46 to R54). -/

namespace Sys2Proof.Machine

/-! ### One exhibit and its slot -/

/-- Nothing has changed but exhibit `e`, its slot and its source record, which are as given, with its image, and channels of `L`. -/
structure ShowTo (s t : State) (e : ExhibitNo) (x : Exhibit) (sl : Slot) (src : SourceRecord) (L : ChannelNo → Prop) : Prop where
  exhibit : t.exhibit e = x
  slot : t.slot e = sl
  source : t.source e = src
  others : s.OtherExhibits t e
  channel : ∀ ch, ¬ L ch → t.channel ch = s.channel ch
  word : ∀ k, OutsideExhibit e k → t.word k = s.word k
  form : t = { s with exhibits := t.exhibits, slots := t.slots, sources := t.sources, channels := t.channels, ram := t.ram }

/-- No channel. -/
abbrev noLamps : ChannelNo → Prop := fun _ => False

namespace ShowTo

theorem refl (s : State) (e : ExhibitNo) : ShowTo s s e (s.exhibit e) (s.slot e) (s.source e) noLamps :=
  ⟨rfl, rfl, rfl, fun _ _ => ⟨rfl, rfl, rfl⟩, fun _ _ => rfl, fun _ _ => rfl, rfl⟩

theorem trans {s t u : State} {e : ExhibitNo} {x y : Exhibit} {sl sm : Slot} {src srd : SourceRecord} {L : ChannelNo → Prop}
    (h : ShowTo s t e x sl src L) (k : ShowTo t u e y sm srd L) : ShowTo s u e y sm srd L where
  exhibit := k.exhibit
  slot := k.slot
  source := k.source
  others f hf := by
    obtain ⟨h1, h2, h3⟩ := h.others f hf
    obtain ⟨k1, k2, k3⟩ := k.others f hf
    exact ⟨k1.trans h1, k2.trans h2, k3.trans h3⟩
  channel ch hch := (k.channel ch hch).trans (h.channel ch hch)
  word n hn := (k.word n hn).trans (h.word n hn)
  form := by
    have hk := k.form
    rw [h.form] at hk
    exact hk

theorem mono {s t : State} {e : ExhibitNo} {x : Exhibit} {sl : Slot} {src : SourceRecord} {L M : ChannelNo → Prop}
    (h : ShowTo s t e x sl src L) (hm : ∀ ch, L ch → M ch) : ShowTo s t e x sl src M :=
  { h with channel := fun ch hch => h.channel ch fun hl => hch (hm ch hl) }

theorem silent {s t : State} {e : ExhibitNo} {x : Exhibit} {sl : Slot} {src : SourceRecord} (L : ChannelNo → Prop)
    (h : ShowTo s t e x sl src noLamps) : ShowTo s t e x sl src L := h.mono fun _ => False.elim

section
variable {s t : State} {e : ExhibitNo} {x : Exhibit} {sl : Slot} {src : SourceRecord} {L : ChannelNo → Prop}

theorem exhibits_eq (h : ShowTo s t e (s.exhibit e) sl src L) : t.exhibits = s.exhibits := tget_ext fun f => by
  by_cases hf : f = e
  · subst hf; exact h.exhibit
  · exact (h.others f hf).1

theorem slots_eq (h : ShowTo s t e x (s.slot e) src L) : t.slots = s.slots := tget_ext fun f => by
  by_cases hf : f = e
  · subst hf; exact h.slot
  · exact (h.others f hf).2.1

theorem sources_eq (h : ShowTo s t e x sl (s.source e) L) : t.sources = s.sources := tget_ext fun f => by
  by_cases hf : f = e
  · subst hf; exact h.source
  · exact (h.others f hf).2.2

theorem channels_eq (h : ShowTo s t e x sl src noLamps) : t.channels = s.channels := tget_ext fun ch => h.channel ch id

/-- Only the slot and its image. -/
theorem form_slots (h : ShowTo s t e (s.exhibit e) sl (s.source e) noLamps) : t = { s with slots := t.slots, ram := t.ram } := by
  have hform := h.form
  rw [h.exhibits_eq, h.sources_eq, h.channels_eq] at hform
  exact hform

/-- Only the exhibit, its slot and lamps, and its image. -/
theorem form_shows (h : ShowTo s t e x sl (s.source e) L) :
    t = { s with exhibits := t.exhibits, slots := t.slots, channels := t.channels, ram := t.ram } := by
  have hform := h.form
  rw [h.sources_eq] at hform
  exact hform

theorem reports (h : ShowTo s t e x sl src L) : t.reports = s.reports := by rw [h.form]
theorem buttons (h : ShowTo s t e x sl src L) : t.buttons = s.buttons := by rw [h.form]
theorem axes (h : ShowTo s t e x sl src L) : t.axes = s.axes := by rw [h.form]
theorem pool (h : ShowTo s t e x sl src L) : t.pool = s.pool := by rw [h.form]
theorem axis (h : ShowTo s t e x sl src L) (a : AxisNo) : t.axis a = s.axis a := congrArg (tget · a) h.axes

end

/-- The show store lies outside every image. -/
theorem storeWord {s t : State} {e : ExhibitNo} {x : Exhibit} {sl : Slot} {src : SourceRecord} {L : ChannelNo → Prop}
    (h : ShowTo s t e x sl src L) (n : Nat) : t.storeWord n = s.storeWord n :=
  h.word _ (.inr (by simp only [addrExhibitImage, addrStore]; omega))

end ShowTo

/-! ### The operations on one exhibit -/

theorem State.putSlot_to (s : State) (e : ExhibitNo) (sl : Slot) :
    ShowTo s (s.putSlot e sl) e (s.exhibit e) sl (s.source e) noLamps where
  exhibit := State.exhibit_putSlot s e e sl
  slot := by rw [State.slot_putSlot_ite, if_pos rfl]
  source := by rw [State.putSlot_form]; rfl
  others f hf := ⟨State.exhibit_putSlot s e f sl, by rw [State.slot_putSlot_ite, if_neg hf.symm], by rw [State.putSlot_form]; rfl⟩
  channel ch _ := by rw [State.putSlot_form]; rfl
  word k hk := s.putSlot_word e sl k hk
  form := by rw [State.putSlot_form]

theorem State.putExhibit_to (s : State) (e : ExhibitNo) (x : Exhibit) :
    ShowTo s (s.putExhibit e x) e x (s.slot e) (s.source e) noLamps where
  exhibit := State.exhibit_putExhibit s e x
  slot := State.slot_putExhibit s e e x
  source := by rw [State.putExhibit_form]; rfl
  others f hf := ⟨by rw [State.exhibit_putExhibit_ite, if_neg hf.symm], State.slot_putExhibit s e f x, by rw [State.putExhibit_form]; rfl⟩
  channel ch _ := by rw [State.putExhibit_form]; rfl
  word k hk := s.putExhibit_word e x k hk
  form := by rw [State.putExhibit_form]

theorem State.markCondition_to (s : State) (e : ExhibitNo) (c : Condition) :
    ShowTo s (s.markCondition e c) e (s.exhibit e) (s.slot e) ((s.source e).mark c) noLamps where
  exhibit := rfl
  slot := rfl
  source := by unfold State.markCondition; rw [State.source_setSource]
  others f hf := ⟨rfl, rfl, tget_tset_ne _ _ hf.symm⟩
  channel _ _ := rfl
  word _ _ := rfl
  form := rfl

/-- A change of channels of `L`. -/
theorem ShowTo.of_channels {s t : State} (e : ExhibitNo) {L : ChannelNo → Prop} (hform : t = { s with channels := t.channels })
    (h : ∀ ch, ¬ L ch → t.channel ch = s.channel ch) : ShowTo s t e (s.exhibit e) (s.slot e) (s.source e) L where
  exhibit := by rw [hform]; rfl
  slot := by rw [hform]; rfl
  source := by rw [hform]; rfl
  others f _ := ⟨by rw [hform]; rfl, by rw [hform]; rfl, by rw [hform]; rfl⟩
  channel := h
  word k _ := by rw [hform]; rfl
  form := by rw [hform]

theorem State.chooseLayer_channel_ne (s : State) {ch c : ChannelNo} (n : LayerName) (x : Setting) (h : c ≠ ch) :
    (s.chooseLayer ch n x).channel c = s.channel c := by
  unfold State.chooseLayer
  split
  · rfl
  · rw [State.channel_setLayer, if_neg h.symm]

theorem State.chooseLamp_channel_ne (s : State) {l : Option ChannelNo} {c : ChannelNo} (n : LayerName) (x : Setting) (h : l ≠ some c) :
    (s.chooseLamp l n x).channel c = s.channel c := by
  cases l with
  | none => rfl
  | some ch => exact s.chooseLayer_channel_ne n x fun hc => h (by rw [hc])

/-- The channel of an exhibit's ready lamp. -/
abbrev Exhibit.IsReadyLamp (x : Exhibit) : ChannelNo → Prop := fun ch => x.inForce.bind (·.readyLamp) = some ch

theorem State.evalReady_to (s : State) (e : ExhibitNo) :
    ShowTo s (s.evalReady e) e (s.exhibit e) (s.slot e) (s.source e) (s.exhibit e).IsReadyLamp := by
  refine .of_channels e (s.evalReady_form e) fun ch hch => ?_
  unfold State.evalReady
  cases hc : (s.exhibit e).inForce with
  | none => rfl
  | some c => exact s.chooseLamp_channel_ne _ _ fun hl => hch (by unfold Exhibit.IsReadyLamp; rw [hc]; exact hl)

theorem State.enterState_to (s : State) (e : ExhibitNo) (st : ExhibitState) :
    ShowTo s (s.enterState e st) e ((s.exhibit e).entering st) (s.slot e) (s.source e) ((s.exhibit e).entering st).IsReadyLamp := by
  have hput := s.putExhibit_to e ((s.exhibit e).entering st)
  have heval := (s.putExhibit e ((s.exhibit e).entering st)).evalReady_to e
  rw [hput.exhibit, hput.slot, hput.source] at heval
  exact (hput.silent _).trans heval

/-- The channel of a show lamp of an exhibit. -/
abbrev Exhibit.IsShowLamp (x : Exhibit) : ChannelNo → Prop := fun ch => ∃ c ∈ x.inForce, c.namesShowLamp ch = true

theorem State.idleShowLamps_channel (s : State) {lamps : List (Option ChannelNo)} {ch : ChannelNo} (h : some ch ∉ lamps) :
    (s.idleShowLamps lamps).channel ch = s.channel ch := by
  induction lamps generalizing s with
  | nil => rfl
  | cons l lamps ih =>
    obtain ⟨hl, hlamps⟩ := not_or.1 (fun hn => h (List.mem_cons.2 hn))
    show (State.idleShowLamps _ lamps).channel ch = _
    rw [ih _ hlamps]
    cases l with
    | none => rfl
    | some c => rw [State.channel_setLayer, if_neg fun hc => hl (by rw [hc])]

theorem State.endShow_to (s : State) (e : ExhibitNo) :
    ShowTo s (s.endShow e) e (s.exhibit e) (s.slot e).emptied (s.source e) (s.exhibit e).IsShowLamp := by
  have hput := s.putSlot_to e (s.slot e).emptied
  unfold State.endShow
  simp only
  cases hc : (s.exhibit e).inForce with
  | none => exact hput.silent _
  | some c =>
    have hlamps := ShowTo.of_channels (s := s.putSlot e (s.slot e).emptied) e (L := (s.exhibit e).IsShowLamp) (State.idleShowLamps_form _ c.showLamps.toList)
      fun ch hch => State.idleShowLamps_channel _ fun hm => hch ⟨c, hc, by
        unfold ExhibitConfig.namesShowLamp
        simpa using hm⟩
    rw [hput.exhibit, hput.slot, hput.source] at hlamps
    exact (hput.silent _).trans hlamps

/-! ### The act of a slot that comes to a WAIT_TIME (R47 to R53) -/

/-- The step record at an address, of a kind. -/
def State.stepAt (s : State) (a : Nat) (k : StepKind) : StepWords :=
  { kind := k, w0 := s.storeWord a, w1 := s.storeWord (a + 1), w2 := s.storeWord (a + 2) }

theorem State.readKind_ok {s : State} {a n : Nat} {k : StepKind} (hk : bits (s.storeWord a) 10 6 = n) (hkind : stepKind? n = some k)
    (hend : a + k.length ≤ 12288) : s.readKind a = .ok k := by
  have hpos : 0 < k.length := by cases k <;> decide
  unfold State.readKind
  rw [if_neg (by simp only [Config.storeWords]; omega), hk, hkind]
  simp only
  rw [if_neg (by simp only [Config.storeWords]; omega)]

theorem State.fetchStep_ok {s : State} {e : ExhibitNo} {a n : Nat} {k : StepKind} (hk : bits (s.storeWord a) 10 6 = n)
    (hkind : stepKind? n = some k) (hend : a + k.length ≤ 12288) (hfault : s.stepFault e (s.stepAt a k) = none) :
    s.fetchStep e a = .ok (s.stepAt a k) := by
  unfold State.fetchStep
  rw [State.readKind_ok hk hkind hend]
  unfold State.stepAt at hfault ⊢
  simp only
  rw [hfault]

/-- A step without a SUSPEND mark is not held. -/
theorem State.holdsStep_unmarked {s : State} {e : ExhibitNo} {a : Nat} {k : StepKind} (h : bit (s.storeWord a) 9 = false) :
    s.holdsStep e (s.stepAt a k) = false := by
  unfold State.holdsStep StepWords.suspend State.stepAt
  rw [h]
  rfl

section
variable {s t : State} {e : ExhibitNo} {a : Nat} {w : StepWords} (hcur : (s.slot e).current = some a)
  (hfetch : s.fetchStep e a = .ok w) (hheld : s.holdsStep e w = false)
include hcur hfetch hheld

/-- A step that begins to wait ends the act. -/
theorem State.actStep_waits {wait : Wait} (hexec : s.execute e a w = .waits t wait) : s.actStep e = .finished (t.beginWait e wait) := by
  unfold State.actStep
  simp only [hcur, Option.getD_some, hfetch, hheld, Bool.false_eq_true, if_false, hexec]

/-- A step that meets a fault ends the show. -/
theorem State.actStep_faults {f : ShowFault} (hexec : s.execute e a w = .faults f) : s.actStep e = .finished (s.showFault e f a) := by
  unfold State.actStep
  simp only [hcur, Option.getD_some, hfetch, hheld, Bool.false_eq_true, if_false, hexec]

/-- A step that completes at once, its runaway count below the limit. -/
theorem State.actStep_once {next : Nat} (hexec : s.execute e a w = .once t next) (hrun : (s.slot e).runaway + 1 < 64) :
    s.actStep e = .goesOn (t.putSlot e { t.slot e with current := some next, runaway := (s.slot e).runaway + 1 }) := by
  have hlimit : ¬ Config.runawayLimit ≤ (s.slot e).runaway + 1 := by simp only [Config.runawayLimit]; omega
  unfold State.actStep
  simp only [hcur, Option.getD_some, hfetch, hheld, Bool.false_eq_true, if_false, hexec, hlimit]

/-- The execution that brings the runaway count to its limit. -/
theorem State.actStep_runaway {next : Nat} (hexec : s.execute e a w = .once t next) (hrun : 64 ≤ (s.slot e).runaway + 1) :
    s.actStep e = .finished (t.showFault e .runaway a) := by
  have hlimit : Config.runawayLimit ≤ (s.slot e).runaway + 1 := hrun
  unfold State.actStep
  simp only [hcur, Option.getD_some, hfetch, hheld, Bool.false_eq_true, if_false, hexec, hlimit, if_true]

/-- END, the runaway count below its limit. -/
theorem State.actStep_ends (hexec : s.execute e a w = .ends) (hrun : (s.slot e).runaway + 1 < 64) : s.actStep e = s.normalEnd e := by
  have hlimit : ¬ Config.runawayLimit ≤ (s.slot e).runaway + 1 := by simp only [Config.runawayLimit]; omega
  unfold State.actStep
  simp only [hcur, Option.getD_some, hfetch, hheld, Bool.false_eq_true, if_false, hexec, hlimit]

end

/-- A step that fails its checks ends the show. -/
theorem State.actStep_unfetched {s : State} {e : ExhibitNo} {a : Nat} {f : ShowFault} (hcur : (s.slot e).current = some a)
    (hfetch : s.fetchStep e a = .error f) : s.actStep e = .finished (s.showFault e f a) := by
  unfold State.actStep
  simp only [hcur, Option.getD_some, hfetch]

/-- A step held by its SUSPEND mark. -/
theorem State.actStep_held {s : State} {e : ExhibitNo} {a : Nat} {w : StepWords} (hcur : (s.slot e).current = some a)
    (hfetch : s.fetchStep e a = .ok w) (hheld : s.holdsStep e w = true) : s.actStep e = .finished (s.hold e) := by
  unfold State.actStep
  simp only [hcur, Option.getD_some, hfetch, hheld, if_true]

theorem State.runAct_finished {s t : State} {e : ExhibitNo} (h : s.actStep e = .finished t) : s.runAct e = t := by
  unfold State.runAct actFuel runSteps
  rw [h]

/-- A slot that has begun to wait for a time at an address. -/
def Slot.waitingAt (sl : Slot) (a d : Nat) : Slot :=
  { sl with current := some a, status := some .waiting, wait := some (.time (10 * d)), runaway := 0 }

theorem Slot.waitingAt_waitsTime {sl : Slot} (h : sl.frozen = false) (a d : Nat) : (sl.waitingAt a d).WaitsTime a d := ⟨rfl, rfl, rfl, rfl, h⟩

theorem State.TimeStepAt.of_store {s t : State} {a d : Nat} (h : s.TimeStepAt a d) (hs : ∀ n, t.storeWord n = s.storeWord n) :
    t.TimeStepAt a d := by
  unfold State.TimeStepAt
  rw [hs, hs]
  exact h

/-- A slot at a WAIT_TIME step executes it, and waits. -/
theorem State.actStep_time {s : State} {e : ExhibitNo} {a d : Nat} (hcur : (s.slot e).current = some a) (h : s.TimeStepAt a d) :
    s.actStep e = .finished (s.beginWait e (.time (10 * d))) := by
  obtain ⟨hend, hkind, hsuspend, hd, hd0⟩ := h
  have hw1 : s.storeWord (a + 1) ≠ 0#16 := fun hz => hd0 (by rw [← hd, hz]; rfl)
  have hfault : s.stepFault e (s.stepAt a .waitTime) = none := by
    unfold State.stepFault State.stepInvalid State.stepAt
    simp [hw1]
  rw [State.actStep_waits hcur (State.fetchStep_ok hkind rfl hend hfault) (State.holdsStep_unmarked hsuspend) rfl]
  unfold State.stepAt
  rw [hd, Nat.mul_comm]

theorem State.beginWait_to (s : State) (e : ExhibitNo) (w : Wait) :
    ShowTo s (s.beginWait e w) e (s.exhibit e) { s.slot e with status := some .waiting, wait := some w, runaway := 0 } (s.source e) noLamps :=
  s.putSlot_to e _

/-- The act of a slot at a WAIT_TIME step. -/
theorem State.runAct_time_to {s : State} {e : ExhibitNo} {a d : Nat} (hcur : (s.slot e).current = some a) (h : s.TimeStepAt a d) :
    ShowTo s (s.runAct e) e (s.exhibit e) ((s.slot e).waitingAt a d) (s.source e) noLamps := by
  rw [State.runAct_finished (State.actStep_time hcur h)]
  have hto := s.beginWait_to e (.time (10 * d))
  unfold Slot.waitingAt
  rw [← hcur]
  exact hto

/-- A show goes on at a WAIT_TIME step. -/
theorem State.goOnAt_time_to {s : State} {e : ExhibitNo} {a d : Nat} (h : s.TimeStepAt a d) :
    ShowTo s (s.goOnAt e a) e (s.exhibit e) ((s.slot e).waitingAt a d) (s.source e) noLamps := by
  have hput := s.putSlot_to e { s.slot e with current := some a, status := none, wait := none }
  have hrun := State.runAct_time_to (e := e) (by rw [hput.slot]) (h.of_store hput.storeWord)
  rw [hput.exhibit, hput.slot, hput.source] at hrun
  exact hput.trans hrun

/-- A waiting step completes and a WAIT_TIME stands at its successor. -/
theorem State.completeWait_time_to {s : State} {e : ExhibitNo} {w : Wait} {a d : Nat} (hwait : (s.slot e).wait = some w)
    (hcur : (s.slot e).current = some a) (h : s.TimeStepAt (a + w.stepLength) d) :
    ShowTo s (s.completeWait e) e (s.exhibit e) ((s.slot e).waitingAt (a + w.stepLength) d) (s.source e) noLamps := by
  unfold State.completeWait
  rw [hwait, hcur]
  exact State.goOnAt_time_to h

/-- A show starts at a WAIT_TIME step. -/
theorem State.startShow_time_to {s : State} {e : ExhibitNo} {a d : Nat} (h : s.TimeStepAt a d) :
    ShowTo s (s.startShow e a) e ((s.exhibit e).entering .running) (((s.slot e).started a).waitingAt a d) (s.source e)
      ((s.exhibit e).entering .running).IsReadyLamp := by
  have hput := s.putSlot_to e ((s.slot e).started a)
  have henter := (s.putSlot e ((s.slot e).started a)).enterState_to e .running
  rw [hput.exhibit, hput.slot, hput.source] at henter
  have hboth := (hput.silent _).trans henter
  have hrun := State.runAct_time_to (e := e) (a := a) (by rw [hboth.slot]; rfl) (h.of_store hboth.storeWord)
  rw [hboth.exhibit, hboth.slot, hboth.source] at hrun
  exact hboth.trans (hrun.silent _)

theorem State.startDefault_time_to {s : State} {e : ExhibitNo} {c : ExhibitConfig} {d : Nat} (hc : (s.exhibit e).config = some c)
    (h : s.TimeStepAt c.defaultShow d) :
    ShowTo s (s.startDefault e) e ((s.exhibit e).entering .running) (((s.slot e).started c.defaultShow).waitingAt c.defaultShow d) (s.source e)
      ((s.exhibit e).entering .running).IsReadyLamp := by
  unfold State.startDefault
  rw [hc]
  exact State.startShow_time_to h

end Sys2Proof.Machine
end

section
/-! START, GROUP, CALL and ACK presses judged (R35 to R42, R166): O43. -/

namespace Sys2Proof.Machine

/-! ### START presses (R37, R38) -/

theorem satAdd_eq (top n k : Nat) : satAdd top n k = min top (n + k) := rfl

theorem State.countAccepted_to (s : State) (e : ExhibitNo) :
    ShowTo s (s.countAccepted e) e { s.exhibit e with accepted := min 65535 ((s.exhibit e).accepted + 1) } (s.slot e) (s.source e) noLamps :=
  s.putExhibit_to e _

theorem State.encorePress_ignore {s : State} {e : ExhibitNo} {c : ExhibitConfig} (hc : (s.exhibit e).config = some c)
    (hp : c.policy = .ignore) : s.encorePress e = s.pressIgnored e := by
  unfold State.encorePress
  simp only [hc, Option.map_some, hp]
  rw [if_neg (by decide)]

theorem State.encorePress_encore {s : State} {e : ExhibitNo} {c : ExhibitConfig} (hc : (s.exhibit e).config = some c)
    (hp : c.policy = .encore) :
    s.encorePress e = { state := (s.putExhibit e { s.exhibit e with encore := true }).countAccepted e, effect := true } := by
  unfold State.encorePress
  simp only [hc, Option.map_some, hp]
  rw [if_pos trivial]

/-- A START press in RESTING, or in a RUNNING show that waits for none, is judged by the press policy. -/
theorem State.startPress_policy {s : State} {e : ExhibitNo} (hstop : s.stopInForce = false) (hguard : (s.exhibit e).guardOpen = false)
    (hst : (s.exhibit e).state = .resting ∨ ((s.exhibit e).state = .running ∧ (s.slot e).awaitsPress = false)) :
    s.startPress e = s.encorePress e := by
  unfold State.startPress
  simp only
  rw [if_neg (by simp [hstop, hguard])]
  obtain hst | ⟨hst, hpress⟩ := hst
  · rw [hst]
  · rw [hst]
    simp only [hpress, Bool.false_eq_true, if_false]

theorem State.startPress_ignored {s : State} {e : ExhibitNo} {c : ExhibitConfig} (hc : (s.exhibit e).config = some c)
    (h : s.stopInForce = true ∨ (s.exhibit e).guardOpen = true ∨
      ((s.exhibit e).state ≠ .running ∧ (s.exhibit e).state ≠ .resting ∧ (s.exhibit e).state ≠ .ready) ∨
      (((s.exhibit e).state = .resting ∨ ((s.exhibit e).state = .running ∧ (s.slot e).awaitsPress = false)) ∧ c.policy = .ignore)) :
    s.startPress e = s.pressIgnored e := by
  by_cases hblock : s.stopInForce = true ∨ (s.exhibit e).guardOpen = true
  · unfold State.startPress
    simp only
    rw [if_pos hblock]
  · obtain ⟨hstop, hguard⟩ := not_or.1 hblock
    rw [Bool.not_eq_true] at hstop hguard
    obtain h | h | ⟨hrunning, hresting, hready⟩ | ⟨hst, hp⟩ := h
    · exact absurd (.inl h) hblock
    · exact absurd (.inr h) hblock
    · unfold State.startPress
      simp only
      rw [if_neg hblock]
      split
      · next hst => exact absurd hst hrunning
      · next hst => exact absurd hst hresting
      · next hst => exact absurd hst hready
      all_goals rfl
    · rw [State.startPress_policy hstop hguard hst, State.encorePress_ignore hc hp]

/-- A START press at an OFF exhibit, configured or not. -/
theorem State.startPress_off {s : State} {e : ExhibitNo} (h : (s.exhibit e).state = .off) : s.startPress e = s.pressIgnored e := by
  unfold State.startPress
  simp only [h, ite_self]

theorem State.startPress_ready {s : State} {e : ExhibitNo} (hstop : s.stopInForce = false) (hguard : (s.exhibit e).guardOpen = false)
    (hst : (s.exhibit e).state = .ready) : s.startPress e = { state := (s.countAccepted e).startDefault e, effect := true } := by
  unfold State.startPress
  simp only
  rw [if_neg (by simp [hstop, hguard]), hst]

theorem State.startPress_completes {s : State} {e : ExhibitNo} (hstop : s.stopInForce = false) (hguard : (s.exhibit e).guardOpen = false)
    (hst : (s.exhibit e).state = .running) (hpress : (s.slot e).awaitsPress = true) :
    s.startPress e = { state := (s.countAccepted e).completeWait e, effect := false } := by
  unfold State.startPress
  simp only
  rw [if_neg (by simp [hstop, hguard]), hst]
  simp only [hpress, if_true]

theorem Slot.awaitsPress_spec {sl : Slot} (h : sl.awaitsPress = true) : ∃ r, sl.wait = some (.press r) := by
  unfold Slot.awaitsPress at h
  rw [Bool.and_eq_true] at h
  obtain ⟨-, hw⟩ := h
  split at hw
  · next r hr => exact ⟨r, hr⟩
  · simp at hw

/-- Any channel. -/
abbrev anyLamp : ChannelNo → Prop := fun _ => True

theorem ShowTo.loose {s t : State} {e : ExhibitNo} {x : Exhibit} {sl : Slot} {src : SourceRecord} {L : ChannelNo → Prop}
    (h : ShowTo s t e x sl src L) : ShowTo s t e x sl src anyLamp := h.mono fun _ _ => trivial

/-- Only the exhibit and its image. -/
theorem ShowTo.form_exhibits {s t : State} {e : ExhibitNo} {x : Exhibit} (h : ShowTo s t e x (s.slot e) (s.source e) noLamps) :
    t = { s with exhibits := t.exhibits, ram := t.ram } := by
  have hform := h.form
  rw [h.slots_eq, h.sources_eq, h.channels_eq] at hform
  exact hform

/-- The exhibit after a press that starts its default show. -/
def Exhibit.startedByPress (x : Exhibit) : Exhibit := Exhibit.entering { x with accepted := min 65535 (x.accepted + 1) } .running

/-- A press that starts the default show of a READY exhibit. -/
theorem State.startAccepted_to {s : State} {e : ExhibitNo} {c : ExhibitConfig} {d : Nat} (hc : (s.exhibit e).config = some c)
    (h : s.TimeStepAt c.defaultShow d) :
    ShowTo s ((s.countAccepted e).startDefault e) e (s.exhibit e).startedByPress
      (((s.slot e).started c.defaultShow).waitingAt c.defaultShow d) (s.source e) anyLamp := by
  have hcount := s.countAccepted_to e
  have hstart := State.startDefault_time_to (s := s.countAccepted e) (by rw [hcount.exhibit]; exact hc) (h.of_store hcount.storeWord)
  rw [hcount.exhibit, hcount.slot, hcount.source] at hstart
  exact (hcount.silent _).trans hstart.loose

/-- A START press completes a WAIT_PRESS. -/
theorem State.pressCompletes_to {s : State} {e : ExhibitNo} {a d : Nat} (hpress : (s.slot e).awaitsPress = true)
    (hcur : (s.slot e).current = some a) (h : s.TimeStepAt (a + 2) d) :
    ShowTo s ((s.countAccepted e).completeWait e) e { s.exhibit e with accepted := min 65535 ((s.exhibit e).accepted + 1) }
      ((s.slot e).waitingAt (a + 2) d) (s.source e) noLamps := by
  obtain ⟨r, hr⟩ := Slot.awaitsPress_spec hpress
  have hcount := s.countAccepted_to e
  have hgo := State.completeWait_time_to (s := s.countAccepted e) (e := e) (w := .press r) (a := a) (d := d) (by rw [hcount.slot]; exact hr)
    (by rw [hcount.slot]; exact hcur) (h.of_store hcount.storeWord)
  rw [hcount.exhibit, hcount.slot, hcount.source] at hgo
  exact hcount.trans hgo

/-- An ENCORE press sets the flag and counts. -/
theorem State.encoreAccepted_to (s : State) (e : ExhibitNo) :
    ShowTo s ((s.putExhibit e { s.exhibit e with encore := true }).countAccepted e) e
      { s.exhibit e with encore := true, accepted := min 65535 ((s.exhibit e).accepted + 1) } (s.slot e) (s.source e) noLamps := by
  have hput := s.putExhibit_to e { s.exhibit e with encore := true }
  have hcount := (s.putExhibit e { s.exhibit e with encore := true }).countAccepted_to e
  rw [hput.exhibit, hput.slot, hput.source] at hcount
  exact hput.trans hcount

/-! ### ACK presses (R42, R166) -/

/-- An acknowledged entry is shown at no station. -/
theorem State.acknowledge_unshown {s : State} {x : Alert} (hx : x ∈ s.alerts) (st : StationNo) :
    ((s.acknowledge x).station st).shown ≠ some x.number := by
  intro hshown
  unfold State.acknowledge at hshown
  split at hshown
  · unfold State.removeAlerts at hshown
    rw [if_pos (List.any_eq_true.2 ⟨x, hx, by simp⟩)] at hshown
    obtain ⟨hraised, -⟩ := State.closeAct_shownLaw _ _ _ st
    obtain ⟨z, hz, hnum, -⟩ := hraised _ hshown
    rw [State.closeAct_alerts] at hz
    have hmem := (List.mem_filter.1 hz).2
    simp [hnum] at hmem
  · obtain ⟨hraised, -⟩ := State.closeAct_shownLaw _ _ _ st
    obtain ⟨z, hz, hnum, hacked, -⟩ := hraised _ hshown
    rw [State.closeAct_alerts] at hz
    obtain ⟨y, -, hy⟩ := List.mem_map.1 hz
    split at hy
    · rw [← hy] at hacked
      simp at hacked
    · next hne => exact hne (hy ▸ hnum)

/-- What an ACK press acknowledges. -/
theorem State.ackPressEntry_shown {s : State} {st : StationNo} {y : Alert} (hy : y ∈ s.alerts) (hhold : (s.station st).holdoff = none)
    (hshown : (s.station st).shown = some y.number) (hnodup : (s.alerts.map (·.number)).Nodup) : s.ackPressEntry st = some y := by
  unfold State.ackPressEntry State.shownAlert
  rw [if_neg (by simp [hhold]), hshown]
  show s.alert? y.number = some y
  obtain ⟨i, hi⟩ := List.getElem?_of_mem hy
  unfold State.alert?
  refine find?_of_getElem? hi (by simp) fun z hz => ?_
  obtain ⟨j, hj, hz⟩ := List.mem_iff_getElem.1 hz
  have hji : j < i := by have := hj; rw [List.length_take] at this; omega
  rw [List.getElem_take] at hz
  obtain ⟨hi', hiy⟩ := List.getElem?_eq_some_iff.1 hi
  have hne : (s.alerts.map (·.number))[j]'(by simp; omega) ≠ (s.alerts.map (·.number))[i]'(by simp; omega) := fun he => by
    have := (List.Nodup.getElem_inj_iff hnodup).1 he
    omega
  rw [List.getElem_map, List.getElem_map, hz, hiy] at hne
  simpa using hne

theorem State.ackPressEntry_none {s : State} {st : StationNo} (h : (s.station st).holdoff ≠ none ∨ (s.station st).shown = none) :
    s.ackPressEntry st = none := by
  unfold State.ackPressEntry State.shownAlert
  obtain h | h := h
  · rw [if_pos (Option.isSome_iff_ne_none.2 h)]
  · rw [h]
    exact ite_self _

/-! ### CALL presses that merge or find the list full (R157, R159) -/

/-- A CALL press at an exhibit that takes it, judged by what becomes of its raise. -/
theorem judge_call {s : State} (b : ButtonNo) (x : Button) {e : ExhibitNo} (hoff : (s.exhibit e).state ≠ .off)
    (hlocked : (s.exhibit e).state ≠ .locked) :
    (s.setButton b x).judge (.call e) = { state := (s.setButton b x).raise (exhibitSource e) .visitorCall 0 1,
                                          effect := (s.setButton b x).raiseTakes (exhibitSource e) .visitorCall 1 } :=
  State.callPress_raises (s := s.setButton b x) hoff hlocked

/-- A CALL press merges into the entry it matches, and the lockout starts. -/
theorem exec_call_merges {s : State} {b : ButtonNo} {p : Instr} {x : Button} {e : ExhibitNo} {z : Alert} (h : s.GivesPress b p (.call e) x)
    (hrep : s.reports = []) (hlock : (s.button b).lockout = none) (hoff : (s.exhibit e).state ≠ .off)
    (hlocked : (s.exhibit e).state ≠ .locked) (hrun : s.part = .run) (hz : s.alertOf? (exhibitSource e) .visitorCall = some z) :
    ∃ t, exec p s = .next t ∧ s.OnlyButton t b x.lockedOut ∧
      t.alerts = (s.alerts.filter fun y => y.number != z.number) ++ [s.mergedAlert z 0 1] ∧
      (∀ k < 16384, NotOfAlerts k → t.word k = s.word k) ∧
      t = { s with buttons := t.buttons, alerts := t.alerts, stations := t.stations, channels := t.channels,
                   rewriteCount := t.rewriteCount, gallery := t.gallery, ram := t.ram } := by
  have hcase := State.raiseCase_merged (s := s.setButton b x) (src := exhibitSource e) (cause := .visitorCall) 1 hrun hz
  have hraise : (s.setButton b x).raise (exhibitSource e) .visitorCall 0 1 = (s.setButton b x).mergeRaise z 0 1 := by
    unfold State.raise
    rw [hcase]
  have hjudge := judge_call b x hoff hlocked
  have htakes : (s.setButton b x).raiseTakes (exhibitSource e) .visitorCall 1 = true := by
    unfold State.raiseTakes
    rw [hcase]
  obtain ⟨hform, hword⟩ := (s.setButton b x).raise_act (exhibitSource e) .visitorCall 0 1
  have hlist := State.mergeRaise_list (s.setButton b x) z 0 1
  have hnext := State.mergeRaise_nextNumber (s.setButton b x) z 0 1
  rw [htakes] at hjudge
  rw [← hraise] at hlist hnext
  generalize (s.setButton b x).raise (exhibitSource e) .visitorCall 0 1 = v at *
  rw [hnext] at hform
  obtain ⟨t, hexec, honly, ht⟩ := h.effective (by simp) hlock hjudge (by rw [hform]) (by rw [hform]; exact hrep)
  have halerts : t.alerts = v.alerts := by rw [ht]
  refine ⟨t, hexec, honly, halerts.trans hlist, fun k _ hk => ?_, ?_⟩
  · rw [show t.word k = v.word k by rw [ht]; rfl, hword k hk]
    rfl
  · rw [ht, hform]
    rfl

/-- A CALL press finds the list full: an overflow is counted, and no lockout starts. -/
theorem exec_call_overflows {s : State} {b : ButtonNo} {p : Instr} {x : Button} {e : ExhibitNo} (h : s.GivesPress b p (.call e) x)
    (hrep : s.reports = []) (hlock : (s.button b).lockout = none) (hoff : (s.exhibit e).state ≠ .off)
    (hlocked : (s.exhibit e).state ≠ .locked) (hrun : s.part = .run) (hnone : s.alertOf? (exhibitSource e) .visitorCall = none)
    (hlen : s.alerts.length = 32) : exec p s = .next (s.setButton b x).markOverflow := by
  have hcase := State.raiseCase_refused (s := s.setButton b x) (src := exhibitSource e) (cause := .visitorCall) (severity := 1) hrun hnone hlen
    (.inl (by omega))
  have hjudge := judge_call b x hoff hlocked
  obtain ⟨hraise, -⟩ := State.raise_refused 0 hcase
  have htakes : (s.setButton b x).raiseTakes (exhibitSource e) .visitorCall 1 = false := by
    unfold State.raiseTakes
    rw [hcase]
  rw [hraise, htakes] at hjudge
  rw [h.judged (by simp) hlock hjudge, State.settle_nil]
  exact hrep

/-! ### GROUP presses (R40) -/

/-- What an order of passes keeps, where each pass meets its number for the first time. -/
theorem forEach_progress {σ : Type} {n : Nat} {f : Fin n → σ → σ} (I : List (Fin n) → σ → Prop) {s : σ} (h0 : I [] s)
    (hstep : ∀ done i t, i ∉ done → I done t → I (done ++ [i]) (f i t)) : I (List.finRange n) (forEach n f s) := by
  have hfold : ∀ (l done : List (Fin n)) (t : σ), (done ++ l).Nodup → I done t → I (done ++ l) (l.foldl (fun t i => f i t) t) := by
    intro l
    induction l with
    | nil => intro done t _ h; simpa using h
    | cons i l ih =>
      intro done t hnodup h
      have hi : i ∉ done := fun hd => (List.nodup_append.1 hnodup).2.2 i hd i (by simp) rfl
      have := ih (done ++ [i]) (f i t) (by simpa using hnodup) (hstep done i t hi h)
      simpa using this
  exact hfold (List.finRange n) [] s (by simpa using List.nodup_finRange n) h0

/-- What a GROUP press that is not dropped makes of a member. -/
def State.MemberPressed (s t : State) (e : ExhibitNo) : Prop :=
  (s.GroupStarts e → (t.exhibit e).state = .running ∧ (t.exhibit e).accepted = min 65535 ((s.exhibit e).accepted + 1) ∧
    (t.exhibit e).ignored = (s.exhibit e).ignored ∧
    ∀ c ∈ (s.exhibit e).config, (t.slot e).WaitsTime c.defaultShow (s.storeWord (c.defaultShow + 1)).toNat) ∧
  (¬ s.GroupStarts e → t.exhibit e = { s.exhibit e with ignored := min 65535 ((s.exhibit e).ignored + 1) } ∧ t.slot e = s.slot e)

/-- The members of a group can start: those that would start have a default show that stands at a WAIT_TIME step. -/
def State.GroupReady (s : State) (g : Fin 8) : Prop :=
  ∀ e, s.isMember g e = true → s.GroupStarts e → ∃ c ∈ (s.exhibit e).config, s.TimeStepAt c.defaultShow (s.storeWord (c.defaultShow + 1)).toNat

/-- A GROUP press as far as it has come. -/
structure GroupJudged (s : State) (g : Fin 8) (done : List ExhibitNo) (j : Judged) : Prop where
  member : ∀ e ∈ done, s.isMember g e = true → s.MemberPressed j.state e
  others : ∀ e, e ∉ done ∨ s.isMember g e = false → j.state.exhibit e = s.exhibit e ∧ j.state.slot e = s.slot e
  word : ∀ k, (∀ e, OutsideExhibit e k) → j.state.word k = s.word k
  form : j.state = { s with exhibits := j.state.exhibits, slots := j.state.slots, channels := j.state.channels, ram := j.state.ram }
  effect : j.effect = true ↔ ∃ e ∈ done, s.isMember g e = true ∧ s.GroupStarts e

theorem State.countIgnored_to (s : State) (e : ExhibitNo) :
    ShowTo s (s.countIgnored e) e { s.exhibit e with ignored := min 65535 ((s.exhibit e).ignored + 1) } (s.slot e) (s.source e) noLamps :=
  s.putExhibit_to e _

/-- One member of a GROUP press. -/
theorem State.memberPress_spec {s : State} {e : ExhibitNo}
    (h : s.GroupStarts e → ∃ c ∈ (s.exhibit e).config, s.TimeStepAt c.defaultShow (s.storeWord (c.defaultShow + 1)).toNat) :
    ((s.memberPress e).effect = true ↔ s.GroupStarts e) ∧ s.MemberPressed (s.memberPress e).state e ∧
      ∃ x sl, ShowTo s (s.memberPress e).state e x sl (s.source e) anyLamp := by
  unfold State.memberPress
  simp only
  split
  · next hstarts =>
    obtain ⟨c, hc, htime⟩ := h hstarts
    have hto := State.startAccepted_to hc htime
    refine ⟨by simpa using hstarts, ⟨fun _ => ?_, fun hnot => absurd hstarts hnot⟩, _, _, hto⟩
    rw [hto.exhibit, hto.slot]
    refine ⟨rfl, rfl, rfl, fun c' hc' => ?_⟩
    obtain rfl := Option.some.inj (hc.symm.trans hc')
    exact Slot.waitingAt_waitsTime rfl _ _
  · next hnot =>
    have hto := s.countIgnored_to e
    exact ⟨by simpa [State.pressIgnored] using hnot, ⟨fun hstarts => absurd hstarts hnot, fun _ => ⟨hto.exhibit, hto.slot⟩⟩, _, _, hto.loose⟩

theorem GroupJudged.step {s : State} {g : Fin 8} {done : List ExhibitNo} {j : Judged} (hready : s.GroupReady g) (h : GroupJudged s g done j)
    {e : ExhibitNo} (he : e ∉ done) :
    GroupJudged s g (done ++ [e]) (if s.isMember g e then
      { state := (j.state.memberPress e).state, effect := j.effect || (j.state.memberPress e).effect } else j) := by
  obtain ⟨hexhibit, hslot⟩ := h.others e (.inl he)
  have hsplit : ∀ f, f ∈ done ++ [e] → f = e ∨ f ∈ done := fun f hf => by
    rw [List.mem_append, List.mem_singleton] at hf
    exact hf.symm
  by_cases hmember : s.isMember g e = true
  · rw [if_pos hmember]
    have hstop : j.state.stopInForce = s.stopInForce := by rw [h.form]
    have hstore : ∀ n, j.state.storeWord n = s.storeWord n := fun n =>
      h.word _ fun f => .inr (by simp only [addrExhibitImage, addrStore]; omega)
    have hstarts : j.state.GroupStarts e ↔ s.GroupStarts e := by unfold State.GroupStarts; rw [hexhibit, hstop]
    obtain ⟨heffect, hpressed, x, sl, hto⟩ := State.memberPress_spec (s := j.state) (e := e) fun hs => by
      obtain ⟨c, hc, htime⟩ := hready e hmember (hstarts.1 hs)
      exact ⟨c, by rw [hexhibit]; exact hc, by rw [hstore]; exact htime.of_store hstore⟩
    have hform := hto.form_shows
    generalize j.state.memberPress e = k at *
    refine ⟨fun f hf hm => ?_, fun f hf => ?_, fun n hn => ?_, ?_, ?_⟩
    · obtain rfl | hf := hsplit f hf
      · unfold State.MemberPressed at hpressed ⊢
        rw [hstarts, hexhibit, hslot] at hpressed
        simpa only [hstore] using hpressed
      · have hne : f ≠ e := fun hfe => he (hfe ▸ hf)
        obtain ⟨h1, h2, -⟩ := hto.others f hne
        have := h.member f hf hm
        unfold State.MemberPressed at this ⊢
        rwa [h1, h2]
    · have hne : f ≠ e := by
        rintro rfl
        exact hf.elim (fun hn => hn (by simp)) (fun hn => by simp [hn] at hmember)
      obtain ⟨h1, h2, -⟩ := hto.others f hne
      obtain ⟨k1, k2⟩ := h.others f (hf.imp_left fun hn hd => hn (by simp [hd]))
      exact ⟨h1.trans k1, h2.trans k2⟩
    · exact (hto.word n (hn e)).trans (h.word n hn)
    · rw [h.form] at hform
      exact hform
    · rw [Bool.or_eq_true, h.effect, heffect, hstarts]
      constructor
      · rintro (⟨f, hf, hm⟩ | hs)
        · exact ⟨f, by simp [hf], hm⟩
        · exact ⟨e, by simp, hmember, hs⟩
      · rintro ⟨f, hf, hm, hs⟩
        obtain rfl | hf := hsplit f hf
        · exact .inr hs
        · exact .inl ⟨f, hf, hm, hs⟩
  · rw [if_neg hmember]
    rw [Bool.not_eq_true] at hmember
    refine ⟨fun f hf hm => ?_, fun f hf => ?_, h.word, h.form, ?_⟩
    · obtain rfl | hf := hsplit f hf
      · simp [hmember] at hm
      · exact h.member f hf hm
    · exact h.others f (hf.imp_left fun hn hd => hn (by simp [hd]))
    · rw [h.effect]
      constructor
      · rintro ⟨f, hf, hm⟩
        exact ⟨f, by simp [hf], hm⟩
      · rintro ⟨f, hf, hm, hs⟩
        obtain rfl | hf := hsplit f hf
        · simp [hmember] at hm
        · exact ⟨f, hf, hm, hs⟩

/-- A GROUP press that is not dropped, every exhibit dealt with. -/
theorem State.groupPress_spec {s : State} {g : Fin 8} (hready : s.GroupReady g) : GroupJudged s g (List.finRange 48) (s.groupPress g) := by
  refine forEach_progress (GroupJudged s g) ⟨by simp, fun _ _ => ⟨rfl, rfl⟩, fun _ _ => rfl, rfl, by simp⟩ fun done e j he h => ?_
  exact h.step hready he

/-- A GROUP press dropped by the lockout, as far as it has come. -/
structure GroupDropped (s : State) (g : Fin 8) (done : List ExhibitNo) (t : State) : Prop where
  exhibit : ∀ e, t.exhibit e =
    if e ∈ done ∧ s.isMember g e = true then { s.exhibit e with ignored := min 65535 ((s.exhibit e).ignored + 1) } else s.exhibit e
  word : ∀ k, (∀ e, OutsideExhibit e k) → t.word k = s.word k
  form : t = { s with exhibits := t.exhibits, ram := t.ram }

theorem State.countDropped_group (s : State) (g : Fin 8) : GroupDropped s g (List.finRange 48) (s.countDropped (.group g)) := by
  refine forEach_progress (GroupDropped s g) ⟨by simp, fun _ _ => rfl, rfl⟩ fun done e t he h => ?_
  show GroupDropped s g (done ++ [e]) (if s.isMember g e = true then t.countIgnored e else t)
  have hexhibit : t.exhibit e = s.exhibit e := by rw [h.exhibit, if_neg fun hd => he hd.1]
  by_cases hmember : s.isMember g e = true
  · rw [if_pos hmember]
    have hto := t.countIgnored_to e
    have hform := hto.form_exhibits
    generalize t.countIgnored e = u at *
    refine ⟨fun f => ?_, fun k hk => (hto.word k (hk e)).trans (h.word k hk), ?_⟩
    · by_cases hf : f = e
      · subst hf
        rw [if_pos ⟨by simp, hmember⟩, hto.exhibit, hexhibit]
      · obtain ⟨h1, -, -⟩ := hto.others f hf
        rw [h1, h.exhibit]
        simp [hf]
    · rw [h.form] at hform
      exact hform
  · rw [if_neg hmember]
    refine ⟨fun f => ?_, h.word, h.form⟩
    rw [h.exhibit]
    by_cases hf : f = e
    · subst hf
      rw [if_neg (fun hd => hmember hd.2), if_neg (fun hd => hmember hd.2)]
    · simp [hf]

/-! ### The presses of the obligation -/

/-- A press whose judgement is an act on one exhibit without effect. -/
theorem exec_press_apart {s v : State} {b : ButtonNo} {p : Instr} {act : Action} {x : Button} {e : ExhibitNo} {y : Exhibit} {sl : Slot}
    {src : SourceRecord} {L : ChannelNo → Prop} (h : s.GivesPress b p act x) (hrep : s.reports = []) (hact : act ≠ .none)
    (hlock : (s.button b).lockout = none) (hj : (s.setButton b x).judge act = { state := v, effect := false })
    (hto : ShowTo (s.setButton b x) v e y sl src L) : exec p s = .next v ∧ s.OnlyButton v b x := by
  refine ⟨?_, (s.setButton_only b x).of_buttons hto.buttons⟩
  rw [h.judged hact hlock hj, State.settle_nil v (by rw [hto.reports]; exact hrep)]

/-- A press whose judgement is an act on one exhibit that takes effect. -/
theorem exec_press_taken {s v : State} {b : ButtonNo} {p : Instr} {act : Action} {x : Button} {e : ExhibitNo} {y : Exhibit} {sl : Slot}
    {src : SourceRecord} {L : ChannelNo → Prop} (h : s.GivesPress b p act x) (hrep : s.reports = []) (hact : act ≠ .none)
    (hlock : (s.button b).lockout = none) (hj : (s.setButton b x).judge act = { state := v, effect := true })
    (hto : ShowTo (s.setButton b x) v e y sl src L) :
    ∃ t, exec p s = .next t ∧ s.OnlyButton t b x.lockedOut ∧ t = { v with buttons := t.buttons } :=
  h.effective hact hlock hj hto.buttons (by rw [hto.reports]; exact hrep)

/-- A GROUP press outside the lockout. -/
theorem exec_group_press {s : State} {b : ButtonNo} {p : Instr} {x : Button} {g : Fin 8} (h : s.GivesPress b p (.group g) x)
    (hrep : s.reports = []) (hlock : (s.button b).lockout = none) (hready : s.GroupReady g) :
    ∃ t j, exec p s = .next t ∧ GroupJudged (s.setButton b x) g (List.finRange 48) j ∧
      s.OnlyButton t b (if ∃ e, s.isMember g e = true ∧ s.GroupStarts e then x.lockedOut else x) ∧ t = { j.state with buttons := t.buttons } := by
  have hspec := State.groupPress_spec (s := s.setButton b x) (g := g) hready
  have heffect := hspec.effect
  have hjudge : (s.setButton b x).judge (.group g) = (s.setButton b x).groupPress g := rfl
  generalize (s.setButton b x).groupPress g = j at *
  have hbuttons : j.state.buttons = (s.setButton b x).buttons := by rw [hspec.form]
  have hreports : j.state.reports = [] := by rw [hspec.form]; exact hrep
  by_cases hany : ∃ e, s.isMember g e = true ∧ s.GroupStarts e
  · obtain ⟨e, hmember, hstarts⟩ := id hany
    rw [if_pos hany]
    have htrue : j = { state := j.state, effect := true } := by rw [← heffect.2 ⟨e, List.mem_finRange e, hmember, hstarts⟩]
    obtain ⟨t, hexec, honly, ht⟩ := h.effective (by simp) hlock (hjudge.trans htrue) hbuttons hreports
    exact ⟨t, j, hexec, hspec, honly, ht⟩
  · rw [if_neg hany]
    have hfalse : j = { state := j.state, effect := false } := by
      rw [← Bool.eq_false_iff.2 fun hj => hany (by obtain ⟨e, -, he⟩ := heffect.1 hj; exact ⟨e, he⟩)]
    refine ⟨j.state, j, ?_, hspec, (s.setButton_only b x).of_buttons hbuttons, rfl⟩
    rw [h.judged (by simp) hlock (hjudge.trans hfalse), State.settle_nil _ hreports]

/-- Settles O43. -/
theorem startPressJudged : Obligations.StartPressJudged := by
  refine ⟨fun s b p x e c d hpress hrep hc => ⟨fun hno => ?_, fun hlock hstop hguard hst hp => ?_, fun hlock hstop hguard hst htime => ?_,
      fun a _ hlock hstop hguard hst hawaits hfrozen hcur htime => ?_⟩,
    fun s b p x e hpress hrep hoff => ?_, fun s b p x g hpress hrep => ⟨fun hlock hready => ?_, fun hlock => ?_⟩,
    fun s b p x e hpress hrep => ⟨fun hno => ?_, fun hlock hoff hlocked hrun => ⟨fun hnone hlen => ?_, fun z hz hlaw => ?_,
      fun hnone hlen => ?_⟩⟩,
    fun s b p x st hpress hrep => ⟨fun hno => ?_, fun y hy hlock hhold hshown hnodup => ?_⟩⟩
  · exact exec_press_ignored hpress hrep (by simp) rfl (hno.imp_right fun h => State.startPress_ignored (s := s.setButton b x) hc h)
  · have hto := (s.setButton b x).encoreAccepted_to e
    obtain ⟨t, hexec, honly, ht⟩ := exec_press_taken hpress hrep (by simp) hlock
      ((State.startPress_policy (s := s.setButton b x) hstop hguard hst).trans (State.encorePress_encore hc hp)) hto
    have hform := hto.form_exhibits
    generalize ((s.setButton b x).putExhibit e { (s.setButton b x).exhibit e with encore := true }).countAccepted e = v at *
    have hte : ∀ f, t.exhibit f = v.exhibit f := fun f => by rw [ht]; rfl
    refine ⟨t, hexec, honly, (hte e).trans hto.exhibit, fun f hf => (hte f).trans (hto.others f hf).1, fun k _ hk => ?_, ?_⟩
    · rw [show t.word k = v.word k by rw [ht]; rfl, hto.word k hk]
      rfl
    · rw [ht, hform]
      rfl
  · have hto := State.startAccepted_to (s := s.setButton b x) hc htime
    obtain ⟨t, hexec, honly, ht⟩ := exec_press_taken hpress hrep (by simp) hlock
      (State.startPress_ready (s := s.setButton b x) hstop hguard hst) hto
    have hform := hto.form_shows
    generalize ((s.setButton b x).countAccepted e).startDefault e = v at *
    have hte : ∀ f, t.exhibit f = v.exhibit f := fun f => by rw [ht]; rfl
    have hts : ∀ f, t.slot f = v.slot f := fun f => by rw [ht]; rfl
    have htr : ∀ f, t.source f = v.source f := fun f => by rw [ht]; rfl
    refine ⟨t, hexec, honly, ?_, ?_, ?_, ?_, fun f hf => ?_, fun k _ hk => ?_, ?_⟩
    · rw [hte, hto.exhibit]; rfl
    · rw [hte, hto.exhibit]; rfl
    · rw [hte, hto.exhibit]; rfl
    · rw [hts, hto.slot]; exact Slot.waitingAt_waitsTime rfl _ _
    · rw [hte, hts, htr]; exact hto.others f hf
    · rw [show t.word k = v.word k by rw [ht]; rfl, hto.word k hk]
      rfl
    · rw [ht, hform]
      rfl
  · have hto := State.pressCompletes_to (s := s.setButton b x) (e := e) hawaits hcur htime
    obtain ⟨hexec, honly⟩ := exec_press_apart hpress hrep (by simp) hlock
      (State.startPress_completes (s := s.setButton b x) hstop hguard hst hawaits) hto
    have hform := hto.form_shows
    rw [hto.channels_eq] at hform
    refine ⟨_, hexec, honly, hto.exhibit, ?_, hto.others, fun k _ hk => hto.word k hk, hform.trans ?_⟩
    · rw [hto.slot]; exact Slot.waitingAt_waitsTime hfrozen _ _
    · rw [show (((s.setButton b x).countAccepted e).completeWait e).buttons = (s.setButton b x).buttons from hto.buttons]
      rfl
  · exact exec_press_ignored hpress hrep (by simp) rfl (.inr (State.startPress_off (s := s.setButton b x) hoff))
  · obtain ⟨t, j, hexec, hspec, honly, ht⟩ := exec_group_press hpress hrep hlock hready
    have hte : ∀ f, t.exhibit f = j.state.exhibit f := fun f => by rw [ht]; rfl
    have hts : ∀ f, t.slot f = j.state.slot f := fun f => by rw [ht]; rfl
    refine ⟨t, hexec, honly, fun e hm hs => ?_, fun e hm hs => ?_, fun e hm => ?_, fun k _ hk => ?_, ?_⟩
    · rw [hte, hts]
      exact (hspec.member e (List.mem_finRange e) hm).1 hs
    · rw [hte, hts]
      exact (hspec.member e (List.mem_finRange e) hm).2 hs
    · rw [hte, hts]
      exact hspec.others e (.inr hm)
    · rw [show t.word k = j.state.word k by rw [ht]; rfl, hspec.word k hk]
      rfl
    · rw [ht, hspec.form]
      rfl
  · have hspec := (s.setButton b x).countDropped_group g
    have hexec := hpress.dropped (by simp) hlock
    generalize (s.setButton b x).countDropped (.group g) = v at *
    rw [State.settle_nil v (by rw [hspec.form]; exact hrep)] at hexec
    refine ⟨v, hexec, (s.setButton_only b x).of_buttons (by rw [hspec.form]), fun e => ?_, fun k _ hk => hspec.word k hk, ?_⟩
    · rw [hspec.exhibit]
      simp only [List.mem_finRange, true_and]
      rfl
    · rw [hspec.form]
      rfl
  · exact exec_call_ignored hpress hrep hno
  · obtain ⟨t, hexec, honly, halerts, hword, hform⟩ := exec_call_enters hpress hrep hlock hoff hlocked hrun hnone hlen
    obtain ⟨-, hsrc, hcause, hcode, hsev, hacked, hrepeats, -, -, -, hstation⟩ :=
      s.enteredAlert_spec s.alerts (exhibitSource e) .visitorCall 0 1
    refine ⟨t, hexec, honly, by rw [halerts]; simp, by rw [halerts]; simp, fun y hy => ?_, hword, hform⟩
    obtain rfl : s.enteredAlert s.alerts (exhibitSource e) .visitorCall 0 1 = y := by simpa [halerts] using hy
    exact ⟨hsrc, hcause, hsev, hcode, hacked, hrepeats, hstation⟩
  · obtain ⟨t, hexec, honly, halerts, hword, hform⟩ := exec_call_merges hpress hrep hlock hoff hlocked hrun hz
    obtain ⟨hnum, hsrc, hcause, hcode, hsev, hacked, hrepeats, hesc, hage, -, hstation⟩ := s.mergedAlert_spec z 0 1
    obtain ⟨hmem, hzsrc, hzcause⟩ := State.alertOf?_some hz
    refine ⟨t, hexec, honly, ?_, by rw [halerts]; simp, fun y hy => ?_, hword, hform⟩
    · rw [halerts, List.length_append, List.length_singleton, length_filter_number hlaw.2.1 hmem]
    · obtain rfl : s.mergedAlert z 0 1 = y := by simpa [halerts] using hy
      exact ⟨hnum, hsrc.trans hzsrc, hcause.trans hzcause, hsev, hcode, hacked, hrepeats, hesc, hage, by rw [hstation, hzsrc]⟩
  · refine ⟨_, exec_call_overflows hpress hrep hlock hoff hlocked hrun hnone hlen, s.setButton_only b x, rfl, rfl⟩
  · refine ⟨s.setButton b x, ?_, s.setButton_only b x, rfl⟩
    by_cases hlock : (s.button b).lockout = none
    · have hentry := State.ackPressEntry_none (s := s.setButton b x) (st := st) (hno.resolve_left fun h => h hlock)
      have hjudge : (s.setButton b x).judge (.ack st) = { state := s.setButton b x, effect := false } := by
        show (s.setButton b x).ackPress st = _
        unfold State.ackPress
        rw [hentry]
      rw [hpress.judged (by simp) hlock hjudge, State.settle_nil]
      exact hrep
    · rw [hpress.dropped (by simp) hlock]
      exact congrArg Host.Outcome.next (State.settle_nil (s.setButton b x) hrep)
  · have hentry := State.ackPressEntry_shown (s := s.setButton b x) hy hhold hshown hnodup
    have hjudge : (s.setButton b x).judge (.ack st) = { state := (s.setButton b x).acknowledge y, effect := true } := by
      show (s.setButton b x).ackPress st = _
      unfold State.ackPress
      rw [hentry]
    have hform := (s.setButton b x).acknowledge_form y
    have hword := ((s.setButton b x).acknowledge_act y).2
    have hunshown := State.acknowledge_unshown (s := s.setButton b x) hy st
    obtain ⟨-, hchanged, -⟩ := (s.setButton b x).acknowledge_selectsAt y st
    have hremoved := State.acknowledge_removed (s := s.setButton b x) (x := y)
    have hacked := State.acknowledge_acked (s := s.setButton b x) (x := y)
    generalize (s.setButton b x).acknowledge y = v at *
    obtain ⟨t, hexec, honly, ht⟩ := hpress.effective (by simp) hlock hjudge (by rw [hform]) (by rw [hform]; exact hrep)
    have halerts : t.alerts = v.alerts := by rw [ht]
    have hstation : t.station st = v.station st := by rw [ht]; rfl
    refine ⟨t, hexec, honly, fun h => halerts.trans (hremoved h), fun h => halerts.trans (hacked h), ?_, ?_, fun k _ hk => ?_, ?_⟩
    · rw [hstation]; exact hunshown
    · rw [hstation]
      exact (hchanged (.inl fun he => hunshown (he.trans hshown))).1
    · rw [show t.word k = v.word k by rw [ht]; rfl, hword k hk]
      rfl
    · rw [ht, hform]
      rfl

end Sys2Proof.Machine
end

section
/-! What an act that deals with several axes one after another leaves (R17, R69, R74, R129, R136). -/

namespace Sys2Proof.Machine

/-! ### What is done to each axis -/

/-- What an act does to an axis by what it finds there: whether it moves the axis to another state or position, what it makes of one it
does and of one it does not so touch, whether it may cross marks and how many at most, whether the units of the axis go back, and whether
the axis leaves the wait list. -/
structure AxisDeal where
  touches : Axis → Bool
  result : Axis → Axis
  idle : Axis → Axis
  crosses : Axis → Bool
  returns : Axis → Bool
  leaves : Axis → Bool
  most : Nat

/-- The pool after the act on one axis. -/
def AxisDeal.pool (D : AxisDeal) (p : Pool) (a : AxisNo) (x : Axis) : Pool :=
  if D.returns x then p.returned a else if D.leaves x then p.left a else p

/-- The operation does so to one axis. -/
structure AxisDeal.Does (D : AxisDeal) (f : State → AxisNo → State) : Prop where
  touched : ∀ s a, D.touches (s.axis a) = true → AxisTo s (f s a) a (D.result (s.axis a)) (D.pool s.pool a (s.axis a))
    (if D.crosses (s.axis a) then D.most else 0)
  untouched : ∀ s a, D.touches (s.axis a) = false → f s a = s.setAxis a (D.idle (s.axis a))
  calm : ∀ x, D.touches x = false → D.crosses x = false ∧ D.returns x = false ∧ D.leaves x = false
  apart : ∀ x, D.returns x = true → D.leaves x = false

/-- Done again, it changes nothing. -/
structure AxisDeal.Stable (D : AxisDeal) : Prop where
  touched : ∀ x y : Axis, D.touches x = true → y.Matches (D.result x) →
    D.crosses y = false ∧ D.returns y = false ∧ D.leaves y = false ∧
      ((D.touches y = false ∧ D.idle y = y) ∨ (D.touches y = true ∧ (D.result y).Matches (D.result x)))
  untouched : ∀ x, D.touches x = false → D.touches (D.idle x) = false ∧ D.idle (D.idle x) = D.idle x

/-- Nothing has changed but the axes of `d`, each dealt with, with their images, the pool with them, and crossings of them reported. -/
structure AxesTo (s t : State) (D : AxisDeal) (d : List AxisNo) : Prop where
  touched : ∀ a ∈ d, D.touches (s.axis a) = true → (t.axis a).Matches (D.result (s.axis a))
  untouched : ∀ a ∈ d, D.touches (s.axis a) = false → t.axis a = D.idle (s.axis a)
  others : ∀ a, a ∉ d → t.axis a = s.axis a
  word : ∀ k, (∀ a ∈ d, D.touches (s.axis a) = true → OutsideAxis a k) → t.word k = s.word k
  waiting : t.pool.waiting = s.pool.waiting.filter fun w => !(d.contains w.axis && D.leaves (s.axis w.axis))
  held : ∀ a, tget t.pool.held a = if a ∈ d ∧ D.returns (s.axis a) = true then 0 else tget s.pool.held a
  units : t.pool.free + t.unitsHeld = s.pool.free + s.unitsHeld
  reports : ∃ rs : List Report, t.reports = s.reports ++ rs ∧ rs.length ≤ D.most * d.length ∧
    ∀ r ∈ rs, ∃ a ∈ d, D.crosses (s.axis a) = true ∧ ∃ m up, r = .crossing a m up
  form : t = { s with axes := t.axes, pool := t.pool, ram := t.ram, reports := t.reports }

theorem AxisDeal.Does.pool_waiting {D : AxisDeal} {f : State → AxisNo → State} (hd : D.Does f) (p : Pool) (a : AxisNo) (x : Axis) :
    (D.pool p a x).waiting = p.waiting.filter fun w => !(w.axis == a && D.leaves x) := by
  unfold AxisDeal.pool
  split
  · next h => simp [Pool.returned_waiting, hd.apart x h]
  · split
    · next h => simp [Pool.left, h, bne]
    · next h => simp [h]

theorem AxisDeal.pool_held (D : AxisDeal) (p : Pool) (a b : AxisNo) (x : Axis) :
    tget (D.pool p a x).held b = if b = a ∧ D.returns x = true then 0 else tget p.held b := by
  unfold AxisDeal.pool
  by_cases hr : D.returns x = true
  · rw [if_pos hr]
    by_cases hb : b = a
    · rw [if_pos ⟨hb, hr⟩, hb, Pool.returned_held]
    · rw [if_neg fun h => hb h.1, Pool.returned_held_ne p hb]
  · rw [if_neg hr, if_neg (c := b = a ∧ D.returns x = true) fun h => hr h.2]
    split <;> rfl

theorem Pool.units_returned (p : Pool) (a : AxisNo) : (p.returned a).free + (p.returned a).held.toList.sum = p.free + p.held.toList.sum := by
  have := sum_tset p.held a 0
  show p.free + tget p.held a + (tset p.held a 0).toList.sum = _
  omega

theorem AxisDeal.pool_units (D : AxisDeal) (p : Pool) (a : AxisNo) (x : Axis) :
    (D.pool p a x).free + (D.pool p a x).held.toList.sum = p.free + p.held.toList.sum := by
  unfold AxisDeal.pool
  split
  · exact p.units_returned a
  · split <;> rfl

/-- What the operation on one axis leaves, touched or not. -/
theorem AxisDeal.Does.op {D : AxisDeal} {f : State → AxisNo → State} (hd : D.Does f) (t : State) (a : AxisNo) :
    (∀ b, b ≠ a → (f t a).axis b = t.axis b) ∧ (∀ k, (D.touches (t.axis a) = true → OutsideAxis a k) → (f t a).word k = t.word k) ∧
      (f t a).pool = D.pool t.pool a (t.axis a) ∧
      (∃ rs : List Report, (f t a).reports = t.reports ++ rs ∧ rs.length ≤ D.most ∧
        ∀ r ∈ rs, D.crosses (t.axis a) = true ∧ ∃ m up, r = .crossing a m up) ∧
      f t a = { t with axes := (f t a).axes, pool := (f t a).pool, ram := (f t a).ram, reports := (f t a).reports } := by
  by_cases hx : D.touches (t.axis a) = true
  · have hto := hd.touched t a hx
    obtain ⟨rs, hrs, hn, hr⟩ := hto.reports
    refine ⟨hto.others, fun k hk => hto.word k (hk hx), hto.pool, ⟨rs, hrs, ?_, fun r hmem => ⟨?_, hr r hmem⟩⟩, hto.form⟩
    · split at hn <;> omega
    · by_contra hc
      rw [if_neg hc, Nat.le_zero, List.length_eq_zero_iff] at hn
      simp [hn] at hmem
  · rw [Bool.not_eq_true] at hx
    obtain ⟨-, hreturns, hleaves⟩ := hd.calm _ hx
    rw [hd.untouched t a hx]
    refine ⟨fun b hb => by rw [State.setAxis_axis, if_neg hb.symm], fun _ _ => rfl, ?_, ⟨[], by simp [State.setAxis], by simp, by simp⟩, rfl⟩
    unfold AxisDeal.pool
    rw [hreturns, hleaves]
    rfl

namespace AxesTo

theorem nil (s : State) (D : AxisDeal) : AxesTo s s D [] where
  touched a ha := absurd ha (by simp)
  untouched a ha := absurd ha (by simp)
  others _ _ := rfl
  word _ _ := rfl
  waiting := by simp
  held a := by simp
  units := rfl
  reports := ⟨[], by simp, by simp, by simp⟩
  form := rfl

variable {s t : State} {D : AxisDeal} {d : List AxisNo}

theorem axis_again {f : State → AxisNo → State} (h : AxesTo s t D d) (hd : D.Does f) (hs : D.Stable) {a : AxisNo} (ha : a ∈ d) :
    (D.touches (s.axis a) = true → (((f t a).axis a)).Matches (D.result (s.axis a))) ∧
      (D.touches (s.axis a) = false → (f t a).axis a = D.idle (s.axis a)) ∧
      (D.touches (t.axis a) = true → D.touches (s.axis a) = true) ∧ D.crosses (t.axis a) = false ∧ D.returns (t.axis a) = false ∧
      D.leaves (t.axis a) = false := by
  by_cases hx : D.touches (s.axis a) = true
  · obtain ⟨hcrosses, hreturns, hleaves, hagain⟩ := hs.touched _ _ hx (h.touched a ha hx)
    refine ⟨fun _ => ?_, fun hn => by simp [hx] at hn, fun _ => hx, hcrosses, hreturns, hleaves⟩
    obtain ⟨hy, hidle⟩ | ⟨hy, hresult⟩ := hagain
    · rw [hd.untouched t a hy, State.setAxis_axis, if_pos rfl, hidle]
      exact h.touched a ha hx
    · exact (hd.touched t a hy).axis.trans hresult
  · rw [Bool.not_eq_true] at hx
    have hta := h.untouched a ha hx
    obtain ⟨hy, hidle⟩ := hs.untouched _ hx
    rw [← hta] at hy hidle
    obtain ⟨hcrosses, hreturns, hleaves⟩ := hd.calm _ hy
    refine ⟨fun hn => by simp [hx] at hn, fun _ => ?_, fun hn => by simp [hy] at hn, hcrosses, hreturns, hleaves⟩
    rw [hd.untouched t a hy, State.setAxis_axis, if_pos rfl, hta]
    rwa [hta] at hidle

/-- What the next axis becomes, met for the first time or again. -/
theorem axis_next {f : State → AxisNo → State} (h : AxesTo s t D d) (hd : D.Does f) {a : AxisNo} (hs : a ∉ d ∨ D.Stable) :
    (D.touches (s.axis a) = true → (((f t a).axis a)).Matches (D.result (s.axis a))) ∧
      (D.touches (s.axis a) = false → (f t a).axis a = D.idle (s.axis a)) ∧
      (D.touches (t.axis a) = true → D.touches (s.axis a) = true) ∧
      (t.axis a = s.axis a ∨ (a ∈ d ∧ D.crosses (t.axis a) = false ∧ D.returns (t.axis a) = false ∧ D.leaves (t.axis a) = false)) := by
  by_cases ha : a ∈ d
  · obtain ⟨h1, h2, h4, h3⟩ := h.axis_again hd (hs.resolve_left fun hn => hn ha) ha
    exact ⟨h1, h2, h4, .inr ⟨ha, h3⟩⟩
  · have hta := h.others a ha
    refine ⟨fun hx => ?_, fun hx => ?_, by rw [hta]; exact id, .inl hta⟩
    · have := (hd.touched t a (by rw [hta]; exact hx)).axis
      rwa [hta] at this
    · rw [hd.untouched t a (by rw [hta]; exact hx), State.setAxis_axis, if_pos rfl, hta]


/-- One axis more is dealt with, for the first time or again. -/
theorem step {f : State → AxisNo → State} (h : AxesTo s t D d) (hd : D.Does f) {a : AxisNo} (hs : a ∉ d ∨ D.Stable) :
    AxesTo s (f t a) D (d ++ [a]) := by
  obtain ⟨htouched, huntouched, hagain, hfirst⟩ := h.axis_next hd hs
  obtain ⟨hothers, hword, hpool, ⟨rs, hrs, hn, hr⟩, hform⟩ := hd.op t a
  obtain ⟨qs, hqs, hm, hq⟩ := h.reports
  have hsplit : ∀ b, b ∈ d ++ [a] → b = a ∨ (b ≠ a ∧ b ∈ d) := fun b hb => by
    by_cases hba : b = a
    · exact .inl hba
    · exact .inr ⟨hba, by simpa [hba] using hb⟩
  generalize f t a = u at *
  refine ⟨fun b hb hx => ?_, fun b hb hx => ?_, fun b hb => ?_, fun k hk => ?_, ?_, fun b => ?_, ?_, ⟨qs ++ rs, ?_, ?_, ?_⟩, ?_⟩
  · obtain rfl | ⟨hne, hbd⟩ := hsplit b hb
    · exact htouched hx
    · rw [hothers b hne]
      exact h.touched b hbd hx
  · obtain rfl | ⟨hne, hbd⟩ := hsplit b hb
    · exact huntouched hx
    · rw [hothers b hne]
      exact h.untouched b hbd hx
  · rw [List.mem_append, List.mem_singleton, not_or] at hb
    rw [hothers b hb.2, h.others b hb.1]
  · rw [hword k fun hx => hk a (by simp) (hagain hx), h.word k fun b hb => hk b (by simp [hb])]
  · rw [hpool, hd.pool_waiting, h.waiting, List.filter_filter]
    refine List.filter_congr fun w _ => ?_
    by_cases hw : w.axis = a
    · obtain hta | ⟨had, -, -, hleaves⟩ := hfirst
      · simp only [hw, hta, beq_self_eq_true, List.contains_eq_mem, List.mem_append, List.mem_singleton, or_true, decide_true, Bool.true_and]
        by_cases hl : D.leaves (s.axis a) = true <;> simp [hl]
      · simp [hw, had, hleaves]
    · simp [hw]
  · rw [hpool, D.pool_held, h.held]
    by_cases hb : b = a
    · subst hb
      obtain hta | ⟨had, -, hreturns, -⟩ := hfirst
      · rw [hta]
        by_cases hr : D.returns (s.axis b) = true <;> simp [hr]
      · simp [had, hreturns]
    · simp [hb]
  · have := D.pool_units t.pool a (t.axis a)
    rw [← hpool] at this
    exact this.trans h.units
  · rw [hrs, hqs, List.append_assoc]
  · rw [List.length_append, List.length_append, List.length_singleton, Nat.mul_add, Nat.mul_one]
    omega
  · intro r hmem
    rw [List.mem_append] at hmem
    obtain hmem | hmem := hmem
    · obtain ⟨b, hb, hcross⟩ := hq r hmem
      exact ⟨b, by simp [hb], hcross⟩
    · obtain ⟨hcross, hr⟩ := hr r hmem
      obtain hta | ⟨-, hno, -⟩ := hfirst
      · exact ⟨a, by simp, hta ▸ hcross, hr⟩
      · simp [hno] at hcross
  · rw [h.form] at hform
    exact hform

/-- A list of axes is dealt with in order. -/
theorem foldl {f : State → AxisNo → State} (hd : D.Does f) (s : State) {l : List AxisNo} (hs : l.Nodup ∨ D.Stable) :
    AxesTo s (l.foldl f s) D l := by
  have hfold : ∀ (l d : List AxisNo) (t : State), (d ++ l).Nodup ∨ D.Stable → AxesTo s t D d → AxesTo s (l.foldl f t) D (d ++ l) := by
    intro l
    induction l with
    | nil => intro d t _ h; simpa using h
    | cons a l ih =>
      intro d t hs h
      have := ih (d ++ [a]) (f t a) (by simpa using hs)
        (h.step hd (hs.imp_left fun hn hd => (List.nodup_append.1 hn).2.2 a hd a (by simp) rfl))
      simpa using this
  simpa using hfold l [] s (by simpa using hs) (nil s D)

end AxesTo

end Sys2Proof.Machine
end

section
/-! LOCK, UNLOCK, START SHOW and RESUME (R14, R15, R72, R73): O32; the rules the orders on exhibits share. -/

namespace Sys2Proof.Machine

/-! ### A taken order whose acts are known -/

/-- A taken order: the answer, and the effect with every report taken. -/
theorem RowOf.taken_effect {s u v : State} {code w1 w2 d : Nat} {r : Result} {owner : Word → Word → State → Answer} (hrow : RowOf code owner)
    (h : s.AtCell code w1 w2) (hp : s.part = .run) (hd : d < 65536)
    (ho : ∀ v1 v2 : Word, v1.toNat = w1 → v2.toNat = w2 → owner v1 v2 s = u.answer r d) (hacts : ∀ v1 v2, (owner v1 v2 s).ActsFrom s)
    (hv : u.settle = v) :
    ∃ t, exec (orderRow code) s = .next t ∧ s.Answered t code r.code d ∧ (∀ k, k < 16384 → s.NotOfCell k → t.word k = v.word k) ∧
      t = { v with ram := t.ram, deck := t.deck, attn := t.attn } := by
  obtain ⟨-, -, -, h1, h2, -⟩ := id h
  have hsettled := (hacts (s.word (addrCell s.deck.position + 1)) (s.word (addrCell s.deck.position + 2))).settled
  rw [ho _ _ h1 h2] at hsettled
  have hacted : Acts s v := hv ▸ hsettled
  exact hrow.taken h hp hd ho hv hacted.keepsDesk hacted.keepsPort.deck

/-! ### Resume records (R132) -/

/-- The dropping of a resume record. -/
def dropDeal : AxisDeal where
  touches _ := false
  result x := x
  idle x := { x with resume := none }
  crosses _ := false
  returns _ := false
  leaves _ := false
  most := 4

theorem dropDeal_does : dropDeal.Does State.dropResume where
  touched _ _ h := absurd h Bool.false_ne_true
  untouched _ _ _ := rfl
  calm _ _ := ⟨rfl, rfl, rfl⟩
  apart _ h := absurd h Bool.false_ne_true

theorem dropDeal_stable : dropDeal.Stable where
  touched _ _ h := absurd h Bool.false_ne_true
  untouched _ _ := ⟨rfl, rfl⟩

/-- The resume records of the bound axes are gone, and nothing else is changed. -/
theorem State.discardResume_spec (s : State) (e : ExhibitNo) :
    s.OnlyResumeDropped (s.discardResume e) (s.boundAxes e) ∧ s.discardResume e = { s with axes := (s.discardResume e).axes } := by
  have hto := AxesTo.foldl dropDeal_does s (.inr dropDeal_stable) (l := s.boundAxes e)
  refine ⟨fun a => ?_, foldl_invariant (fun t : State => t = { s with axes := t.axes }) _ (fun t a h => ?_) _ _ rfl⟩
  · split
    · next ha => exact hto.untouched a ha rfl
    · next ha => exact hto.others a ha
  · unfold State.dropResume State.setAxis
    rw [h]

/-! ### The bound axes as HALT, CANCEL and a show fault deal with them (R69, R74) -/

/-- An axis without its pending request. -/
def Axis.unasked (x : Axis) : Axis := { x with request := none }

/-- An axis that HALT, CANCEL or a show fault has dealt with. -/
def Axis.halted (x : Axis) : Axis :=
  match x.state with
  | .moving => x.enterStopping none
  | .stopping => x.unasked
  | .homing => x.enterUnhomed.movedTo x.encoder
  | .awaitPower => x.unqueued
  | .off | .unhomed | .idle | .faulted => x

/-- What HALT, CANCEL and a show fault do to each bound axis. -/
def haltDeal : AxisDeal where
  touches x := x.state.busy
  result := Axis.halted
  idle x := x
  crosses x := x.state == .homing || x.state == .awaitPower
  returns x := x.state == .homing
  leaves x := x.state == .awaitPower
  most := 4

theorem AxisState.busy_cases {st : AxisState} (h : st.busy = true) : st = .moving ∨ st = .stopping ∨ st = .homing ∨ st = .awaitPower := by
  cases st <;> simp_all [AxisState.busy]

theorem State.setAxis_self (s : State) (a : AxisNo) : s.setAxis a (s.axis a) = s := by
  unfold State.setAxis State.axis
  rw [tset_tget_self]

theorem State.haltAxis_resting {s : State} {a : AxisNo} (h : (s.axis a).state.busy = false) : s.haltAxis a = s := by
  unfold State.haltAxis
  split
  case h_1 hst | h_2 hst | h_3 hst | h_4 hst => rw [hst] at h; exact absurd h (by decide)
  all_goals rfl

theorem haltDeal_does : haltDeal.Does State.haltAxis where
  touched s a h := by
    obtain hst | hst | hst | hst := AxisState.busy_cases h
    · simpa [haltDeal, Axis.halted, AxisDeal.pool, hst] using State.haltAxis_moving_to hst
    · simpa [haltDeal, Axis.halted, AxisDeal.pool, hst, Axis.unasked] using State.haltAxis_stopping_to hst
    · have hhalt : s.haltAxis a = s.quickStop a := by unfold State.haltAxis; rw [hst]
      simpa [haltDeal, Axis.halted, AxisDeal.pool, hst, hhalt] using State.quickStop_homing_to hst
    · have hhalt : s.haltAxis a = s.leaveAwait a := by unfold State.haltAxis; rw [hst]
      simpa [haltDeal, Axis.halted, AxisDeal.pool, hst, hhalt] using s.leaveAwait_to a
  untouched s a h := (State.haltAxis_resting h).trans (s.setAxis_self a).symm
  calm x h := by
    have h : x.state.busy = false := h
    have hhoming : x.state ≠ .homing := fun hx => by rw [hx] at h; exact absurd h (by decide)
    have hawait : x.state ≠ .awaitPower := fun hx => by rw [hx] at h; exact absurd h (by decide)
    simp [haltDeal, hhoming, hawait]
  apart x h := by
    have hst : x.state = .homing := by simpa [haltDeal] using h
    simp [haltDeal, hst]

/-- A halted axis is STOPPING without a pending request, or at rest. -/
theorem Axis.halted_state {x : Axis} (h : x.state.busy = true) :
    (x.halted.state = .stopping ∧ x.halted.request = none) ∨ x.halted.state.busy = false := by
  unfold Axis.halted
  obtain hst | hst | hst | hst := AxisState.busy_cases h
  · rw [hst]; exact .inl ⟨rfl, rfl⟩
  · rw [hst]; exact .inl ⟨hst, rfl⟩
  · rw [hst]; exact .inr rfl
  · rw [hst]
    refine .inr ?_
    rw [x.unqueued_spec.1]
    split <;> rfl

theorem Axis.Matches.state {x y : Axis} (h : x.Matches y) : x.state = y.state := by rw [h]

theorem haltDeal_stable : haltDeal.Stable where
  touched x y hx hy := by
    have hstate : y.state = x.halted.state := hy.state
    have hreq : y.request = x.halted.request := by rw [hy]; rfl
    obtain ⟨hstop, hnone⟩ | hrest := Axis.halted_state hx
    · rw [hstop] at hstate
      rw [hnone] at hreq
      refine ⟨by simp [haltDeal, hstate], by simp [haltDeal, hstate], by simp [haltDeal, hstate], .inr ⟨by simp [haltDeal, hstate, AxisState.busy], ?_⟩⟩
      have hself : haltDeal.result y = y := by
        show y.halted = y
        unfold Axis.halted
        rw [hstate]
        show { y with request := none } = y
        rw [← hreq]
      rw [hself]
      exact hy
    · rw [← hstate] at hrest
      obtain ⟨h1, h2, h3⟩ := haltDeal_does.calm y hrest
      exact ⟨h1, h2, h3, .inl ⟨hrest, rfl⟩⟩
  untouched x hx := ⟨hx, rfl⟩

/-- Nobody else waits for power: the wait list holds bound axes of the exhibit only, all in AWAIT_POWER. -/
abbrev State.WaitsOnly (s : State) (e : ExhibitNo) : Prop := ∀ w ∈ s.pool.waiting, w.axis ∈ s.boundAxes e ∧ (s.axis w.axis).state = .awaitPower

/-- A grant scan with an empty wait list. -/
theorem State.grantScan_empty {s : State} (h : s.pool.waiting = []) : s.grantScan = s := by
  unfold State.grantScan
  rw [h]
  rfl

/-- The bound axes are halted, and the wait list is empty then. -/
theorem State.haltAxes_to {s : State} {e : ExhibitNo} (h : s.WaitsOnly e) :
    AxesTo s (s.haltAxes e) haltDeal (s.boundAxes e) ∧ (s.haltAxes e).pool.waiting = [] := by
  have hto := AxesTo.foldl haltDeal_does s (.inr haltDeal_stable) (l := s.boundAxes e)
  have hempty : ((s.boundAxes e).foldl State.haltAxis s).pool.waiting = [] := by
    rw [hto.waiting, List.filter_eq_nil_iff]
    intro w hw
    obtain ⟨hmem, hst⟩ := h w hw
    simp [haltDeal, hmem, hst]
  unfold State.haltAxes
  rw [State.grantScan_empty hempty]
  exact ⟨hto, hempty⟩

/-- With the bound axes at rest nothing is to be done. -/
theorem State.haltAxes_calm {s : State} {e : ExhibitNo} (hbusy : s.someAxisBusy e = false) (hwait : s.pool.waiting = []) : s.haltAxes e = s := by
  unfold State.haltAxes
  have hfold : (s.boundAxes e).foldl State.haltAxis s = s := by
    unfold State.someAxisBusy at hbusy
    rw [List.any_eq_false] at hbusy
    generalize s.boundAxes e = l at hbusy ⊢
    induction l with
    | nil => rfl
    | cons a l ih =>
      rw [List.foldl_cons, State.haltAxis_resting (Bool.eq_false_iff.2 (hbusy a (by simp)))]
      exact ih fun b hb => hbusy b (by simp [hb])
  rw [hfold, State.grantScan_empty hwait]

end Sys2Proof.Machine
end

section
/-! LOCK and UNLOCK, START SHOW and RESUME (R14, R15, R68, R69, R72, R73): O32, O29. -/

namespace Sys2Proof.Machine

/-! ### A taken order on one exhibit -/

/-- A taken order whose effect is an act on one exhibit, all its reports taken. -/
theorem RowOf.taken_show {s u : State} {code w1 w2 : Nat} {owner : Word → Word → State → Answer} {e : ExhibitNo} {x : Exhibit} {sl : Slot}
    {src : SourceRecord} {L : ChannelNo → Prop} (hrow : RowOf code owner) (h : s.AtCell code w1 w2) (hp : s.part = .run)
    (ho : ∀ v1 v2 : Word, v1.toNat = w1 → v2.toNat = w2 → owner v1 v2 s = Machine.taken u) (hacts : ∀ v1 v2, (owner v1 v2 s).ActsFrom s)
    (hto : ShowTo s u e x sl src L) :
    ∃ t, exec (orderRow code) s = .next t ∧ s.Answered t code 0 0 ∧ t.exhibit e = x ∧ t.slot e = sl ∧ t.source e = src ∧
      s.OtherExhibits t e ∧ (∀ ch, ¬ L ch → t.channel ch = s.channel ch) ∧
      (∀ k < 16384, s.NotOfCell k → OutsideExhibit e k → t.word k = s.word k) ∧
      t = { u with ram := t.ram, deck := t.deck, attn := t.attn } := by
  obtain ⟨-, -, -, -, -, hrep⟩ := id h
  obtain ⟨t, hexec, hans, hword, hform⟩ := hrow.taken_effect h hp (r := .taken) (d := 0) (by omega) ho hacts
    (State.settle_nil u (by rw [hto.reports, hrep]))
  have he : ∀ f, t.exhibit f = u.exhibit f := fun f => by rw [hform]; rfl
  have hs : ∀ f, t.slot f = u.slot f := fun f => by rw [hform]; rfl
  have hr : ∀ f, t.source f = u.source f := fun f => by rw [hform]; rfl
  refine ⟨t, hexec, hans, (he e).trans hto.exhibit, (hs e).trans hto.slot, (hr e).trans hto.source, fun f hf => ?_, fun ch hch => ?_,
    fun k hk hnot hout => (hword k hk hnot).trans (hto.word k hout), hform⟩
  · rw [he, hs, hr]
    exact hto.others f hf
  · rw [show t.channel ch = u.channel ch by rw [hform]; rfl]
    exact hto.channel ch hch

/-- What a state of an act on one exhibit is but for the order's answer. -/
theorem ShowTo.form_answered {s u t : State} {e : ExhibitNo} {x : Exhibit} {sl : Slot} {src : SourceRecord} {L : ChannelNo → Prop}
    (h : ShowTo s u e x sl src L) (ht : t = { u with ram := t.ram, deck := t.deck, attn := t.attn }) :
    t = { s with exhibits := t.exhibits, slots := t.slots, sources := t.sources, channels := t.channels, ram := t.ram, deck := t.deck,
                 attn := t.attn } := by
  rw [ht, h.form]

/-! ### FAULTED (R9) -/

/-- An exhibit enters FAULTED: its resume records are gone, and the condition carries the first fault. -/
theorem State.enterFaultedExhibit_to (s : State) (e : ExhibitNo) :
    ShowTo (s.discardResume e) (s.enterFaultedExhibit e) e ((s.exhibit e).entering .faulted) (s.slot e)
      { s.source e with faulted := some (s.faultNote e) } ((s.exhibit e).entering .faulted).IsReadyLamp := by
  obtain ⟨-, hform⟩ := s.discardResume_spec e
  unfold State.enterFaultedExhibit
  generalize s.discardResume e = r at *
  have hexhibit : r.exhibit e = s.exhibit e := by rw [hform]; rfl
  have hslot : r.slot e = s.slot e := by rw [hform]; rfl
  have hsource : r.source e = s.source e := by rw [hform]; rfl
  have henter := r.enterState_to e .faulted
  have hmark := (r.enterState e .faulted).markCondition_to e (.faulted ((r.enterState e .faulted).faultNote e))
  have hnote : (r.enterState e .faulted).faultNote e = s.faultNote e := by
    unfold State.faultNote
    rw [henter.slot, hslot]
  rw [henter.exhibit, henter.slot, henter.source, hnote] at hmark
  rw [hexhibit, hslot, hsource] at henter hmark
  have hboth := henter.trans (hmark.silent _)
  rw [← hnote] at hboth ⊢
  exact hboth

/-- The same, from the state whose axes have lost their resume records. -/
theorem State.enterFaultedExhibit_spec (s : State) (e : ExhibitNo) :
    ∃ A, ShowTo { s with axes := A } (s.enterFaultedExhibit e) e ((s.exhibit e).entering .faulted) (s.slot e)
        { s.source e with faulted := some (s.faultNote e) } ((s.exhibit e).entering .faulted).IsReadyLamp ∧
      s.OnlyResumeDropped { s with axes := A } (s.boundAxes e) := by
  obtain ⟨honly, hform⟩ := s.discardResume_spec e
  refine ⟨(s.discardResume e).axes, ?_, honly⟩
  rw [← hform]
  exact s.enterFaultedExhibit_to e

/-! ### LOCK and UNLOCK (R14, R15) -/

/-- An exhibit that enters a state in which no encore flag stands. -/
theorem Exhibit.entering_plain (x : Exhibit) {st : ExhibitState} (h : st.keepsEncore = false) :
    x.entering st = { x with state := st, encore := false, rest := none, guardAlert := none, returnState := none } := by
  have hresting : st ≠ .resting := by rintro rfl; exact absurd h (by decide)
  have hguarded : st ≠ .guarded := by rintro rfl; exact absurd h (by decide)
  unfold Exhibit.entering
  rw [if_neg hresting, if_neg hguarded, if_neg hguarded, h, Bool.and_false]

/-- RUNNING and SUSPENDED keep the encore flag. -/
theorem Exhibit.entering_show (x : Exhibit) {st : ExhibitState} (h : st = .running ∨ st = .suspended) :
    x.entering st = { x with state := st, rest := none, guardAlert := none, returnState := none } := by
  unfold Exhibit.entering
  obtain rfl | rfl := h <;> simp [ExhibitState.keepsEncore]

/-- The ready lamp of an exhibit in force is that of its configuration. -/
theorem Exhibit.isReadyLamp_config {x : Exhibit} {ch : ChannelNo} (h : x.IsReadyLamp ch) : x.config.bind (·.readyLamp) = some ch := by
  unfold Exhibit.IsReadyLamp Exhibit.inForce at h
  split at h
  · simp at h
  · exact h

/-- Settles O32. -/
theorem lockAndUnlock : Obligations.LockAndUnlock := by
  have hlock : RowOf 0x15 State.orderLock := fun _ => rfl
  have hunlock : RowOf 0x16 State.orderUnlock := fun _ => rfl
  refine ⟨fun s e w2 hcell hp hst => ?_, fun s e w2 hcell hp hst => ?_⟩
  · have hto := s.enterState_to e .locked
    obtain ⟨t, hexec, hans, hexhibit, hslot, hsource, hothers, hchannel, hword, ht⟩ := hlock.taken_show hcell hp (fun v1 v2 h1 _ => by
      rw [State.orderLock, s.maintain_valid _ _ h1]
      obtain hst | hst | hst := hst <;> rw [hst] <;> rfl) (fun v1 v2 => s.orderLock_acts v1 v2) hto
    refine ⟨t, hexec, hans, hexhibit.trans (Exhibit.entering_plain _ rfl), fun f hf => (hothers f hf).1, fun ch hch => hchannel ch fun hl => ?_,
      hword, ?_⟩
    · exact hch (Exhibit.isReadyLamp_config (x := (s.exhibit e).entering .locked) hl)
    · have hform := hto.form_shows
      rw [hto.slots_eq] at hform
      rw [ht, hform]
  · obtain ⟨-, -, -, -, -, hrep⟩ := id hcell
    have horder (v1 v2 : Word) (h1 : v1.toNat = e.val) : State.orderUnlock v1 v2 s = Machine.taken (s.unlock e) := by
      rw [State.orderUnlock, s.maintain_valid _ _ h1, hst]
      rfl
    by_cases hfault : s.someAxisFaulted e = true
    · have hu : s.unlock e = s.enterFaultedExhibit e := if_pos hfault
      obtain ⟨A, hto, -⟩ := s.enterFaultedExhibit_spec e
      obtain ⟨t, hexec, hans, hword, ht⟩ := hunlock.taken_effect hcell hp (r := .taken) (d := 0) (by omega)
        (fun v1 v2 h1 _ => (horder v1 v2 h1).trans (congrArg Machine.taken hu)) (fun v1 v2 => s.orderUnlock_acts v1 v2)
        (State.settle_nil _ (hto.reports.trans hrep))
      generalize s.enterFaultedExhibit e = u at *
      have he : ∀ f, t.exhibit f = u.exhibit f := fun f => by rw [ht]; rfl
      have hs : ∀ f, t.slot f = u.slot f := fun f => by rw [ht]; rfl
      have hr : ∀ f, t.source f = u.source f := fun f => by rw [ht]; rfl
      refine ⟨t, hexec, hans, fun f hf => ?_, fun hno => by simp [hfault] at hno, fun _ => ⟨?_, ?_, ?_, ?_⟩,
        fun k hk hnot _ hout => (hword k hk hnot).trans (hto.word k hout), ?_⟩
      · rw [he, hs, hr]; exact hto.others f hf
      · rw [he, hto.exhibit]; rfl
      · rw [hs, hto.slot]
      · rw [ht, hto.form]
      · rw [hr, hto.source]; rfl
      · rw [ht, hto.form]
    · rw [Bool.not_eq_true] at hfault
      have hu : s.unlock e = ((s.clearFirst e).enterState e .ready).removeFaultAlerts e := if_neg (by simp [hfault])
      have hfirst := s.putSlot_to e { s.slot e with firstFault := none }
      have henter := (s.clearFirst e).enterState_to e .ready
      unfold State.clearFirst at henter hu
      rw [hfirst.exhibit, hfirst.slot, hfirst.source] at henter
      have hto := (hfirst.silent _).trans henter
      have hremoved := State.removeAlerts_form ((s.putSlot e { s.slot e with firstFault := none }).enterState e .ready)
        fun x => x.source == exhibitSource e && (x.cause == .axisFault || x.cause == .showFault)
      have hlist := State.removeAlerts_alerts ((s.putSlot e { s.slot e with firstFault := none }).enterState e .ready)
        fun x => x.source == exhibitSource e && (x.cause == .axisFault || x.cause == .showFault)
      obtain ⟨-, hwords⟩ := State.removeAlerts_act ((s.putSlot e { s.slot e with firstFault := none }).enterState e .ready)
        fun x => x.source == exhibitSource e && (x.cause == .axisFault || x.cause == .showFault)
      unfold State.removeFaultAlerts at hu
      generalize (s.putSlot e { s.slot e with firstFault := none }).enterState e .ready = r at *
      obtain ⟨t, hexec, hans, hword, ht⟩ := hunlock.taken_effect hcell hp (r := .taken) (d := 0) (by omega)
        (fun v1 v2 h1 _ => (horder v1 v2 h1).trans (congrArg Machine.taken hu)) (fun v1 v2 => s.orderUnlock_acts v1 v2)
        (State.settle_nil _ (by rw [hremoved]; exact hto.reports.trans hrep))
      generalize (r.removeAlerts fun x => x.source == exhibitSource e && (x.cause == .axisFault || x.cause == .showFault)) = u at *
      have he : ∀ f, t.exhibit f = r.exhibit f := fun f => by rw [ht, hremoved]; rfl
      have hs : ∀ f, t.slot f = r.slot f := fun f => by rw [ht, hremoved]; rfl
      have hr : ∀ f, t.source f = r.source f := fun f => by rw [ht, hremoved]; rfl
      refine ⟨t, hexec, hans, fun f hf => ?_, fun _ => ⟨?_, ?_, ?_, ?_, ?_⟩, fun hno => by simp [hfault] at hno,
        fun k hk hnot halert hout => (hword k hk hnot).trans ((hwords k halert).trans (hto.word k hout)), ?_⟩
      · rw [he, hs, hr]; exact hto.others f hf
      · rw [he, hto.exhibit]; rfl
      · rw [hs, hto.slot]
      · rw [ht, hremoved]; exact hto.sources_eq
      · rw [ht, hremoved]; exact hto.axes
      · rw [show t.alerts = u.alerts by rw [ht], hlist, show r.alerts = s.alerts by rw [hto.form]]
      · rw [ht, hremoved, hto.form]

end Sys2Proof.Machine
end

section
/-! What an act on one exhibit and its bound axes leaves; HALT and CANCEL (R10, R69, R70, R74, R75): O30. -/

namespace Sys2Proof.Machine

/-! ### The lamps of an exhibit (R18, R70) -/

/-- One layer of one channel is set. -/
theorem State.setLayer_layer (s : State) (ch c : ChannelNo) (n m : LayerName) (x : Setting) :
    ((s.setLayer ch n x).channel c).layer m = if ch = c ∧ n = m then startLayer s.patterns x else (s.channel c).layer m := by
  rw [State.channel_setLayer]
  by_cases hc : ch = c
  · subst hc
    rw [if_pos rfl, Channel.layer_refresh, Channel.layer_withLayer]
    by_cases hn : n = m
    · rw [if_pos hn, if_pos ⟨rfl, hn⟩]
    · rw [if_neg hn, if_neg fun h => hn h.2]
  · rw [if_neg hc, if_neg fun h => hc h.1]

theorem State.chooseLayer_layer_ne (s : State) (ch c : ChannelNo) {n m : LayerName} (x : Setting) (h : n ≠ m) :
    ((s.chooseLayer ch n x).channel c).layer m = (s.channel c).layer m := by
  unfold State.chooseLayer
  split
  · rfl
  · rw [State.setLayer_layer, if_neg fun hn => h hn.2]

theorem State.chooseLayer_setting (s : State) (ch : ChannelNo) (n : LayerName) (x : Setting) :
    (((s.chooseLayer ch n x).channel ch).layer n).setting = x := by
  unfold State.chooseLayer
  split
  · next h => exact h
  · rw [State.setLayer_layer, if_pos ⟨rfl, rfl⟩]
    rfl

theorem State.idleShowLamps_layer_ne (s : State) (lamps : List (Option ChannelNo)) (ch : ChannelNo) {n : LayerName} (h : n ≠ .showLayer) :
    ((s.idleShowLamps lamps).channel ch).layer n = (s.channel ch).layer n := by
  induction lamps generalizing s with
  | nil => rfl
  | cons l lamps ih =>
    refine (ih _).trans ?_
    cases l with
    | none => rfl
    | some c => rw [State.setLayer_layer, if_neg fun hn => h hn.2.symm]

/-- Every lamp of the list has an idle SHOW layer, one that had it idle before too. -/
theorem State.idleShowLamps_idle (s : State) {lamps : List (Option ChannelNo)} {ch : ChannelNo}
    (h : some ch ∈ lamps ∨ ((s.channel ch).layer .showLayer).setting = .idle) :
    (((s.idleShowLamps lamps).channel ch).layer .showLayer).setting = .idle := by
  induction lamps generalizing s with
  | nil => exact h.resolve_left (by simp)
  | cons l lamps ih =>
    refine ih _ ?_
    cases l with
    | none => simpa using h
    | some c =>
      show _ ∨ (((s.setLayer c .showLayer .idle).channel ch).layer .showLayer).setting = .idle
      rw [State.setLayer_layer]
      by_cases hc : c = ch
      · rw [if_pos ⟨hc, rfl⟩]
        exact .inr rfl
      · rw [if_neg fun hn => hc hn.1]
        simpa [Ne.symm hc] using h

/-- The end of a show leaves the show lamps idle. -/
theorem State.endShow_idle (s : State) {e : ExhibitNo} {c : ExhibitConfig} {ch : ChannelNo} (hc : (s.exhibit e).inForce = some c)
    (h : c.namesShowLamp ch = true) : ((s.endShow e).channel ch).showLayer.setting = .idle := by
  unfold State.endShow
  simp only [hc]
  exact State.idleShowLamps_idle _ (.inl (by unfold ExhibitConfig.namesShowLamp at h; simpa using h))

theorem State.evalReady_layer (s : State) (e : ExhibitNo) (ch : ChannelNo) {n : LayerName} (h : n ≠ .readyLayer) :
    ((s.evalReady e).channel ch).layer n = (s.channel ch).layer n := by
  unfold State.evalReady State.chooseLamp
  split
  · rfl
  · split
    · rfl
    · exact s.chooseLayer_layer_ne _ _ _ h.symm

theorem State.enterState_layer (s : State) (e : ExhibitNo) (st : ExhibitState) (ch : ChannelNo) {n : LayerName} (h : n ≠ .readyLayer) :
    ((s.enterState e st).channel ch).layer n = (s.channel ch).layer n := by
  unfold State.enterState
  rw [State.evalReady_layer _ _ _ h]
  exact congrArg (fun c => Channel.layer c n) (((s.putExhibit_to e _).channel ch id))

/-- The ready lamp carries the choice of Table 1-7. -/
theorem State.evalReady_setting (s : State) {e : ExhibitNo} {c : ExhibitConfig} {ch : ChannelNo} (hc : (s.exhibit e).inForce = some c)
    (h : c.readyLamp = some ch) : ((s.evalReady e).channel ch).readyLayer.setting = s.readySetting e := by
  unfold State.evalReady
  simp only [hc]
  unfold State.chooseLamp
  simp only [h]
  exact s.chooseLayer_setting ch .readyLayer _

/-! ### One exhibit and its bound axes -/

/-- Exhibit `e`, its slot and its source record are as given, the axes of `d` are dealt with, and nothing else of exhibits, slots, source
records, axes and units has changed, nor a channel but those of `L`. -/
structure SceneFacts (s t : State) (e : ExhibitNo) (x : Exhibit) (sl : Slot) (src : SourceRecord) (L : ChannelNo → Prop) (D : AxisDeal)
    (d : List AxisNo) : Prop where
  exhibit : t.exhibit e = x
  slot : t.slot e = sl
  source : t.source e = src
  others : s.OtherExhibits t e
  channel : ∀ ch, ¬ L ch → t.channel ch = s.channel ch
  touched : ∀ a ∈ d, D.touches (s.axis a) = true → (t.axis a).Matches (D.result (s.axis a))
  untouched : ∀ a ∈ d, D.touches (s.axis a) = false → t.axis a = D.idle (s.axis a)
  axisOthers : ∀ a, a ∉ d → t.axis a = s.axis a
  waiting : t.pool.waiting = s.pool.waiting.filter fun w => !(d.contains w.axis && D.leaves (s.axis w.axis))
  held : ∀ a, tget t.pool.held a = if a ∈ d ∧ D.returns (s.axis a) = true then 0 else tget s.pool.held a
  units : t.pool.free + t.unitsHeld = s.pool.free + s.unitsHeld

/-- Nothing else has changed but the images of the exhibit and of the axes touched, and crossings of bound axes are reported. -/
structure SceneTo (s t : State) (e : ExhibitNo) (x : Exhibit) (sl : Slot) (src : SourceRecord) (L : ChannelNo → Prop) (D : AxisDeal)
    (d : List AxisNo) : Prop extends SceneFacts s t e x sl src L D d where
  word : ∀ k, OutsideExhibit e k → (∀ a ∈ d, D.touches (s.axis a) = true → OutsideAxis a k) → t.word k = s.word k
  reports : ∃ rs : List Report, t.reports = s.reports ++ rs ∧ rs.length ≤ D.most * d.length ∧
    ∀ r ∈ rs, ∃ a ∈ d, D.crosses (s.axis a) = true ∧ ∃ m up, r = .crossing a m up
  form : t = { s with exhibits := t.exhibits, slots := t.slots, sources := t.sources, channels := t.channels, axes := t.axes, pool := t.pool,
                      ram := t.ram, reports := t.reports }

theorem SceneFacts.congr {s t u : State} {e : ExhibitNo} {x : Exhibit} {sl : Slot} {src : SourceRecord} {L : ChannelNo → Prop} {D : AxisDeal}
    {d : List AxisNo} (h : SceneFacts s t e x sl src L D d) (hexhibits : u.exhibits = t.exhibits) (hslots : u.slots = t.slots)
    (hsources : u.sources = t.sources) (hchannels : u.channels = t.channels) (haxes : u.axes = t.axes) (hpool : u.pool = t.pool) :
    SceneFacts s u e x sl src L D d := by
  have hx : ∀ f, u.exhibit f = t.exhibit f := fun f => congrArg (tget · f) hexhibits
  have hs : ∀ f, u.slot f = t.slot f := fun f => congrArg (tget · f) hslots
  have hr : ∀ f, u.source f = t.source f := fun f => congrArg (tget · f) hsources
  have hc : ∀ f, u.channel f = t.channel f := fun f => congrArg (tget · f) hchannels
  have ha : ∀ f, u.axis f = t.axis f := fun f => congrArg (tget · f) haxes
  refine ⟨(hx e).trans h.exhibit, (hs e).trans h.slot, (hr e).trans h.source, fun f hf => ?_, fun ch hch => (hc ch).trans (h.channel ch hch),
    fun a had hta => ?_, fun a had hta => (ha a).trans (h.untouched a had hta), fun a had => (ha a).trans (h.axisOthers a had), ?_, fun a => ?_, ?_⟩
  · rw [hx, hs, hr]
    exact h.others f hf
  · rw [ha]
    exact h.touched a had hta
  · rw [hpool]
    exact h.waiting
  · rw [hpool]
    exact h.held a
  · unfold State.unitsHeld
    rw [hpool]
    exact h.units

/-- First the exhibit, then the axes, then the exhibit again. -/
theorem SceneTo.of_parts {s u v t : State} {e : ExhibitNo} {x y : Exhibit} {sl sm : Slot} {src srd : SourceRecord} {L M : ChannelNo → Prop}
    {D : AxisDeal} {d : List AxisNo} (h : ShowTo s u e x sl src L) (k : AxesTo u v D d) (g : ShowTo v t e y sm srd M) :
    SceneTo s t e y sm srd (fun ch => L ch ∨ M ch) D d := by
  have hua : ∀ a, u.axis a = s.axis a := h.axis
  have hta : ∀ a, t.axis a = v.axis a := g.axis
  have hvx : ∀ f, v.exhibit f = u.exhibit f := fun f => by rw [k.form]; rfl
  have hvs : ∀ f, v.slot f = u.slot f := fun f => by rw [k.form]; rfl
  have hvr : ∀ f, v.source f = u.source f := fun f => by rw [k.form]; rfl
  have hvc : ∀ f, v.channel f = u.channel f := fun f => by rw [k.form]; rfl
  refine ⟨⟨g.exhibit, g.slot, g.source, fun f hf => ?_, fun ch hch => ?_, fun a ha htouch => ?_, fun a ha htouch => ?_, fun a ha => ?_, ?_,
    fun a => ?_, ?_⟩, fun n hn hout => ?_, ?_, ?_⟩
  · obtain ⟨g1, g2, g3⟩ := g.others f hf
    rw [g1, g2, g3, hvx, hvs, hvr]
    exact h.others f hf
  · rw [not_or] at hch
    rw [g.channel ch hch.2, hvc, h.channel ch hch.1]
  · rw [← hua] at htouch ⊢
    rw [hta]
    exact k.touched a ha htouch
  · rw [← hua] at htouch ⊢
    rw [hta]
    exact k.untouched a ha htouch
  · rw [hta, k.others a ha, hua]
  · rw [g.pool, k.waiting, h.pool]
    simp only [hua]
  · rw [g.pool, k.held, h.pool, hua]
  · have hunits := k.units
    unfold State.unitsHeld at hunits ⊢
    rw [g.pool, hunits, h.pool]
  · rw [g.word n hn, k.word n fun a ha htouch => hout a ha (by rw [← hua]; exact htouch), h.word n hn]
  · obtain ⟨rs, hrs, hlen, hcross⟩ := k.reports
    exact ⟨rs, by rw [g.reports, hrs, h.reports], hlen, fun r hr => by simpa only [hua] using hcross r hr⟩
  · have hform := g.form
    rw [k.form, h.form] at hform
    rw [g.axes, g.pool, g.reports]
    exact hform

theorem SceneTo.mono {s t : State} {e : ExhibitNo} {x : Exhibit} {sl : Slot} {src : SourceRecord} {L M : ChannelNo → Prop} {D : AxisDeal}
    {d : List AxisNo} (h : SceneTo s t e x sl src L D d) (hm : ∀ ch, L ch → M ch) : SceneTo s t e x sl src M D d :=
  { h with channel := fun ch hch => h.channel ch fun hl => hch (hm ch hl) }

/-- The pool is the same where no units go back and no axis leaves the list. -/
theorem SceneFacts.pool_same {s t : State} {e : ExhibitNo} {x : Exhibit} {sl : Slot} {src : SourceRecord} {L : ChannelNo → Prop} {D : AxisDeal}
    {d : List AxisNo} (h : SceneFacts s t e x sl src L D d) (hreturns : ∀ a ∈ d, D.returns (s.axis a) = false)
    (hleaves : ∀ a ∈ d, D.leaves (s.axis a) = false) : t.pool = s.pool := by
  have hheld : t.pool.held = s.pool.held := tget_ext fun a => by
    rw [h.held, if_neg]
    rintro ⟨ha, hr⟩
    rw [hreturns a ha] at hr
    exact absurd hr (by decide)
  have hwaiting : t.pool.waiting = s.pool.waiting := by
    rw [h.waiting, List.filter_eq_self]
    intro w _
    by_cases hw : w.axis ∈ d
    · simp [hleaves _ hw]
    · simp [hw]
  have hfree : t.pool.free = s.pool.free := by
    have hunits := h.units
    unfold State.unitsHeld at hunits
    rw [hheld] at hunits
    omega
  generalize t.pool = p at *
  generalize s.pool = q at *
  cases p
  cases q
  simp_all

/-- The owner of an axis is read from the configurations in force. -/
theorem State.axisOwner_inForce {s t : State} (h : ∀ f, (t.exhibit f).inForce = (s.exhibit f).inForce) (a : AxisNo) :
    t.axisOwner a = s.axisOwner a := by
  unfold State.axisOwner
  simp only [h]

theorem State.boundAxes_length (s : State) (e : ExhibitNo) : (s.boundAxes e).length ≤ 4 := by
  unfold State.boundAxes
  split
  · next c _ => exact (List.length_filterMap_le _ _).trans (by simp)
  · simp

/-- A slot that waits for nothing, or is empty, takes up no crossing. -/
theorem State.deliver_crossing_idle {s : State} {e : ExhibitNo} {a : AxisNo} (howner : s.axisOwner a = some e)
    (h : (s.slot e).wait = none ∨ (s.slot e).current = none) (m : Fin 4) (up : Bool) : s.deliver (.crossing a m up) = s := by
  unfold State.deliver
  simp only [howner]
  split
  · next hawaits =>
    have hwait : (s.slot e).wait ≠ none := fun hn => by
      unfold Slot.awaitsCrossing at hawaits
      simp [hn] at hawaits
    unfold State.completeWait
    rw [h.resolve_left hwait]
    cases (s.slot e).wait <;> rfl
  · rfl

/-- The crossings of bound axes concern an exhibit whose slot waits for nothing. -/
theorem SceneFacts.settle {s t : State} {e : ExhibitNo} {x : Exhibit} {sl : Slot} {src : SourceRecord} {L : ChannelNo → Prop} {D : AxisDeal}
    (h : SceneFacts s t e x sl src L D (s.boundAxes e)) (hreports : ∃ rs : List Report, t.reports = s.reports ++ rs ∧
      rs.length ≤ D.most * (s.boundAxes e).length ∧ ∀ r ∈ rs, ∃ a ∈ s.boundAxes e, D.crosses (s.axis a) = true ∧ ∃ m up, r = .crossing a m up)
    (hrep : s.reports = []) (hforce : x.inForce = (s.exhibit e).inForce)
    (hwait : sl.wait = none ∨ sl.current = none) (hmost : D.most ≤ 1000) (howner : ∀ a ∈ s.boundAxes e, D.crosses (s.axis a) = true → s.axisOwner a = some e) :
    t.settle = { t with reports := [] } := by
  obtain ⟨rs, hrs, hlen, hcross⟩ := hreports
  rw [hrep, List.nil_append] at hrs
  have hsame : ∀ a, t.axisOwner a = s.axisOwner a := State.axisOwner_inForce fun f => by
    by_cases hf : f = e
    · subst hf
      rw [h.exhibit, hforce]
    · rw [(h.others f hf).1]
  refine (Takes.dropped t fun r hr rest => ?_).settle ?_
  · obtain ⟨a, ha, hac, m, up, rfl⟩ := hcross r (hrs ▸ hr)
    exact State.deliver_crossing_idle (s := { t with reports := rest }) (e := e) ((hsame a).trans (howner a ha hac)) (h.slot ▸ hwait) m up
  · rw [hrs]
    have hbound := Nat.mul_le_mul hmost (s.boundAxes_length e)
    omega

/-- A taken order whose effect is an act on one exhibit and its bound axes, all its reports taken. -/
theorem RowOf.taken_scene {s u : State} {code w1 w2 : Nat} {owner : Word → Word → State → Answer} {e : ExhibitNo} {x : Exhibit} {sl : Slot}
    {src : SourceRecord} {L : ChannelNo → Prop} {D : AxisDeal} (hrow : RowOf code owner) (h : s.AtCell code w1 w2) (hp : s.part = .run)
    (ho : ∀ v1 v2 : Word, v1.toNat = w1 → v2.toNat = w2 → owner v1 v2 s = Machine.taken u) (hacts : ∀ v1 v2, (owner v1 v2 s).ActsFrom s)
    (hto : SceneTo s u e x sl src L D (s.boundAxes e)) (hforce : x.inForce = (s.exhibit e).inForce) (hwait : sl.wait = none ∨ sl.current = none) (hmost : D.most ≤ 1000)
    (howner : ∀ a ∈ s.boundAxes e, D.crosses (s.axis a) = true → s.axisOwner a = some e) :
    ∃ t, exec (orderRow code) s = .next t ∧ s.Answered t code 0 0 ∧ SceneFacts s t e x sl src L D (s.boundAxes e) ∧
      (∀ k < 16384, s.NotOfCell k → OutsideExhibit e k → (∀ a ∈ s.boundAxes e, D.touches (s.axis a) = true → OutsideAxis a k) →
        t.word k = s.word k) ∧
      t = { u with reports := [], ram := t.ram, deck := t.deck, attn := t.attn } := by
  obtain ⟨-, -, -, -, -, hrep⟩ := id h
  obtain ⟨t, hexec, hans, hword, hform⟩ := hrow.taken_effect h hp (r := .taken) (d := 0) (by omega) ho hacts
    (hto.toSceneFacts.settle hto.reports hrep hforce hwait hmost howner)
  exact ⟨t, hexec, hans, hto.toSceneFacts.congr (by rw [hform]) (by rw [hform]) (by rw [hform]) (by rw [hform]) (by rw [hform]) (by rw [hform]),
    fun k hk hnot hout haxes => (hword k hk hnot).trans (hto.word k hout haxes), hform⟩

/-- What a state of such an act is but for the order's answer. -/
theorem SceneTo.form_answered {s u t : State} {e : ExhibitNo} {x : Exhibit} {sl : Slot} {src : SourceRecord} {L : ChannelNo → Prop}
    {D : AxisDeal} {d : List AxisNo} (h : SceneTo s u e x sl src L D d) (hrep : s.reports = [])
    (ht : t = { u with reports := [], ram := t.ram, deck := t.deck, attn := t.attn }) :
    t = { s with exhibits := t.exhibits, slots := t.slots, sources := t.sources, channels := t.channels, axes := t.axes, pool := t.pool,
                 ram := t.ram, deck := t.deck, attn := t.attn } := by
  rw [ht, h.form, ← hrep]

end Sys2Proof.Machine
end

section
/-! HALT and CANCEL (R10, R69, R70, R74, R75): O30. -/

namespace Sys2Proof.Machine

/-! ### The bound axes halted, their resume records gone -/

/-- An axis without its resume record. -/
def Axis.unresumed (x : Axis) : Axis := { x with resume := none }

theorem Axis.Matches.unresumed {x y : Axis} (h : x.Matches y) : x.unresumed.Matches y.unresumed := by
  unfold Axis.Matches Axis.unresumed at *
  rw [h]

/-- What is done to each axis, its resume record dropped as well. -/
def AxisDeal.dropping (D : AxisDeal) : AxisDeal :=
  { D with result := fun x => (D.result x).unresumed, idle := fun x => (D.idle x).unresumed }

/-- The resume records of the axes dealt with are dropped after that. -/
theorem AxesTo.dropped {s t u : State} {D : AxisDeal} {d : List AxisNo} (h : AxesTo s t D d) (hdrop : t.OnlyResumeDropped u d)
    (hform : u = { t with axes := u.axes }) : AxesTo s u D.dropping d := by
  have haxis : ∀ a ∈ d, u.axis a = (t.axis a).unresumed := fun a ha => (hdrop a).trans (if_pos ha)
  refine ⟨fun a ha htouch => ?_, fun a ha htouch => ?_, fun a ha => ?_, fun k hk => ?_, ?_, fun a => ?_, ?_, ?_, ?_⟩
  · rw [haxis a ha]
    exact (h.touched a ha htouch).unresumed
  · rw [haxis a ha, h.untouched a ha htouch]
    rfl
  · exact ((hdrop a).trans (if_neg ha)).trans (h.others a ha)
  · rw [hform]
    exact h.word k hk
  · rw [hform]
    exact h.waiting
  · rw [hform]
    exact h.held a
  · rw [hform]
    exact h.units
  · rw [hform]
    exact h.reports
  · rw [hform, h.form]

theorem Axis.unqueued_unresumed (x : Axis) : x.unresumed.unqueued = x.unqueued.unresumed := by
  have hhomed : x.unresumed.homed = x.homed := rfl
  unfold Axis.unqueued
  rw [hhomed]
  cases x.homed <;> rfl

theorem Axis.halted_unresumed (x : Axis) : x.unresumed.halted = x.halted.unresumed := by
  have hstate : x.unresumed.state = x.state := rfl
  unfold Axis.halted
  rw [hstate]
  cases x.state
  case awaitPower => exact x.unqueued_unresumed
  all_goals rfl

/-- The resume records dropped before that. -/
theorem AxesTo.halt_after_drop {s t u : State} {d : List AxisNo} (hdrop : s.OnlyResumeDropped t d) (hform : t = { s with axes := t.axes })
    (h : AxesTo t u haltDeal d) : AxesTo s u haltDeal.dropping d := by
  have haxis : ∀ a ∈ d, t.axis a = (s.axis a).unresumed := fun a ha => (hdrop a).trans (if_pos ha)
  have hstate : ∀ a, (t.axis a).state = (s.axis a).state := fun a => by rw [hdrop a]; split <;> rfl
  have htouches : ∀ a, haltDeal.touches (t.axis a) = haltDeal.touches (s.axis a) := fun a => congrArg AxisState.busy (hstate a)
  have hcrosses : ∀ a, haltDeal.crosses (t.axis a) = haltDeal.crosses (s.axis a) := fun a => by simp only [haltDeal, hstate]
  have hreturns : ∀ a, haltDeal.returns (t.axis a) = haltDeal.returns (s.axis a) := fun a => by simp only [haltDeal, hstate]
  have hleaves : ∀ a, haltDeal.leaves (t.axis a) = haltDeal.leaves (s.axis a) := fun a => by simp only [haltDeal, hstate]
  have hpool : t.pool = s.pool := by rw [hform]
  refine ⟨fun a ha htouch => ?_, fun a ha htouch => ?_, fun a ha => ?_, fun k hk => ?_, ?_, fun a => ?_, ?_, ?_, ?_⟩
  · have := h.touched a ha ((htouches a).trans htouch)
    rw [haxis a ha] at this
    show (u.axis a).Matches (s.axis a).halted.unresumed
    rw [← Axis.halted_unresumed]
    exact this
  · exact (h.untouched a ha ((htouches a).trans htouch)).trans (haxis a ha)
  · rw [h.others a ha, hdrop a, if_neg ha]
  · rw [h.word k fun a ha htouch => hk a ha ((htouches a).symm.trans htouch), hform]
    rfl
  · rw [h.waiting, hpool]
    exact List.filter_congr fun w _ => by rw [hleaves]; rfl
  · rw [h.held, hpool, hreturns]
    rfl
  · have hunits := h.units
    unfold State.unitsHeld at hunits ⊢
    rw [hunits, hpool]
  · obtain ⟨rs, hrs, hlen, hcross⟩ := h.reports
    refine ⟨rs, by rw [hrs, hform], hlen, fun r hr => ?_⟩
    obtain ⟨a, ha, hac, hr⟩ := hcross r hr
    exact ⟨a, ha, (hcrosses a).symm.trans hac, hr⟩
  · rw [h.form, hform]

theorem Axis.halted_resume (x : Axis) : x.halted.resume = x.resume := by
  unfold Axis.halted
  cases x.state
  case awaitPower =>
    unfold Axis.unqueued
    cases x.homed <;> rfl
  all_goals rfl

/-- What HALT, CANCEL and a show fault make of a bound axis, line by line (R69, R74). -/
theorem State.haltedAxis_of {s t : State} {a : AxisNo} {r : Option Request}
    (hbusy : (s.axis a).state.busy = true → (t.axis a).Matches { (s.axis a).halted with resume := r })
    (hrest : (s.axis a).state.busy = false → t.axis a = { s.axis a with resume := r }) : s.HaltedAxis t a ∧ (t.axis a).resume = r := by
  unfold State.HaltedAxis
  generalize t.axis a = y at *
  generalize s.axis a = x at *
  cases hst : x.state
  case off | unhomed | idle | faulted =>
    have hy := hrest (by rw [hst]; rfl)
    subst hy
    simp
  case homing =>
    have hy : y = _ := hbusy (by rw [hst]; rfl)
    rw [hy]
    simp [Axis.halted, hst, Axis.enterUnhomed, Axis.movedTo, Axis.quickStopped]
  case awaitPower =>
    have hy : y = _ := hbusy (by rw [hst]; rfl)
    obtain ⟨hstate, hrequest, hhomed⟩ := x.unqueued_spec
    rw [hy]
    refine ⟨⟨by simp, by simp, by simp, by simp, fun _ => ?_⟩, rfl⟩
    simp only [Axis.halted, hst]
    refine ⟨hstate, hhomed, hrequest, fun hx => ?_⟩
    unfold Axis.unqueued
    rw [if_pos hx]
  case moving =>
    have hy : y = _ := hbusy (by rw [hst]; rfl)
    rw [hy]
    simp [Axis.halted, hst, Axis.enterStopping]
  case stopping =>
    have hy : y = _ := hbusy (by rw [hst]; rfl)
    rw [hy]
    simp [Axis.halted, hst, Axis.unasked]

/-- Only MOVING and STOPPING axes are still on their way after the halt. -/
theorem Axis.halted_busy (x : Axis) : x.halted.state.busy = true ↔ x.state = .moving ∨ x.state = .stopping := by
  unfold Axis.halted
  cases hst : x.state
  case awaitPower =>
    simp only [x.unqueued_spec.1]
    split <;> simp [AxisState.busy]
  all_goals simp [Axis.enterStopping, Axis.unasked, Axis.movedTo, Axis.enterUnhomed, AxisState.busy, hst]

/-- The bound axes are read from the configuration in force. -/
theorem State.boundAxes_inForce {s t : State} {e : ExhibitNo} (h : (t.exhibit e).inForce = (s.exhibit e).inForce) :
    t.boundAxes e = s.boundAxes e := by
  unfold State.boundAxes
  rw [h]

theorem State.someAxisBusy_iff (s : State) (e : ExhibitNo) : s.someAxisBusy e = true ↔ ∃ a ∈ s.boundAxes e, (s.axis a).state.busy = true := by
  unfold State.someAxisBusy
  rw [List.any_eq_true]

/-- The exhibit after HALT, its source record, and the slot. -/
def State.haltedState (s : State) (e : ExhibitNo) : ExhibitState := if s.HaltAwaitsAxes e then .halting else .ready

def State.haltedSource (s : State) (e : ExhibitNo) : SourceRecord :=
  if s.HaltAwaitsAxes e then s.source e else { s.source e with halted := true }

/-- The lamps a HALT or CANCEL may change. -/
abbrev Exhibit.IsOwnLamp (x : Exhibit) : ChannelNo → Prop := fun ch => x.IsShowLamp ch ∨ x.config.bind (·.readyLamp) = some ch

theorem Exhibit.isReadyLamp_entering {x : Exhibit} {st : ExhibitState} {ch : ChannelNo} (h : (x.entering st).IsReadyLamp ch) :
    x.config.bind (·.readyLamp) = some ch := Exhibit.isReadyLamp_config (x := x.entering st) h

/-- HALT: the show ends, the bound axes are brought to rest, and the exhibit enters HALTING, or READY with HALTED set. -/
theorem State.haltShow_to {s : State} {e : ExhibitNo} (hwaits : s.WaitsOnly e) :
    SceneTo s (s.haltShow e) e ((s.exhibit e).entering (s.haltedState e)) (s.slot e).emptied (s.haltedSource e) (s.exhibit e).IsOwnLamp
      haltDeal.dropping (s.boundAxes e) ∧
    ∀ ch, (s.exhibit e).IsShowLamp ch → ((s.haltShow e).channel ch).showLayer.setting = .idle := by
  have hend := s.endShow_to e
  have hidle (ch : ChannelNo) : (s.exhibit e).IsShowLamp ch → ((s.endShow e).channel ch).showLayer.setting = .idle := by
    rintro ⟨c, hc, hn⟩
    exact s.endShow_idle hc hn
  obtain ⟨honly, hdform⟩ := (s.endShow e).discardResume_spec e
  unfold State.haltShow
  simp only
  generalize s.endShow e = u at *
  have hbound : u.boundAxes e = s.boundAxes e := State.boundAxes_inForce (by rw [hend.exhibit])
  rw [hbound] at honly
  generalize u.discardResume e = v at *
  have hvx : v.exhibit e = u.exhibit e := by rw [hdform]; rfl
  have hvbound : v.boundAxes e = s.boundAxes e := State.boundAxes_inForce (by rw [hvx, hend.exhibit])
  have hvstate (a : AxisNo) : (v.axis a).state = (s.axis a).state := by
    rw [honly a, hend.axis]
    split <;> rfl
  have hvwaits : v.WaitsOnly e := fun w hw => by
    rw [hvbound, hvstate]
    refine hwaits w ?_
    rw [show v.pool = u.pool by rw [hdform], hend.pool] at hw
    exact hw
  obtain ⟨hhalt, -⟩ := State.haltAxes_to hvwaits
  rw [hvbound] at hhalt
  have hhalted := AxesTo.halt_after_drop honly hdform hhalt
  generalize v.haltAxes e = w at *
  have hwx : w.exhibit e = s.exhibit e := by rw [hhalted.form]; exact hend.exhibit
  have hws : w.slot e = (s.slot e).emptied := by rw [hhalted.form]; exact hend.slot
  have hwr : w.source e = s.source e := by rw [hhalted.form]; exact hend.source
  have hwc (ch : ChannelNo) : w.channel ch = u.channel ch := by rw [hhalted.form]; rfl
  have hwaxis (a : AxisNo) (ha : a ∈ s.boundAxes e) : (w.axis a).state.busy = true ↔ (s.axis a).state = .moving ∨ (s.axis a).state = .stopping := by
    by_cases hbusy : (s.axis a).state.busy = true
    · have := (hhalted.touched a ha (by rw [hend.axis]; exact hbusy)).state
      rw [this, hend.axis]
      exact Axis.halted_busy _
    · rw [Bool.not_eq_true] at hbusy
      have := hhalted.untouched a ha (by rw [hend.axis]; exact hbusy)
      rw [this, hend.axis]
      show (s.axis a).state.busy = true ↔ _
      rw [hbusy]
      refine ⟨fun hn => absurd hn (by decide), fun hm => ?_⟩
      obtain hm | hm := hm <;> rw [hm] at hbusy <;> exact absurd hbusy (by decide)
  have hawaits : ((s.exhibit e).state ≠ .guarded ∧ w.someAxisBusy e) ↔ s.HaltAwaitsAxes e := by
    refine and_congr_right fun _ => ?_
    rw [State.someAxisBusy_iff, State.boundAxes_inForce (by rw [hwx] : (w.exhibit e).inForce = (s.exhibit e).inForce)]
    exact exists_congr fun a => and_congr_right fun ha => hwaxis a ha
  unfold State.haltedState State.haltedSource
  by_cases hh : s.HaltAwaitsAxes e
  · rw [if_pos (hawaits.2 hh), if_pos hh, if_pos hh]
    have henter := w.enterState_to e .halting
    rw [hwx, hws, hwr] at henter
    refine ⟨(SceneTo.of_parts hend hhalted henter).mono fun ch => ?_, fun ch hch => ?_⟩
    · exact Or.imp_right Exhibit.isReadyLamp_entering
    · have := w.enterState_layer e .halting ch (n := .showLayer) (by decide)
      exact (congrArg Layer.setting this).trans (by rw [hwc]; exact hidle ch hch)
  · rw [if_neg (fun hn => hh (hawaits.1 hn)), if_neg hh, if_neg hh]
    have henter := w.enterState_to e .ready
    have hmark := (w.enterState e .ready).markCondition_to e .halted
    rw [henter.exhibit, henter.slot, henter.source] at hmark
    have hboth := henter.trans (hmark.silent _)
    rw [hwx, hws, hwr] at hboth
    refine ⟨(SceneTo.of_parts hend hhalted hboth).mono fun ch => ?_, fun ch hch => ?_⟩
    · exact Or.imp_right Exhibit.isReadyLamp_entering
    · have := w.enterState_layer e .ready ch (n := .showLayer) (by decide)
      rw [hmark.channel ch id]
      exact (congrArg Layer.setting this).trans (by rw [hwc]; exact hidle ch hch)

/-- CANCEL of a SUSPENDED show. -/
theorem State.cancelShow_to {s : State} {e : ExhibitNo} (hst : (s.exhibit e).state = .suspended) (hwaits : s.WaitsOnly e) :
    SceneTo s (s.cancelShow e) e ((s.exhibit e).entering .ready) (s.slot e).emptied (s.source e) (s.exhibit e).IsOwnLamp
      haltDeal (s.boundAxes e) ∧
    ∀ ch, (s.exhibit e).IsShowLamp ch → ((s.cancelShow e).channel ch).showLayer.setting = .idle := by
  have hend := s.endShow_to e
  have hidle (ch : ChannelNo) : (s.exhibit e).IsShowLamp ch → ((s.endShow e).channel ch).showLayer.setting = .idle := by
    rintro ⟨c, hc, hn⟩
    exact s.endShow_idle hc hn
  unfold State.cancelShow
  rw [if_pos hst]
  generalize s.endShow e = u at *
  have hbound : u.boundAxes e = s.boundAxes e := State.boundAxes_inForce (by rw [hend.exhibit])
  have huwaits : u.WaitsOnly e := fun w hw => by
    rw [hbound, hend.axis]
    exact hwaits w (hend.pool ▸ hw)
  obtain ⟨hhalt, -⟩ := State.haltAxes_to huwaits
  rw [hbound] at hhalt
  generalize u.haltAxes e = w at *
  have henter := w.enterState_to e .ready
  rw [show w.exhibit e = s.exhibit e by rw [hhalt.form]; exact hend.exhibit, show w.slot e = (s.slot e).emptied by rw [hhalt.form]; exact hend.slot,
    show w.source e = s.source e by rw [hhalt.form]; exact hend.source] at henter
  refine ⟨(SceneTo.of_parts hend hhalt henter).mono fun ch => Or.imp_right Exhibit.isReadyLamp_entering, fun ch hch => ?_⟩
  have := w.enterState_layer e .ready ch (n := .showLayer) (by decide)
  refine (congrArg Layer.setting this).trans ?_
  rw [show w.channel ch = u.channel ch by rw [hhalt.form]; rfl]
  exact hidle ch hch

end Sys2Proof.Machine
end

section
/-! HALT and CANCEL (R74, R75): O30. -/

namespace Sys2Proof.Machine

/-- A channel that no role of the configuration names is no lamp of the exhibit. -/
theorem Exhibit.isOwnLamp_named {x : Exhibit} {c : ExhibitConfig} {ch : ChannelNo} (hc : x.config = some c) (h : x.IsOwnLamp ch) :
    c.namesChannel ch = true := by
  unfold ExhibitConfig.namesChannel
  obtain ⟨d, hd, hn⟩ | h := h
  · unfold Exhibit.inForce at hd
    split at hd
    · simp at hd
    · rw [hc] at hd
      obtain rfl := Option.some.inj hd
      simp [hn]
  · rw [hc] at h
    have h : c.readyLamp = some ch := h
    simp [h]

theorem Exhibit.isShowLamp_of {x : Exhibit} {c : ExhibitConfig} {ch : ChannelNo} (hc : x.config = some c) (hst : x.state ≠ .off)
    (h : c.namesShowLamp ch = true) : x.IsShowLamp ch := ⟨c, by unfold Exhibit.inForce; rw [if_neg hst]; exact hc, h⟩

theorem Exhibit.inForce_entering {x : Exhibit} {st : ExhibitState} (hst : st ≠ .off) (hx : x.state ≠ .off) :
    (x.entering st).inForce = x.inForce := by
  unfold Exhibit.inForce
  exact (if_neg hst).trans (if_neg hx).symm

theorem State.waitsOnly_nil {s : State} {e : ExhibitNo} (h : s.pool.waiting = []) : s.WaitsOnly e := fun w hw => by
  rw [h] at hw
  exact absurd hw (by simp)

/-- What a taken order that deals with one exhibit and its bound axes leaves, and the show lamps idle. -/
def State.SceneLeft (s : State) (code : Nat) (row : Instr) (e : ExhibitNo) (x : Exhibit) (src : SourceRecord) (D : AxisDeal) (t : State) : Prop :=
  exec row s = .next t ∧ s.Answered t code 0 0 ∧
    SceneFacts s t e x (s.slot e).emptied src (s.exhibit e).IsOwnLamp D (s.boundAxes e) ∧
    (∀ ch, (s.exhibit e).IsShowLamp ch → (t.channel ch).showLayer.setting = .idle) ∧
    (∀ k < 16384, s.NotOfCell k → OutsideExhibit e k → (∀ a ∈ s.boundAxes e, D.touches (s.axis a) = true → OutsideAxis a k) →
      t.word k = s.word k) ∧
    t = { s with exhibits := t.exhibits, slots := t.slots, sources := t.sources, channels := t.channels, axes := t.axes, pool := t.pool,
                 ram := t.ram, deck := t.deck, attn := t.attn }

theorem exec_halt {s : State} {e : ExhibitNo} {w2 : Nat} (hcell : s.AtCell 0x12 e.val w2) (hp : s.part = .run)
    (hst : (s.exhibit e).state = .running ∨ (s.exhibit e).state = .suspended ∨ (s.exhibit e).state = .guarded) (hwaits : s.WaitsOnly e)
    (howner : ∀ a ∈ s.boundAxes e, (s.axis a).state = .homing ∨ (s.axis a).state = .awaitPower → s.axisOwner a = some e) :
    ∃ t, s.SceneLeft 0x12 .halt e ((s.exhibit e).entering (s.haltedState e)) (s.haltedSource e) haltDeal.dropping t := by
  have hrow : RowOf 0x12 State.orderHalt := fun _ => rfl
  obtain ⟨-, -, -, -, -, hrep⟩ := id hcell
  obtain ⟨hto, hidle⟩ := State.haltShow_to hwaits
  have hoff : (s.exhibit e).state ≠ .off := by obtain hst | hst | hst := hst <;> rw [hst] <;> decide
  obtain ⟨t, hexec, hans, hfacts, hword, ht⟩ := hrow.taken_scene hcell hp (fun v1 v2 h1 _ => by
    rw [State.orderHalt, s.maintain_valid _ _ h1]
    obtain hst | hst | hst := hst <;> rw [hst] <;> rfl) (fun v1 v2 => s.orderHalt_acts v1 v2) hto
    (Exhibit.inForce_entering (by unfold State.haltedState; split <;> decide) hoff) (.inl rfl) (by decide)
    (fun a ha hc => howner a ha (by simpa [haltDeal, AxisDeal.dropping] using hc))
  refine ⟨t, hexec, hans, hfacts, fun ch hch => ?_, hword, hto.form_answered hrep ht⟩
  rw [show t.channel ch = (s.haltShow e).channel ch by rw [ht]; rfl]
  exact hidle ch hch

theorem exec_cancel_suspended {s : State} {e : ExhibitNo} {w2 : Nat} (hcell : s.AtCell 0x13 e.val w2) (hp : s.part = .run)
    (hst : (s.exhibit e).state = .suspended) (hwaits : s.WaitsOnly e)
    (howner : ∀ a ∈ s.boundAxes e, (s.axis a).state = .homing ∨ (s.axis a).state = .awaitPower → s.axisOwner a = some e) :
    ∃ t, s.SceneLeft 0x13 .cancel e ((s.exhibit e).entering .ready) (s.source e) haltDeal t := by
  have hrow : RowOf 0x13 State.orderCancel := fun _ => rfl
  obtain ⟨-, -, -, -, -, hrep⟩ := id hcell
  obtain ⟨hto, hidle⟩ := State.cancelShow_to hst hwaits
  have hoff : (s.exhibit e).state ≠ .off := by rw [hst]; decide
  obtain ⟨t, hexec, hans, hfacts, hword, ht⟩ := hrow.taken_scene hcell hp (fun v1 v2 h1 _ => by
    rw [s.orderCancel_valid _ h1, if_neg hoff, if_neg fun h => h.1 hst]) (fun v1 v2 => s.orderCancel_acts v1 v2) hto
    (Exhibit.inForce_entering (by decide) hoff) (.inl rfl) (by decide)
    (fun a ha hc => howner a ha (by simpa [haltDeal] using hc))
  refine ⟨t, hexec, hans, hfacts, fun ch hch => ?_, hword, hto.form_answered hrep ht⟩
  rw [show t.channel ch = (s.cancelShow e).channel ch by rw [ht]; rfl]
  exact hidle ch hch

/-- A bound axis and the units after HALT, CANCEL or a show fault. -/
theorem SceneFacts.halted {s t : State} {e : ExhibitNo} {x : Exhibit} {sl : Slot} {src : SourceRecord} {L : ChannelNo → Prop} {d : List AxisNo}
    (h : SceneFacts s t e x sl src L haltDeal d) {a : AxisNo} (ha : a ∈ d) : s.HaltedAxis t a ∧ (t.axis a).resume = (s.axis a).resume := by
  refine State.haltedAxis_of (fun hbusy => ?_) fun hrest => h.untouched a ha hrest
  rw [← (s.axis a).halted_resume]
  exact h.touched a ha hbusy

theorem SceneFacts.halted_dropped {s t : State} {e : ExhibitNo} {x : Exhibit} {sl : Slot} {src : SourceRecord} {L : ChannelNo → Prop}
    {d : List AxisNo} (h : SceneFacts s t e x sl src L haltDeal.dropping d) {a : AxisNo} (ha : a ∈ d) :
    s.HaltedAxis t a ∧ (t.axis a).resume = none :=
  State.haltedAxis_of (fun hbusy => h.touched a ha hbusy) fun hrest => h.untouched a ha hrest

/-- No entry is left when every waiting axis leaves. -/
theorem State.waiting_left {s : State} {e : ExhibitNo} (hwaits : s.WaitsOnly e) :
    (s.pool.waiting.filter fun w => !((s.boundAxes e).contains w.axis && haltDeal.leaves (s.axis w.axis))) = [] := by
  rw [List.filter_eq_nil_iff]
  intro w hw
  obtain ⟨hmem, hst⟩ := hwaits w hw
  simp [haltDeal, hmem, hst]

theorem SceneFacts.sources_eq {s t : State} {e : ExhibitNo} {x : Exhibit} {sl : Slot} {L : ChannelNo → Prop} {D : AxisDeal} {d : List AxisNo}
    (h : SceneFacts s t e x sl (s.source e) L D d) : t.sources = s.sources := tget_ext fun f => by
  by_cases hf : f = e
  · subst hf
    exact h.source
  · exact (h.others f hf).2.2

/-- No bound axis is on its way. -/
theorem State.boundAxes_rest {s : State} {e : ExhibitNo} (h : s.someAxisBusy e = false) {a : AxisNo} (ha : a ∈ s.boundAxes e) :
    (s.axis a).state.busy = false := Bool.eq_false_iff.2 fun hb => by
  rw [(s.someAxisBusy_iff e).2 ⟨a, ha, hb⟩] at h
  exact absurd h (by decide)

theorem haltDeal_returns (x : Axis) : haltDeal.returns x = true ↔ x.state = .homing := by
  simp [haltDeal]

theorem AxisState.busy_false_ne {st st' : AxisState} (h : st.busy = false) (h' : st'.busy = true) : st ≠ st' := by
  rintro rfl
  rw [h] at h'
  exact absurd h' (by decide)

/-- Settles O30. -/
theorem haltAndCancel : Obligations.HaltAndCancel := by
  refine ⟨fun s e w2 c hcell hp hc hwait => ⟨fun hst hbusy => ?_, fun hst hmoving hnone => ?_⟩,
    fun s e w2 c hcell hp hc hst howner _ hlaw honly => ?_, fun s e w2 c hcell hp hc => ⟨fun hst hbusy hwait => ?_, fun hst henc => ?_⟩,
    fun s e w2 c hcell hp hc hst howner _ hlaw honly => ?_⟩
  · have hrest : ∀ a ∈ s.boundAxes e, (s.axis a).state.busy = false := fun a => State.boundAxes_rest hbusy
    have hoff : (s.exhibit e).state ≠ .off := by obtain hst | hst | hst := hst <;> rw [hst] <;> decide
    have hno : ¬ s.HaltAwaitsAxes e := by
      rintro ⟨-, a, ha, hm | hm⟩ <;> exact AxisState.busy_false_ne (hrest a ha) rfl hm
    obtain ⟨t, hexec, hans, hfacts, hidle, hword, ht⟩ := exec_halt hcell hp hst (State.waitsOnly_nil hwait) fun a ha hm => by
      obtain hm | hm := hm <;> exact absurd hm (AxisState.busy_false_ne (hrest a ha) rfl)
    unfold State.haltedState State.haltedSource at hfacts
    rw [if_neg hno, if_neg hno] at hfacts
    have hpool : t.pool = s.pool := hfacts.pool_same
      (fun a ha => Bool.eq_false_iff.2 fun hr => AxisState.busy_false_ne (hrest a ha) rfl ((haltDeal_returns _).1 hr))
      (fun a ha => Bool.eq_false_iff.2 fun hr => AxisState.busy_false_ne (hrest a ha) (st' := .awaitPower) rfl (by simpa [haltDeal, AxisDeal.dropping] using hr))
    refine ⟨t, hexec, hans, hfacts.exhibit.trans (Exhibit.entering_plain _ rfl), hfacts.slot, hfacts.source, hfacts.others, fun a => ?_,
      fun ch hch => hidle ch (Exhibit.isShowLamp_of hc hoff hch), fun ch hch => hfacts.channel ch fun hl => ?_,
      fun k hk hnot hout => hword k hk hnot hout fun a ha hb => absurd hb ?_, ?_⟩
    · split
      · next ha => exact hfacts.untouched a ha (hrest a ha)
      · next ha => exact hfacts.axisOthers a ha
    · rw [Exhibit.isOwnLamp_named hc hl] at hch
      exact absurd hch (by decide)
    · rw [show haltDeal.dropping.touches (s.axis a) = false from hrest a ha]
      decide
    · rw [hpool] at ht
      exact ht
  · have hhalting : s.HaltAwaitsAxes e := by
      obtain ⟨a, ha, hm⟩ := hmoving
      exact ⟨by obtain hst | hst := hst <;> rw [hst] <;> decide, a, ha, .inl hm⟩
    obtain ⟨t, hexec, hans, hfacts, hidle, hword, ht⟩ := exec_halt hcell hp (hst.imp_right .inl) (State.waitsOnly_nil hwait) fun a ha hm => by
      obtain hm | hm := hm
      · exact absurd hm (hnone a ha).1
      · exact absurd hm (hnone a ha).2
    unfold State.haltedState State.haltedSource at hfacts
    rw [if_pos hhalting, if_pos hhalting] at hfacts
    have hpool : t.pool = s.pool := hfacts.pool_same
      (fun a ha => Bool.eq_false_iff.2 fun hr => (hnone a ha).1 ((haltDeal_returns _).1 hr))
      (fun a ha => Bool.eq_false_iff.2 fun hr => (hnone a ha).2 (by simpa [haltDeal, AxisDeal.dropping] using hr))
    have hsource := hfacts.sources_eq
    refine ⟨t, hexec, hans, hfacts.exhibit.trans (Exhibit.entering_plain _ rfl), ?_, hsource, hfacts.others, fun a ha hm => ?_, fun a ha hm => ?_,
      hfacts.axisOthers, hpool⟩
    · rw [hfacts.slot]
      rfl
    · obtain ⟨⟨-, h, -⟩, -⟩ := hfacts.halted_dropped ha
      rw [h hm]
      exact ⟨rfl, rfl, rfl, rfl⟩
    · obtain ⟨⟨-, -, h, -⟩, -⟩ := hfacts.halted_dropped ha
      rw [h hm]
      exact ⟨hm, rfl⟩
  · have hoff : (s.exhibit e).state ≠ .off := by obtain hst | hst | hst := hst <;> rw [hst] <;> decide
    have hwaits : s.WaitsOnly e := fun w hw => ⟨honly w hw, hlaw.1 w hw⟩
    obtain ⟨t, hexec, hans, hfacts, hidle, hword, ht⟩ := exec_halt hcell hp hst hwaits fun a ha _ => howner a ha
    refine ⟨t, hexec, hans, hfacts.exhibit.trans (Exhibit.entering_plain _ ?_), hfacts.source, hfacts.slot, hfacts.others,
      fun a ha => hfacts.halted_dropped ha, hfacts.axisOthers, hfacts.waiting.trans (State.waiting_left hwaits), fun a => ?_, hfacts.units,
      fun ch hch => hidle ch (Exhibit.isShowLamp_of hc hoff hch), fun ch hch => hfacts.channel ch fun hl => ?_,
      fun k hk hnot hout haxes => hword k hk hnot hout fun a ha _ => haxes a ha, ht⟩
    · unfold State.haltedState
      split <;> rfl
    · refine (hfacts.held a).trans (if_congr (and_congr_right fun _ => haltDeal_returns _) rfl rfl)
    · rw [Exhibit.isOwnLamp_named hc hl] at hch
      exact absurd hch (by decide)
  · have hrest : ∀ a ∈ s.boundAxes e, (s.axis a).state.busy = false := fun a => State.boundAxes_rest hbusy
    have hoff : (s.exhibit e).state ≠ .off := by rw [hst]; decide
    obtain ⟨t, hexec, hans, hfacts, hidle, hword, ht⟩ := exec_cancel_suspended hcell hp hst (State.waitsOnly_nil hwait) fun a ha hm => by
      obtain hm | hm := hm <;> exact absurd hm (AxisState.busy_false_ne (hrest a ha) rfl)
    have hpool : t.pool = s.pool := hfacts.pool_same
      (fun a ha => Bool.eq_false_iff.2 fun hr => AxisState.busy_false_ne (hrest a ha) rfl ((haltDeal_returns _).1 hr))
      (fun a ha => Bool.eq_false_iff.2 fun hr => AxisState.busy_false_ne (hrest a ha) (st' := .awaitPower) rfl (by simpa [haltDeal] using hr))
    have haxes : t.axes = s.axes := tget_ext fun a => by
      by_cases ha : a ∈ s.boundAxes e
      · exact hfacts.untouched a ha (hrest a ha)
      · exact hfacts.axisOthers a ha
    have hsource := hfacts.sources_eq
    refine ⟨t, hexec, hans, hfacts.exhibit.trans (Exhibit.entering_plain _ rfl), hfacts.slot, hsource, hfacts.others,
      fun ch hch => hidle ch (Exhibit.isShowLamp_of hc hoff hch), fun ch hch => hfacts.channel ch fun hl => ?_,
      fun k hk hnot hout => hword k hk hnot hout fun a ha hb => absurd hb ?_, ?_⟩
    · rw [Exhibit.isOwnLamp_named hc hl] at hch
      exact absurd hch (by decide)
    · rw [show haltDeal.touches (s.axis a) = false from hrest a ha]
      decide
    · rw [hpool, haxes, hsource] at ht
      exact ht
  · have hrow : RowOf 0x13 State.orderCancel := fun _ => rfl
    have hto := s.putExhibit_to e { s.exhibit e with encore := false }
    have hcancel : s.cancelShow e = s.putExhibit e { s.exhibit e with encore := false } := by
      unfold State.cancelShow
      rw [if_neg (by obtain hst | hst | hst := hst <;> rw [hst] <;> decide)]
      rfl
    obtain ⟨t, hexec, hans, hexhibit, hslot, hsource, hothers, hchannel, hword, ht⟩ := hrow.taken_show hcell hp (fun v1 v2 h1 _ => by
      rw [s.orderCancel_valid _ h1, if_neg (by obtain hst | hst | hst := hst <;> rw [hst] <;> decide), if_neg (by simp [henc]), hcancel])
      (fun v1 v2 => s.orderCancel_acts v1 v2) hto
    refine ⟨t, hexec, hans, hexhibit, fun f hf => (hothers f hf).1, hword, ?_⟩
    have hform := hto.form_shows
    rw [hto.slots_eq, hto.channels_eq] at hform
    rw [ht, hform]
  · have hoff : (s.exhibit e).state ≠ .off := by rw [hst]; decide
    have hwaits : s.WaitsOnly e := fun w hw => ⟨honly w hw, hlaw.1 w hw⟩
    obtain ⟨t, hexec, hans, hfacts, hidle, hword, ht⟩ := exec_cancel_suspended hcell hp hst hwaits fun a ha _ => howner a ha
    have hsource := hfacts.sources_eq
    refine ⟨t, hexec, hans, hfacts.exhibit.trans (Exhibit.entering_plain _ rfl), hfacts.slot, hsource, hfacts.others,
      fun a ha => hfacts.halted ha, hfacts.axisOthers, hfacts.waiting.trans (State.waiting_left hwaits), fun a => ?_, hfacts.units,
      fun ch hch => hidle ch (Exhibit.isShowLamp_of hc hoff hch), fun ch hch => hfacts.channel ch fun hl => ?_,
      fun k hk hnot hout haxes => hword k hk hnot hout fun a ha _ => haxes a ha, ?_⟩
    · refine (hfacts.held a).trans (if_congr (and_congr_right fun _ => haltDeal_returns _) rfl rfl)
    · rw [Exhibit.isOwnLamp_named hc hl] at hch
      exact absurd hch (by decide)
    · rw [hsource] at ht
      exact ht

end Sys2Proof.Machine
end

section
/-! A fault that ends a show (R68, R69), and START SHOW and RESUME (R72, R73): O29. -/

namespace Sys2Proof.Machine

/-! ### A fault ends a show -/

/-- The end of a show by a fault, before its alert. -/
def State.faultEnd (s : State) (e : ExhibitNo) (f : ShowFault) (a : Nat) : State :=
  (((s.recordFirst e f a).endShow e).haltAxes e).enterFaultedExhibit e

theorem State.showFault_step {f : ShowFault} (h : f.isStepFault = true) (s : State) (e : ExhibitNo) (a : Nat) :
    s.showFault e f a = (s.faultEnd e f a).raise (exhibitSource e) .showFault 0 1 := if_pos h

theorem State.showFault_axis {f : ShowFault} (h : f.isStepFault = false) (s : State) (e : ExhibitNo) (a : Nat) :
    s.showFault e f a = s.faultEnd e f a := if_neg (by rw [h]; decide)

/-- The first fault of a slot when one more fault comes: it stays the first (R68). -/
def Slot.firstOf (sl : Slot) (f : ShowFault) (a : Nat) : FirstFault := sl.firstFault.getD { code := f, address := a }

/-- The slot of a show that a fault has ended. -/
def Slot.faultedAt (sl : Slot) (f : ShowFault) (a : Nat) : Slot := { sl.emptied with firstFault := some (sl.firstOf f a) }

/-- The source record with FAULTED set. -/
def SourceRecord.faultedAt (src : SourceRecord) (x : FirstFault) : SourceRecord :=
  { src with faulted := some { code := some x.code, address := x.address } }

theorem State.recordFirst_to (s : State) (e : ExhibitNo) (f : ShowFault) (a : Nat) :
    ShowTo s (s.recordFirst e f a) e (s.exhibit e) { s.slot e with firstFault := some ((s.slot e).firstOf f a) } (s.source e) noLamps := by
  unfold State.recordFirst Slot.firstOf
  cases hfirst : (s.slot e).firstFault with
  | none => exact s.putSlot_to e _
  | some x =>
    have hslot : s.slot e = { s.slot e with firstFault := some x } := by rw [← hfirst]
    have hrefl := ShowTo.refl s e
    rw [hslot] at hrefl
    exact hrefl

/-- The show ends, the bound axes are brought to rest, and the exhibit is FAULTED. -/
theorem State.faultEnd_to {s : State} {e : ExhibitNo} (hwaits : s.WaitsOnly e) (f : ShowFault) (a : Nat) :
    SceneTo s (s.faultEnd e f a) e ((s.exhibit e).entering .faulted) ((s.slot e).faultedAt f a)
      ((s.source e).faultedAt ((s.slot e).firstOf f a)) (s.exhibit e).IsOwnLamp haltDeal.dropping (s.boundAxes e) := by
  have hfirst := s.recordFirst_to e f a
  have hend := (s.recordFirst e f a).endShow_to e
  rw [hfirst.exhibit, hfirst.slot, hfirst.source] at hend
  have hboth := (hfirst.silent _).trans hend
  unfold State.faultEnd
  generalize (s.recordFirst e f a).endShow e = u at *
  have hbound : u.boundAxes e = s.boundAxes e := State.boundAxes_inForce (by rw [hboth.exhibit])
  have huwaits : u.WaitsOnly e := fun w hw => by
    rw [hbound, hboth.axis]
    exact hwaits w (hboth.pool ▸ hw)
  obtain ⟨hhalt, -⟩ := State.haltAxes_to huwaits
  generalize u.haltAxes e = v at *
  have hvx : v.exhibit e = s.exhibit e := by rw [hhalt.form]; exact hboth.exhibit
  have hvbound : v.boundAxes e = u.boundAxes e := State.boundAxes_inForce (by rw [hvx, hboth.exhibit])
  have hvslot : v.slot e = (s.slot e).faultedAt f a := by rw [hhalt.form]; exact hboth.slot
  have hvsource : v.source e = s.source e := by rw [hhalt.form]; exact hboth.source
  obtain ⟨A, hfaulted, honly⟩ := v.enterFaultedExhibit_spec e
  have hnote : v.faultNote e = { code := some ((s.slot e).firstOf f a).code, address := ((s.slot e).firstOf f a).address } := by
    unfold State.faultNote
    rw [hvslot]
    rfl
  rw [hvx, hvslot, hvsource, hnote] at hfaulted
  rw [hvbound] at honly
  have hdropped := hhalt.dropped honly rfl
  rw [hbound] at hdropped
  exact (SceneTo.of_parts hboth hdropped hfaulted).mono fun ch => Or.imp_right Exhibit.isReadyLamp_entering

/-- An act on the exhibit before an act on it and its bound axes. -/
theorem SceneTo.after {s r t : State} {e : ExhibitNo} {x y : Exhibit} {sl sm : Slot} {src srd : SourceRecord} {L M : ChannelNo → Prop}
    {D : AxisDeal} {d : List AxisNo} (h : ShowTo s r e x sl src L) (k : SceneTo r t e y sm srd M D d) :
    SceneTo s t e y sm srd (fun ch => L ch ∨ M ch) D d := by
  have hra : ∀ a, r.axis a = s.axis a := h.axis
  refine ⟨⟨k.exhibit, k.slot, k.source, fun f hf => ?_, fun ch hch => ?_, fun a ha htouch => ?_, fun a ha htouch => ?_, fun a ha => ?_, ?_,
    fun a => ?_, ?_⟩, fun n hn hout => ?_, ?_, ?_⟩
  · obtain ⟨k1, k2, k3⟩ := k.others f hf
    rw [k1, k2, k3]
    exact h.others f hf
  · rw [not_or] at hch
    rw [k.channel ch hch.2, h.channel ch hch.1]
  · rw [← hra] at htouch ⊢
    exact k.touched a ha htouch
  · rw [← hra] at htouch ⊢
    exact k.untouched a ha htouch
  · rw [k.axisOthers a ha, hra]
  · rw [k.waiting, h.pool]
    simp only [hra]
  · rw [k.held, h.pool, hra]
  · have hunits := k.units
    unfold State.unitsHeld at hunits ⊢
    rw [hunits, h.pool]
  · rw [k.word n hn fun a ha htouch => hout a ha (by rw [← hra]; exact htouch), h.word n hn]
  · obtain ⟨rs, hrs, hlen, hcross⟩ := k.reports
    exact ⟨rs, by rw [hrs, h.reports], hlen, fun r hr => by simpa only [hra] using hcross r hr⟩
  · have hform := k.form
    rw [h.form] at hform
    exact hform

end Sys2Proof.Machine
end

section
/-! START SHOW and RESUME (R72, R73): O29. -/

namespace Sys2Proof.Machine

/-! ### Steps that pass their checks, and those that fail (R48 to R50) -/

/-- The kind code of a step (Table 3-2). -/
def StepKind.code : StepKind → Nat
  | .finish => 0
  | .move => 1
  | .home => 2
  | .waitAxis => 3
  | .waitMark => 4
  | .waitTime => 5
  | .waitPress => 6
  | .lamp => 7
  | .loop => 8
  | .next => 9
  | .jump => 10
  | .signal => 11
  | .call => 12

theorem stepKind?_code {n : Nat} {k : StepKind} (h : stepKind? n = some k) : n = k.code := by
  unfold stepKind? at h
  split at h <;> cases h <;> rfl

theorem stepKind?_length {n : Nat} {k : StepKind} (h : stepKind? n = some k) : k.length = stepWords n := by
  rw [stepKind?_code h]
  cases k <;> rfl

theorem stepKind?_isSome {n : Nat} (h : n ≤ 12) : ∃ k, stepKind? n = some k := by
  interval_cases n <;> exact ⟨_, rfl⟩

theorem stepKind?_none {n : Nat} (h : 12 < n) : stepKind? n = none := by
  unfold stepKind?
  split <;> simp_all

section
variable {s : State} {e : ExhibitNo} {c : ExhibitConfig} {a : Nat} (hc : (s.exhibit e).config = some c)
include hc

theorem State.localAxis_at (i : Fin 4) : s.localAxis e i = tget c.axes i := by
  unfold State.localAxis
  rw [hc]
  rfl

theorem State.localLamp_at (i : Fin 8) : s.localLamp e i = tget c.showLamps i := by
  unfold State.localLamp
  rw [hc]
  rfl

/-- A step that passes the checks of R49. -/
theorem State.stepInvalid_passes {k : StepKind} (hk : bits (s.storeWord a) 10 6 = k.code) (h : s.PassesChecks e c a) :
    s.stepInvalid e (s.stepAt a k) = false := by
  obtain ⟨-, -, haxis, hmark, htime, hlamp, hloop, -, hjump, hcall⟩ := h
  rw [hk] at haxis hmark htime hlamp hloop hjump hcall
  cases k with
  | finish | waitPress | next | signal => rfl
  | move | home | waitAxis =>
    show (s.localAxis e (Fin.ofNat 4 (bits (s.storeWord a) 0 2))).isNone = false
    rw [State.localAxis_at hc, ← Option.not_isSome, haxis (by decide)]
    rfl
  | waitMark =>
    obtain ⟨hsense, hmarked⟩ := hmark rfl
    obtain ⟨x, hx⟩ := Option.isSome_iff_exists.1 (haxis (by decide))
    rw [hx] at hmarked
    show ((s.stepAt a .waitMark).sense.isNone || _) = false
    rw [Bool.or_eq_false_iff]
    refine ⟨?_, ?_⟩
    · have hlt : bits (s.storeWord a) 4 2 < 4 := Nat.mod_lt _ (by decide)
      have hle : bits (s.storeWord a) 4 2 < 3 := by omega
      unfold StepWords.sense State.stepAt
      simp only
      interval_cases bits (s.storeWord a) 4 2 <;> rfl
    · show (match s.localAxis e (Fin.ofNat 4 (bits (s.storeWord a) 0 2)) with
        | none => true
        | some a => _) = false
      rw [State.localAxis_at hc, hx]
      show (tget (s.axis x).marks (Fin.ofNat 4 (bits (s.storeWord a) 2 2))).isNone = false
      rw [← Option.not_isSome]
      exact congrArg (!·) hmarked
  | waitTime =>
    show (s.storeWord (a + 1) == 0) = false
    exact beq_eq_false_iff_ne.2 fun hz => htime rfl (by rw [hz]; rfl)
  | lamp =>
    obtain ⟨hoperand, hlamps⟩ := hlamp rfl
    show ((decide (31 < (s.storeWord (a + 1)).toNat) && s.storeWord (a + 1) != 0xFFFF) || (s.localLamp e (Fin.ofNat 8 (bits (s.storeWord a) 0 3))).isNone) =
      false
    rw [State.localLamp_at hc, ← Option.not_isSome, hlamps, Bool.not_true, Bool.or_false]
    obtain hle | hnone := hoperand
    · rw [decide_eq_false (by omega), Bool.false_and]
    · rw [word_eq_none.2 hnone, bne_self_eq_false, Bool.and_false]
  | loop =>
    show (bits (s.storeWord a) 0 8 == 0) = false
    exact beq_eq_false_iff_ne.2 (hloop rfl).1
  | jump =>
    show decide (12288 ≤ (s.storeWord (a + 1)).toNat) = false
    have := hjump rfl
    exact decide_eq_false (by omega)
  | call =>
    show (bits (s.storeWord a) 6 2 == 0) = false
    exact beq_eq_false_iff_ne.2 (hcall rfl)

/-- A step that passes every check is fetched. -/
theorem State.fetchStep_passes (h : s.PassesChecks e c a) : ∃ k, s.fetchStep e a = .ok (s.stepAt a k) := by
  obtain ⟨hkind, hend, -⟩ := id h
  obtain ⟨k, hk⟩ := stepKind?_isSome hkind
  refine ⟨k, State.fetchStep_ok rfl hk (by rw [stepKind?_length hk]; exact hend) ?_⟩
  have hcode := stepKind?_code hk
  obtain ⟨-, -, -, -, -, -, hloop, hnext, -⟩ := id h
  unfold State.stepFault
  rw [State.stepInvalid_passes hc hcode h, if_neg (by decide)]
  cases k with
  | loop => exact if_pos (hloop hcode).2
  | next => exact if_neg (hnext hcode)
  | finish | move | home | waitAxis | waitMark | waitTime | waitPress | lamp | jump | signal | call => rfl

end

/-- A show step at the end of the store, or an invalid one: no kind has its code, or it is a WAIT_TIME of 0 (R48, R49). -/
def State.FailsAt (s : State) (a : Nat) (f : ShowFault) : Prop :=
  (f = .storeEnd ∧ (a = 12288 ∨ (a = 12287 ∧ bits (s.storeWord a) 10 6 = 5))) ∨
    (f = .stepInvalid ∧ a + 2 ≤ 12288 ∧
      (12 < bits (s.storeWord a) 10 6 ∨ (bits (s.storeWord a) 10 6 = 5 ∧ (s.storeWord (a + 1)).toNat = 0)))

theorem State.FailsAt.isStepFault {s : State} {a : Nat} {f : ShowFault} (h : s.FailsAt a f) : f.isStepFault = true := by
  obtain ⟨rfl, -⟩ | ⟨rfl, -⟩ := h <;> rfl

theorem State.FailsAt.of_store {s t : State} {a : Nat} {f : ShowFault} (h : s.FailsAt a f) (hs : ∀ n, t.storeWord n = s.storeWord n) :
    t.FailsAt a f := by
  unfold State.FailsAt
  rw [hs, hs]
  exact h

theorem State.fetchStep_fails {s : State} {a : Nat} {f : ShowFault} (h : s.FailsAt a f) (e : ExhibitNo) : s.fetchStep e a = .error f := by
  obtain ⟨rfl, hend | ⟨rfl, hk⟩⟩ | ⟨rfl, hend, hk | ⟨hk, hz⟩⟩ := h
  · unfold State.fetchStep State.readKind
    rw [if_pos (by simp only [Config.storeWords]; omega)]
  · unfold State.fetchStep State.readKind
    rw [if_neg (by decide), hk]
    rfl
  · unfold State.fetchStep State.readKind
    rw [if_neg (by simp only [Config.storeWords]; omega), stepKind?_none hk]
  · have hword : s.storeWord (a + 1) = 0#16 := BitVec.eq_of_toNat_eq hz
    unfold State.fetchStep
    rw [State.readKind_ok (k := .waitTime) hk rfl hend]
    unfold State.stepFault State.stepInvalid
    simp [hword]

/-! ### RESUME (R73) -/

/-- The state in which a resumed show runs. -/
def State.resumed (s : State) (e : ExhibitNo) : State := (s.enterState e .running).putSlot e { s.slot e with status := none }

theorem State.resumeShow_eq (s : State) (e : ExhibitNo) : s.resumeShow e = (s.resumed e).runAct e := by
  unfold State.resumeShow State.resumed
  simp only
  rw [(s.enterState_to e .running).slot]

theorem State.resumed_to (s : State) (e : ExhibitNo) :
    ShowTo s (s.resumed e) e ((s.exhibit e).entering .running) { s.slot e with status := none } (s.source e)
      ((s.exhibit e).entering .running).IsReadyLamp := by
  have henter := s.enterState_to e .running
  have hput := (s.enterState e .running).putSlot_to e { s.slot e with status := none }
  rw [henter.exhibit, henter.source] at hput
  exact henter.trans (hput.silent _)

/-- RESUME where it is taken. -/
theorem State.orderResume_taken {s : State} {e : ExhibitNo} {v1 : Word} (v2 : Word) (h1 : v1.toNat = e.val) (hst : (s.exhibit e).state = .suspended)
    (hpending : ¬ s.ShowPending 0x11 e) (hstop : s.stopInForce = false) : State.orderResume v1 v2 s = Machine.taken (s.resumeShow e) := by
  rw [s.orderResume_valid v2 h1, if_neg (by rw [hst]; decide), if_neg (fun h => hpending ((s.showPending_iff (.inr rfl) e).2 h)),
    if_neg (by simp [hst, hstop])]

theorem State.hold_to (s : State) (e : ExhibitNo) :
    ShowTo s (s.hold e) e ((s.exhibit e).entering .suspended) { s.slot e with status := some .held, runaway := 0 }
      { s.source e with suspended := true } ((s.exhibit e).entering .suspended).IsReadyLamp := by
  have hput := s.putSlot_to e { s.slot e with status := some .held, runaway := 0 }
  unfold State.hold
  generalize s.putSlot e { s.slot e with status := some .held, runaway := 0 } = u at *
  have henter := u.enterState_to e .suspended
  have hmark := (u.enterState e .suspended).markCondition_to e .suspended
  rw [henter.exhibit, henter.slot, henter.source] at hmark
  have hboth := henter.trans (hmark.silent _)
  rw [hput.exhibit, hput.slot, hput.source] at hboth
  exact (hput.silent _).trans hboth

end Sys2Proof.Machine
end

section
/-! START SHOW and RESUME (R72, R73): O29. -/

namespace Sys2Proof.Machine

/-- START SHOW where it is taken. -/
theorem State.orderStartShow_taken {s : State} {e : ExhibitNo} {v1 v2 : Word} (h1 : v1.toNat = e.val)
    (h2 : v2.toNat ≤ 12287 ∨ v2.toNat = 65535) (hst : (s.exhibit e).state = .ready ∨ (s.exhibit e).state = .resting)
    (hpending : ¬ s.ShowPending 0x10 e) (hguard : (s.exhibit e).guardOpen = false) (hstop : s.stopInForce = false) :
    State.orderStartShow v1 v2 s = Machine.taken (s.startShowOrder e v2) := by
  have habsent : ¬ (s.exhibit e).state.showAbsent = true := by obtain hst | hst := hst <;> rw [hst] <;> decide
  have hstart : (s.exhibit e).state.startable = true := (ExhibitState.startable_iff _).2 hst
  rw [s.orderStartShow_valid h1 h2, if_neg habsent, if_neg (fun h => hpending ((s.showPending_iff (.inl rfl) e).2 h)),
    if_neg (by simp [hstart, hguard, hstop])]

/-- The show of START SHOW runs at once to the WAIT_TIME at its start. -/
theorem State.startShowOrder_time_to {s : State} {e : ExhibitNo} {c : ExhibitConfig} {v2 : Word} {d : Nat} (hc : (s.exhibit e).config = some c)
    (htime : s.TimeStepAt (if v2.toNat = 65535 then c.defaultShow else v2.toNat) d) :
    ShowTo s (s.startShowOrder e v2) e ({ s.exhibit e with encore := false }.entering .running)
      (((s.slot e).started (if v2.toNat = 65535 then c.defaultShow else v2.toNat)).waitingAt (if v2.toNat = 65535 then c.defaultShow else v2.toNat) d)
      (s.source e) ({ s.exhibit e with encore := false }.entering .running).IsReadyLamp := by
  have hdrop := s.putExhibit_to e { s.exhibit e with encore := false }
  unfold State.startShowOrder State.dropEncore
  simp only
  generalize s.putExhibit e { s.exhibit e with encore := false } = u at *
  split
  · next hv =>
    rw [if_pos (word_eq_none.1 hv)] at htime ⊢
    have hstart := State.startDefault_time_to (s := u) (e := e) (c := c) (by rw [hdrop.exhibit]; exact hc) (htime.of_store hdrop.storeWord)
    rw [hdrop.exhibit, hdrop.slot, hdrop.source] at hstart
    exact (hdrop.silent _).trans hstart
  · next hv =>
    rw [if_neg fun h => hv (word_eq_none.2 h)] at htime ⊢
    have hstart := State.startShow_time_to (s := u) (e := e) (htime.of_store hdrop.storeWord)
    rw [hdrop.exhibit, hdrop.slot, hdrop.source] at hstart
    exact (hdrop.silent _).trans hstart

/-- Once RUNNING with its guard closed, an exhibit has its ready lamp idle (Table 1-7). -/
theorem State.enterRunning_lamp {s : State} {e : ExhibitNo} {c : ExhibitConfig} {ch : ChannelNo} (hc : (s.exhibit e).config = some c)
    (hguard : (s.exhibit e).guardOpen = false) (hlamp : c.readyLamp = some ch) :
    ((s.enterState e .running).channel ch).readyLayer.setting = .idle := by
  have hput := s.putExhibit_to e ((s.exhibit e).entering .running)
  unfold State.enterState
  generalize s.putExhibit e ((s.exhibit e).entering .running) = u at *
  rw [u.evalReady_setting (c := c) (by rw [hput.exhibit]; exact hc) hlamp]
  unfold State.readySetting
  rw [hput.exhibit]
  have hguard : ((s.exhibit e).entering .running).guardOpen = false := hguard
  simp [Exhibit.entering]

theorem State.startShow_time_lamp {s : State} {e : ExhibitNo} {c : ExhibitConfig} {ch : ChannelNo} {a d : Nat}
    (hc : (s.exhibit e).config = some c) (hguard : (s.exhibit e).guardOpen = false) (hlamp : c.readyLamp = some ch) (h : s.TimeStepAt a d) :
    ((s.startShow e a).channel ch).readyLayer.setting = .idle := by
  have hput := s.putSlot_to e ((s.slot e).started a)
  unfold State.startShow
  generalize s.putSlot e ((s.slot e).started a) = u at *
  have henter := u.enterState_to e .running
  have hrun := State.runAct_time_to (s := u.enterState e .running) (e := e) (a := a) (by rw [henter.slot, hput.slot]; rfl)
    (h.of_store fun n => (henter.storeWord n).trans (hput.storeWord n))
  rw [hrun.channel ch id]
  exact State.enterRunning_lamp (by rw [hput.exhibit]; exact hc) (by rw [hput.exhibit]; exact hguard) hlamp

theorem State.startDefault_configured {s : State} {e : ExhibitNo} {c : ExhibitConfig} (hc : (s.exhibit e).config = some c) :
    s.startDefault e = s.startShow e c.defaultShow := by
  unfold State.startDefault
  rw [hc]

theorem State.startShowOrder_lamp {s : State} {e : ExhibitNo} {c : ExhibitConfig} {ch : ChannelNo} {v2 : Word} {d : Nat}
    (hc : (s.exhibit e).config = some c) (hguard : (s.exhibit e).guardOpen = false) (hlamp : c.readyLamp = some ch)
    (htime : s.TimeStepAt (if v2.toNat = 65535 then c.defaultShow else v2.toNat) d) :
    ((s.startShowOrder e v2).channel ch).readyLayer.setting = .idle := by
  have hdrop := s.putExhibit_to e { s.exhibit e with encore := false }
  unfold State.startShowOrder State.dropEncore
  simp only
  generalize s.putExhibit e { s.exhibit e with encore := false } = u at *
  have huc : (u.exhibit e).config = some c := by rw [hdrop.exhibit]; exact hc
  have hug : (u.exhibit e).guardOpen = false := by rw [hdrop.exhibit]; exact hguard
  split
  · next hv =>
    rw [if_pos (word_eq_none.1 hv)] at htime
    rw [State.startDefault_configured huc]
    exact State.startShow_time_lamp huc hug hlamp (htime.of_store hdrop.storeWord)
  · next hv =>
    rw [if_neg fun h => hv (word_eq_none.2 h)] at htime
    exact State.startShow_time_lamp huc hug hlamp (htime.of_store hdrop.storeWord)

/-- The configuration names the ready lamp. -/
theorem Exhibit.isReadyLamp_named {x : Exhibit} {c : ExhibitConfig} {st : ExhibitState} {ch : ChannelNo} (hc : x.config = some c)
    (h : (x.entering st).IsReadyLamp ch) : c.readyLamp = some ch := by
  have := Exhibit.isReadyLamp_entering h
  rw [hc] at this
  exact this

/-- A RESUME that finds a step still marked SUSPEND holds it again. -/
theorem State.resumeShow_held_to {s : State} {e : ExhibitNo} {c : ExhibitConfig} {a : Nat} (hc : (s.exhibit e).config = some c)
    (hst : (s.exhibit e).state = .suspended) (hcur : (s.slot e).current = some a) (hmark : bit (s.storeWord a) 9 = true)
    (hpass : s.PassesChecks e c a) (hallowed : c.suspendAllowed = true) :
    ShowTo s (s.resumeShow e) e { s.exhibit e with rest := none, guardAlert := none, returnState := none }
      { s.slot e with status := some .held, runaway := 0 } { s.source e with suspended := true } fun ch => c.readyLamp = some ch := by
  have hres := s.resumed_to e
  rw [s.resumeShow_eq]
  generalize s.resumed e = r at *
  have hrc : (r.exhibit e).config = some c := by rw [hres.exhibit]; exact hc
  have hrpass : r.PassesChecks e c a := by
    unfold State.PassesChecks
    simp only [hres.storeWord, hres.axis, hres.slot]
    exact hpass
  obtain ⟨k, hfetch⟩ := State.fetchStep_passes hrc hrpass
  have hheld : r.holdsStep e (r.stepAt a k) = true := by
    have hsuspend : (r.stepAt a k).suspend = true := by
      show bit (r.storeWord a) 9 = true
      rw [hres.storeWord]
      exact hmark
    unfold State.holdsStep
    rw [hsuspend, hrc, hres.exhibit]
    exact hallowed
  rw [State.runAct_finished (State.actStep_held (by rw [hres.slot]; exact hcur) hfetch hheld)]
  have hhold := r.hold_to e
  rw [hres.exhibit, hres.slot, hres.source] at hhold
  have hx : ((s.exhibit e).entering .running).entering .suspended = { s.exhibit e with rest := none, guardAlert := none, returnState := none } := by
    rw [Exhibit.entering_show _ (.inr rfl), Exhibit.entering_show _ (.inl rfl), ← hst]
  have hboth := (hres.mono fun ch => Exhibit.isReadyLamp_named hc).trans (hhold.mono fun ch h => Exhibit.isReadyLamp_named (st := .suspended)
    (x := (s.exhibit e).entering .running) hc h)
  rw [hx] at hboth
  exact hboth

end Sys2Proof.Machine
end

section
/-! START SHOW and RESUME (R72, R73): O29. -/

namespace Sys2Proof.Machine

/-- A taken order whose effect is an act on one exhibit: what is left, in the words of the orders' statements. -/
theorem RowOf.taken_show_form {s u : State} {code w1 w2 : Nat} {owner : Word → Word → State → Answer} {e : ExhibitNo} {x : Exhibit} {sl : Slot}
    {src : SourceRecord} {L : ChannelNo → Prop} (hrow : RowOf code owner) (h : s.AtCell code w1 w2) (hp : s.part = .run)
    (ho : ∀ v1 v2 : Word, v1.toNat = w1 → v2.toNat = w2 → owner v1 v2 s = Machine.taken u) (hacts : ∀ v1 v2, (owner v1 v2 s).ActsFrom s)
    (hto : ShowTo s u e x sl src L) :
    ∃ t, exec (orderRow code) s = .next t ∧ s.Answered t code 0 0 ∧ t.exhibit e = x ∧ t.slot e = sl ∧ t.source e = src ∧
      s.OtherExhibits t e ∧ t.channels = u.channels ∧ (∀ ch, ¬ L ch → t.channel ch = s.channel ch) ∧
      (∀ k < 16384, s.NotOfCell k → OutsideExhibit e k → t.word k = s.word k) ∧
      t = { s with exhibits := t.exhibits, slots := t.slots, sources := t.sources, channels := t.channels, ram := t.ram, deck := t.deck,
                   attn := t.attn } := by
  obtain ⟨t, hexec, hans, hexhibit, hslot, hsource, hothers, hchannel, hword, ht⟩ := hrow.taken_show h hp ho hacts hto
  exact ⟨t, hexec, hans, hexhibit, hslot, hsource, hothers, by rw [ht], hchannel, hword, hto.form_answered ht⟩

theorem State.sources_same {s t : State} {e : ExhibitNo} (hsource : t.source e = s.source e) (hothers : s.OtherExhibits t e) :
    t.sources = s.sources := tget_ext fun f => by
  by_cases hf : f = e
  · subst hf
    exact hsource
  · exact (hothers f hf).2.2

/-- A scene seen after an alert: the channels aside, all is as it was. -/
theorem SceneFacts.loose {s t u : State} {e : ExhibitNo} {x : Exhibit} {sl : Slot} {src : SourceRecord} {L : ChannelNo → Prop} {D : AxisDeal}
    {d : List AxisNo} (h : SceneFacts s t e x sl src L D d) (hexhibits : u.exhibits = t.exhibits) (hslots : u.slots = t.slots)
    (hsources : u.sources = t.sources) (haxes : u.axes = t.axes) (hpool : u.pool = t.pool) : SceneFacts s u e x sl src anyLamp D d := by
  have hlamps : SceneFacts s { t with channels := u.channels } e x sl src anyLamp D d :=
    { exhibit := h.exhibit, slot := h.slot, source := h.source, others := h.others, channel := fun _ hch => absurd trivial hch,
      touched := h.touched, untouched := h.untouched, axisOthers := h.axisOthers, waiting := h.waiting, held := h.held, units := h.units }
  exact hlamps.congr hexhibits hslots hsources rfl haxes hpool

/-- What a RESUME that finds an invalid step leaves, before its alert. -/
theorem State.resumeShow_fails_to {s : State} {e : ExhibitNo} {a : Nat} {f : ShowFault} (hst : (s.exhibit e).state = .suspended)
    (hcur : (s.slot e).current = some a) (hfails : s.FailsAt a f) (hfirst : (s.slot e).firstFault = none) (hwait : s.pool.waiting = []) :
    ∃ v L, SceneTo s v e ((s.exhibit e).entering .faulted) ((s.slot e).faultedAt f a)
      ((s.source e).faultedAt { code := f, address := a }) L haltDeal.dropping (s.boundAxes e) ∧
      s.resumeShow e = v.raise (exhibitSource e) .showFault 0 1 := by
  have hres := s.resumed_to e
  rw [s.resumeShow_eq]
  generalize s.resumed e = r at *
  have hforce : (r.exhibit e).inForce = (s.exhibit e).inForce := by
    rw [hres.exhibit]
    exact Exhibit.inForce_entering (by decide) (by rw [hst]; decide)
  rw [State.runAct_finished (State.actStep_unfetched (by rw [hres.slot]; exact hcur) (State.fetchStep_fails (hfails.of_store hres.storeWord) e)),
    State.showFault_step hfails.isStepFault]
  have hfault := State.faultEnd_to (s := r) (e := e) (State.waitsOnly_nil (by rw [hres.pool]; exact hwait)) f a
  rw [State.boundAxes_inForce hforce, hres.exhibit, hres.slot, hres.source] at hfault
  have hslot : Slot.faultedAt { s.slot e with status := none } f a = (s.slot e).faultedAt f a := rfl
  have hnote : Slot.firstOf { s.slot e with status := none } f a = { code := f, address := a } := by
    unfold Slot.firstOf
    rw [hfirst]
    rfl
  rw [hslot, hnote] at hfault
  have hx : ((s.exhibit e).entering .running).entering .faulted = (s.exhibit e).entering .faulted := by
    rw [Exhibit.entering_plain (st := .faulted) _ rfl, Exhibit.entering_plain (st := .faulted) _ rfl, Exhibit.entering_show _ (.inl rfl)]
  rw [hx] at hfault
  exact ⟨_, _, SceneTo.after hres hfault, rfl⟩

/-- START SHOW that comes to a WAIT_TIME. -/
theorem exec_startShow_time {s : State} {e : ExhibitNo} {w2 d : Nat} {c : ExhibitConfig} (hcell : s.AtCell 0x10 e.val w2) (hp : s.part = .run)
    (hc : (s.exhibit e).config = some c) (hst : (s.exhibit e).state = .ready ∨ (s.exhibit e).state = .resting)
    (hpending : ¬ s.ShowPending 0x10 e) (hguard : (s.exhibit e).guardOpen = false) (hstop : s.stopInForce = false)
    (hw2 : w2 ≤ 12287 ∨ w2 = 65535) (htime : s.TimeStepAt (if w2 = 65535 then c.defaultShow else w2) d) :
    ∃ t, exec .startShow s = .next t ∧ s.Answered t 0x10 0 0 ∧
      t.exhibit e = { s.exhibit e with encore := false }.entering .running ∧
      t.slot e = ((s.slot e).started (if w2 = 65535 then c.defaultShow else w2)).waitingAt (if w2 = 65535 then c.defaultShow else w2) d ∧
      t.sources = s.sources ∧ s.OtherExhibits t e ∧ (∀ ch, c.readyLamp = some ch → (t.channel ch).readyLayer.setting = .idle) ∧
      (∀ ch, c.readyLamp ≠ some ch → t.channel ch = s.channel ch) ∧
      (∀ k < 16384, s.NotOfCell k → OutsideExhibit e k → t.word k = s.word k) ∧
      t = { s with exhibits := t.exhibits, slots := t.slots, channels := t.channels, ram := t.ram, deck := t.deck, attn := t.attn } := by
  have hrow : RowOf 0x10 State.orderStartShow := fun _ => rfl
  obtain ⟨-, -, -, -, hv2, -⟩ := id hcell
  have hto := State.startShowOrder_time_to (e := e) (v2 := s.word (addrCell s.deck.position + 2)) hc (by rw [hv2]; exact htime)
  have hlamp (ch : ChannelNo) (hch : c.readyLamp = some ch) :=
    State.startShowOrder_lamp (e := e) (v2 := s.word (addrCell s.deck.position + 2)) hc hguard hch (by rw [hv2]; exact htime)
  have howner (v1 v2 : Word) (h1 : v1.toNat = e.val) (h2 : v2.toNat = w2) : State.orderStartShow v1 v2 s =
      Machine.taken (s.startShowOrder e (s.word (addrCell s.deck.position + 2))) := by
    rw [State.orderStartShow_taken h1 (by rw [h2]; exact hw2) hst hpending hguard hstop, BitVec.eq_of_toNat_eq (h2.trans hv2.symm)]
  rw [hv2] at hto
  generalize s.startShowOrder e (s.word (addrCell s.deck.position + 2)) = u at *
  obtain ⟨t, hexec, hans, hexhibit, hslot, hsource, hothers, hlamps, hchannel, hword, ht⟩ := hrow.taken_show_form hcell hp howner
    (fun v1 v2 => s.orderStartShow_acts v1 v2) hto
  have hsources := State.sources_same hsource hothers
  rw [hsources] at ht
  refine ⟨t, hexec, hans, hexhibit, hslot, hsources, hothers, fun ch hch => ?_,
    fun ch hch => hchannel ch fun hl => hch (Exhibit.isReadyLamp_named (x := { s.exhibit e with encore := false }) hc hl), hword, ht⟩
  rw [show t.channel ch = u.channel ch from congrArg (tget · ch) hlamps]
  exact hlamp ch hch

section
variable {s : State} {e : ExhibitNo} {w2 a : Nat} {c : ExhibitConfig} (hcell : s.AtCell 0x11 e.val w2) (hp : s.part = .run)
  (hst : (s.exhibit e).state = .suspended) (hpending : ¬ s.ShowPending 0x11 e) (hstop : s.stopInForce = false)
  (hcur : (s.slot e).current = some a)
include hcell hp hst hpending hstop hcur

/-- RESUME of a step edited into a WAIT_TIME. -/
theorem exec_resume_time {d : Nat} (hc : (s.exhibit e).config = some c) (htime : s.TimeStepAt a d) :
    ∃ t, exec .resume s = .next t ∧ s.Answered t 0x11 0 0 ∧ t.exhibit e = (s.exhibit e).entering .running ∧
      t.slot e = { s.slot e with status := none }.waitingAt a d ∧ t.sources = s.sources ∧ s.OtherExhibits t e ∧
      (∀ ch, c.readyLamp ≠ some ch → t.channel ch = s.channel ch) ∧
      (∀ k < 16384, s.NotOfCell k → OutsideExhibit e k → t.word k = s.word k) ∧
      t = { s with exhibits := t.exhibits, slots := t.slots, channels := t.channels, ram := t.ram, deck := t.deck, attn := t.attn } := by
  have hrow : RowOf 0x11 State.orderResume := fun _ => rfl
  have hres := s.resumed_to e
  have hrun := State.runAct_time_to (s := s.resumed e) (e := e) (by rw [hres.slot]; exact hcur) (htime.of_store hres.storeWord)
  rw [hres.exhibit, hres.slot, hres.source, ← s.resumeShow_eq] at hrun
  have hto := hres.trans (hrun.silent _)
  have howner (v1 v2 : Word) (h1 : v1.toNat = e.val) := State.orderResume_taken v2 h1 hst hpending hstop
  generalize s.resumeShow e = u at *
  obtain ⟨t, hexec, hans, hexhibit, hslot, hsource, hothers, -, hchannel, hword, ht⟩ := hrow.taken_show_form hcell hp
    (fun v1 v2 h1 _ => howner v1 v2 h1) (fun v1 v2 => s.orderResume_acts v1 v2) hto
  have hsources := State.sources_same hsource hothers
  rw [hsources] at ht
  exact ⟨t, hexec, hans, hexhibit, hslot, hsources, hothers, fun ch hch => hchannel ch fun hl => hch (Exhibit.isReadyLamp_named hc hl), hword, ht⟩

/-- RESUME of a step edited into an invalid one. -/
theorem exec_resume_fails {f : ShowFault} (hfails : s.FailsAt a f) (hfirst : (s.slot e).firstFault = none) (hbusy : s.someAxisBusy e = false)
    (hwait : s.pool.waiting = []) :
    ∃ t, exec .resume s = .next t ∧ s.Answered t 0x11 0 0 ∧
      SceneFacts s t e ((s.exhibit e).entering .faulted) ((s.slot e).faultedAt f a) ((s.source e).faultedAt { code := f, address := a }) anyLamp
        haltDeal.dropping (s.boundAxes e) := by
  have hrow : RowOf 0x11 State.orderResume := fun _ => rfl
  obtain ⟨-, -, -, -, -, hrep⟩ := id hcell
  have hrest : ∀ a ∈ s.boundAxes e, (s.axis a).state.busy = false := fun a => State.boundAxes_rest hbusy
  obtain ⟨v, L, hto, hv⟩ := State.resumeShow_fails_to hst hcur hfails hfirst hwait
  obtain ⟨hraised, -⟩ := v.raise_act (exhibitSource e) .showFault 0 1
  generalize v.raise (exhibitSource e) .showFault 0 1 = u at *
  have hvrep : v.reports = [] := by
    obtain ⟨rs, hrs, -, hcross⟩ := hto.reports
    rw [hrs, hrep, List.nil_append, List.eq_nil_iff_forall_not_mem]
    intro r hr
    obtain ⟨b, hb, hbc, -⟩ := hcross r hr
    obtain ⟨hno, -, -⟩ := haltDeal_does.calm (s.axis b) (hrest b hb)
    rw [show haltDeal.dropping.crosses (s.axis b) = haltDeal.crosses (s.axis b) from rfl, hno] at hbc
    exact absurd hbc (by decide)
  obtain ⟨t, hexec, hans, hword, ht⟩ := hrow.taken_effect hcell hp (r := .taken) (d := 0) (by omega)
    (fun v1 v2 h1 _ => (State.orderResume_taken v2 h1 hst hpending hstop).trans (congrArg Machine.taken hv)) (fun v1 v2 => s.orderResume_acts v1 v2)
    (State.settle_nil u (by rw [hraised]; exact hvrep))
  exact ⟨t, hexec, hans, hto.toSceneFacts.loose (by rw [ht, hraised]) (by rw [ht, hraised]) (by rw [ht, hraised]) (by rw [ht, hraised])
    (by rw [ht, hraised])⟩

end

/-- Settles O29: the three outcomes of the step a show order comes to. -/
theorem startAndResume : Obligations.StartAndResume := by
  refine ⟨fun s e w2 d c hcell hp hc hst hpending hguard hstop hw2 htime => ?_,
    fun s e w2 a d c hcell hp hc hst hpending hstop hcur hfrozen => ⟨fun htime => ?_, fun hmark hpass hallowed => ?_,
      fun f hfails hfirst hbusy hwait => ?_⟩⟩
  · obtain ⟨t, hexec, hans, hexhibit, hslot, hrest⟩ := exec_startShow_time hcell hp hc hst hpending hguard hstop hw2 htime
    rw [Exhibit.entering_show _ (.inl rfl)] at hexhibit
    refine ⟨t, hexec, hans, hexhibit, ?_, ?_, ?_, hrest⟩
    · rw [hslot]
      exact Slot.waitingAt_waitsTime rfl _ _
    · rw [hslot]
      rfl
    · rw [hslot]
      rfl
  · obtain ⟨t, hexec, hans, hexhibit, hslot, hrest⟩ := exec_resume_time hcell hp hst hpending hstop hcur hc htime
    rw [Exhibit.entering_show _ (.inl rfl)] at hexhibit
    refine ⟨t, hexec, hans, hexhibit, ?_, ?_, ?_, ?_, hrest⟩
    · rw [hslot]
      exact Slot.waitingAt_waitsTime hfrozen _ _
    all_goals
      rw [hslot]
      rfl
  · have hrow : RowOf 0x11 State.orderResume := fun _ => rfl
    have hto := State.resumeShow_held_to hc hst hcur hmark hpass hallowed
    have howner (v1 v2 : Word) (h1 : v1.toNat = e.val) := State.orderResume_taken v2 h1 hst hpending hstop
    generalize s.resumeShow e = u at *
    obtain ⟨t, hexec, hans, hexhibit, hslot, hsource, hothers, -, hchannel, hword, ht⟩ := hrow.taken_show_form hcell hp
      (fun v1 v2 h1 _ => howner v1 v2 h1) (fun v1 v2 => s.orderResume_acts v1 v2) hto
    exact ⟨t, hexec, hans, hexhibit, hslot, hsource, hothers, hchannel, hword, ht⟩
  · obtain ⟨t, hexec, hans, hfacts⟩ := exec_resume_fails hcell hp hst hpending hstop hcur hfails hfirst hbusy hwait
    have hrest : ∀ a ∈ s.boundAxes e, (s.axis a).state.busy = false := fun a => State.boundAxes_rest hbusy
    have hexhibit := hfacts.exhibit
    rw [Exhibit.entering_plain _ rfl] at hexhibit
    refine ⟨t, hexec, hans, by rw [hexhibit], by rw [hexhibit], by rw [hfacts.slot]; rfl, ?_, hfacts.source, hfacts.others, fun b => ?_,
      hfacts.pool_same (fun b hb => (haltDeal_does.calm _ (hrest b hb)).2.1) fun b hb => (haltDeal_does.calm _ (hrest b hb)).2.2⟩
    · rw [hfacts.slot]
      unfold Slot.faultedAt Slot.firstOf
      rw [hfirst]
      rfl
    · split
      · next hb => exact hfacts.untouched b hb (hrest b hb)
      · next hb => exact hfacts.axisOthers b hb

end Sys2Proof.Machine
end

section
/-! RESTORE and CLEAR (R16, R17, R89, R94): O33. -/

namespace Sys2Proof.Machine

/-! ### One deal after another -/

/-- What an act makes of an axis, touched or not. -/
def AxisDeal.made (D : AxisDeal) (x : Axis) : Axis := if D.touches x then D.result x else D.idle x

/-- Done to each axis of a list, and then the other to each of them. -/
def AxisDeal.andThen (D E : AxisDeal) : AxisDeal where
  touches x := D.touches x || E.touches (D.made x)
  result x := E.made (D.made x)
  idle x := E.idle (D.idle x)
  crosses x := D.crosses x || E.crosses (D.made x)
  returns x := D.returns x || E.returns (D.made x)
  leaves x := D.leaves x || E.leaves (D.made x)
  most := D.most + E.most

/-- What is done to an axis does not depend on the mark that its image is stale. -/
structure AxisDeal.Blind (D : AxisDeal) : Prop where
  touches : ∀ {x y : Axis}, x.Matches y → D.touches x = D.touches y
  result : ∀ {x y : Axis}, x.Matches y → (D.result x).Matches (D.result y)
  idle : ∀ {x y : Axis}, x.Matches y → (D.idle x).Matches (D.idle y)
  crosses : ∀ {x y : Axis}, x.Matches y → D.crosses x = D.crosses y
  returns : ∀ {x y : Axis}, x.Matches y → D.returns x = D.returns y
  leaves : ∀ {x y : Axis}, x.Matches y → D.leaves x = D.leaves y

theorem AxisDeal.Blind.made {D : AxisDeal} (h : D.Blind) {x y : Axis} (hxy : x.Matches y) : (D.made x).Matches (D.made y) := by
  unfold AxisDeal.made
  rw [h.touches hxy]
  split
  · exact h.result hxy
  · exact h.idle hxy

namespace AxesTo

variable {s u t : State} {D E : AxisDeal} {d : List AxisNo}

/-- An axis of the list, touched or not. -/
theorem made (h : AxesTo s t D d) {a : AxisNo} (ha : a ∈ d) : (t.axis a).Matches (D.made (s.axis a)) := by
  unfold AxisDeal.made
  split
  · next hx => exact h.touched a ha hx
  · next hx =>
    rw [h.untouched a ha (Bool.eq_false_iff.2 hx)]
    exact .refl _

theorem andThen (h : AxesTo s u D d) (k : AxesTo u t E d) (hblind : E.Blind) : AxesTo s t (D.andThen E) d := by
  have hua : ∀ {a}, a ∈ d → (u.axis a).Matches (D.made (s.axis a)) := fun ha => h.made ha
  obtain ⟨qs, hqs, hm, hq⟩ := h.reports
  obtain ⟨rs, hrs, hn, hr⟩ := k.reports
  refine ⟨fun a ha _ => (k.made ha).trans (hblind.made (hua ha)), fun a ha hx => ?_, fun a ha => ?_, fun n hk => ?_, ?_, fun a => ?_,
    k.units.trans h.units, ⟨qs ++ rs, ?_, ?_, fun r hmem => ?_⟩, ?_⟩
  · obtain ⟨hd, he⟩ := Bool.or_eq_false_iff.1 hx
    rw [← hblind.touches (hua ha)] at he
    rw [k.untouched a ha he, h.untouched a ha hd]
    rfl
  · rw [k.others a ha, h.others a ha]
  · rw [k.word n fun a ha hx => hk a ha (Bool.or_eq_true_iff.2 (.inr (hblind.touches (hua ha) ▸ hx))),
      h.word n fun a ha hx => hk a ha (Bool.or_eq_true_iff.2 (.inl hx))]
  · rw [k.waiting, h.waiting, List.filter_filter]
    refine List.filter_congr fun w _ => ?_
    by_cases hw : w.axis ∈ d
    · rw [hblind.leaves (hua hw)]
      simp only [AxisDeal.andThen]
      cases D.leaves (s.axis w.axis) <;> cases E.leaves (D.made (s.axis w.axis)) <;> simp [hw]
    · simp [hw]
  · rw [k.held, h.held]
    by_cases ha : a ∈ d
    · rw [hblind.returns (hua ha)]
      by_cases hd : D.returns (s.axis a) = true
      · simp [AxisDeal.andThen, ha, hd]
      · simp [AxisDeal.andThen, ha, hd]
    · simp [ha]
  · rw [hrs, hqs, List.append_assoc]
  · rw [List.length_append]
    show _ ≤ (D.most + E.most) * d.length
    rw [Nat.add_mul]
    omega
  · rw [List.mem_append] at hmem
    obtain hmem | hmem := hmem
    · obtain ⟨a, ha, hc, hcross⟩ := hq r hmem
      exact ⟨a, ha, Bool.or_eq_true_iff.2 (.inl hc), hcross⟩
    · obtain ⟨a, ha, hc, hcross⟩ := hr r hmem
      exact ⟨a, ha, Bool.or_eq_true_iff.2 (.inr (hblind.crosses (hua ha) ▸ hc)), hcross⟩
  · have hform := k.form
    rw [h.form] at hform
    exact hform

end AxesTo

/-! ### Axes that leave their fault, quick stops without a report, and axes that leave the list (R89, R94, R121) -/

/-- FAULTED axes leave their fault. -/
def restoreDeal : AxisDeal where
  touches x := x.state == .faulted
  result := Axis.restored
  idle x := x
  crosses x := x.state == .faulted
  returns _ := false
  leaves _ := false
  most := 4

theorem restoreDeal_does : restoreDeal.Does State.leaveFault where
  touched s a h := by
    have hst : (s.axis a).state = .faulted := by simpa [restoreDeal] using h
    simpa [restoreDeal, AxisDeal.pool, hst] using State.leaveFault_to hst
  untouched s a h := by
    have hst : (s.axis a).state ≠ .faulted := by simpa [restoreDeal] using h
    unfold State.leaveFault
    simp only
    rw [if_pos hst]
    exact (s.setAxis_self a).symm
  calm x h := ⟨h, rfl, rfl⟩
  apart x h := absurd h Bool.false_ne_true

theorem restoreDeal_stable : restoreDeal.Stable where
  touched x y hx hy := by
    have hst : y.state ≠ .faulted := by
      rw [hy.state]
      exact x.restored_spec.2
    exact ⟨by simp [restoreDeal, hst], rfl, rfl, .inl ⟨by simp [restoreDeal, hst], rfl⟩⟩
  untouched x hx := ⟨hx, rfl⟩

/-- Axes in AWAIT_POWER leave the list. -/
def awaitDeal : AxisDeal where
  touches x := x.state == .awaitPower
  result := Axis.unqueued
  idle x := x
  crosses x := x.state == .awaitPower
  returns _ := false
  leaves x := x.state == .awaitPower
  most := 4

theorem awaitDeal_does : awaitDeal.Does State.clearAwait where
  touched s a h := by
    have hst : (s.axis a).state = .awaitPower := by simpa [awaitDeal] using h
    have hclear : s.clearAwait a = s.leaveAwait a := if_pos hst
    simpa [awaitDeal, AxisDeal.pool, hst, hclear] using s.leaveAwait_to a
  untouched s a h := by
    have hst : (s.axis a).state ≠ .awaitPower := by simpa [awaitDeal] using h
    exact (if_neg hst).trans (s.setAxis_self a).symm
  calm x h := ⟨h, rfl, h⟩
  apart x h := absurd h Bool.false_ne_true

theorem awaitDeal_stable : awaitDeal.Stable where
  touched x y hx hy := by
    have hst : y.state ≠ .awaitPower := by
      rw [hy.state]
      show x.unqueued.state ≠ .awaitPower
      rw [x.unqueued_spec.1]
      split <;> decide
    exact ⟨by simp [awaitDeal, hst], rfl, by simp [awaitDeal, hst], .inl ⟨by simp [awaitDeal, hst], rfl⟩⟩
  untouched x hx := ⟨hx, rfl⟩

/-- An axis quick-stopped where its model is. -/
def Axis.stoppedHere (x : Axis) : Axis := x.afterQuickStop.movedTo x.encoder

/-- HOMING, MOVING and STOPPING axes are quick-stopped, no TRAVEL finding reported. -/
def stopDeal : AxisDeal where
  touches x := x.state.drives
  result := Axis.stoppedHere
  idle x := x
  crosses x := x.state.drives
  returns x := x.state.drives
  leaves _ := false
  most := 4

theorem Axis.stoppedHere_state (x : Axis) : x.stoppedHere.state.drives = false := by
  unfold Axis.stoppedHere Axis.afterQuickStop
  split_ifs <;> rfl

theorem stopDeal_does : stopDeal.Does State.quickStopSilently where
  touched s a h := by
    have hst : (s.axis a).state.drives = true := h
    have hquick : s.quickStopSilently a = s.resyncAs a (s.axis a).afterQuickStop := if_pos hst
    simpa [stopDeal, AxisDeal.pool, hst, hquick, Axis.stoppedHere] using s.resyncAs_to a (s.axis a).afterQuickStop
  untouched s a h := by
    have hst : (s.axis a).state.drives = false := h
    exact (if_neg (by rw [hst]; decide)).trans (s.setAxis_self a).symm
  calm x h := ⟨h, h, rfl⟩
  apart x _ := rfl

theorem stopDeal_stable : stopDeal.Stable where
  touched x y hx hy := by
    have hst : y.state.drives = false := by
      rw [hy.state]
      exact x.stoppedHere_state
    exact ⟨hst, hst, rfl, .inl ⟨hst, rfl⟩⟩
  untouched x hx := ⟨hx, rfl⟩

theorem Axis.Matches.unqueued {x y : Axis} (h : x.Matches y) : x.unqueued.Matches y.unqueued := by
  unfold Axis.Matches at *
  rw [h]
  unfold Axis.unqueued
  cases y.homed <;> rfl

theorem Axis.Matches.restored {x y : Axis} (h : x.Matches y) : x.restored.Matches y.restored := by
  unfold Axis.Matches at *
  rw [h]
  have hin : Axis.inWindow { y with imageStale := x.imageStale } y.pos = y.inWindow y.pos := rfl
  unfold Axis.restored
  simp only [hin]
  split <;> rfl

theorem awaitDeal_blind : awaitDeal.Blind where
  touches h := by simp only [awaitDeal, h.state]
  result h := h.unqueued
  idle h := h
  crosses h := by simp only [awaitDeal, h.state]
  returns _ := rfl
  leaves h := by simp only [awaitDeal, h.state]

theorem restoreDeal_blind : restoreDeal.Blind where
  touches h := by simp only [restoreDeal, h.state]
  result h := h.restored
  idle h := h
  crosses h := by simp only [restoreDeal, h.state]
  returns _ := rfl
  leaves _ := rfl

/-- What CLEAR does to the bound axes (R17 steps 1 to 3). -/
def clearDeal : AxisDeal := (stopDeal.andThen awaitDeal).andThen restoreDeal

/-- The bound axes at CLEAR, when nobody else waits for power. -/
theorem State.clearAxes_to {s : State} {e : ExhibitNo} (hwaits : s.WaitsOnly e) :
    AxesTo s (s.clearAxes e) clearDeal (s.boundAxes e) ∧ (s.clearAxes e).pool.waiting = [] := by
  have hstop := AxesTo.foldl stopDeal_does s (.inr stopDeal_stable) (l := s.boundAxes e)
  have hawait := AxesTo.foldl awaitDeal_does ((s.boundAxes e).foldl State.quickStopSilently s) (.inr awaitDeal_stable) (l := s.boundAxes e)
  have hrestore := AxesTo.foldl restoreDeal_does ((s.boundAxes e).foldl State.clearAwait ((s.boundAxes e).foldl State.quickStopSilently s))
    (.inr restoreDeal_stable) (l := s.boundAxes e)
  have hto := (hstop.andThen hawait awaitDeal_blind).andThen hrestore restoreDeal_blind
  unfold State.clearAxes
  simp only
  generalize (s.boundAxes e).foldl State.leaveFault ((s.boundAxes e).foldl State.clearAwait ((s.boundAxes e).foldl State.quickStopSilently s)) = u at *
  have hempty : u.pool.waiting = [] := by
    rw [hto.waiting, List.filter_eq_nil_iff]
    intro w hw
    obtain ⟨hmem, hst⟩ := hwaits w hw
    simp [AxisDeal.andThen, AxisDeal.made, stopDeal, awaitDeal, hmem, hst, AxisState.drives]
  rw [State.grantScan_empty hempty]
  exact ⟨hto, hempty⟩

end Sys2Proof.Machine
end

section
/-! RESTORE and CLEAR (R16, R17): O33. -/

namespace Sys2Proof.Machine

/-! ### A bound axis at CLEAR -/

theorem AxisDeal.andThen_made (D E : AxisDeal) (x : Axis) : (D.andThen E).made x = E.made (D.made x) := by
  unfold AxisDeal.made AxisDeal.andThen
  by_cases hd : D.touches x = true
  · simp [hd, AxisDeal.made]
  · by_cases he : E.touches (D.idle x) = true
    · simp [hd, he, AxisDeal.made]
    · simp [hd, he, AxisDeal.made]

theorem AxisDeal.dropping_made (D : AxisDeal) (x : Axis) : D.dropping.made x = (D.made x).unresumed := by
  unfold AxisDeal.made AxisDeal.dropping
  simp only
  split <;> rfl

/-- What CLEAR makes of an axis, its resume record aside. -/
def Axis.cleared (x : Axis) : Axis := restoreDeal.made (awaitDeal.made (stopDeal.made x))

theorem clearDeal_made (x : Axis) : clearDeal.made x = x.cleared := by
  unfold clearDeal
  rw [AxisDeal.andThen_made, AxisDeal.andThen_made]
  rfl

/-- An axis at rest and in no fault is not touched. -/
theorem clearDeal_resting {x : Axis} (hbusy : x.state.busy = false) (hfault : x.state ≠ .faulted) : clearDeal.touches x = false := by
  have hdrives : x.state.drives = false := by cases hst : x.state <;> simp_all [AxisState.busy, AxisState.drives]
  have hawait : x.state ≠ .awaitPower := AxisState.busy_false_ne hbusy rfl
  simp [clearDeal, AxisDeal.andThen, AxisDeal.made, stopDeal, awaitDeal, restoreDeal, hdrives, hawait, hfault]

theorem clearDeal_returns (x : Axis) : clearDeal.returns x = x.state.drives := by
  simp [clearDeal, AxisDeal.andThen, stopDeal, awaitDeal, restoreDeal]

theorem Axis.cleared_homing {x : Axis} (h : x.state = .homing) : x.cleared = x.enterUnhomed.movedTo x.encoder := by
  have hstop : x.stoppedHere = x.enterUnhomed.movedTo x.encoder := by
    unfold Axis.stoppedHere Axis.afterQuickStop
    rw [if_pos h]
  simp [Axis.cleared, AxisDeal.made, stopDeal, awaitDeal, restoreDeal, h, AxisState.drives, hstop, Axis.movedTo, Axis.enterUnhomed]

/-- A model found within its window. -/
theorem Axis.cleared_within {x : Axis} (h : x.state = .moving ∨ x.state = .stopping) (hin : x.inWindow x.encoder = true) :
    x.cleared = { x.quickStopped with state := .idle }.movedTo x.encoder := by
  have hhoming : x.state ≠ .homing := by obtain h | h := h <;> rw [h] <;> decide
  have hdrives : x.state.drives = true := by obtain h | h := h <;> rw [h] <;> rfl
  have hstop : x.stoppedHere = { x.quickStopped with state := .idle }.movedTo x.encoder := by
    unfold Axis.stoppedHere Axis.afterQuickStop
    rw [if_neg hhoming, if_pos hin]
  simp [Axis.cleared, AxisDeal.made, stopDeal, awaitDeal, restoreDeal, hdrives, hstop, Axis.movedTo]

/-- A model found outside its window. -/
theorem Axis.cleared_outside {x : Axis} (h : x.state = .moving ∨ x.state = .stopping) (hout : x.inWindow x.encoder = false) :
    x.cleared = ((x.enterFaulted .travel).movedTo x.encoder).restored := by
  have hhoming : x.state ≠ .homing := by obtain h | h := h <;> rw [h] <;> decide
  have hdrives : x.state.drives = true := by obtain h | h := h <;> rw [h] <;> rfl
  have hstop : x.stoppedHere = (x.enterFaulted .travel).movedTo x.encoder := by
    unfold Axis.stoppedHere Axis.afterQuickStop
    rw [if_neg hhoming, if_neg (by rw [hout]; decide)]
  simp [Axis.cleared, AxisDeal.made, stopDeal, awaitDeal, restoreDeal, hdrives, hstop, Axis.movedTo, Axis.enterFaulted]

theorem Axis.cleared_outside_spec {x : Axis} (h : x.state = .moving ∨ x.state = .stopping) (hout : x.inWindow x.encoder = false) :
    x.cleared.state = .unhomed ∧ x.cleared.homed = false ∧ x.cleared.pos = x.encoder ∧ x.cleared.vel = 0 ∧ x.cleared.dir = none ∧
      x.cleared.move = none ∧ x.cleared.request = none := by
  rw [Axis.cleared_outside h hout]
  have hwindow : ((x.enterFaulted .travel).movedTo x.encoder).inWindow ((x.enterFaulted .travel).movedTo x.encoder).pos = false := hout
  unfold Axis.restored
  rw [if_pos (.inr (.inr hwindow))]
  exact ⟨rfl, rfl, rfl, rfl, rfl, rfl, rfl⟩

/-- An axis on its way stands where its model is. -/
theorem Axis.cleared_drives {x : Axis} (h : x.state.drives = true) :
    x.cleared.pos = x.encoder ∧ x.cleared.vel = 0 ∧ x.cleared.dir = none ∧ x.cleared.move = none ∧ x.cleared.request = none := by
  by_cases hhoming : x.state = .homing
  · rw [Axis.cleared_homing hhoming]
    exact ⟨rfl, rfl, rfl, rfl, rfl⟩
  · have hmotion : x.state = .moving ∨ x.state = .stopping := by cases hst : x.state <;> simp_all [AxisState.drives]
    cases hin : x.inWindow x.encoder with
    | true =>
      rw [Axis.cleared_within hmotion hin]
      exact ⟨rfl, rfl, rfl, rfl, rfl⟩
    | false =>
      obtain ⟨-, -, hrest⟩ := Axis.cleared_outside_spec hmotion hin
      exact hrest

theorem Axis.cleared_motion {x : Axis} (h : x.state = .moving ∨ x.state = .stopping) (hhomed : x.homed = true) :
    x.cleared.state = (if x.inWindow x.encoder then .idle else .unhomed) ∧ x.cleared.homed = x.inWindow x.encoder := by
  cases hin : x.inWindow x.encoder with
  | true =>
    rw [Axis.cleared_within h hin]
    exact ⟨rfl, hhomed⟩
  | false =>
    obtain ⟨hstate, hh, -⟩ := Axis.cleared_outside_spec h hin
    exact ⟨hstate, hh⟩

theorem Axis.cleared_awaitPower {x : Axis} (h : x.state = .awaitPower) : x.cleared = x.unqueued := by
  have hst : x.unqueued.state ≠ .faulted := by
    rw [x.unqueued_spec.1]
    split <;> decide
  simp [Axis.cleared, AxisDeal.made, stopDeal, awaitDeal, restoreDeal, h, AxisState.drives, hst]

theorem Axis.cleared_faulted {x : Axis} (h : x.state = .faulted) : x.cleared = x.restored := by
  simp [Axis.cleared, AxisDeal.made, stopDeal, awaitDeal, restoreDeal, h, AxisState.drives]

/-- An axis that leaves its fault is IDLE where it was, or UNHOMED where its model is (R94). -/
theorem Axis.restored_cases (x : Axis) :
    x.restored.homed = (x.cause != some .homeFail && x.homed && x.inWindow x.pos) ∧
      x.restored.state = (if x.restored.homed then .idle else .unhomed) ∧ x.restored.pos = (if x.restored.homed then x.pos else x.encoder) := by
  by_cases h : x.cause = some .homeFail ∨ x.homed = false ∨ x.inWindow x.pos = false
  · obtain ⟨hstate, hpos, hhomed⟩ := Axis.restored_unhomed h
    rw [hhomed]
    refine ⟨?_, hstate, hpos⟩
    obtain h | h | h := h <;> simp [h]
  · rw [not_or, not_or, Bool.not_eq_false, Bool.not_eq_false] at h
    obtain ⟨hcause, hhomed, hin⟩ := h
    obtain ⟨hstate, hpos, hh⟩ := Axis.restored_homed hcause hhomed hin
    rw [hh]
    exact ⟨by simp [hcause, hhomed, hin], hstate, hpos⟩

/-! ### The removal of alerts within an act on an exhibit -/

theorem State.refreshSourceBeacon_layer (s : State) (src : SourceNo) (ch : ChannelNo) {n : LayerName} (h : n ≠ .alertLayer) :
    ((s.refreshSourceBeacon src).channel ch).layer n = (s.channel ch).layer n := by
  unfold State.refreshSourceBeacon State.refreshBeacon State.chooseLamp
  split
  · rfl
  · split
    · rfl
    · split
      · rfl
      · exact s.chooseLayer_layer_ne _ _ _ h.symm

theorem State.refreshStation_layer (s : State) (st : StationNo) (ch : ChannelNo) {n : LayerName} (h : n ≠ .alertLayer) :
    ((s.refreshStation st).channel ch).layer n = (s.channel ch).layer n := by
  unfold State.refreshStation State.chooseLamp
  simp only
  split
  · rfl
  · exact State.chooseLayer_layer_ne _ _ _ _ h.symm

/-- The end of an act of the alert manager sets ALERT layers only. -/
theorem State.closeAct_layer (s : State) (fresh : List Nat) (sources : List SourceNo) (ch : ChannelNo) {n : LayerName} (h : n ≠ .alertLayer) :
    ((s.closeAct fresh sources).channel ch).layer n = (s.channel ch).layer n := by
  unfold State.closeAct
  simp only
  have hstations := forEach_invariant (fun t : State => (t.channel ch).layer n = (s.channel ch).layer n)
    (fun (st : StationNo) u => State.refreshStation u st) (fun st t ht => (t.refreshStation_layer st ch h).trans ht) (s.selectAll fresh) rfl
  have hsources := foldl_invariant (fun t : State => (t.channel ch).layer n = (s.channel ch).layer n)
    (fun u src => State.refreshSourceBeacon u src) (fun t src ht => (t.refreshSourceBeacon_layer src ch h).trans ht) sources _ hstations
  exact hsources

theorem State.removeAlerts_layer (s : State) (p : Alert → Bool) (ch : ChannelNo) {n : LayerName} (h : n ≠ .alertLayer) :
    ((s.removeAlerts p).channel ch).layer n = (s.channel ch).layer n := by
  unfold State.removeAlerts
  split
  · exact State.closeAct_layer _ _ _ ch h
  · rfl

/-- An act on the exhibit after a scene, whatever of its lamps. -/
theorem SceneFacts.then_show {s v t : State} {e : ExhibitNo} {x y : Exhibit} {sl sm : Slot} {src srd : SourceRecord} {L M : ChannelNo → Prop}
    {D : AxisDeal} {d : List AxisNo} (h : SceneFacts s v e x sl src L D d) (k : ShowTo v t e y sm srd M) :
    SceneFacts s t e y sm srd anyLamp D d := by
  have hta : ∀ a, t.axis a = v.axis a := k.axis
  refine ⟨k.exhibit, k.slot, k.source, fun f hf => ?_, fun ch hch => absurd trivial hch, fun a ha htouch => ?_, fun a ha htouch => ?_,
    fun a ha => ?_, ?_, fun a => ?_, ?_⟩
  · obtain ⟨k1, k2, k3⟩ := k.others f hf
    rw [k1, k2, k3]
    exact h.others f hf
  · rw [hta]
    exact h.touched a ha htouch
  · rw [hta]
    exact h.untouched a ha htouch
  · rw [hta]
    exact h.axisOthers a ha
  · rw [k.pool]
    exact h.waiting
  · rw [k.pool]
    exact h.held a
  · unfold State.unitsHeld
    rw [k.pool]
    exact h.units

/-- A scene that begins with the axes. -/
theorem AxesTo.scene {s t : State} {D : AxisDeal} {d : List AxisNo} (h : AxesTo s t D d) (e : ExhibitNo) :
    SceneTo s t e (s.exhibit e) (s.slot e) (s.source e) (fun ch => noLamps ch ∨ noLamps ch) D d := by
  have hrefl := ShowTo.refl t e
  rw [show t.exhibit e = s.exhibit e by rw [h.form]; rfl, show t.slot e = s.slot e by rw [h.form]; rfl,
    show t.source e = s.source e by rw [h.form]; rfl] at hrefl
  exact SceneTo.of_parts (ShowTo.refl s e) h hrefl

end Sys2Proof.Machine
end

section
/-! RESTORE and CLEAR (R16, R17): O33. -/

namespace Sys2Proof.Machine

/-! ### An act that removes alerts -/

/-- A scene in which the entries with `p` have left the alert list, the lamps aside. -/
structure RemovedScene (s t : State) (e : ExhibitNo) (x : Exhibit) (sl : Slot) (src : SourceRecord) (D : AxisDeal) (d : List AxisNo)
    (p : Alert → Bool) : Prop extends SceneFacts s t e x sl src anyLamp D d where
  alerts : t.alerts = s.alerts.filter fun y => !p y
  word : ∀ k, NotOfAlerts k → OutsideExhibit e k → (∀ a ∈ d, D.touches (s.axis a) = true → OutsideAxis a k) → t.word k = s.word k
  reports : ∃ rs : List Report, t.reports = s.reports ++ rs ∧ rs.length ≤ D.most * d.length ∧
    ∀ r ∈ rs, ∃ a ∈ d, D.crosses (s.axis a) = true ∧ ∃ m up, r = .crossing a m up
  form : t = { s with exhibits := t.exhibits, slots := t.slots, sources := t.sources, axes := t.axes, pool := t.pool, channels := t.channels,
                      alerts := t.alerts, stations := t.stations, rewriteCount := t.rewriteCount, ram := t.ram, reports := t.reports }

/-- A scene, the removal, and an act on the exhibit. -/
theorem SceneTo.removed {s u t : State} {e : ExhibitNo} {x y : Exhibit} {sl sm : Slot} {src srd : SourceRecord} {L M : ChannelNo → Prop}
    {D : AxisDeal} {d : List AxisNo} {p : Alert → Bool} (h : SceneTo s u e x sl src L D d) (k : ShowTo (u.removeAlerts p) t e y sm srd M) :
    RemovedScene s t e y sm srd D d p := by
  have hform := u.removeAlerts_form p
  have hlist := u.removeAlerts_alerts p
  obtain ⟨-, hwords⟩ := u.removeAlerts_act p
  generalize u.removeAlerts p = v at *
  refine ⟨(h.toSceneFacts.loose (by rw [hform]) (by rw [hform]) (by rw [hform]) (by rw [hform]) (by rw [hform])).then_show k, ?_,
    fun n hn hout haxes => ?_, ?_, ?_⟩
  · rw [show t.alerts = v.alerts by rw [k.form], hlist, show u.alerts = s.alerts by rw [h.form]]
  · rw [k.word n hout, hwords n hn, h.word n hout haxes]
  · rw [k.reports, show v.reports = u.reports by rw [hform]]
    exact h.reports
  · have hk := k.form
    rw [hform, h.form] at hk
    rw [show t.axes = v.axes from k.axes, show t.pool = v.pool from k.pool, show t.reports = v.reports from k.reports,
      show t.alerts = v.alerts by rw [k.form], show t.stations = v.stations by rw [k.form], show t.rewriteCount = v.rewriteCount by rw [k.form]]
    rw [hform]
    exact hk

/-- A taken order whose effect is such an act. -/
theorem RowOf.taken_removed {s u : State} {code w1 w2 : Nat} {owner : Word → Word → State → Answer} {e : ExhibitNo} {x : Exhibit} {sl : Slot}
    {src : SourceRecord} {D : AxisDeal} {p : Alert → Bool} (hrow : RowOf code owner) (h : s.AtCell code w1 w2) (hp : s.part = .run)
    (ho : ∀ v1 v2 : Word, v1.toNat = w1 → v2.toNat = w2 → owner v1 v2 s = Machine.taken u) (hacts : ∀ v1 v2, (owner v1 v2 s).ActsFrom s)
    (hto : RemovedScene s u e x sl src D (s.boundAxes e) p) (hforce : x.inForce = (s.exhibit e).inForce)
    (hwait : sl.wait = none ∨ sl.current = none) (hmost : D.most ≤ 1000)
    (howner : ∀ a ∈ s.boundAxes e, D.crosses (s.axis a) = true → s.axisOwner a = some e) :
    ∃ t, exec (orderRow code) s = .next t ∧ s.Answered t code 0 0 ∧ SceneFacts s t e x sl src anyLamp D (s.boundAxes e) ∧
      t.alerts = s.alerts.filter (fun y => !p y) ∧ t.channels = u.channels ∧
      (∀ k < 16384, s.NotOfCell k → NotOfAlerts k → OutsideExhibit e k →
        (∀ a ∈ s.boundAxes e, D.touches (s.axis a) = true → OutsideAxis a k) → t.word k = s.word k) ∧
      t = { s with exhibits := t.exhibits, slots := t.slots, sources := t.sources, axes := t.axes, pool := t.pool, channels := t.channels,
                   alerts := t.alerts, stations := t.stations, rewriteCount := t.rewriteCount, ram := t.ram, deck := t.deck, attn := t.attn } := by
  obtain ⟨-, -, -, -, -, hrep⟩ := id h
  obtain ⟨t, hexec, hans, hword, ht⟩ := hrow.taken_effect h hp (r := .taken) (d := 0) (by omega) ho hacts
    (hto.toSceneFacts.settle hto.reports hrep hforce hwait hmost howner)
  refine ⟨t, hexec, hans, hto.toSceneFacts.congr (by rw [ht]) (by rw [ht]) (by rw [ht]) (by rw [ht]) (by rw [ht]) (by rw [ht]),
    (show t.alerts = u.alerts by rw [ht]).trans hto.alerts, by rw [ht],
    fun k hk hnot halert hout haxes => (hword k hk hnot).trans (hto.word k halert hout haxes), ?_⟩
  have hform := hto.form
  rw [ht, hform, ← hrep]

/-! ### RESTORE (R16) -/

theorem State.restore_to (s : State) (e : ExhibitNo) :
    RemovedScene s (s.restore e) e ((s.exhibit e).entering .ready) { s.slot e with firstFault := none } (s.source e) restoreDeal (s.boundAxes e)
      fun x => x.source == exhibitSource e && (x.cause == .axisFault || x.cause == .showFault) := by
  have hscene := (AxesTo.foldl restoreDeal_does s (.inr restoreDeal_stable) (l := s.boundAxes e)).scene e
  unfold State.restore State.removeFaultAlerts
  generalize (s.boundAxes e).foldl State.leaveFault s = u at *
  have hform := u.removeAlerts_form fun x => x.source == exhibitSource e && (x.cause == .axisFault || x.cause == .showFault)
  refine hscene.removed (M := anyLamp) ?_
  generalize (u.removeAlerts fun x => x.source == exhibitSource e && (x.cause == .axisFault || x.cause == .showFault)) = v at *
  have hclear := v.putSlot_to e { v.slot e with firstFault := none }
  have henter := (v.clearFirst e).enterState_to e .ready
  unfold State.clearFirst at henter ⊢
  rw [hclear.exhibit, hclear.slot, hclear.source] at henter
  have hboth := hclear.loose.trans henter.loose
  have hslot : v.slot e = s.slot e := by rw [hform]; exact hscene.slot
  rw [show v.exhibit e = s.exhibit e by rw [hform]; exact hscene.exhibit, hslot, show v.source e = s.source e by rw [hform]; exact hscene.source]
    at hboth
  rw [hslot]
  exact hboth

end Sys2Proof.Machine
end

section
/-! CLEAR (R17): O33. -/

namespace Sys2Proof.Machine

theorem ShowTo.withAxes {s t : State} {e : ExhibitNo} {x : Exhibit} {sl : Slot} {src : SourceRecord} {L : ChannelNo → Prop}
    (h : ShowTo s t e x sl src L) (A : Vector Axis 16) : ShowTo { s with axes := A } { t with axes := A } e x sl src L where
  exhibit := h.exhibit
  slot := h.slot
  source := h.source
  others := h.others
  channel := h.channel
  word := h.word
  form := by rw [h.form]

theorem State.setSource_to (s : State) (e : ExhibitNo) (r : SourceRecord) :
    ShowTo s (s.setSource e r) e (s.exhibit e) (s.slot e) r noLamps where
  exhibit := rfl
  slot := rfl
  source := State.source_setSource s e r
  others _ hf := ⟨rfl, rfl, tget_tset_ne _ _ hf.symm⟩
  channel _ _ := rfl
  word _ _ := rfl
  form := rfl

theorem State.guardLevel_congr {s t : State} (h : t.guards = s.guards) (g : Option GuardNo) : t.guardLevel g = s.guardLevel g := by
  unfold State.guardLevel State.guardLine
  rw [h]

/-- The exhibit at CLEAR: its timers stopped, its encore flag dropped, its guard-open mark set from the guard line. -/
def State.clearedExhibit (s : State) (e : ExhibitNo) : Exhibit :=
  { s.exhibit e with
    encore := false, rest := none, settle := none, guardAlert := none,
    guardOpen := s.guardLevel ((s.exhibit e).config.bind (·.guard)) }

/-- The slot at CLEAR. -/
def Slot.cleared (sl : Slot) : Slot := { sl.emptied with firstFault := none }

/-- The state that CLEAR leaves LOCKED stays so; every other leads to READY. -/
def ExhibitState.cleared (st : ExhibitState) : ExhibitState := if st = .locked then .locked else .ready

/-- The end of the show, the timers, the conditions and the first fault at CLEAR, from the state whose resume records are gone. -/
theorem State.clearShow_to (s : State) (e : ExhibitNo) :
    ∃ A, ShowTo { s with axes := A } ((((((s.endShow e).discardResume e).clearGuard e).setSource e .reset)).clearFirst e) e (s.clearedExhibit e)
        (s.slot e).cleared .reset (s.exhibit e).IsShowLamp ∧
      s.OnlyResumeDropped { s with axes := A } (s.boundAxes e) ∧
      ∀ ch, (s.exhibit e).IsShowLamp ch →
        (((((((s.endShow e).discardResume e).clearGuard e).setSource e .reset)).clearFirst e).channel ch).showLayer.setting = .idle := by
  have hend := s.endShow_to e
  have hidle (ch : ChannelNo) : (s.exhibit e).IsShowLamp ch → ((s.endShow e).channel ch).showLayer.setting = .idle := by
    rintro ⟨c, hc, hn⟩
    exact s.endShow_idle hc hn
  generalize s.endShow e = u at *
  obtain ⟨honly, hform⟩ := u.discardResume_spec e
  rw [State.boundAxes_inForce (t := u) (s := s) (by rw [hend.exhibit])] at honly
  have hends := hend.withAxes (u.discardResume e).axes
  rw [← hform] at hends
  generalize u.discardResume e = v at *
  have hguard := v.putExhibit_to e (s.clearedExhibit e)
  have hclear : v.clearGuard e = v.putExhibit e (s.clearedExhibit e) := by
    unfold State.clearGuard State.clearedExhibit
    simp only
    rw [hends.exhibit, State.guardLevel_congr (t := v) (s := s) (by rw [hends.form])]
  rw [hclear]
  generalize v.putExhibit e (s.clearedExhibit e) = w at *
  have hsource := w.setSource_to e .reset
  generalize w.setSource e .reset = x at *
  have hfirst := x.putSlot_to e { x.slot e with firstFault := none }
  have hslot : x.slot e = (s.slot e).emptied := hsource.slot.trans (hguard.slot.trans hends.slot)
  have hcleared : { x.slot e with firstFault := none } = (s.slot e).cleared := by rw [hslot]; rfl
  unfold State.clearFirst
  rw [hcleared] at hfirst ⊢
  rw [hsource.exhibit, hguard.exhibit, hsource.source] at hfirst
  rw [hguard.exhibit] at hsource
  refine ⟨v.axes, ((hends.trans (hguard.silent _)).trans (hsource.silent _)).trans (hfirst.silent _), fun a => ?_, fun ch hch => ?_⟩
  · rw [← hend.axis]
    exact honly a
  · rw [hfirst.channel ch id, hsource.channel ch id, hguard.channel ch id, show v.channel ch = u.channel ch by rw [hform]; rfl]
    exact hidle ch hch

/-- CLEAR. -/
theorem State.clear_to {s : State} {e : ExhibitNo} (hwaits : s.WaitsOnly e) :
    RemovedScene s (s.clear e) e ((s.clearedExhibit e).entering (s.exhibit e).state.cleared) (s.slot e).cleared .reset clearDeal.dropping
      (s.boundAxes e) (fun x => x.source == exhibitSource e) ∧
    ∀ ch, (s.exhibit e).IsShowLamp ch → ((s.clear e).channel ch).showLayer.setting = .idle := by
  obtain ⟨haxes, -⟩ := State.clearAxes_to hwaits
  unfold State.clear State.removeSource
  simp only
  generalize s.clearAxes e = u at *
  have hux : u.exhibit e = s.exhibit e := by rw [haxes.form]; rfl
  have hus : u.slot e = s.slot e := by rw [haxes.form]; rfl
  have hubound : u.boundAxes e = s.boundAxes e := State.boundAxes_inForce (by rw [hux])
  have hucleared : u.clearedExhibit e = s.clearedExhibit e := by
    unfold State.clearedExhibit
    rw [hux, State.guardLevel_congr (t := u) (s := s) (by rw [haxes.form])]
  obtain ⟨A, hshow, honly, hidle⟩ := u.clearShow_to e
  rw [hubound] at honly
  rw [hucleared, hux, hus] at hshow
  rw [hux] at hidle
  have hscene := SceneTo.of_parts (ShowTo.refl s e) (haxes.dropped honly rfl) hshow
  generalize (((((u.endShow e).discardResume e).clearGuard e).setSource e .reset)).clearFirst e = v at *
  have hform := v.removeAlerts_form fun x => x.source == exhibitSource e
  have hlayer (ch : ChannelNo) := v.removeAlerts_layer (fun x => x.source == exhibitSource e) ch (n := .showLayer) (by decide)
  have hst : (if (s.exhibit e).state = .locked then ExhibitState.locked else .ready) = (s.exhibit e).state.cleared := rfl
  rw [hst]
  refine ⟨hscene.removed (M := anyLamp) ?_, fun ch hch => ?_⟩
  · generalize (v.removeAlerts fun x => x.source == exhibitSource e) = w at *
    have henter := w.enterState_to e (s.exhibit e).state.cleared
    rw [show w.exhibit e = s.clearedExhibit e by rw [hform]; exact hscene.exhibit, show w.slot e = (s.slot e).cleared by rw [hform]; exact hscene.slot,
      show w.source e = .reset by rw [hform]; exact hscene.source] at henter
    exact henter.loose
  · generalize (v.removeAlerts fun x => x.source == exhibitSource e) = w at *
    have := w.enterState_layer e (s.exhibit e).state.cleared ch (n := .showLayer) (by decide)
    exact (congrArg Layer.setting (this.trans (hlayer ch))).trans (hidle ch hch)

end Sys2Proof.Machine
end

section
/-! RESTORE and CLEAR (R16, R17): O33. -/

namespace Sys2Proof.Machine

/-- What CLEAR does not touch crosses nothing, holds no units and leaves no list. -/
theorem clearDeal_calm {x : Axis} (h : clearDeal.touches x = false) :
    clearDeal.crosses x = false ∧ clearDeal.returns x = false ∧ clearDeal.leaves x = false := by
  simp only [clearDeal, AxisDeal.andThen, stopDeal, awaitDeal, restoreDeal, Bool.or_eq_false_iff] at h ⊢
  simp only [h, and_self]

theorem exec_restore {s : State} {e : ExhibitNo} {w2 : Nat} (hcell : s.AtCell 0x17 e.val w2) (hp : s.part = .run)
    (hst : (s.exhibit e).state = .faulted) (hcur : (s.slot e).current = none) (howner : ∀ a ∈ s.boundAxes e, s.axisOwner a = some e) :
    ∃ t, exec .restore s = .next t ∧ s.Answered t 0x17 0 0 ∧
      SceneFacts s t e ((s.exhibit e).entering .ready) { s.slot e with firstFault := none } (s.source e) anyLamp restoreDeal (s.boundAxes e) ∧
      t.alerts = s.alerts.filter (fun x => !(x.source == exhibitSource e && (x.cause == .axisFault || x.cause == .showFault))) ∧
      (∀ k < 16384, s.NotOfCell k → NotOfAlerts k → OutsideExhibit e k →
        (∀ a ∈ s.boundAxes e, restoreDeal.touches (s.axis a) = true → OutsideAxis a k) → t.word k = s.word k) ∧
      t = { s with exhibits := t.exhibits, slots := t.slots, sources := t.sources, axes := t.axes, pool := t.pool, channels := t.channels,
                   alerts := t.alerts, stations := t.stations, rewriteCount := t.rewriteCount, ram := t.ram, deck := t.deck, attn := t.attn } := by
  have hrow : RowOf 0x17 State.orderRestore := fun _ => rfl
  have hto := s.restore_to e
  have horder (v1 v2 : Word) (h1 : v1.toNat = e.val) : State.orderRestore v1 v2 s = Machine.taken (s.restore e) := by
    rw [State.orderRestore, s.maintain_valid _ _ h1, hst]
    rfl
  generalize s.restore e = u at *
  obtain ⟨t, hexec, hans, hfacts, halerts, -, hword, ht⟩ := hrow.taken_removed hcell hp (fun v1 v2 h1 _ => horder v1 v2 h1)
    (fun v1 v2 => s.orderRestore_acts v1 v2) hto (Exhibit.inForce_entering (by decide) (by rw [hst]; decide)) (.inr hcur) (by decide)
    (fun a ha _ => howner a ha)
  exact ⟨t, hexec, hans, hfacts, halerts, hword, ht⟩

theorem exec_clear {s : State} {e : ExhibitNo} {w2 : Nat} (hcell : s.AtCell 0x14 e.val w2) (hp : s.part = .run)
    (hst : (s.exhibit e).state ≠ .off) (hwaits : s.WaitsOnly e)
    (howner : ∀ a ∈ s.boundAxes e, clearDeal.touches (s.axis a) = true → s.axisOwner a = some e) :
    ∃ t, exec .clear s = .next t ∧ s.Answered t 0x14 0 0 ∧
      SceneFacts s t e ((s.clearedExhibit e).entering (s.exhibit e).state.cleared) (s.slot e).cleared .reset anyLamp clearDeal.dropping
        (s.boundAxes e) ∧
      t.alerts = s.alerts.filter (fun x => x.source != exhibitSource e) ∧
      (∀ ch, (s.exhibit e).IsShowLamp ch → (t.channel ch).showLayer.setting = .idle) ∧
      (∀ k < 16384, s.NotOfCell k → NotOfAlerts k → OutsideExhibit e k →
        (∀ a ∈ s.boundAxes e, clearDeal.touches (s.axis a) = true → OutsideAxis a k) → t.word k = s.word k) ∧
      t = { s with exhibits := t.exhibits, slots := t.slots, sources := t.sources, axes := t.axes, pool := t.pool, channels := t.channels,
                   alerts := t.alerts, stations := t.stations, rewriteCount := t.rewriteCount, ram := t.ram, deck := t.deck, attn := t.attn } := by
  have hrow : RowOf 0x14 State.orderClear := fun _ => rfl
  obtain ⟨hto, hidle⟩ := State.clear_to hwaits
  have horder (v1 v2 : Word) (h1 : v1.toNat = e.val) : State.orderClear v1 v2 s = Machine.taken (s.clear e) := by
    rw [State.orderClear, s.maintain_valid _ _ h1, if_neg hst, if_pos rfl]
  generalize s.clear e = u at *
  have hcross : ∀ x, clearDeal.dropping.crosses x = true → clearDeal.touches x = true := fun x hx => by
    by_contra hno
    have hcalm : clearDeal.crosses x = false := (clearDeal_calm (Bool.eq_false_iff.2 hno)).1
    exact absurd (hcalm.symm.trans hx) (by decide)
  have hforce : ((s.clearedExhibit e).entering (s.exhibit e).state.cleared).inForce = (s.exhibit e).inForce :=
    (Exhibit.inForce_entering (x := s.clearedExhibit e) (by unfold ExhibitState.cleared; split <;> decide) hst).trans rfl
  obtain ⟨t, hexec, hans, hfacts, halerts, hlamps, hword, ht⟩ := hrow.taken_removed hcell hp (fun v1 v2 h1 _ => horder v1 v2 h1)
    (fun v1 v2 => s.orderClear_acts v1 v2) hto hforce (.inl rfl) (by decide) (fun a ha hc => howner a ha (hcross _ hc))
  refine ⟨t, hexec, hans, hfacts, halerts, fun ch hch => ?_, hword, ht⟩
  rw [show t.channel ch = u.channel ch from congrArg (tget · ch) hlamps]
  exact hidle ch hch

/-- The exhibit at CLEAR, in the words of the statement. -/
theorem State.clearedExhibit_entering {s : State} {e : ExhibitNo} {c : ExhibitConfig} (hc : (s.exhibit e).config = some c) :
    (s.clearedExhibit e).entering (s.exhibit e).state.cleared = { s.exhibit e with
      state := if (s.exhibit e).state = .locked then .locked else .ready, encore := false, rest := none, settle := none,
      guardAlert := none, returnState := none, guardOpen := s.guardLevel c.guard } := by
  have hguard : s.guardLevel ((s.exhibit e).config.bind (·.guard)) = s.guardLevel c.guard := by rw [hc]; rfl
  rw [Exhibit.entering_plain _ (by unfold ExhibitState.cleared; split <;> rfl)]
  unfold State.clearedExhibit
  rw [hguard]
  rfl

/-- No bound axis is in fault. -/
theorem State.boundAxes_sound {s : State} {e : ExhibitNo} (h : s.someAxisFaulted e = false) {a : AxisNo} (ha : a ∈ s.boundAxes e) :
    (s.axis a).state ≠ .faulted := fun hf => by
  unfold State.someAxisFaulted at h
  rw [List.any_eq_false] at h
  exact h a ha (by simp [hf])

/-- What CLEAR makes of a bound axis on its way, waiting or in fault. -/
theorem Axis.cleared_spec {x y : Axis} (h : y.Matches x.cleared.unresumed) :
    y.resume = none ∧
      (x.state.drives = true → y.pos = x.encoder ∧ y.vel = 0 ∧ y.dir = none ∧ y.move = none ∧ y.request = none) ∧
      (x.state = .moving ∨ x.state = .stopping → x.homed = true →
        y.state = (if x.inWindow x.encoder then .idle else .unhomed) ∧ y.homed = x.inWindow x.encoder) ∧
      (x.state = .homing → y.state = .unhomed ∧ y.homed = false) ∧
      (x.state = .awaitPower → y.request = none ∧ y.homed = x.homed ∧ y.state = (if x.homed then .idle else .unhomed)) ∧
      (x.state = .faulted → y.cause = none ∧
        y.homed = (x.cause != some .homeFail && x.homed && x.inWindow x.pos) ∧
        y.state = (if y.homed then .idle else .unhomed) ∧ y.pos = (if y.homed then x.pos else x.encoder)) := by
  obtain ⟨hstate, hhomed, hpos, hvel, hdir, hmove, hrequest, hcause, hresume⟩ :
      y.state = x.cleared.state ∧ y.homed = x.cleared.homed ∧ y.pos = x.cleared.pos ∧ y.vel = x.cleared.vel ∧ y.dir = x.cleared.dir ∧
        y.move = x.cleared.move ∧ y.request = x.cleared.request ∧ y.cause = x.cleared.cause ∧ y.resume = none := by
    unfold Axis.Matches at h
    rw [h]
    exact ⟨rfl, rfl, rfl, rfl, rfl, rfl, rfl, rfl, rfl⟩
  rw [hstate, hhomed, hpos, hvel, hdir, hmove, hrequest, hcause]
  refine ⟨hresume, Axis.cleared_drives, Axis.cleared_motion, fun hst => ?_, fun hst => ?_, fun hst => ?_⟩
  · rw [Axis.cleared_homing hst]
    exact ⟨rfl, rfl⟩
  · rw [Axis.cleared_awaitPower hst]
    obtain ⟨h1, h2, h3⟩ := x.unqueued_spec
    exact ⟨h2, h3, h1⟩
  · rw [Axis.cleared_faulted hst]
    exact ⟨x.restored_spec.1, x.restored_cases⟩

/-- No entry is left when every waiting axis leaves. -/
theorem State.waiting_cleared {s : State} {e : ExhibitNo} (hwaits : s.WaitsOnly e) :
    (s.pool.waiting.filter fun w => !((s.boundAxes e).contains w.axis && clearDeal.dropping.leaves (s.axis w.axis))) = [] := by
  rw [List.filter_eq_nil_iff]
  intro w hw
  obtain ⟨hmem, hst⟩ := hwaits w hw
  simp [clearDeal, AxisDeal.dropping, AxisDeal.andThen, AxisDeal.made, stopDeal, awaitDeal, hmem, hst, AxisState.drives]

/-- A bound axis that CLEAR has dealt with, by its state. -/
theorem SceneFacts.cleared {s t : State} {e : ExhibitNo} {x : Exhibit} {sl : Slot} {src : SourceRecord} {L : ChannelNo → Prop} {d : List AxisNo}
    (h : SceneFacts s t e x sl src L clearDeal.dropping d) {a : AxisNo} (ha : a ∈ d) :
    (t.axis a).Matches (s.axis a).cleared.unresumed := by
  rw [← clearDeal_made, ← AxisDeal.dropping_made]
  unfold AxisDeal.made
  split
  · next hx => exact h.touched a ha hx
  · next hx =>
    rw [h.untouched a ha (Bool.eq_false_iff.2 hx)]
    exact .refl _

/-- Settles O33. -/
theorem restoreAndClear : Obligations.RestoreAndClear := by
  refine ⟨fun s e w2 hcell hp hst hcur howner => ?_, fun s e w2 c hcell hp hc hst hbusy hfault hwait => ?_,
    fun s e w2 c hcell hp hc hst howner _ hlaw honly => ?_⟩
  · obtain ⟨t, hexec, hans, hfacts, halerts, hword, ht⟩ := exec_restore hcell hp hst hcur howner
    have hexhibit := hfacts.exhibit
    have hpool : t.pool = s.pool := hfacts.pool_same (fun _ _ => rfl) fun _ _ => rfl
    have hsources := hfacts.sources_eq
    refine ⟨t, hexec, hans, by rw [hexhibit]; rfl, by rw [hfacts.slot], hsources, hfacts.others, fun a ha hf => ?_, fun a hno => ?_, hpool, halerts,
      fun k hk hnot halert hout haxes => hword k hk hnot halert hout fun a ha _ => haxes a ha, ?_⟩
    · have hto : t.axis a = _ := hfacts.touched a ha (by simp [restoreDeal, hf])
      rw [hto]
      exact ⟨fun hcause hhomed hin => Axis.restored_homed hcause hhomed hin, fun h => Axis.restored_unhomed h, (s.axis a).restored_spec.1⟩
    · by_cases ha : a ∈ s.boundAxes e
      · have hf := hno.resolve_left fun hn => hn ha
        exact hfacts.untouched a ha (by simp [restoreDeal, hf])
      · exact hfacts.axisOthers a ha
    · rw [hpool, hsources] at ht
      exact ht
  · have hcalm : ∀ a ∈ s.boundAxes e, clearDeal.touches (s.axis a) = false := fun a ha =>
      clearDeal_resting (State.boundAxes_rest hbusy ha) (State.boundAxes_sound hfault ha)
    obtain ⟨t, hexec, hans, hfacts, halerts, hlamps, hword, ht⟩ := exec_clear hcell hp hst (State.waitsOnly_nil hwait) fun a ha htouch => by
      rw [hcalm a ha] at htouch
      exact absurd htouch (by decide)
    have hpool : t.pool = s.pool := hfacts.pool_same (fun a ha => (clearDeal_calm (hcalm a ha)).2.1) fun a ha => (clearDeal_calm (hcalm a ha)).2.2
    rw [State.clearedExhibit_entering hc] at hfacts
    refine ⟨t, hexec, hans, hfacts.exhibit, hfacts.slot, hfacts.source, hfacts.others, by rw [ht], fun a => ?_, hpool, halerts,
      fun ch hch => hlamps ch (Exhibit.isShowLamp_of hc hst hch), fun k hk hnot halert hout => hword k hk hnot halert hout fun a ha htouch => ?_, ?_⟩
    · split
      · next ha => exact hfacts.untouched a ha (hcalm a ha)
      · next ha => exact hfacts.axisOthers a ha
    · rw [hcalm a ha] at htouch
      exact absurd htouch (by decide)
    · rw [hpool] at ht
      exact ht
  · have hwaits : s.WaitsOnly e := fun w hw => ⟨honly w hw, hlaw.1 w hw⟩
    obtain ⟨t, hexec, hans, hfacts, halerts, -, hword, ht⟩ := exec_clear hcell hp hst hwaits fun a ha _ => howner a ha
    have hexhibit := hfacts.exhibit
    rw [State.clearedExhibit_entering hc] at hexhibit
    refine ⟨t, hexec, hans, hexhibit, by rw [hfacts.slot]; rfl, by rw [hfacts.slot]; rfl, hfacts.source, hfacts.others, by rw [ht], halerts,
      hfacts.waiting.trans (State.waiting_cleared hwaits), fun a => ?_, hfacts.units, fun a ha => ?_, hfacts.axisOthers,
      fun k hk hnot halert hout haxes => hword k hk hnot halert hout fun a ha _ => haxes a ha, ht⟩
    · refine (hfacts.held a).trans (if_congr (and_congr_right fun _ => ?_) rfl rfl)
      rw [show clearDeal.dropping.returns (s.axis a) = clearDeal.returns (s.axis a) from rfl, clearDeal_returns]
    · obtain ⟨hresume, hspec⟩ := Axis.cleared_spec (hfacts.cleared ha)
      refine ⟨hresume, fun hrest => hfacts.untouched a ha (clearDeal_resting ?_ ?_), hspec⟩
      · obtain h | h | h := hrest <;> rw [h] <;> rfl
      · obtain h | h | h := hrest <;> rw [h] <;> decide

end Sys2Proof.Machine
end

section
/-! CLEAR COLD (R185): O23. -/

namespace Sys2Proof.Machine

/-! ### Raises one after another -/

theorem State.noteRouting_stopOn (s : State) (x : Alert) : (s.noteRouting x).gallery.stopOn = s.gallery.stopOn := by
  unfold State.noteRouting
  split <;> rfl

/-- No raise touches the stop's beginning in the gallery record. -/
theorem State.raise_stopOn (s : State) (src : SourceNo) (cause : AlertCause) (code severity : Nat) :
    (s.raise src cause code severity).gallery.stopOn = s.gallery.stopOn := by
  unfold State.raise
  split
  · rfl
  · unfold State.mergeRaise
    simp only
    rw [State.closeAct_form]
    exact State.noteRouting_stopOn _ _
  · unfold State.enterAlert
    simp only
    rw [State.closeAct_form]
    exact State.noteRouting_stopOn _ _
  · unfold State.enterAlert
    simp only
    rw [State.closeAct_form]
    exact State.noteRouting_stopOn _ _
  · rfl

theorem AlertAct.after {s t u : State} (h : AlertAct s t) (k : AlertAct t u) : AlertAct s u := by
  obtain ⟨hform, hword⟩ := h
  obtain ⟨kform, kword⟩ := k
  refine ⟨?_, fun n hn => (kword n hn).trans (hword n hn)⟩
  rw [hform] at kform
  exact kform

/-- The entry of a STUCK button. -/
abbrev Alert.IsStuck (y : Alert) : Prop := y.source = gallerySource ∧ y.cause = .buttonStuck

/-- Nothing but alerts have been raised, all for STUCK buttons, at least one exactly where some are STUCK. -/
structure StuckRaised (s t : State) (stuck : Prop) : Prop where
  act : AlertAct s t
  list : (t.alerts = [] ∧ ¬ stuck) ∨ (stuck ∧ ∃ y : Alert, t.alerts = [y] ∧ y.IsStuck)
  stopOn : t.gallery.stopOn = s.gallery.stopOn

theorem StuckRaised.raise {s t : State} {stuck : Prop} (h : StuckRaised s t stuck) (hrun : s.part = .run) :
    StuckRaised s (t.raise gallerySource .buttonStuck 0 1) True := by
  have hpart : t.part = .run := by rw [h.act.1]; exact hrun
  refine ⟨h.act.after (t.raise_act _ _ _ _), .inr ⟨trivial, ?_⟩, (t.raise_stopOn _ _ _ _).trans h.stopOn⟩
  obtain ⟨hempty, -⟩ | ⟨-, x, hlist, hsource, hcause⟩ := h.list
  · obtain ⟨y, hy, hsource, hcause, -⟩ := State.raise_entered_list (s := t) (src := gallerySource) (cause := .buttonStuck) 0 1 hpart
      (by unfold State.alertOf?; rw [hempty]; rfl) (by rw [hempty]; decide)
    rw [hempty] at hy
    exact ⟨y, hy, hsource, hcause⟩
  · have hof : t.alertOf? gallerySource .buttonStuck = some x := by
      unfold State.alertOf?
      rw [hlist]
      simp [hsource, hcause]
    have hmerge : t.raise gallerySource .buttonStuck 0 1 = t.mergeRaise x 0 1 := by
      unfold State.raise
      rw [State.raiseCase_merged 1 hpart hof]
    rw [hmerge, State.mergeRaise_list, hlist]
    obtain ⟨-, hs, hc, -⟩ := t.mergedAlert_spec x 0 1
    exact ⟨t.mergedAlert x 0 1, by simp, hs.trans hsource, hc.trans hcause⟩

/-- The buttons' part of CLEAR COLD. -/
theorem State.stuckRaised (s : State) (hrun : s.part = .run) (hempty : s.alerts = []) :
    StuckRaised s (forEach 256 (fun b u => State.raiseStuck u b) s) (∃ b, (s.button b).hold = .stuck) := by
  have hall := forEach_progress (f := fun (b : ButtonNo) u => State.raiseStuck u b)
    (fun done t => StuckRaised s t (∃ b ∈ done, (s.button b).hold = .stuck)) (s := s)
    ⟨⟨rfl, fun _ _ => rfl⟩, .inl ⟨hempty, by simp⟩, rfl⟩ fun done b t _ h => by
      have hbutton : t.button b = s.button b := by rw [h.act.1]; rfl
      unfold State.raiseStuck
      rw [hbutton]
      split
      · next hb =>
        have hraised := h.raise hrun
        exact ⟨hraised.act, hraised.list.imp (fun hn => absurd trivial hn.2) fun hy => ⟨⟨b, by simp, hb⟩, hy.2⟩, hraised.stopOn⟩
      · next hb =>
        have hiff : (∃ c ∈ done ++ [b], (s.button c).hold = .stuck) ↔ ∃ c ∈ done, (s.button c).hold = .stuck := by
          constructor
          · rintro ⟨c, hc, hs⟩
            rw [List.mem_append, List.mem_singleton] at hc
            exact ⟨c, hc.resolve_right fun he => hb (he ▸ hs), hs⟩
          · rintro ⟨c, hc, hs⟩
            exact ⟨c, by simp [hc], hs⟩
        rw [hiff]
        exact h
  simpa using hall

/-- What CLEAR COLD leaves in the list, and in the gallery record. -/
theorem State.clearCold_spec (s : State) (hempty : s.alerts = []) :
    AlertAct s.setRun s.clearCold ∧
      (s.clearCold.alerts.any (fun x => x.cause == .buttonStuck && x.source == gallerySource) = true ↔ ∃ b, (s.button b).hold = .stuck) ∧
      (s.clearCold.alerts.any (fun x => x.cause == .galleryStop && x.source == gallerySource && x.severity == 3) = true ↔ s.stopInForce = true) ∧
      s.clearCold.gallery.stopOn = (s.gallery.stopOn || s.stopInForce) := by
  have hraised : StuckRaised s.setRun _ (∃ b, (s.button b).hold = .stuck) := s.setRun.stuckRaised rfl hempty
  unfold State.clearCold
  simp only
  generalize forEach 256 (fun b u => State.raiseStuck u b) s.setRun = t at *
  have hstop : t.stopInForce = s.stopInForce := by rw [hraised.act.1]; rfl
  have hpart : t.part = .run := by rw [hraised.act.1]; rfl
  have hmost : t.alerts.length < 32 ∧ (∀ y ∈ t.alerts, y.cause = .buttonStuck) ∧
      (t.alerts.any (fun x => x.cause == .buttonStuck && x.source == gallerySource) = true ↔ ∃ b, (s.button b).hold = .stuck) := by
    obtain ⟨hnone, hno⟩ | ⟨hsome, y, hlist, hsource, hcause⟩ := hraised.list
    · rw [hnone]
      exact ⟨by decide, by simp, by simpa using hno⟩
    · rw [hlist]
      exact ⟨by simp, by simp [hcause], by simpa [hsource, hcause] using hsome⟩
  obtain ⟨hlen, hcauses, hstuck⟩ := hmost
  rw [hstop]
  cases hs : s.stopInForce with
  | false =>
    rw [if_neg (by decide)]
    refine ⟨hraised.act, hstuck, ?_, by rw [hraised.stopOn]; exact (Bool.or_false _).symm⟩
    refine ⟨fun hany => ?_, fun hn => absurd hn (by decide)⟩
    obtain ⟨y, hy, hc⟩ := List.any_eq_true.1 hany
    simp [hcauses y hy] at hc
  | true =>
    rw [if_pos rfl]
    obtain ⟨z, hlist, hsource, hcause, hsev, -⟩ := State.raise_entered_list (s := t) (src := gallerySource) (cause := .galleryStop) 0 3 hpart
      (List.find?_eq_none.2 fun y hy => by simp [hcauses y hy]) hlen
    have hact := hraised.act.after (t.raise_act gallerySource .galleryStop 0 3)
    generalize t.raise gallerySource .galleryStop 0 3 = u at *
    refine ⟨⟨?_, hact.2⟩, ?_, ?_, ?_⟩
    · obtain ⟨hform, -⟩ := hact
      unfold State.markStopOn
      rw [hform]
    · show u.alerts.any _ = true ↔ _
      rw [hlist, List.any_append, ← hstuck]
      simp [hcause]
    · show u.alerts.any _ = true ↔ _
      rw [hlist, List.any_append]
      simp [hsource, hcause, hsev]
    · show true = _
      rw [Bool.or_true]

/-- Settles O23. -/
theorem clearColdEntersRun : Obligations.ClearColdEntersRun := by
  refine ⟨fun s w1 w2 hcell hp hempty => ?_, fun s w1 w2 hcell hp => ?_⟩
  · obtain ⟨-, -, -, -, -, hrep⟩ := id hcell
    obtain ⟨hact, hstuck, hgallery, hstop⟩ := s.clearCold_spec hempty
    have horder (v1 v2 : Word) : State.orderClearCold v1 v2 s = Machine.taken s.clearCold := if_neg (by rw [hp]; decide)
    generalize s.clearCold = u at *
    obtain ⟨hform, hwords⟩ := id hact
    have hsettle : u.settle = u := State.settle_nil u (by rw [hform]; exact hrep)
    have hdesk : KeepsDesk s u := (KeepsDesk.of_ram (t := s.setRun)).trans hact.keepsDesk
    obtain ⟨hans, hword, ht⟩ := State.takeCell_effect s u State.orderClearCold (r := .taken) (d := 0) hcell (by omega) (by rw [horder]; rfl)
      (by rw [horder]; rfl) (by rw [horder]; exact hsettle) hdesk.cells (by rw [hform]; rfl)
    refine ⟨_, congrArg Host.Outcome.next (s.takeOrder_atCell 0x01 w1 w2 State.orderClearCold hcell), hans, ?_⟩
    generalize s.takeCell State.orderClearCold = t at *
    have halerts : t.alerts = u.alerts := by rw [ht]
    refine ⟨?_, by rw [halerts]; exact hstuck, by rw [halerts]; exact hgallery, ?_, fun k hk hnot hout => (hword k hk hnot).trans (hwords k hout), ?_⟩
    · rw [ht, hform]
      rfl
    · rw [show t.gallery = u.gallery by rw [ht]]
      exact hstop
    · rw [ht, hform]
      rfl
  · exact ⟨_, congrArg Host.Outcome.next (s.takeOrder_atCell 0x01 w1 w2 State.orderClearCold hcell),
      State.takeCell_answered s State.orderClearCold 0x01 w1 w2 0 .notNow hcell (by omega) (if_pos hp)⟩

end Sys2Proof.Machine
end

section
/-! CONFIGURE LAMPS and CONFIGURE STATIONS (R151, R152, R164, R173, R174): O27. -/

namespace Sys2Proof.Machine

/-! ### CONFIGURE LAMPS (R151, R152) -/

/-- A record without a fault: every entry of it can be read. -/
theorem State.lampRecord_reads {s : State} (h : s.lampRecordFault = none) :
    (∀ p, ∃ x, s.readPattern p = some x) ∧ ∀ ch, ∃ m, s.readCombine ch = some m := by
  unfold State.lampRecordFault at h
  split at h
  · simp at h
  · next hpatterns =>
    rw [Option.map_eq_none_iff] at h
    exact ⟨fun p => Option.ne_none_iff_exists'.1 fun hn => by simpa [hn] using lowest_eq_none hpatterns p,
      fun ch => Option.ne_none_iff_exists'.1 fun hn => by simpa [hn] using lowest_eq_none h ch⟩

/-- A layer keeps its setting, and its phase unless its entry of the table was replaced. -/
theorem Layer.afterTable_spec (old new : Vector Pattern 32) (l : Layer) :
    (l.afterTable old new).setting = l.setting ∧
      ((∀ p, l.setting = .table p → (tget old p).replacedBy (tget new p) = false) → l.afterTable old new = l) ∧
      ∀ p, l.setting = .table p → (tget old p).replacedBy (tget new p) = true → (l.afterTable old new).phase = (tget new p).startPhase := by
  unfold Layer.afterTable
  cases hset : l.setting with
  | idle => exact ⟨hset, fun _ => rfl, fun p hp => by simp at hp⟩
  | fixed i => exact ⟨hset, fun _ => rfl, fun p hp => by simp at hp⟩
  | table p =>
    cases hrep : (tget old p).replacedBy (tget new p) with
    | true =>
      refine ⟨by simp [hrep, startLayer], fun h => by simp [h p rfl] at hrep, fun q hq _ => ?_⟩
      obtain rfl : p = q := by simpa using hq
      simp only [hrep, if_true]
      rfl
    | false =>
      refine ⟨by simp [hrep, hset], fun _ => by simp [hrep], fun q hq hr => ?_⟩
      obtain rfl : p = q := by simpa using hq
      rw [hrep] at hr
      exact absurd hr (by decide)

theorem State.takeLampTables_channel (s : State) (ch : ChannelNo) :
    (s.takeLampTables.channel ch).combine = (s.readCombine ch).getD (s.channel ch).combine ∧
      (s.takeLampTables.channel ch).idleLevel = bits (s.word (addrChannel ch + 1)) 0 8 ∧
      (s.takeLampTables.channel ch).brightness = combined s.takeLampTables.patterns (s.takeLampTables.channel ch) ∧
      (s.takeLampTables.channel ch).output = (s.channel ch).output ∧
      ∀ name, (s.takeLampTables.channel ch).layer name = ((s.channel ch).layer name).afterTable s.patterns s.takeLampTables.patterns := by
  unfold State.takeLampTables State.channel
  simp only [tget_tmap]
  exact ⟨rfl, rfl, rfl, rfl, fun name => by cases name <;> rfl⟩

theorem exec_configureLamps {s : State} {w1 w2 : Nat} (hcell : s.AtCell 0x07 w1 w2) (hp : s.part = .run) (h : s.lampRecordFault = none) :
    ∃ t, exec .configureLamps s = .next t ∧ s.Answered t 0x07 0 0 ∧ t.patterns = s.takeLampTables.patterns ∧
      t.channels = s.takeLampTables.channels ∧ (∀ k < 16384, s.NotOfCell k → t.word k = s.word k) ∧
      t = { s with patterns := t.patterns, channels := t.channels, ram := t.ram, deck := t.deck, attn := t.attn } := by
  have hrow : RowOf 0x07 State.orderConfigureLamps := fun _ => rfl
  obtain ⟨-, -, -, -, -, hrep⟩ := id hcell
  have horder (v1 v2 : Word) : State.orderConfigureLamps v1 v2 s = Machine.taken s.takeLampTables := by
    unfold State.orderConfigureLamps
    rw [h]
  have hform : s.takeLampTables = { s with patterns := s.takeLampTables.patterns, channels := s.takeLampTables.channels } := rfl
  generalize s.takeLampTables = u at *
  obtain ⟨t, hexec, hans, hword, ht⟩ := hrow.taken_effect hcell hp (r := .taken) (d := 0) (by omega) (fun v1 v2 _ _ => horder v1 v2)
    (fun v1 v2 => State.orderConfigureLamps_acts v1 v2 s hp) (State.settle_nil u (by rw [hform]; exact hrep))
  refine ⟨t, hexec, hans, by rw [ht], by rw [ht], fun k hk hnot => (hword k hk hnot).trans (by rw [hform]; rfl), ?_⟩
  rw [ht, hform]

/-- CONFIGURE LAMPS, both ways. -/
theorem configureLamps_taken {s : State} {w1 w2 : Nat} (hcell : s.AtCell 0x07 w1 w2) (hp : s.part = .run) (h : s.lampRecordFault = none) :
    ∃ t, exec .configureLamps s = .next t ∧ s.Answered t 0x07 0 0 ∧ (∀ p, some (tget t.patterns p) = s.readPattern p) ∧
      (∀ ch, some (t.channel ch).combine = s.readCombine ch ∧
        (t.channel ch).idleLevel = (s.word (addrChannel ch + 1)).toNat % 256 ∧
        (t.channel ch).brightness = combined t.patterns (t.channel ch) ∧ (t.channel ch).output = (s.channel ch).output ∧
        ∀ name, (t.channel ch).layer name = ((s.channel ch).layer name).afterTable s.patterns t.patterns) ∧
      (∀ k < 16384, s.NotOfCell k → t.word k = s.word k) ∧
      t = { s with patterns := t.patterns, channels := t.channels, ram := t.ram, deck := t.deck, attn := t.attn } := by
  obtain ⟨hpatterns, hcombine⟩ := State.lampRecord_reads h
  obtain ⟨t, hexec, hans, htable, hchannels, hword, ht⟩ := exec_configureLamps hcell hp h
  refine ⟨t, hexec, hans, fun p => ?_, fun ch => ?_, hword, ht⟩
  · obtain ⟨x, hx⟩ := hpatterns p
    rw [htable, hx]
    unfold State.takeLampTables
    simp only [tget_tmap, hx]
    rfl
  · obtain ⟨hc, hidle, hbright, hout, hlayers⟩ := s.takeLampTables_channel ch
    obtain ⟨m, hm⟩ := hcombine ch
    rw [show t.channel ch = s.takeLampTables.channel ch from congrArg (tget · ch) hchannels, htable]
    refine ⟨?_, ?_, hbright, hout, hlayers⟩
    · rw [hc, hm]
      rfl
    · rw [hidle]
      unfold bits
      norm_num

end Sys2Proof.Machine
end

section
/-! CONFIGURE STATIONS (R164, R173, R174): O27. -/

namespace Sys2Proof.Machine

/-! ### The ALERT layer chosen -/

/-- A channel whose ALERT layer has been chosen: set where the setting differs. -/
def Channel.chosen (c : Channel) (table : Vector Pattern 32) (x : Setting) : Channel :=
  if c.alertLayer.setting = x then c else (c.withLayer .alertLayer (startLayer table x)).refresh table

theorem State.chooseLayer_chosen (s : State) (ch c : ChannelNo) (x : Setting) :
    (s.chooseLayer ch .alertLayer x).channel c = if ch = c then (s.channel c).chosen s.patterns x else s.channel c := by
  unfold State.chooseLayer Channel.chosen
  by_cases hc : ch = c
  · subst hc
    rw [if_pos rfl]
    by_cases hx : (s.channel ch).alertLayer.setting = x
    · rw [if_pos hx, if_pos (by exact hx)]
    · rw [if_neg hx, if_neg (by exact hx), State.channel_setLayer, if_pos rfl]
  · rw [if_neg hc]
    split
    · rfl
    · rw [State.channel_setLayer, if_neg hc]

theorem State.chooseLamp_chosen (s : State) (l : Option ChannelNo) (c : ChannelNo) (x : Setting) :
    (s.chooseLamp l .alertLayer x).channel c = if l = some c then (s.channel c).chosen s.patterns x else s.channel c := by
  cases l with
  | none => rfl
  | some ch => exact (s.chooseLayer_chosen ch c x).trans (if_congr (by simp) rfl rfl)

theorem Channel.chosen_setting (c : Channel) (table : Vector Pattern 32) (x : Setting) : (c.chosen table x).alertLayer.setting = x := by
  unfold Channel.chosen
  split
  · next h => exact h
  · rfl

theorem Channel.chosen_again (c : Channel) (table : Vector Pattern 32) (x : Setting) : (c.chosen table x).chosen table x = c.chosen table x :=
  if_pos (c.chosen_setting table x)

/-- The choice changes the ALERT layer and the brightness, and only where the setting differs. -/
theorem Channel.chosen_spec (c : Channel) (table : Vector Pattern 32) (x : Setting) :
    c.chosen table x = { c with alertLayer := (c.chosen table x).alertLayer, brightness := (c.chosen table x).brightness } ∧
      (c.alertLayer.setting = x → c.chosen table x = c) ∧
      (c.alertLayer.setting ≠ x → (c.chosen table x).alertLayer = startLayer table x ∧
        (c.chosen table x).brightness = combined table (c.chosen table x)) := by
  unfold Channel.chosen
  split
  · next h => exact ⟨rfl, fun _ => rfl, fun hne => absurd h hne⟩
  · next h => exact ⟨rfl, fun he => absurd he h, fun _ => ⟨rfl, Channel.refresh_brightness _ _⟩⟩

/-! ### The new table -/

/-- The state with the new station table, before its lamps and displays. -/
def State.stationTabled (s : State) : State := { s with stations := tmap (fun st x => x.withRecord (s.stationRecord st)) s.stations }

theorem State.stationTabled_station (s : State) (st : StationNo) : s.stationTabled.station st = (s.station st).withRecord (s.stationRecord st) :=
  tget_tmap _ _ _

theorem State.isCallLamp_iff (s : State) (ch : ChannelNo) : s.isCallLamp ch = true ↔ ∃ st, (s.station st).callLamp = some ch := by
  unfold State.isCallLamp
  rw [List.any_eq_true]
  constructor
  · rintro ⟨x, hx, hc⟩
    obtain ⟨i, hi, rfl⟩ := List.getElem_of_mem hx
    exact ⟨⟨i, by simpa using hi⟩, by simpa [State.station, tget] using hc⟩
  · rintro ⟨st, hst⟩
    exact ⟨s.station st, by simp [State.station, tget], by simp [hst]⟩

/-- A record without a fault names each call lamp once. -/
theorem State.stationTabled_apart {s : State} (h : s.stationRecordFault = none) {ch : ChannelNo} {st u : StationNo}
    (hst : (s.stationTabled.station st).callLamp = some ch) (hu : (s.stationTabled.station u).callLamp = some ch) : st = u := by
  rw [State.stationTabled_station] at hst hu
  obtain hlt | heq | hgt := lt_trichotomy st u
  · exact absurd hst ((State.stationTable_lamps h u ch hu).2 st hlt)
  · exact heq
  · exact absurd hu ((State.stationTable_lamps h st ch hst).2 u hgt)

/-! ### The lamps that serve no station any more (R174) -/

/-- The old call lamps let go, one station after another. -/
def State.lampsDropped (s : State) : State := forEach 4 (fun st v => v.dropCallLamp (s.station st).callLamp) s.stationTabled

/-- A call lamp of the old table that serves no station of the new one has its ALERT layer idle; no other channel changes. -/
theorem State.lampsDropped_spec (s : State) :
    s.lampsDropped = { s.stationTabled with channels := s.lampsDropped.channels } ∧
      ∀ ch, s.lampsDropped.channel ch =
        if (∃ st, (s.station st).callLamp = some ch) ∧ s.stationTabled.isCallLamp ch = false then (s.channel ch).chosen s.patterns .idle
        else s.channel ch := by
  have hall := forEach_progress (f := fun (st : StationNo) v => State.dropCallLamp v (s.station st).callLamp)
    (fun done v => v = { s.stationTabled with channels := v.channels } ∧ ∀ ch, v.channel ch =
      if (∃ st ∈ done, (s.station st).callLamp = some ch) ∧ s.stationTabled.isCallLamp ch = false then (s.channel ch).chosen s.patterns .idle
      else s.channel ch) (s := s.stationTabled) ⟨rfl, fun ch => (if_neg (by simp)).symm⟩ fun done st v _ h => ?_
  · simpa [State.lampsDropped] using hall
  · obtain ⟨hform, hchannel⟩ := h
    have hcall : ∀ ch, v.isCallLamp ch = s.stationTabled.isCallLamp ch := fun ch => by rw [hform]; rfl
    have hpatterns : v.patterns = s.patterns := by rw [hform]; rfl
    cases hl : (s.station st).callLamp with
    | none =>
      refine ⟨hform, fun ch => (hchannel ch).trans (if_congr (and_congr_left fun _ => ?_) rfl rfl)⟩
      simp [or_and_right, exists_or, hl]
    | some c =>
      unfold State.dropCallLamp
      simp only [hcall]
      split
      · next hc =>
        refine ⟨hform, fun ch => (hchannel ch).trans (if_congr (and_congr_left fun hno => ?_) rfl rfl)⟩
        have hne : c ≠ ch := fun he => by
          rw [he, hno] at hc
          exact absurd hc (by decide)
        simp [or_and_right, exists_or, hl, hne]
      · next hc =>
        refine ⟨by rw [State.chooseLayer_form, hform], fun ch => ?_⟩
        rw [State.chooseLayer_chosen, hchannel, hpatterns]
        by_cases hcc : c = ch
        · subst hcc
          rw [if_pos rfl, if_pos (c := (∃ u ∈ done ++ [st], (s.station u).callLamp = some c) ∧ _) ⟨⟨st, by simp, hl⟩, Bool.eq_false_iff.2 hc⟩]
          split
          · exact Channel.chosen_again _ _ _
          · rfl
        · rw [if_neg hcc]
          exact if_congr (and_congr_left fun _ => by simp [or_and_right, exists_or, hl, hcc]) rfl rfl

/-! ### The stations brought up to date (R164) -/

/-- A station of the new table, presenting what it shows. -/
def State.stationPresented (s : State) (st : StationNo) : Station :=
  { s.stationTabled.station st with
    displayNumber := (s.stationTabled.displayValues st).1, displaySeverity := (s.stationTabled.displayValues st).2 }

/-- What a station presents is read from the list, the entry it shows and its display enable. -/
theorem State.presents_congr {s t : State} {st : StationNo} (ha : t.alerts = s.alerts) (hshown : (t.station st).shown = (s.station st).shown)
    (henable : (t.station st).displayEnable = (s.station st).displayEnable) :
    t.displayValues st = s.displayValues st ∧ t.callLampSetting st = s.callLampSetting st := by
  unfold State.displayValues State.callLampSetting State.shownAlert State.alert?
  rw [ha, hshown, henable]
  exact ⟨rfl, rfl⟩

/-- Every station presents what it shows, each call lamp of the new table is chosen for, and nothing else changes. -/
theorem State.refreshedAll_spec {s u : State} (hapart : ∀ {ch : ChannelNo} {st w : StationNo},
      (s.stationTabled.station st).callLamp = some ch → (s.stationTabled.station w).callLamp = some ch → st = w)
    (hform : u = { s.stationTabled with channels := u.channels }) :
    forEach 4 (fun st v => State.refreshStation v st) u = { u with
        stations := (forEach 4 (fun st v => State.refreshStation v st) u).stations,
        channels := (forEach 4 (fun st v => State.refreshStation v st) u).channels } ∧
      (∀ st, (forEach 4 (fun st v => State.refreshStation v st) u).station st = s.stationPresented st) ∧
      ∀ ch, ((∀ st, (s.stationTabled.station st).callLamp ≠ some ch) →
          (forEach 4 (fun st v => State.refreshStation v st) u).channel ch = u.channel ch) ∧
        ∀ st, (s.stationTabled.station st).callLamp = some ch → (forEach 4 (fun st v => State.refreshStation v st) u).channel ch =
          (u.channel ch).chosen s.patterns (s.stationTabled.callLampSetting st) := by
  have hstation : ∀ st, u.station st = s.stationTabled.station st := fun st => by rw [hform]; rfl
  have halerts : u.alerts = s.stationTabled.alerts := by rw [hform]
  have hpatterns : u.patterns = s.patterns := by rw [hform]; rfl
  have hall := forEach_progress (f := fun (st : StationNo) v => State.refreshStation v st)
    (fun done v => v = { u with stations := v.stations, channels := v.channels } ∧
      (∀ st, v.station st = if st ∈ done then s.stationPresented st else s.stationTabled.station st) ∧
      ∀ ch, ((∀ st ∈ done, (s.stationTabled.station st).callLamp ≠ some ch) → v.channel ch = u.channel ch) ∧
        ∀ st ∈ done, (s.stationTabled.station st).callLamp = some ch →
          v.channel ch = (u.channel ch).chosen s.patterns (s.stationTabled.callLampSetting st)) (s := u)
    ⟨rfl, fun st => by rw [if_neg (by simp)]; exact hstation st, fun ch => ⟨fun _ => rfl, fun st hst => absurd hst (by simp)⟩⟩ fun done st v hnew h => ?_
  · obtain ⟨h1, h2, h3⟩ := hall
    exact ⟨h1, fun st => by simpa using h2 st, fun ch => by simpa using h3 ch⟩
  · obtain ⟨hv, hst, hch⟩ := h
    have hold : v.station st = s.stationTabled.station st := (hst st).trans (if_neg hnew)
    obtain ⟨hvalues, hsetting⟩ := State.presents_congr (s := s.stationTabled) (t := v) (st := st) (by rw [hv]; exact halerts) (by rw [hold]) (by rw [hold])
    have hvpatterns : v.patterns = s.patterns := by rw [hv]; exact hpatterns
    refine ⟨by rw [State.refreshStation_form, hv], fun w => ?_, fun ch => ?_⟩
    · rw [State.refreshStation_station, hvalues, hold]
      by_cases hw : st = w
      · subst hw
        rw [if_pos rfl, if_pos (by simp)]
        rfl
      · rw [if_neg hw, hst]
        exact if_congr (by simp [Ne.symm hw]) rfl rfl
    · have hchosen : (v.refreshStation st).channel ch =
          if (s.stationTabled.station st).callLamp = some ch then (v.channel ch).chosen s.patterns (s.stationTabled.callLampSetting st)
          else v.channel ch := by
        unfold State.refreshStation
        simp only
        rw [State.chooseLamp_chosen, hold, hsetting]
        exact if_congr Iff.rfl (by rw [← hvpatterns]; rfl) rfl
      obtain ⟨hsame, hset⟩ := hch ch
      rw [hchosen]
      refine ⟨fun hno => ?_, fun w hw hlamp => ?_⟩
      · rw [if_neg (hno st (by simp))]
        exact hsame fun w hw => hno w (by simp [hw])
      · rw [List.mem_append, List.mem_singleton] at hw
        obtain hw | rfl := hw
        · rw [if_neg fun hc => hnew (by rw [hapart hc hlamp]; exact hw)]
          exact hset w hw hlamp
        · rw [if_pos hlamp, hsame fun x hx hc => hnew (by rw [← hapart hc hlamp]; exact hx)]

end Sys2Proof.Machine
end

section
/-! CONFIGURE LAMPS and CONFIGURE STATIONS (R151, R152, R164, R173, R174): O27. -/

namespace Sys2Proof.Machine

/-- The ALERT setting of a call lamp, as the entry shown gives it. -/
theorem State.callLampSetting_wanted {s : State} {st : StationNo} {wanted : Setting}
    (h : (s.shownAlert st = none ∧ wanted = .idle) ∨ ∃ x ∈ s.shownAlert st, wanted = .fixed (severityPattern x.severity)) :
    s.stationTabled.callLampSetting st = wanted := by
  have hshown : s.stationTabled.shownAlert st = s.shownAlert st := by
    unfold State.shownAlert
    rw [State.stationTabled_station]
    rfl
  unfold State.callLampSetting
  rw [hshown]
  obtain ⟨hnone, rfl⟩ | ⟨x, hx, rfl⟩ := h
  · rw [hnone]
  · rw [show s.shownAlert st = some x from hx]

/-- What CONFIGURE STATIONS leaves of stations and channels. -/
theorem State.takeStationTable_spec {s : State} (h : s.stationRecordFault = none) :
    s.takeStationTable = { s with stations := s.takeStationTable.stations, channels := s.takeStationTable.channels } ∧
      (∀ st, s.takeStationTable.station st = s.stationPresented st) ∧
      ∀ ch, (∀ st, (s.stationTabled.station st).callLamp = some ch →
          s.takeStationTable.channel ch = (s.channel ch).chosen s.patterns (s.stationTabled.callLampSetting st)) ∧
        ((∀ st, (s.stationTabled.station st).callLamp ≠ some ch) → (∃ st, (s.station st).callLamp = some ch) →
          s.takeStationTable.channel ch = (s.channel ch).chosen s.patterns .idle) ∧
        ((∀ st, (s.stationTabled.station st).callLamp ≠ some ch) → (∀ st, (s.station st).callLamp ≠ some ch) →
          s.takeStationTable.channel ch = s.channel ch) := by
  have htake : s.takeStationTable = forEach 4 (fun st v => State.refreshStation v st) s.lampsDropped := rfl
  obtain ⟨hform, hdropped⟩ := s.lampsDropped_spec
  obtain ⟨hall, hstation, hchannel⟩ := State.refreshedAll_spec (u := s.lampsDropped) (State.stationTabled_apart h) hform
  rw [htake]
  generalize forEach 4 (fun st v => State.refreshStation v st) s.lampsDropped = t at *
  generalize s.lampsDropped = u at *
  refine ⟨?_, hstation, fun ch => ⟨fun st hst => ?_, fun hno hold => ?_, fun hno hold => ?_⟩⟩
  · rw [hall, hform]
    rfl
  · rw [(hchannel ch).2 st hst, hdropped ch, if_neg]
    rw [(State.isCallLamp_iff _ _).2 ⟨st, hst⟩]
    simp
  · rw [(hchannel ch).1 hno, hdropped ch, if_pos]
    exact ⟨hold, Bool.eq_false_iff.2 fun hc => by
      obtain ⟨st, hst⟩ := (State.isCallLamp_iff _ _).1 hc
      exact hno st hst⟩
  · rw [(hchannel ch).1 hno, hdropped ch, if_neg fun hn => ?_]
    obtain ⟨⟨st, hst⟩, -⟩ := hn
    exact hold st hst

theorem exec_configureStations {s : State} {w1 w2 : Nat} (hcell : s.AtCell 0x08 w1 w2) (hp : s.part = .run) (h : s.stationRecordFault = none) :
    ∃ t, exec .configureStations s = .next t ∧ s.Answered t 0x08 0 0 ∧ t.stations = s.takeStationTable.stations ∧
      t.channels = s.takeStationTable.channels ∧ (∀ k < 16384, s.NotOfCell k → t.word k = s.word k) ∧
      t = { s with stations := t.stations, channels := t.channels, ram := t.ram, deck := t.deck, attn := t.attn } := by
  have hrow : RowOf 0x08 State.orderConfigureStations := fun _ => rfl
  obtain ⟨-, -, -, -, -, hrep⟩ := id hcell
  have horder (v1 v2 : Word) : State.orderConfigureStations v1 v2 s = Machine.taken s.takeStationTable := by
    unfold State.orderConfigureStations
    rw [h]
  obtain ⟨hform, -⟩ := State.takeStationTable_spec h
  generalize s.takeStationTable = u at *
  obtain ⟨t, hexec, hans, hword, ht⟩ := hrow.taken_effect hcell hp (r := .taken) (d := 0) (by omega) (fun v1 v2 _ _ => horder v1 v2)
    (fun v1 v2 => State.orderConfigureStations_acts v1 v2 s hp) (State.settle_nil u (by rw [hform]; exact hrep))
  refine ⟨t, hexec, hans, by rw [ht], by rw [ht], fun k hk hnot => (hword k hk hnot).trans (by rw [hform]; rfl), ?_⟩
  rw [ht, hform]

/-- A station of the new table, in the words of the statement. -/
theorem State.stationPresented_eq (s : State) (st : StationNo) (v : Nat × Nat) (hv : s.stationTabled.displayValues st = v) :
    s.stationPresented st = { s.station st with
      routeMask := (s.word (addrStation st)).setWidth 8,
      target := index? 4 (s.word (addrStation st + 1)).toNat,
      escalationTime := (s.word (addrStation st + 2)).toNat,
      callLamp := index? 64 (s.word (addrStation st + 3)).toNat,
      displayEnable := s.word (addrStation st + 4) == 1,
      displayNumber := v.1, displaySeverity := v.2 } := by
  have hmask : BitVec.ofNat 8 (bits (s.word (addrStation st)) 0 8) = (s.word (addrStation st)).setWidth 8 := by
    refine BitVec.eq_of_toNat_eq ?_
    rw [BitVec.toNat_ofNat, BitVec.toNat_setWidth]
    unfold bits
    norm_num
  unfold State.stationPresented
  rw [hv, State.stationTabled_station]
  unfold Station.withRecord State.stationRecord
  simp only
  rw [hmask]

theorem State.stationFieldFault_le (s : State) (st : StationNo) : (s.stationFieldFault st).getD 0 ≤ 5 := by
  unfold State.stationFieldFault
  simp only
  split_ifs <;> decide

/-- Settles O27. -/
theorem configureLampsStations : Obligations.ConfigureLampsStations := by
  have hlamps : RowOf 0x07 State.orderConfigureLamps := fun _ => rfl
  have hstations : RowOf 0x08 State.orderConfigureStations := fun _ => rfl
  refine ⟨fun s w1 w2 hcell hp => ⟨fun n hn => ?_, fun h => ?_⟩, fun s w1 w2 hcell hp => ⟨fun n hn => ?_, fun h => ?_⟩⟩
  · have hn : s.lampRecordFault = some n := hn
    refine hlamps.answered hcell hp (r := .badValue) ?_ fun v1 v2 _ _ => ?_
    · unfold State.lampRecordFault at hn
      split at hn
      · next p _ =>
        have := Option.some.inj hn
        have := p.isLt
        omega
      · obtain ⟨ch, -, rfl⟩ := Option.map_eq_some_iff.1 hn
        have := ch.isLt
        omega
    · unfold State.orderConfigureLamps
      rw [hn]
  · obtain ⟨t, hexec, hans, hpatterns, hchannels, hword, ht⟩ := configureLamps_taken hcell hp h
    refine ⟨t, hexec, hans, hpatterns, fun ch => ?_, hword, ht⟩
    obtain ⟨hcombine, hidle, hbright, hout, hlayer⟩ := hchannels ch
    refine ⟨hcombine, hidle, hbright, hout, fun name _ => ?_⟩
    rw [hlayer name]
    exact Layer.afterTable_spec _ _ _
  · have hn : s.stationRecordFault = some n := hn
    refine hstations.answered hcell hp (r := .badValue) ?_ fun v1 v2 _ _ => ?_
    · unfold State.stationRecordFault at hn
      obtain ⟨st, hst, rfl⟩ := Option.map_eq_some_iff.1 hn
      have := st.isLt
      have := s.stationFieldFault_le st
      omega
    · unfold State.orderConfigureStations
      rw [hn]
  · obtain ⟨-, hstation, hchannel⟩ := State.takeStationTable_spec h
    obtain ⟨t, hexec, hans, hst, hch, hword, ht⟩ := exec_configureStations hcell hp h
    have hts (st : StationNo) : t.station st = s.stationPresented st := (congrArg (tget · st) hst).trans (hstation st)
    have htc (ch : ChannelNo) : t.channel ch = s.takeStationTable.channel ch := congrArg (tget · ch) hch
    have hlamp (st : StationNo) : (t.station st).callLamp = (s.stationTabled.station st).callLamp := by rw [hts]; rfl
    refine ⟨t, hexec, hans, fun st => ?_, fun ch => ?_, hword, ht⟩
    · obtain ⟨hvalues, -⟩ := State.presents_congr (s := s.stationTabled) (t := t) (st := st) (by rw [ht]; rfl) (by rw [hts]; rfl) (by rw [hts]; rfl)
      rw [hts]
      exact s.stationPresented_eq st _ hvalues.symm
    · obtain ⟨hnew, hleft, hnone⟩ := hchannel ch
      simp only [hlamp]
      rw [htc]
      by_cases hex : ∃ st, (s.stationTabled.station st).callLamp = some ch
      · obtain ⟨st, hstl⟩ := hex
        rw [hnew st hstl]
        obtain ⟨hform, hsame, hset⟩ := (s.channel ch).chosen_spec s.patterns (s.stationTabled.callLampSetting st)
        refine ⟨hform, fun wanted hwanted => ?_, fun hno => absurd hstl (hno st).2⟩
        obtain ⟨u, hu, hwanted⟩ | ⟨-, hno, -⟩ := hwanted
        · rw [← State.stationTabled_apart h hstl hu] at hwanted
          rw [← State.callLampSetting_wanted hwanted]
          exact ⟨hsame, hset⟩
        · exact absurd hstl (hno st)
      · have hno : ∀ st, (s.stationTabled.station st).callLamp ≠ some ch := fun st hc => hex ⟨st, hc⟩
        by_cases hold : ∃ st, (s.station st).callLamp = some ch
        · rw [hleft hno hold]
          obtain ⟨hform, hsame, hset⟩ := (s.channel ch).chosen_spec s.patterns .idle
          refine ⟨hform, fun wanted hwanted => ?_, fun hn => ?_⟩
          · obtain ⟨u, hu, -⟩ | ⟨-, -, rfl⟩ := hwanted
            · exact absurd hu (hno u)
            · exact ⟨hsame, hset⟩
          · obtain ⟨st, hstl⟩ := hold
            exact absurd hstl (hn st).1
        · rw [hnone hno fun st hc => hold ⟨st, hc⟩]
          refine ⟨rfl, fun wanted hwanted => ?_, fun _ => rfl⟩
          obtain ⟨u, hu, -⟩ | ⟨hex', -, -⟩ := hwanted
          · exact absurd hu (hno u)
          · exact absurd hex' hold

end Sys2Proof.Machine
end

section
/-! Faults and disturbances of axes (R90, R91, R93): O47. -/

namespace Sys2Proof.Machine

/-! ### What a raise does to the gallery record -/

/-- The marks of axes in the gallery record are the same. -/
abbrev SameMarks (s t : State) : Prop := t.gallery.axisFault = s.gallery.axisFault ∧ t.gallery.disturbed = s.gallery.disturbed

theorem State.noteRouting_marks (s : State) (x : Alert) : SameMarks s (s.noteRouting x) := by
  unfold State.noteRouting
  split <;> exact ⟨rfl, rfl⟩

/-- A raise marks no axis in the gallery record. -/
theorem State.raise_marks (s : State) (src : SourceNo) (cause : AlertCause) (code severity : Nat) :
    SameMarks s (s.raise src cause code severity) := by
  unfold State.raise
  split
  · exact ⟨rfl, rfl⟩
  · unfold State.mergeRaise
    simp only [SameMarks]
    rw [State.closeAct_form]
    exact State.noteRouting_marks _ _
  · unfold State.enterAlert
    simp only [SameMarks]
    rw [State.closeAct_form]
    exact State.noteRouting_marks _ _
  · unfold State.enterAlert
    simp only [SameMarks]
    rw [State.closeAct_form]
    exact State.noteRouting_marks _ _
  · exact ⟨rfl, rfl⟩

/-- With room in the list a raise makes at most one entry. -/
theorem State.raise_length {s : State} (src : SourceNo) (cause : AlertCause) (code severity : Nat) (hrun : s.part = .run)
    (hlen : s.alerts.length < 32) : (s.raise src cause code severity).alerts.length ≤ s.alerts.length + 1 := by
  cases hof : s.alertOf? src cause with
  | none =>
    obtain ⟨y, hy, -⟩ := State.raise_entered_list (s := s) code severity hrun hof hlen
    rw [hy, List.length_append, List.length_singleton]
  | some x =>
    have hlist : (s.raise src cause code severity).alerts =
        (s.alerts.filter fun z => z.number != x.number) ++ [s.mergedAlert x code severity] := by
      unfold State.raise
      rw [State.raiseCase_merged severity hrun hof]
      exact s.mergeRaise_list x code severity
    rw [hlist, List.length_append, List.length_singleton]
    exact Nat.succ_le_succ (List.length_filter_le _ _)

theorem State.raise_axis (s : State) (src : SourceNo) (cause : AlertCause) (code severity : Nat) (a : AxisNo) :
    (s.raise src cause code severity).axis a = s.axis a := by rw [(s.raise_act src cause code severity).1]; rfl

/-! ### A fault that is taken -/

/-- Every report in a list is a crossing of the axis. -/
abbrev OnlyCrossings (a : AxisNo) (rs : List Report) : Prop := ∀ r ∈ rs, ∃ m up, r = .crossing a m up

/-- A report made after crossings that nobody waits for is taken. -/
theorem Takes.report_after {a : AxisNo} {q : Report} {n : Nat} {t : State} {qs : List Report} (rs : List Report) : ∀ {u : State},
    u.reports = rs ++ q :: qs → OnlyCrossings a rs → u.Uncrossed a → Takes n (State.deliver { u with reports := qs } q) t →
    Takes (n + 1 + rs.length) u t := by
  induction rs with
  | nil => exact fun hr _ _ h => .next hr h
  | cons r rs ih =>
    intro u hr hrs hc h
    obtain ⟨m, up, rfl⟩ := hrs r (List.mem_cons_self ..)
    refine .next (rest := rs ++ q :: qs) (hr.trans (List.cons_append ..)) ?_
    have hu : State.Uncrossed { u with reports := rs ++ q :: qs } a := hc.congr rfl rfl
    rw [hu.deliver]
    exact ih rfl (fun p hp => hrs p (List.mem_cons_of_mem _ hp)) hu h

/-- The fault of an unbound axis has been taken: the axis is as `y` says, the pool is `p`, the axis is marked in the gallery record, and
otherwise nothing but the alerts has changed. -/
structure FaultTaken (s t : State) (a : AxisNo) (y : Axis) (p : Pool) : Prop where
  axis : (t.axis a).Matches y
  others : s.OtherAxes t a
  pool : t.pool = p
  marked : t.gallery.axisFault = s.gallery.axisFault ||| (1#16 <<< a.val)
  disturbed : t.gallery.disturbed = s.gallery.disturbed
  word : ∀ k, NotOfAlerts k → OutsideAxis a k → t.word k = s.word k
  form : t = { s with axes := t.axes, pool := t.pool, alerts := t.alerts, stations := t.stations, channels := t.channels,
                      nextNumber := t.nextNumber, rewriteCount := t.rewriteCount, gallery := t.gallery, ram := t.ram }

/-- The fault of an unbound axis with no axis waiting for units. -/
theorem State.takeAxisFault_unbound {s : State} {a : AxisNo} (cause : FaultCause) (howner : s.axisOwner a = none)
    (hempty : s.pool.waiting = []) : s.takeAxisFault a cause = (s.markAxisFault a).raise gallerySource .axisFault 0 2 := by
  unfold State.takeAxisFault State.axisSource
  rw [howner]
  refine State.grantScan_empty ?_
  rw [((s.markAxisFault a).raise_act gallerySource .axisFault 0 2).1]
  exact hempty

/-- An act on an unbound axis that ends in its fault. -/
theorem AxisTo.fault_taken {s u : State} {a : AxisNo} {y : Axis} {p : Pool} {n : Nat} (h : AxisTo s u a y p n) (cause : FaultCause)
    (hs : OnlyCrossings a s.reports) (hn : s.reports.length + n ≤ 4000) (howner : s.axisOwner a = none) (hempty : p.waiting = []) :
    FaultTaken { s with reports := [] } (u.report (.axisFault a cause)).settle a y p := by
  obtain ⟨rs, hrs, hlen, hcross⟩ := h.reports
  have huo : u.axisOwner a = none := h.owner.trans howner
  have htake := State.takeAxisFault_unbound (s := { u with reports := [] }) cause huo (h.pool ▸ hempty)
  have hreports : (State.report u (.axisFault a cause)).reports = (s.reports ++ rs) ++ [.axisFault a cause] := congrArg (· ++ _) hrs
  have hact := (State.markAxisFault { u with reports := [] } a).raise_act gallerySource .axisFault 0 2
  have hmarks := (State.markAxisFault { u with reports := [] } a).raise_marks gallerySource .axisFault 0 2
  rw [← htake] at hact hmarks
  have htakes := Takes.report_after (n := 0) (s.reports ++ rs) hreports
    (fun r hr => (List.mem_append.1 hr).elim (hs r) (hcross r)) (State.Uncrossed.of_unbound huo) (.none (by
      show (State.takeAxisFault { u with reports := [] } a cause).reports = []
      rw [hact.1]; rfl))
  rw [htakes.settle (by rw [List.length_append]; omega)]
  show FaultTaken _ (State.takeAxisFault { u with reports := [] } a cause) a y p
  generalize State.takeAxisFault { u with reports := [] } a cause = t at *
  obtain ⟨hform, hword⟩ := hact
  obtain ⟨hfault, hdist⟩ := hmarks
  have haxis : ∀ b, t.axis b = u.axis b := fun b => by rw [hform]; rfl
  exact {
    axis := haxis a ▸ h.axis
    others := fun b hb => (haxis b).trans (h.others b hb)
    pool := by rw [hform]; exact h.pool
    marked := hfault.trans (by unfold State.markAxisFault axisBit; rw [h.form])
    disturbed := hdist.trans (by rw [h.form]; rfl)
    word := fun k hk hout => (hword k hk).trans (h.word k hout)
    form := by rw [hform, h.form]; rfl }

theorem State.no_reports {s : State} (h : s.reports = []) : { s with reports := [] } = s := by rw [← h]

/-- An axis that a quick stop leaves in fault (R89, R91). -/
theorem State.faultAxis_taken {s : State} {a : AxisNo} (cause : FaultCause) (hrep : s.reports = []) (howner : s.axisOwner a = none)
    (hempty : s.pool.waiting = []) :
    FaultTaken s (s.faultAxis a cause).settle a (((s.axis a).enterFaulted cause).movedTo (s.axis a).encoder) (s.pool.returned a) := by
  have h := (s.resyncAs_to a ((s.axis a).enterFaulted cause)).fault_taken cause (by simp [OnlyCrossings, hrep]) (by simp [hrep]) howner hempty
  rw [State.no_reports hrep] at h
  exact h

/-! ### Disturbances (R90) -/

/-- The axis as a disturbance leaves it, but for a fault. -/
def Axis.resynced (x : Axis) : Axis := { ({ x with followRun := 0 } : Axis).movedTo x.encoder with imageStale := false }

/-- What a disturbance does before it judges the window: the re-sync, the alert and the mark in the gallery record. -/
def State.noteDisturbance (s : State) (a : AxisNo) : State :=
  let t := s.putAxisAt a { s.axis a with followRun := 0 } (s.axis a).encoder true
  let u := t.raise (t.axisSource a) .modelDisturbed 0 1
  if (u.axisOwner a).isNone then u.markDisturbed a else u

theorem State.disturb_within {s : State} {a : AxisNo} (h : (s.axis a).inWindow (s.axis a).encoder = true) :
    s.disturb a = s.noteDisturbance a := if_pos h

theorem State.disturb_outside {s : State} {a : AxisNo} (h : (s.axis a).inWindow (s.axis a).encoder = false) :
    s.disturb a = (((s.noteDisturbance a).leaveList a).putAxis a (((s.noteDisturbance a).axis a).enterFaulted .travel) false).report
      (.axisFault a .travel) := if_neg (by rw [h]; decide)

theorem State.putAxisAt_rewritten (s : State) (a : AxisNo) (x : Axis) (p : Int) :
    (s.putAxisAt a x p true).axis a = { x.movedTo p with imageStale := false } := by
  unfold State.putAxisAt
  simp only
  rw [State.reportCrossings_form]
  show (s.putAxis a (x.movedTo p) true).axis a = _
  unfold State.putAxis
  simp only [Bool.true_or, if_true]
  rw [State.writeAxisImage_axis, if_pos rfl, State.setAxis_axis, if_pos rfl]

/-- A disturbance re-syncs the axis, marks an unbound one, and otherwise raises alerts only. -/
structure Disturbed (s t : State) (a : AxisNo) : Prop where
  axis : t.axis a = (s.axis a).resynced
  others : s.OtherAxes t a
  faults : t.gallery.axisFault = s.gallery.axisFault
  marked : t.gallery.disturbed = if (s.axisOwner a).isNone then s.gallery.disturbed ||| (1#16 <<< a.val) else s.gallery.disturbed
  raised : s.part = .run → s.alertOf? (s.axisSource a) .modelDisturbed = none → s.alerts.length < 32 →
    ∃ y : Alert, t.alerts = s.alerts ++ [y] ∧ y.source = s.axisSource a ∧ y.cause = .modelDisturbed ∧ y.severity = 1
  length : s.part = .run → s.alerts.length < 32 → t.alerts.length ≤ s.alerts.length + 1
  word : ∀ k, NotOfAlerts k → OutsideAxis a k → t.word k = s.word k
  reports : ∃ rs, t.reports = s.reports ++ rs ∧ rs.length ≤ 4 ∧ OnlyCrossings a rs
  form : t = { s with axes := t.axes, alerts := t.alerts, stations := t.stations, channels := t.channels,
                      nextNumber := t.nextNumber, rewriteCount := t.rewriteCount, gallery := t.gallery, ram := t.ram, reports := t.reports }

theorem State.noteDisturbance_spec (s : State) (a : AxisNo) : Disturbed s (s.noteDisturbance a) a := by
  have hput := s.putAxisAt_to a { s.axis a with followRun := 0 } (s.axis a).encoder true
  have haxis := s.putAxisAt_rewritten a { s.axis a with followRun := 0 } (s.axis a).encoder
  have hsource : (s.putAxisAt a { s.axis a with followRun := 0 } (s.axis a).encoder true).axisSource a = s.axisSource a := by
    unfold State.axisSource
    rw [hput.owner]
  unfold State.noteDisturbance
  simp only
  rw [hsource]
  generalize s.putAxisAt a { s.axis a with followRun := 0 } (s.axis a).encoder true = t at *
  have hact := t.raise_act (s.axisSource a) .modelDisturbed 0 1
  obtain ⟨hfault, hdist⟩ := t.raise_marks (s.axisSource a) .modelDisturbed 0 1
  have hlist := fun h1 h2 h3 => State.raise_entered_list (s := t) (src := s.axisSource a) (cause := .modelDisturbed) 0 1 h1 h2 h3
  have hlength := fun h1 h2 => State.raise_length (s := t) (s.axisSource a) .modelDisturbed 0 1 h1 h2
  generalize t.raise (s.axisSource a) .modelDisturbed 0 1 = u at *
  obtain ⟨hform, hword⟩ := hact
  have hexhibits : u.exhibits = s.exhibits := by rw [hform, hput.form]
  rw [State.axisOwner_congr hexhibits]
  have hgallery : t.gallery = s.gallery := by rw [hput.form]
  have hmark : (if (s.axisOwner a).isNone = true then u.markDisturbed a else u) =
      { u with gallery := { u.gallery with disturbed := if (s.axisOwner a).isNone = true then u.gallery.disturbed ||| axisBit a
                                                        else u.gallery.disturbed } } := by
    split <;> rfl
  rw [hmark]
  obtain ⟨rs, hrs, hn, hcross⟩ := hput.reports
  exact {
    axis := by
      show u.axis a = _
      rw [hform]
      exact haxis
    others := fun b hb => by
      show u.axis b = _
      rw [hform]
      exact hput.others b hb
    faults := hfault.trans (by rw [hgallery])
    marked := by
      show (if (s.axisOwner a).isNone = true then u.gallery.disturbed ||| axisBit a else u.gallery.disturbed) = _
      rw [hdist, hgallery]
      rfl
    raised := fun hrun hnone hlen => by
      have halerts : t.alerts = s.alerts := by rw [hput.form]
      obtain ⟨y, hy, hsrc, hcause, hsev, -⟩ := hlist (by rw [hput.form]; exact hrun) (by unfold State.alertOf?; rw [halerts]; exact hnone)
        (by rw [halerts]; exact hlen)
      exact ⟨y, hy.trans (by rw [halerts]), hsrc, hcause, hsev⟩
    length := fun hrun hlen => by
      have halerts : t.alerts = s.alerts := by rw [hput.form]
      rw [← halerts] at hlen ⊢
      exact hlength (by rw [hput.form]; exact hrun) hlen
    word := fun k hk hout => (hword k hk).trans (hput.word k hout)
    reports := ⟨rs, by show u.reports = _; rw [hform]; exact hrs, hn, hcross⟩
    form := by
      have hpool : t.pool = s.pool := hput.pool
      rw [hform, hput.form, hpool] }

/-- A disturbance within the window, its crossings dropped. -/
theorem State.disturbance_within {s : State} {a : AxisNo} (hst : (s.axis a).state = .idle ∨ (s.axis a).state = .awaitPower)
    (hrep : s.reports = []) (hc : s.Uncrossed a) (hin : (s.axis a).inWindow (s.axis a).encoder = true) :
    ∃ t, exec (.disturbance a) s = .next t ∧ Disturbed s t a ∧ t.reports = [] := by
  have hspec := s.noteDisturbance_spec a
  have hexec : s.disturbance a = (s.noteDisturbance a).settle := by
    unfold State.disturbance
    rw [State.disturb_within hin]
    exact if_pos (by obtain h | h := hst <;> rw [h] <;> rfl)
  generalize s.noteDisturbance a = v at *
  obtain ⟨rs, hrs, hlen, hcross⟩ := hspec.reports
  rw [hrep, List.nil_append] at hrs
  have hv : v.Uncrossed a := hc.congr (by rw [hspec.form]) (by rw [hspec.form])
  refine ⟨{ v with reports := [] }, ?_, ?_, rfl⟩
  · rw [← State.settle_crossings (fun r hr => hcross r (hrs ▸ hr)) (by rw [hrs]; omega) hv, ← hexec]
    rfl
  · exact { hspec with
      reports := ⟨[], by rw [hrep]; rfl, by simp, by simp [OnlyCrossings]⟩
      form := by rw [hspec.form] }

theorem Axis.resynced_of_ne_off {x : Axis} (h : x.state ≠ .off) : x.resynced =
    { x with pos := x.encoder, followRun := 0, imageStale := false, sides := sidesAt x.marks x.encoder } := by
  unfold Axis.resynced Axis.movedTo
  rw [if_neg h]
  rfl

theorem Pool.left_nil {p : Pool} (a : AxisNo) (h : p.waiting = []) : p.left a = p := by
  unfold Pool.left
  rw [h]
  exact congrArg (fun w => { p with waiting := w }) h.symm

/-- Settles O47. -/
theorem disturbanceResyncs : Obligations.DisturbanceResyncs := by
  refine ⟨fun s a hst howner hrep hrun hnone hlen => ⟨fun hin => ?_, fun hout hempty => ?_⟩, fun s a h1 h2 => ?_,
    fun s a e hst howner hw hrep hrun hin hnone hlen => ?_⟩
  · have hsource : s.axisSource a = gallerySource := by unfold State.axisSource; rw [howner]
    obtain ⟨t, hexec, hdist, hreports⟩ := State.disturbance_within (.inl hst) hrep (State.Uncrossed.of_unbound howner) hin
    obtain ⟨y, hy, hsrc, hcause, hsev⟩ := hdist.raised hrun (hsource ▸ hnone) hlen
    refine ⟨t, hexec, ?_, ?_, by rw [hy]; simp, fun z hz => ?_, hdist.others, fun k _ => hdist.word k, ?_⟩
    · exact hdist.axis.trans (Axis.resynced_of_ne_off (by rw [hst]; decide))
    · exact hdist.marked.trans (if_pos (by rw [howner]; rfl))
    · rw [hy, List.getLast?_concat] at hz
      obtain rfl := Option.mem_some_iff.1 hz
      exact ⟨hsrc.trans hsource, hcause, hsev⟩
    · have hform := hdist.form
      rw [hreports, ← hrep] at hform
      exact hform
  · have hspec := s.noteDisturbance_spec a
    have hexec : s.disturbance a = (s.disturb a).settle := if_pos (by rw [hst]; rfl)
    rw [State.disturb_outside hout] at hexec
    generalize s.noteDisturbance a = v at *
    obtain ⟨rs, hrs, hlen, hcross⟩ := hspec.reports
    rw [hrep, List.nil_append] at hrs
    have hpool : v.pool = s.pool := by rw [hspec.form]
    have hleave : v.leaveList a = v := by
      unfold State.leaveList
      rw [Pool.left_nil a (by rw [hpool]; exact hempty)]
      rfl
    rw [hleave] at hexec
    have hput := v.putAxis_to a ((v.axis a).enterFaulted .travel) false
    have htaken := hput.fault_taken .travel (by rw [hrs]; exact hcross) (by rw [hrs]; omega)
      ((State.axisOwner_congr (by rw [hspec.form]) a).trans howner) (by rw [hpool]; exact hempty)
    have hstate := htaken.axis
    refine ⟨_, congrArg Host.Outcome.next hexec, ?_, ?_, ?_, ?_, ?_, ?_, fun b hb => ?_, htaken.pool.trans hpool⟩
    · rw [htaken.axis]; rfl
    · rw [htaken.axis]; rfl
    · rw [htaken.axis]
      show (v.axis a).pos = _
      rw [hspec.axis]
      rfl
    · rw [htaken.axis]
      show ((v.axis a).homed && _) = _
      rw [hspec.axis]
      exact Bool.and_true _
    · exact htaken.disturbed.trans (hspec.marked.trans (if_pos (by rw [howner]; rfl)))
    · exact htaken.marked.trans (congrArg (· ||| _) hspec.faults)
    · exact (htaken.others b hb).trans (hspec.others b hb)
  · have hno : (s.axis a).state.disturbable = false := by
      unfold AxisState.disturbable
      split
      · exact absurd ‹_› h1
      · exact absurd ‹_› h2
      all_goals rfl
    exact congrArg Host.Outcome.next (if_neg (by rw [hno]; decide))
  · have hsource : s.axisSource a = exhibitSource e := by unfold State.axisSource; rw [howner]
    obtain ⟨t, hexec, hdist, hreports⟩ := State.disturbance_within hst hrep hw.uncrossed hin
    obtain ⟨y, hy, hsrc, hcause, hsev⟩ := hdist.raised hrun (hsource ▸ hnone) hlen
    refine ⟨t, hexec, ?_, ?_, by rw [hy]; simp, fun z hz => ?_, hdist.others, fun k _ => hdist.word k, ?_⟩
    · exact hdist.axis.trans (Axis.resynced_of_ne_off (by obtain h | h := hst <;> rw [h] <;> decide))
    · exact hdist.marked.trans (if_neg (by rw [howner]; exact Bool.false_ne_true))
    · rw [hy, List.getLast?_concat] at hz
      obtain rfl := Option.mem_some_iff.1 hz
      exact ⟨hsrc.trans hsource, hcause, hsev⟩
    · have hform := hdist.form
      rw [hreports, ← hrep] at hform
      exact hform

end Sys2Proof.Machine
end

section
/-! One update of an axis (R87, R88, R90, R91, R107): O46. -/

namespace Sys2Proof.Machine

/-! ### The judgement of the following error -/

/-- The run after an update, of an axis whose following error is judged (R90). -/
theorem Axis.nextRun_judged {y : Axis} {c : AxisConfig} (h : y.state.judged = true) :
    y.nextRun c = if c.followLimit < (y.pos - y.encoder).natAbs then min 255 (y.followRun + 1) else 0 := by
  unfold Axis.nextRun
  rw [h, Bool.true_and]
  by_cases hlim : c.followLimit < (y.pos - y.encoder).natAbs
  · rw [if_pos (by simpa using hlim), if_pos hlim]; rfl
  · rw [if_neg (by simpa using hlim), if_neg hlim]

theorem Axis.Matches.nextRun {x y : Axis} (h : x.Matches y) (c : AxisConfig) : x.nextRun c = y.nextRun c := by
  rw [h]; rfl

theorem Axis.Matches.config {x y : Axis} (h : x.Matches y) : x.config = y.config := by rw [h]
theorem Axis.Matches.encoder {x y : Axis} (h : x.Matches y) : x.encoder = y.encoder := by rw [h]

theorem Axis.Matches.withRun {x y : Axis} (h : x.Matches y) (r : Nat) :
    ({ x with followRun := r } : Axis).Matches { y with followRun := r } := by
  unfold Axis.Matches at *
  rw [h]

/-- The run has not reached the stall time (R90). -/
abbrev Calm (c : AxisConfig) (r : Nat) : Prop := r = 0 ∨ r < c.stallTime

theorem State.judgeFollowing_calm {s : State} {a : AxisNo} {c : AxisConfig} (hc : (s.axis a).config = some c)
    (h : Calm c ((s.axis a).nextRun c)) : s.judgeFollowing a = s.setAxis a { s.axis a with followRun := (s.axis a).nextRun c } := by
  unfold State.judgeFollowing
  simp only [hc]
  exact if_neg (by rintro ⟨h1, h2⟩; obtain h | h := h <;> omega)

theorem State.judgeFollowing_late {s : State} {a : AxisNo} {c : AxisConfig} (hc : (s.axis a).config = some c)
    (h1 : (s.axis a).nextRun c ≠ 0) (h2 : c.stallTime ≤ (s.axis a).nextRun c) : s.judgeFollowing a =
      if (s.axis a).state.drives then (s.setAxis a { s.axis a with followRun := (s.axis a).nextRun c }).stallAxis a
      else (s.setAxis a { s.axis a with followRun := (s.axis a).nextRun c }).disturb a := by
  unfold State.judgeFollowing
  simp only [hc]
  exact if_pos ⟨h1, h2⟩

/-! ### An update from its steps -/

theorem exec_axisUpdate {s : State} {a : AxisNo} (h : (s.axis a).limitAhead = false) :
    exec (.axisUpdate a) s = .next ((s.driveUpdate a).judgeFollowing a).settle := by
  have hupdate : s.axisUpdate a = (s.driveUpdate a).judgeFollowing a := if_neg (by rw [h]; decide)
  rw [← hupdate]
  rfl

/-- An update whose run stays below the stall time. -/
theorem exec_axisUpdate_calm {s : State} {a : AxisNo} {y : Axis} {p : Pool} {n r : Nat} {c : AxisConfig}
    (hlim : (s.axis a).limitAhead = false) (h : AxisTo s (s.driveUpdate a) a y p n) (hn : n ≤ 4096) (hrep : s.reports = [])
    (hcross : s.Uncrossed a) (hc : y.config = some c) (hr : y.nextRun c = r) (hcalm : Calm c r) :
    ∃ t, exec (.axisUpdate a) s = .next t ∧ AxisTo s t a { y with followRun := r } p 0 := by
  refine ⟨_, exec_axisUpdate hlim, ?_⟩
  generalize s.driveUpdate a = u at *
  have hrun : (u.axis a).nextRun c = r := (h.axis.nextRun c).trans hr
  rw [State.judgeFollowing_calm (h.axis.config.trans hc) (hrun.symm ▸ hcalm), hrun]
  have hset := u.setAxis_to a { u.axis a with followRun := r }
  rw [h.pool] at hset
  exact ((h.trans hset).congr (h.axis.withRun r)).settle hrep hcross (by omega)

/-- An update at which an unbound axis stalls. -/
theorem exec_axisUpdate_stalls {s : State} {a : AxisNo} {y : Axis} {p : Pool} {n r : Nat} {c : AxisConfig}
    (hlim : (s.axis a).limitAhead = false) (h : AxisTo s (s.driveUpdate a) a y p n) (hn : n ≤ 3900) (hrep : s.reports = [])
    (howner : s.axisOwner a = none) (hempty : p.waiting = []) (hdrives : y.state.drives = true) (hc : y.config = some c)
    (hr : y.nextRun c = r) (h1 : r ≠ 0) (h2 : c.stallTime ≤ r) :
    ∃ t, exec (.axisUpdate a) s = .next t ∧
      FaultTaken s t a ((({ y with followRun := r } : Axis).enterFaulted (if y.state = .homing then .homeFail else .stall)).movedTo y.encoder)
        (p.returned a) := by
  refine ⟨_, exec_axisUpdate hlim, ?_⟩
  generalize s.driveUpdate a = u at *
  have hrun : (u.axis a).nextRun c = r := (h.axis.nextRun c).trans hr
  rw [State.judgeFollowing_late (h.axis.config.trans hc) (hrun.symm ▸ h1) (hrun.symm ▸ h2), hrun, if_pos (h.axis.state ▸ hdrives)]
  have hset := u.setAxis_to a { u.axis a with followRun := r }
  unfold State.stallAxis State.faultAxis
  rw [h.pool] at hset
  have hall := (h.trans hset).congr (h.axis.withRun r)
  generalize u.setAxis a { u.axis a with followRun := r } = v at *
  have hsync := v.resyncAs_to a ((v.axis a).enterFaulted (if (v.axis a).state = .homing then .homeFail else .stall))
  rw [hall.pool] at hsync
  have hfault := (hall.trans hsync).fault_taken (if (v.axis a).state = .homing then .homeFail else .stall)
    (by simp [OnlyCrossings, hrep]) (by rw [hrep]; simp only [List.length_nil]; omega) howner hempty
  rw [State.no_reports hrep] at hfault
  refine { hfault with axis := hfault.axis.trans ?_ }
  rw [hall.axis.state, hall.axis.encoder]
  unfold Axis.Matches
  rw [show (v.axis a) = _ from hall.axis]
  unfold Axis.movedTo
  split <;> rfl

/-! ### The steps of a motion -/

theorem State.driveUpdate_moving {s : State} {a : AxisNo} {m : MoveRecord} (hst : (s.axis a).state = .moving)
    (hm : (s.axis a).move = some m) : s.driveUpdate a = s.updateMoving a m := by
  unfold State.driveUpdate
  simp only [hst, hm]

theorem State.driveUpdate_stopping {s : State} {a : AxisNo} {m : MoveRecord} (hst : (s.axis a).state = .stopping)
    (hm : (s.axis a).move = some m) : s.driveUpdate a = s.updateStopping a m ((s.axis a).stopBound.getD m.target) := by
  unfold State.driveUpdate
  simp only [hst, hm]

theorem State.driveUpdate_homing {s : State} {a : AxisNo} {c : AxisConfig} (hst : (s.axis a).state = .homing)
    (hc : (s.axis a).config = some c) : s.driveUpdate a = s.updateHoming a c := by
  unfold State.driveUpdate
  simp only [hst, hc]

theorem State.driveUpdate_still {s : State} {a : AxisNo} (hst : (s.axis a).state.drives = false) :
    s.driveUpdate a = s.setAxis a { s.axis a with pulses := 0 } := by
  unfold State.driveUpdate
  simp only
  split
  · next h => rw [h] at hst; cases hst
  · next h => rw [h] at hst; cases hst
  · next h => rw [h] at hst; cases hst
  all_goals rfl

/-- The end of a motion that nobody waits for, with no axis waiting for units. -/
theorem State.completeMotion_to {s : State} {a : AxisNo} (kind : Option MotionKind) (hw : s.Unwatched a) (hempty : s.pool.waiting = []) :
    AxisTo s (s.completeMotion a kind) a (s.axis a).enterIdle (s.pool.returned a) 0 := by
  have hreturn := s.returnUnits_to a
  unfold State.completeMotion
  simp only
  rw [State.grantScan_empty (s := s.returnUnits a) hempty]
  have hput := (s.returnUnits a).putAxis_to a ((s.returnUnits a).axis a).enterIdle false
  rw [hreturn.pool] at hput
  have hall := hreturn.trans hput
  generalize (s.returnUnits a).putAxis a ((s.returnUnits a).axis a).enterIdle false = u at *
  have hu := hall.unwatched hw
  cases kind with
  | none => rw [hu.reportRest]; exact hall
  | some k =>
    simp only
    rw [hu.reportDone, hu.reportRest]
    exact hall

theorem Axis.Matches.enterIdle {x y : Axis} (h : x.Matches y) : x.enterIdle.Matches y.enterIdle := by
  unfold Axis.Matches at *
  rw [h]
  rfl

theorem Axis.Matches.enterMoving {x y : Axis} (h : x.Matches y) (t : Int) (i : Fin 4) : (x.enterMoving t i).Matches (y.enterMoving t i) := by
  unfold Axis.Matches at *
  rw [h]
  rfl

end Sys2Proof.Machine
end

section
/-! One update of an axis, by its state (R87, R88, R90, R107): O46. -/

namespace Sys2Proof.Machine

theorem tset_tset {α : Type} {n : Nat} (v : Vector α n) (i : Fin n) (x y : α) : tset (tset v i x) i y = tset v i y := Vector.set_set ..

/-! ### MOVING (R87) -/

/-- The axis after the steps of an update that move it to `p`, with `v` for its velocity and `n` for its pulses. -/
def Axis.steppedTo (x : Axis) (c : AxisConfig) (v acc n : Nat) (p : Int) : Axis :=
  { x with vel := v, acc := acc, pulses := n, pos := p, sides := sidesAt c.marks p }

theorem Axis.stepped_movedTo {x : Axis} {c : AxisConfig} (hc : x.config = some c) (hst : x.state.drives = true) (k : StepCount) (p : Int) :
    (x.stepped k).movedTo p = x.steppedTo c k.vel k.acc k.count p :=
  Axis.movedTo_of_config (x := x.stepped k) hc (fun h : x.state = .off => by rw [h] at hst; exact absurd hst (by decide)) p

theorem advance_dirToward (x t : Int) (n : Nat) : advance x (dirToward x t) n = if x ≤ t then x + n else x - n := by
  unfold advance dirToward
  split_ifs <;> rfl

theorem advance_eq (x : Int) (d : Dir) (n : Nat) : advance x d n = if d = .towardHigh then x + n else x - n := by
  cases d <;> rfl

/-- The reports of an update that goes on: the crossings of its change of P. -/
theorem State.putAxisAt_reports (s : State) (a : AxisNo) (x : Axis) (p : Int) (r : Bool) (hoff : (s.axis a).state ≠ .off) :
    (s.putAxisAt a x p r).reports = s.reports ++ (crossings (s.axis a) p).map fun c => .crossing a c.mark c.up := by
  unfold State.putAxisAt
  simp only
  rw [if_neg hoff, State.reportCrossings_form]
  obtain ⟨stale, hform⟩ := s.putAxis_form a (x.movedTo p) r
  show (s.putAxis a (x.movedTo p) r).reports ++ _ = _
  rw [hform]

/-- The steps of a MOVING axis, and what follows on reaching the target. -/
theorem State.updateMoving_eq {s : State} {a : AxisNo} {c : AxisConfig} {m : MoveRecord} {v n : Nat} {p : Int}
    (hc : (s.axis a).config = some c) (hst : (s.axis a).state = .moving)
    (h : (s.axis a).ProfileStep (tget c.sets m.speedSet) m.target v n p) :
    ∃ t, AxisTo s t a ((s.axis a).steppedTo c v (((s.axis a).acc + v) % 1000) n p) s.pool 4 ∧
      t.reports = s.reports ++ ((crossings (s.axis a) p).map fun c => .crossing a c.mark c.up) ∧
      s.updateMoving a m = if p = m.target then t.completeMotion a (some .move) else t := by
  obtain ⟨hv, hn, hp⟩ := h
  have hk : (s.axis a).profile m = { vel := v, acc := ((s.axis a).acc + v) % 1000, count := n } := by
    unfold Axis.profile
    rw [Axis.speedSet_of_config hc, hn, hv]
    rfl
  have hadv : advance (s.axis a).pos (dirToward (s.axis a).pos m.target) n = p := (advance_dirToward _ _ _).trans hp.symm
  have hput := s.putAxisAt_to a ((s.axis a).stepped ((s.axis a).profile m)) p false
  rw [Axis.stepped_movedTo hc (by rw [hst]; rfl), hk] at hput
  refine ⟨_, hput, s.putAxisAt_reports a _ p false (by rw [hst]; decide), ?_⟩
  unfold State.updateMoving
  simp only [hk, hadv]

theorem Axis.steppedTo_nextRun {x : Axis} {c : AxisConfig} {v acc n r : Nat} {p : Int} (hst : x.state.judged = true) (h : x.RunAfter c p r) :
    (x.steppedTo c v acc n p).nextRun c = r := (Axis.nextRun_judged (y := x.steppedTo c v acc n p) hst).trans h.symm

/-! ### STOPPING (R88) -/

/-- The steps of a STOPPING axis that does not come to rest. -/
theorem State.updateStopping_on {s : State} {a : AxisNo} {c : AxisConfig} {m : MoveRecord} {b p : Int} {d : Dir} {v n : Nat}
    (hc : (s.axis a).config = some c) (hst : (s.axis a).state = .stopping) (hdir : (s.axis a).dir = some d)
    (hv : v = (s.axis a).vel - (tget c.sets m.speedSet).accel) (hn : n = min (((s.axis a).acc + v) / 1000) (b - (s.axis a).pos).natAbs)
    (hp : p = if d = .towardHigh then (s.axis a).pos + n else (s.axis a).pos - n) (hv0 : v ≠ 0) (hnb : n ≠ (b - (s.axis a).pos).natAbs) :
    AxisTo s (s.updateStopping a m b) a ((s.axis a).steppedTo c v (((s.axis a).acc + v) % 1000) n p) s.pool 4 := by
  have hk : (s.axis a).stopSteps ((s.axis a).speedSet m.speedSet).accel b = { vel := v, acc := ((s.axis a).acc + v) % 1000, count := n } := by
    unfold Axis.stopSteps
    simp only
    rw [Axis.speedSet_of_config hc, ← hv]
    unfold stepCount
    simp only
    rw [← hn]
    exact if_neg (by exact_mod_cast hnb)
  have hadv : advance (s.axis a).pos d n = p := (advance_eq _ _ _).trans hp.symm
  have hput := s.putAxisAt_to a ((s.axis a).stepped ((s.axis a).stopSteps ((s.axis a).speedSet m.speedSet).accel b)) p false
  rw [Axis.stepped_movedTo hc (by rw [hst]; rfl), hk] at hput
  unfold State.updateStopping
  simp only [hk, hdir, Option.getD_some, hadv, ne_eq, hv0, not_false_eq_true, if_true]
  exact hput

/-- A STOPPING axis that comes to rest: the pending move starts, or the motion is complete. -/
theorem State.updateStopping_rest {s : State} {a : AxisNo} {c : AxisConfig} {m : MoveRecord} {b p : Int} {d : Dir} {v n : Nat}
    (hc : (s.axis a).config = some c) (hst : (s.axis a).state = .stopping) (hdir : (s.axis a).dir = some d)
    (hv : v = (s.axis a).vel - (tget c.sets m.speedSet).accel) (hn : n = min (((s.axis a).acc + v) / 1000) (b - (s.axis a).pos).natAbs)
    (hp : p = if d = .towardHigh then (s.axis a).pos + n else (s.axis a).pos - n) (hrest : v = 0 ∨ n = (b - (s.axis a).pos).natAbs) :
    ∃ t, AxisTo s t a ((s.axis a).steppedTo c 0 (((s.axis a).acc + v) % 1000) n p) s.pool 4 ∧
      (∀ target i, (s.axis a).request = some (.move target i) → target ≠ p →
        s.updateStopping a m b = t.putAxis a ((t.axis a).enterMoving target i) false) ∧
      ((∀ target i, (s.axis a).request = some (.move target i) → target = p) →
        ∃ kind, (kind = none ∨ kind = some .move) ∧ ((∃ i, (s.axis a).request = some (.move p i)) → kind = some .move) ∧
          s.updateStopping a m b = t.completeMotion a kind) := by
  have hk : (s.axis a).stopSteps ((s.axis a).speedSet m.speedSet).accel b = { vel := 0, acc := ((s.axis a).acc + v) % 1000, count := n } := by
    unfold Axis.stopSteps
    simp only
    rw [Axis.speedSet_of_config hc, ← hv]
    unfold stepCount
    simp only
    rw [← hn]
    obtain rfl | hnb := hrest
    · split <;> rfl
    · exact if_pos (by exact_mod_cast hnb)
  have hadv : advance (s.axis a).pos d n = p := (advance_eq _ _ _).trans hp.symm
  have hput := s.putAxisAt_to a ((s.axis a).stepped ((s.axis a).stopSteps ((s.axis a).speedSet m.speedSet).accel b)) p false
  rw [Axis.stepped_movedTo hc (by rw [hst]; rfl), hk] at hput
  refine ⟨_, hput, fun target i hreq hne => ?_, fun hall => ?_⟩
  · unfold State.updateStopping
    simp only [hk, hdir, Option.getD_some, hadv, ne_eq, not_true_eq_false, if_false, hreq, hne]
  · unfold State.updateStopping
    simp only [hk, hdir, Option.getD_some, hadv, ne_eq, not_true_eq_false, if_false]
    split
    · next target i hreq => exact ⟨some .move, .inr rfl, fun _ => rfl, if_pos (hall target i hreq)⟩
    · next hreq => exact ⟨none, .inl rfl, fun ⟨i, hi⟩ => (by rw [hreq] at hi; cases hi), rfl⟩
    · next hreq => exact ⟨none, .inl rfl, fun ⟨i, hi⟩ => (by rw [hreq] at hi; cases hi), rfl⟩

/-- An axis that has come to rest at `p` starts its pending move. -/
theorem Axis.steppedTo_enterMoving {x : Axis} {c : AxisConfig} {v acc n : Nat} {p target : Int} (hc : x.config = some c) (h : target ≠ p)
    (i : Fin 4) : (x.steppedTo c v acc n p).enterMoving target i =
      { x with
        state := .moving, move := some { target := target, speedSet := i }, request := none, stopBound := none,
        vel := (tget c.sets i).vs, acc := 0, pos := p, pulses := n, sides := sidesAt c.marks p,
        dir := some (if p < target then .towardHigh else .towardLow), dirOut := some (if p < target then .towardHigh else .towardLow) } := by
  have hdir : dirToward p target = if p < target then .towardHigh else .towardLow := if_congr (by omega) rfl rfl
  unfold Axis.enterMoving
  rw [Axis.speedSet_of_config (x := x.steppedTo c v acc n p) hc, show (x.steppedTo c v acc n p).pos = p from rfl, hdir]
  rfl

/-! ### HOMING (R107) -/

theorem rangeLeft_eq (p : Int) (d : Dir) : rangeLeft p d = if d = .towardHigh then (8388607 - p).toNat else (p + 8388608).toNat := by
  cases d <;> rfl

/-- The steps of a HOMING axis. -/
theorem State.updateHoming_on {s : State} {a : AxisNo} {c : AxisConfig} {d : Dir} {room n : Nat} {p : Int}
    (hc : (s.axis a).config = some c) (hst : (s.axis a).state = .homing) (hdir : (s.axis a).dir = some d)
    (hroom : rangeLeft (s.axis a).pos d = room)
    (hn : n = min (((s.axis a).acc + (s.axis a).vel) / 1000) (min (c.searchDistance - (s.axis a).travelled) room))
    (hp : p = if d = .towardHigh then (s.axis a).pos + n else (s.axis a).pos - n) (hleft : (s.axis a).travelled ≠ c.searchDistance)
    (h0 : room ≠ 0) :
    AxisTo s (s.updateHoming a c) a
      { (s.axis a).steppedTo c (s.axis a).vel (((s.axis a).acc + (s.axis a).vel) % 1000) n p with
        travelled := (s.axis a).travelled + n } s.pool 4 := by
  have hadv : advance (s.axis a).pos d n = p := (advance_eq _ _ _).trans hp.symm
  obtain ⟨k, hk⟩ : ∃ k : StepCount, k = { vel := (s.axis a).vel, acc := ((s.axis a).acc + (s.axis a).vel) % 1000, count := n } := ⟨_, rfl⟩
  have hcount : stepCount (s.axis a).vel (s.axis a).acc (min (c.searchDistance - (s.axis a).travelled) room) = k := by
    unfold stepCount
    rw [hk, ← hn]
  have hput := s.putAxisAt_to a { (s.axis a).stepped k with travelled := (s.axis a).travelled + k.count } p false
  have hmoved : ({ (s.axis a).stepped k with travelled := (s.axis a).travelled + k.count } : Axis).movedTo p =
      { (s.axis a).steppedTo c (s.axis a).vel (((s.axis a).acc + (s.axis a).vel) % 1000) n p with travelled := (s.axis a).travelled + n } :=
    (Axis.movedTo_of_config (x := { (s.axis a).stepped k with travelled := (s.axis a).travelled + k.count }) hc
      (fun h : (s.axis a).state = .off => by rw [hst] at h; cases h) p).trans (by rw [hk]; rfl)
  rw [hmoved] at hput
  have hn' : k.count = n := by rw [hk]
  unfold State.updateHoming
  simp only [hdir, Option.getD_some, hroom, hleft, h0, or_self, if_false]
  rw [hcount, hn', hadv, ← hn']
  rw [← hn'] at hput
  exact hput

/-- A HOMING axis whose search or range is spent. -/
theorem State.updateHoming_spent {s : State} {a : AxisNo} {c : AxisConfig} {d : Dir} (hdir : (s.axis a).dir = some d)
    (h : (s.axis a).travelled = c.searchDistance ∨ rangeLeft (s.axis a).pos d = 0) : s.updateHoming a c = s.faultAxis a .homeFail := by
  unfold State.updateHoming
  simp only [hdir, Option.getD_some]
  exact if_pos h

/-- The update at which the search or the range of an unbound HOMING axis is spent. -/
theorem exec_axisUpdate_spent {s : State} {a : AxisNo} {c : AxisConfig} {d : Dir} (hc : (s.axis a).config = some c)
    (hst : (s.axis a).state = .homing) (hdir : (s.axis a).dir = some d) (hlim : (s.axis a).limitAhead = false) (hrep : s.reports = [])
    (howner : s.axisOwner a = none) (hempty : s.pool.waiting = [])
    (h : (s.axis a).travelled = c.searchDistance ∨ rangeLeft (s.axis a).pos d = 0) :
    ∃ t, exec (.axisUpdate a) s = .next t ∧
      FaultTaken s t a { ((s.axis a).enterFaulted .homeFail).movedTo (s.axis a).encoder with followRun := 0 } (s.pool.returned a) := by
  refine ⟨_, exec_axisUpdate hlim, ?_⟩
  rw [State.driveUpdate_homing hst hc, State.updateHoming_spent hdir h]
  have hto := s.resyncAs_to a ((s.axis a).enterFaulted .homeFail)
  unfold State.faultAxis
  generalize s.resyncAs a ((s.axis a).enterFaulted .homeFail) = u at *
  have hrun : (u.axis a).nextRun c = 0 := by
    rw [hto.axis.nextRun c]
    rfl
  have hconfig : (u.axis a).config = some c := hto.axis.config.trans hc
  rw [State.judgeFollowing_calm (s := u.report (.axisFault a .homeFail)) hconfig (.inl hrun)]
  show FaultTaken s ((u.setAxis a { u.axis a with followRun := (u.axis a).nextRun c }).report (.axisFault a .homeFail)).settle a _ _
  rw [hrun]
  have hset := u.setAxis_to a { u.axis a with followRun := 0 }
  rw [hto.pool] at hset
  have hfault := ((hto.trans hset).congr (hto.axis.withRun 0)).fault_taken .homeFail (by simp [OnlyCrossings, hrep]) (by simp [hrep]) howner hempty
  rw [State.no_reports hrep] at hfault
  exact hfault

/-- The update of an axis that does not drive, its run below the stall time. -/
theorem exec_axisUpdate_still {s : State} {a : AxisNo} (hst : (s.axis a).state.drives = false) (hrep : s.reports = []) {r : Nat}
    (h : ∀ c ∈ (s.axis a).config, (s.axis a).nextRun c = r ∧ Calm c r) (h0 : (s.axis a).config = none → r = (s.axis a).followRun) :
    ∃ t, exec (.axisUpdate a) s = .next t ∧ t.axis a = { s.axis a with pulses := 0, followRun := r } ∧ s.OtherAxes t a ∧
      t = { s with axes := t.axes } := by
  have hlim : (s.axis a).limitAhead = false := by unfold Axis.limitAhead; rw [hst]; rfl
  have hset := s.setAxis_to a { s.axis a with pulses := 0 }
  have haxis : (s.setAxis a { s.axis a with pulses := 0 }).axis a = { s.axis a with pulses := 0 } := by rw [State.setAxis_axis, if_pos rfl]
  have hform : s.setAxis a { s.axis a with pulses := 0 } = { s with axes := (s.setAxis a { s.axis a with pulses := 0 }).axes } := rfl
  have hexec := exec_axisUpdate hlim
  rw [State.driveUpdate_still hst] at hexec
  generalize s.setAxis a { s.axis a with pulses := 0 } = u at *
  have hconfig : (u.axis a).config = (s.axis a).config := by rw [haxis]
  cases hc : (s.axis a).config with
  | none =>
    have hjudge : u.judgeFollowing a = u := by
      unfold State.judgeFollowing
      simp only [hconfig, hc]
    rw [hjudge, State.settle_nil u (by rw [hform]; exact hrep)] at hexec
    exact ⟨u, hexec, by rw [haxis, h0 hc], hset.others, hform⟩
  | some c =>
    obtain ⟨hr, hcalm⟩ := h c hc
    have hrun : (u.axis a).nextRun c = r := by rw [haxis]; exact hr
    rw [State.judgeFollowing_calm (hconfig.trans hc) (hrun.symm ▸ hcalm), hrun] at hexec
    have hjudged := u.setAxis_to a { u.axis a with followRun := r }
    rw [State.settle_nil _ (by rw [hform]; exact hrep)] at hexec
    refine ⟨_, hexec, ?_, (hset.trans hjudged).others, ?_⟩
    · rw [State.setAxis_axis, if_pos rfl, haxis]
    · rw [hform]
      rfl

/-- Settles O46, by the state of the axis. -/
theorem updateRunsAxis : Obligations.UpdateRunsAxis := by
  refine ⟨fun s a c m v n r p hst hc hm hlim hcross hrep hstep hrun => ?_, fun s a c m b p d v n r hst hc hm hb hdir hlim hcross hrep hv hn hp hrun => ?_,
    fun s a c d room n r p hst hc hdir hlim hcross hrep hroom hn hp hrun => ?_, fun s a c r hst hc hrep hrun => ?_, fun s a hst hrep => ?_⟩
  · obtain ⟨u, hto, -, hupdate⟩ := State.updateMoving_eq hc hst hstep
    rw [← State.driveUpdate_moving hst hm] at hupdate
    have hnext : ((s.axis a).steppedTo c v (((s.axis a).acc + v) % 1000) n p).nextRun c = r :=
      Axis.steppedTo_nextRun (by rw [hst]; rfl) hrun
    refine ⟨fun hne hcalm => ?_, fun hne h1 h2 howner hempty => ?_, fun heq hw hcalm hempty => ?_⟩
    · rw [if_neg hne] at hupdate
      rw [← hupdate] at hto
      obtain ⟨t, hexec, ht⟩ := exec_axisUpdate_calm hlim hto (by decide) hrep hcross hc hnext hcalm
      exact ⟨t, hexec, ht.axis, ht.others, fun k _ => ht.word k, ht.form_axes⟩
    · rw [if_neg hne] at hupdate
      rw [← hupdate] at hto
      obtain ⟨t, hexec, ht⟩ := exec_axisUpdate_stalls hlim hto (by decide) hrep howner hempty
        (show (s.axis a).state.drives = true by rw [hst]; rfl) hc hnext h1 h2
      have hcause : (if (s.axis a).state = .homing then FaultCause.homeFail else .stall) = .stall := if_neg (by rw [hst]; decide)
      refine ⟨t, hexec, by rw [ht.axis]; rfl, ?_, ?_, by rw [ht.axis]; rfl, by rw [ht.axis]; rfl, ?_, ?_, ht.marked, ht.others⟩
      · rw [ht.axis]; exact congrArg some hcause
      · rw [ht.axis]
        show ((s.axis a).homed && (if (s.axis a).state = .homing then FaultCause.homeFail else .stall) != .homeFail) = _
        rw [hcause]
        exact Bool.and_true _
      · rw [ht.pool]; rfl
      · rw [ht.pool, Pool.returned_held]
    · rw [if_pos heq] at hupdate
      have hdone := State.completeMotion_to (some .move) (hto.unwatched hw) (by rw [hto.pool]; exact hempty)
      rw [hto.pool, ← hupdate] at hdone
      have hall := (hto.trans hdone).congr hto.axis.enterIdle
      obtain ⟨t, hexec, ht⟩ := exec_axisUpdate_calm (c := c) (r := r) hlim hall (by omega) hrep hcross hc (Axis.nextRun_judged rfl |>.trans hrun.symm) hcalm
      have hidle := ht.axis
      exact ⟨t, hexec, by rw [hidle]; rfl, by rw [hidle]; exact heq, by rw [hidle]; rfl, by rw [hidle]; rfl, by rw [hidle]; rfl,
        by rw [hidle]; rfl, by rw [hidle], by rw [ht.pool, Pool.returned_free], by rw [ht.pool, Pool.returned_held], ht.others,
        fun k _ => ht.word k, ht.form_silent⟩
  · have hdrive := State.driveUpdate_stopping hst hm
    rw [hb, Option.getD_some] at hdrive
    refine ⟨fun hv0 hnb hcalm => ?_, fun hv0 hnb h1 h2 howner hempty => ?_, fun hrest hcalm => ?_⟩
    · have hto := State.updateStopping_on hc hst hdir hv hn hp hv0 hnb
      rw [← hdrive] at hto
      obtain ⟨t, hexec, ht⟩ := exec_axisUpdate_calm hlim hto (by decide) hrep hcross hc
        (Axis.steppedTo_nextRun (by rw [hst]; rfl) hrun) hcalm
      exact ⟨t, hexec, ht.axis, ht.others, fun k _ => ht.word k, ht.form_axes⟩
    · have hto := State.updateStopping_on hc hst hdir hv hn hp hv0 hnb
      rw [← hdrive] at hto
      obtain ⟨t, hexec, ht⟩ := exec_axisUpdate_stalls hlim hto (by decide) hrep howner hempty
        (show (s.axis a).state.drives = true by rw [hst]; rfl) hc (Axis.steppedTo_nextRun (by rw [hst]; rfl) hrun) h1 h2
      refine ⟨t, hexec, by rw [ht.axis]; rfl, ?_, by rw [ht.axis]; rfl, by rw [ht.pool, Pool.returned_held], ht.others⟩
      rw [ht.axis]
      exact congrArg some (if_neg fun h : (s.axis a).state = .homing => by rw [hst] at h; cases h)
    · obtain ⟨u, hto, hstart, hcomplete⟩ := State.updateStopping_rest hc hst hdir hv hn hp hrest
      refine ⟨fun target i hreq hne => ?_, fun hall hw hempty => ?_⟩
      · have hput := u.putAxis_to a ((u.axis a).enterMoving target i) false
        rw [hto.pool, ← hstart target i hreq hne, ← hdrive] at hput
        have hboth := (hto.trans hput).congr (hto.axis.enterMoving target i)
        obtain ⟨t, hexec, ht⟩ := exec_axisUpdate_calm (c := c) (r := r) hlim hboth (by omega) hrep hcross hc (Axis.nextRun_judged rfl |>.trans hrun.symm) hcalm
        rw [Axis.steppedTo_enterMoving hc hne] at ht
        exact ⟨t, hexec, ht.axis, ht.others, fun k _ => ht.word k, ht.form_axes⟩
      · obtain ⟨kind, -, -, hkind⟩ := hcomplete hall
        have hdone := State.completeMotion_to kind (hto.unwatched hw) (by rw [hto.pool]; exact hempty)
        rw [hto.pool, ← hkind, ← hdrive] at hdone
        have hboth := (hto.trans hdone).congr hto.axis.enterIdle
        obtain ⟨t, hexec, ht⟩ := exec_axisUpdate_calm (c := c) (r := r) hlim hboth (by omega) hrep hcross hc (Axis.nextRun_judged rfl |>.trans hrun.symm) hcalm
        exact ⟨t, hexec, ht.axis, by rw [ht.pool, Pool.returned_free], by rw [ht.pool, Pool.returned_held],
          fun b hb => by rw [ht.pool, Pool.returned_held_ne _ hb], by rw [ht.pool, Pool.returned_waiting, hempty], ht.others,
          fun k _ => ht.word k, ht.form_silent⟩
  · have hdrive := State.driveUpdate_homing hst hc
    have hleft : rangeLeft (s.axis a).pos d = room := (rangeLeft_eq _ _).trans hroom.symm
    have hjudged : (s.axis a).state.judged = true := by rw [hst]; rfl
    refine ⟨fun htrav h0 hcalm => ?_, fun hfail howner hempty => ?_⟩
    · have hto := State.updateHoming_on hc hst hdir hleft hn hp (by omega) h0
      rw [← hdrive] at hto
      obtain ⟨t, hexec, ht⟩ := exec_axisUpdate_calm (c := c) (r := r) hlim hto (by decide) hrep hcross hc
        (Axis.nextRun_judged (by exact hjudged) |>.trans hrun.symm) hcalm
      exact ⟨t, hexec, ht.axis, ht.others, fun k _ => ht.word k, ht.form_axes⟩
    · by_cases hspent : (s.axis a).travelled = c.searchDistance ∨ rangeLeft (s.axis a).pos d = 0
      · obtain ⟨t, hexec, ht⟩ := exec_axisUpdate_spent hc hst hdir hlim hrep howner hempty hspent
        refine ⟨t, hexec, by rw [ht.axis]; rfl, by rw [ht.axis]; rfl, ?_, by rw [ht.axis]; rfl, by rw [ht.axis]; rfl,
          by rw [ht.pool, Pool.returned_held], ht.marked, ht.others⟩
        rw [ht.axis]
        exact Bool.and_false _
      · rw [hleft] at hspent
        push Not at hspent
        obtain ⟨hne, h0⟩ := hspent
        obtain ⟨h1, h2, -⟩ : r ≠ 0 ∧ c.stallTime ≤ r ∧ (s.axis a).travelled < c.searchDistance := by
          obtain h | h | h := hfail
          · exact absurd h hne
          · exact absurd h h0
          · exact h
        have hto := State.updateHoming_on hc hst hdir hleft hn hp hne h0
        rw [← hdrive] at hto
        obtain ⟨t, hexec, ht⟩ := exec_axisUpdate_stalls (c := c) (r := r) hlim hto (by decide) hrep howner hempty
          (show (s.axis a).state.drives = true by rw [hst]; rfl) hc (Axis.nextRun_judged (by exact hjudged) |>.trans hrun.symm) h1 h2
        have hcause : (if (s.axis a).state = .homing then FaultCause.homeFail else .stall) = .homeFail := if_pos hst
        refine ⟨t, hexec, by rw [ht.axis]; rfl, ?_, ?_, by rw [ht.axis]; rfl, by rw [ht.axis]; rfl,
          by rw [ht.pool, Pool.returned_held], ht.marked, ht.others⟩
        · rw [ht.axis]; exact congrArg some hcause
        · rw [ht.axis]
          show ((s.axis a).homed && (if (s.axis a).state = .homing then FaultCause.homeFail else .stall) != .homeFail) = _
          rw [hcause]
          exact Bool.and_false _
  · have hjudged : (s.axis a).state.judged = true := by obtain h | h := hst <;> rw [h] <;> rfl
    have hdrives : (s.axis a).state.drives = false := by obtain h | h := hst <;> rw [h] <;> rfl
    have hnext : (s.axis a).nextRun c = r := (Axis.nextRun_judged hjudged).trans hrun.symm
    refine ⟨fun hcalm => ?_, fun h1 h2 => ?_⟩
    · exact exec_axisUpdate_still hdrives hrep (fun c' hc' => by
        rw [hc] at hc'
        obtain rfl := Option.some.inj hc'
        exact ⟨hnext, hcalm⟩) (fun hnone => by rw [hc] at hnone; cases hnone)
    · have hlim : (s.axis a).limitAhead = false := by unfold Axis.limitAhead; rw [hdrives]; rfl
      rw [exec_axisUpdate hlim, State.driveUpdate_still hdrives]
      have haxis : (s.setAxis a { s.axis a with pulses := 0 }).axis a = { s.axis a with pulses := 0 } := by
        rw [State.setAxis_axis, if_pos rfl]
      have hrun' : ((s.setAxis a { s.axis a with pulses := 0 }).axis a).nextRun c = r := by rw [haxis]; exact hnext
      rw [State.judgeFollowing_late (by rw [haxis]; exact hc) (hrun'.symm ▸ h1) (hrun'.symm ▸ h2), hrun',
        if_neg (by rw [haxis]; simp [hdrives]), haxis]
      have htwice : (s.setAxis a { s.axis a with pulses := 0 }).setAxis a { s.axis a with pulses := 0, followRun := r } =
          s.setAxis a { s.axis a with pulses := 0, followRun := r } := by
        exact congrArg (fun ax => { s with axes := ax }) (tset_tset _ _ _ _)
      rw [htwice]
      refine congrArg Host.Outcome.next (if_pos ?_).symm
      rw [State.setAxis_axis, if_pos rfl]
      obtain h | h := hst <;> simp [h, AxisState.disturbable]
  · have hdrives : (s.axis a).state.drives = false := by obtain h | h | h := hst <;> rw [h] <;> rfl
    have hjudged : (s.axis a).state.judged = false := by obtain h | h | h := hst <;> rw [h] <;> rfl
    refine exec_axisUpdate_still hdrives hrep (fun c hc => ?_) (fun hnone => if_pos hnone)
    rw [if_neg (by rw [show _ = _ from hc]; simp)]
    refine ⟨?_, .inl rfl⟩
    unfold Axis.nextRun
    rw [hjudged]
    rfl

end Sys2Proof.Machine
end

section
/-! The fault of a bound axis meets its exhibit (R9, R68, R69, R93): O48. -/

namespace Sys2Proof.Machine

/-! ### The alert of a fault -/

/-- A raise sets no lamp layer but ALERT layers. -/
theorem State.raise_layer (s : State) (src : SourceNo) (cause : AlertCause) (code severity : Nat) (ch : ChannelNo) {n : LayerName}
    (h : n ≠ .alertLayer) : ((s.raise src cause code severity).channel ch).layer n = (s.channel ch).layer n := by
  unfold State.raise
  split
  · rfl
  · unfold State.mergeRaise
    rw [State.closeAct_layer _ _ _ ch h, State.noteRouting_form]
    rfl
  · unfold State.enterAlert
    rw [State.closeAct_layer _ _ _ ch h, State.noteRouting_form]
    rfl
  · unfold State.enterAlert
    rw [State.closeAct_layer _ _ _ ch h, State.noteRouting_form]
    rfl
  · rfl

/-- With room in the list a raise leaves a RAISED entry, entered or merged (R158, R159). -/
theorem State.raise_present {s : State} (src : SourceNo) (cause : AlertCause) (code severity : Nat) (hrun : s.part = .run)
    (hlen : s.alerts.length < 32) :
    ∃ y ∈ (s.raise src cause code severity).alerts, y.source = src ∧ y.cause = cause ∧ y.severity = severity ∧ y.acked = false := by
  cases hof : s.alertOf? src cause with
  | none =>
    obtain ⟨y, hy, h1, h2, h3, -, h4, -⟩ := State.raise_entered_list (s := s) code severity hrun hof hlen
    exact ⟨y, by rw [hy]; simp, h1, h2, h3, h4⟩
  | some x =>
    have hx := List.find?_some hof
    simp only [Bool.and_eq_true, beq_iff_eq] at hx
    obtain ⟨-, h1, h2, -, h3, h4, -⟩ := s.mergedAlert_spec x code severity
    have hlist : (s.raise src cause code severity).alerts =
        (s.alerts.filter fun z => z.number != x.number) ++ [s.mergedAlert x code severity] := by
      unfold State.raise
      rw [State.raiseCase_merged severity hrun hof]
      exact s.mergeRaise_list x code severity
    exact ⟨s.mergedAlert x code severity, by rw [hlist]; simp, h1.trans hx.1, h2.trans hx.2, h3, h4⟩

/-! ### The exhibit meets the fault -/

/-- A fault that ends a show leaves its show lamps idle. -/
theorem State.faultEnd_idle (s : State) {e : ExhibitNo} {c : ExhibitConfig} {ch : ChannelNo} (f : ShowFault) (a : Nat)
    (hwaits : s.WaitsOnly e) (hc : (s.exhibit e).inForce = some c) (h : c.namesShowLamp ch = true) :
    ((s.faultEnd e f a).channel ch).showLayer.setting = .idle := by
  have hfirst := s.recordFirst_to e f a
  have hidle : (((s.recordFirst e f a).endShow e).channel ch).showLayer.setting = .idle :=
    State.endShow_idle _ (by rw [hfirst.exhibit]; exact hc) h
  have hend := (s.recordFirst e f a).endShow_to e
  unfold State.faultEnd
  generalize (s.recordFirst e f a).endShow e = u at *
  have hbound : u.boundAxes e = s.boundAxes e := State.boundAxes_inForce (by rw [hend.exhibit, hfirst.exhibit])
  have haxis : ∀ b, u.axis b = s.axis b := fun b => (hend.axis b).trans (hfirst.axis b)
  have huwaits : u.WaitsOnly e := fun w hw => by
    rw [hbound, haxis]
    exact hwaits w (by rw [hend.pool, hfirst.pool] at hw; exact hw)
  obtain ⟨hhalt, -⟩ := State.haltAxes_to huwaits
  have hchannel : (u.haltAxes e).channel ch = u.channel ch := by rw [hhalt.form]; rfl
  generalize u.haltAxes e = v at *
  obtain ⟨-, hdform⟩ := v.discardResume_spec e
  unfold State.enterFaultedExhibit
  generalize v.discardResume e = r at *
  have hr : r.channel ch = u.channel ch := by rw [hdform]; exact hchannel
  have hlayer := r.enterState_layer e .faulted ch (n := .showLayer) (by decide)
  have hmark := (r.enterState e .faulted).markCondition_to e (.faulted ((r.enterState e .faulted).faultNote e))
  rw [hmark.channel ch id]
  exact (congrArg Layer.setting (hlayer.trans (congrArg (fun k => Channel.layer k .showLayer) hr))).trans hidle

/-- What an axis fault `cause` of axis `a` leaves of the exhibit whose axis it is, of the other exhibits, and of the other axes, by the state
of the exhibit (R9, R68, R69). -/
structure FaultMet (s t : State) (e : ExhibitNo) (c : ExhibitConfig) (a : AxisNo) (cause : FaultCause) : Prop where
  others : s.OtherExhibits t e
  atRest : (s.exhibit e).state = .ready ∨ (s.exhibit e).state = .resting ∨ (s.exhibit e).state = .halting →
    (t.exhibit e).state = .faulted ∧ (t.exhibit e).encore = false ∧ (t.exhibit e).rest = none ∧
      (t.slot e).firstFault = some ((s.slot e).firstOf cause.showFault 0xFFFF) ∧
      t.source e = { s.source e with faulted := (t.slot e).firstFault.map fun f => { code := some f.code, address := f.address } } ∧
      ∀ b, b ≠ a → b ∈ s.boundAxes e → t.axis b = { s.axis b with resume := none }
  inShow : ∀ ad, (s.exhibit e).state = .running ∨ (s.exhibit e).state = .suspended ∨ (s.exhibit e).state = .guarded →
    (s.slot e).current = some ad →
    (t.exhibit e).state = .faulted ∧ (t.exhibit e).encore = false ∧ (t.slot e).current = none ∧
      (t.slot e).firstFault = some ((s.slot e).firstOf cause.showFault ad) ∧
      t.source e = { s.source e with faulted := (t.slot e).firstFault.map fun f => { code := some f.code, address := f.address } } ∧
      (∀ ch, c.namesShowLamp ch = true → (t.channel ch).showLayer.setting = .idle) ∧
      ∀ b ∈ s.boundAxes e, b ≠ a → (s.axis b).state = .moving ∨ (s.axis b).state = .stopping →
        (t.axis b).state = .stopping ∧ (t.axis b).request = none ∧ (t.axis b).vel = (s.axis b).vel
  locked : (s.exhibit e).state = .locked → t.exhibit e = s.exhibit e ∧ t.source e = s.source e ∧
    (t.slot e).firstFault = some ((s.slot e).firstOf cause.showFault 0xFFFF)
  faulted : (s.exhibit e).state = .faulted → t.exhibit e = s.exhibit e ∧ t.source e = s.source e ∧ t.slot e = s.slot e
  apart : ∀ b, b ≠ a → b ∉ s.boundAxes e → t.axis b = s.axis b

/-- Nothing but axis `a` differs of what the exhibit meets. -/
theorem FaultMet.from {s w t : State} {e : ExhibitNo} {c : ExhibitConfig} {a : AxisNo} {cause : FaultCause} (h : FaultMet w t e c a cause)
    (hx : w.exhibits = s.exhibits) (hsl : w.slots = s.slots) (hsrc : w.sources = s.sources) (ha : s.OtherAxes w a) :
    FaultMet s t e c a cause := by
  have hexhibit : ∀ f, w.exhibit f = s.exhibit f := fun f => congrArg (tget · f) hx
  have hslot : ∀ f, w.slot f = s.slot f := fun f => congrArg (tget · f) hsl
  have hsource : ∀ f, w.source f = s.source f := fun f => congrArg (tget · f) hsrc
  have hbound : w.boundAxes e = s.boundAxes e := State.boundAxes_inForce (by rw [hexhibit])
  obtain ⟨h1, h2, h3, h4, h5, h6⟩ := h
  simp only [State.OtherExhibits, hexhibit, hslot, hsource, hbound] at *
  refine ⟨h1, fun hst => ?_, fun ad hst hcur => ?_, h4, h5, fun b hb hmem => (h6 b hb hmem).trans (ha b hb)⟩
  · obtain ⟨k1, k2, k3, k4, k5, k6⟩ := h2 hst
    exact ⟨k1, k2, k3, k4, k5, fun b hb hmem => (k6 b hb hmem).trans (by rw [ha b hb])⟩
  · obtain ⟨k1, k2, k3, k4, k5, k6, k7⟩ := h3 ad hst hcur
    exact ⟨k1, k2, k3, k4, k5, k6, fun b hmem hb hm => by rw [← ha b hb] at hm ⊢; exact k7 b hmem hb hm⟩

/-- Alerts raised after it change nothing of it. -/
theorem FaultMet.raised {s v t : State} {e : ExhibitNo} {c : ExhibitConfig} {a : AxisNo} {cause : FaultCause} (h : FaultMet s v e c a cause)
    (hact : AlertAct v t) (hlayer : ∀ ch, (t.channel ch).showLayer = (v.channel ch).showLayer) : FaultMet s t e c a cause := by
  obtain ⟨hform, -⟩ := hact
  have hexhibit : ∀ f, t.exhibit f = v.exhibit f := fun f => by rw [hform]; rfl
  have hslot : ∀ f, t.slot f = v.slot f := fun f => by rw [hform]; rfl
  have hsource : ∀ f, t.source f = v.source f := fun f => by rw [hform]; rfl
  have haxis : ∀ b, t.axis b = v.axis b := fun b => by rw [hform]; rfl
  obtain ⟨h1, h2, h3, h4, h5, h6⟩ := h
  refine ⟨fun f hf => ?_, ?_, ?_, ?_, ?_, ?_⟩
  · rw [hexhibit, hslot, hsource]; exact h1 f hf
  all_goals simp only [hexhibit, hslot, hsource, haxis, hlayer]; assumption

/-- What the meeting of an axis fault with an exhibit changes at most: no axis gains or loses units, nothing is reported. -/
structure FaultAct (s t : State) (a : AxisNo) : Prop where
  axis : ∃ r, t.axis a = { s.axis a with resume := r }
  held : ∀ b, tget t.pool.held b = tget s.pool.held b
  waiting : t.pool.waiting = []
  form : t = { s with exhibits := t.exhibits, slots := t.slots, sources := t.sources, channels := t.channels, axes := t.axes, pool := t.pool,
                      ram := t.ram }

theorem FaultAct.of_show {s t : State} {e : ExhibitNo} {x : Exhibit} {sl : Slot} {src : SourceRecord} {L : ChannelNo → Prop} (a : AxisNo)
    (h : ShowTo s t e x sl src L) (hwait : s.pool.waiting = []) : FaultAct s t a where
  axis := ⟨(s.axis a).resume, h.axis a⟩
  held b := by rw [h.pool]
  waiting := by rw [h.pool]; exact hwait
  form := by rw [h.form]

theorem FaultCause.showFault_axis (cause : FaultCause) : cause.showFault.isStepFault = false := by cases cause <;> rfl

/-- A show that an axis fault ends. -/
theorem State.exhibitAxisFault_show {s : State} {e : ExhibitNo} {c : ExhibitConfig} {a : AxisNo} (cause : FaultCause)
    (hst : (s.exhibit e).state = .running ∨ (s.exhibit e).state = .suspended ∨ (s.exhibit e).state = .guarded)
    (hc : (s.exhibit e).config = some c) (hwait : s.pool.waiting = []) (hbusy : (s.axis a).state.busy = false)
    (hrest : ∀ b ∈ s.boundAxes e, b ≠ a → (s.axis b).state ≠ .homing ∧ (s.axis b).state ≠ .awaitPower) :
    FaultMet s (s.exhibitAxisFault e cause) e c a cause ∧ FaultAct s (s.exhibitAxisFault e cause) a := by
  have hact : s.exhibitAxisFault e cause = s.faultEnd e cause.showFault ((s.slot e).current.getD 0xFFFF) := by
    unfold State.exhibitAxisFault
    rw [← State.showFault_axis cause.showFault_axis]
    obtain h | h | h := hst <;> rw [h]
  have hoff : (s.exhibit e).state ≠ .off := by obtain h | h | h := hst <;> rw [h] <;> decide
  have hinforce : (s.exhibit e).inForce = some c := by unfold Exhibit.inForce; rw [if_neg hoff]; exact hc
  have hwaits := State.waitsOnly_nil (e := e) hwait
  have hidle := fun ch => s.faultEnd_idle (e := e) (ch := ch) cause.showFault ((s.slot e).current.getD 0xFFFF) hwaits hinforce
  have hto := State.faultEnd_to hwaits cause.showFault ((s.slot e).current.getD 0xFFFF)
  have hhoming : ∀ b ∈ s.boundAxes e, (s.axis b).state ≠ .homing ∧ (s.axis b).state ≠ .awaitPower := fun b hb => by
    by_cases hba : b = a
    · subst hba
      exact ⟨AxisState.busy_false_ne hbusy rfl, AxisState.busy_false_ne hbusy rfl⟩
    · exact hrest b hb hba
  rw [hact]
  generalize s.faultEnd e cause.showFault ((s.slot e).current.getD 0xFFFF) = t at *
  have hnot : ∀ h : (s.exhibit e).state = .ready ∨ (s.exhibit e).state = .resting ∨ (s.exhibit e).state = .halting ∨
      (s.exhibit e).state = .locked ∨ (s.exhibit e).state = .faulted, False := fun h => by
    obtain k | k | k := hst <;> rw [k] at h <;> simp at h
  obtain ⟨rs, hrs, -, hcross⟩ := hto.reports
  have hsilent : rs = [] := by
    rw [List.eq_nil_iff_forall_not_mem]
    intro r hr
    obtain ⟨b, hb, hcb, -⟩ := hcross r hr
    obtain ⟨h1, h2⟩ := hhoming b hb
    have hcb : (s.axis b).state = .homing ∨ (s.axis b).state = .awaitPower := by simpa [haltDeal, AxisDeal.dropping] using hcb
    exact hcb.elim h1 h2
  rw [hsilent, List.append_nil] at hrs
  refine ⟨⟨hto.others, fun h => absurd (h.imp_right (Or.imp_right .inl)) hnot, fun ad _ hcur => ?_,
    fun h => absurd (.inr (.inr (.inr (.inl h)))) hnot, fun h => absurd (.inr (.inr (.inr (.inr h)))) hnot, fun b _ => hto.axisOthers b⟩, ?_⟩
  · rw [hcur, Option.getD_some] at hto
    refine ⟨by rw [hto.exhibit]; rfl, ?_, by rw [hto.slot]; rfl, by rw [hto.slot]; rfl, by rw [hto.source, hto.slot]; rfl, hidle, fun b hb _ hm => ?_⟩
    · rw [hto.exhibit, Exhibit.entering_plain (st := .faulted) _ rfl]
    · have hb' := hto.touched b hb (by obtain h | h := hm <;> simp [haltDeal, AxisDeal.dropping, h, AxisState.busy])
      rw [hb']
      show ((s.axis b).halted.state = .stopping ∧ (s.axis b).halted.request = none ∧ (s.axis b).halted.vel = (s.axis b).vel)
      unfold Axis.halted
      obtain h | h := hm
      · simp only [h]
        exact ⟨rfl, rfl, rfl⟩
      · simp only [h]
        exact ⟨h, rfl, rfl⟩
  · refine ⟨?_, fun b => ?_, ?_, ?_⟩
    · by_cases ha : a ∈ s.boundAxes e
      · exact ⟨none, hto.untouched a ha hbusy⟩
      · exact ⟨(s.axis a).resume, hto.axisOthers a ha⟩
    · rw [hto.held, if_neg]
      rintro ⟨hb, hr⟩
      exact (hhoming b hb).1 ((haltDeal_returns _).1 hr)
    · rw [hto.waiting, hwait]
      rfl
    · have hform := hto.form
      rw [hrs] at hform
      exact hform

/-- An exhibit with no show that runs. -/
theorem State.exhibitAxisFault_rest {s : State} {e : ExhibitNo} {c : ExhibitConfig} (a : AxisNo) (cause : FaultCause)
    (hst : (s.exhibit e).state = .ready ∨ (s.exhibit e).state = .resting ∨ (s.exhibit e).state = .halting) (hwait : s.pool.waiting = []) :
    FaultMet s (s.exhibitAxisFault e cause) e c a cause ∧ FaultAct s (s.exhibitAxisFault e cause) a := by
  have hact : s.exhibitAxisFault e cause = (s.recordFirst e cause.showFault 0xFFFF).enterFaultedExhibit e := by
    unfold State.exhibitAxisFault
    obtain h | h | h := hst <;> rw [h]
  have hfirst := s.recordFirst_to e cause.showFault 0xFFFF
  obtain ⟨A, hfaulted, honly⟩ := (s.recordFirst e cause.showFault 0xFFFF).enterFaultedExhibit_spec e
  rw [← hact] at hfaulted
  generalize s.exhibitAxisFault e cause = t at *
  have hnote : (s.recordFirst e cause.showFault 0xFFFF).faultNote e =
      { code := some ((s.slot e).firstOf cause.showFault 0xFFFF).code, address := ((s.slot e).firstOf cause.showFault 0xFFFF).address } := by
    unfold State.faultNote
    rw [hfirst.slot]
    rfl
  rw [hfirst.exhibit, hfirst.slot, hfirst.source, hnote] at hfaulted
  have hbound : (s.recordFirst e cause.showFault 0xFFFF).boundAxes e = s.boundAxes e := State.boundAxes_inForce (by rw [hfirst.exhibit])
  rw [hbound] at honly
  generalize s.recordFirst e cause.showFault 0xFFFF = r at *
  have haxis : ∀ b, t.axis b = if b ∈ s.boundAxes e then { s.axis b with resume := none } else s.axis b := fun b => by
    rw [hfaulted.axis b, honly b, hfirst.axis b]
  have hpool : t.pool = s.pool := hfaulted.pool.trans hfirst.pool
  have hnot : ∀ h : (s.exhibit e).state = .running ∨ (s.exhibit e).state = .suspended ∨ (s.exhibit e).state = .guarded ∨
      (s.exhibit e).state = .locked ∨ (s.exhibit e).state = .faulted, False := fun h => by
    obtain k | k | k := hst <;> rw [k] at h <;> simp at h
  refine ⟨⟨fun f hf => ?_, fun _ => ⟨by rw [hfaulted.exhibit]; rfl, ?_, ?_, by rw [hfaulted.slot], by rw [hfaulted.source, hfaulted.slot]; rfl,
    fun b _ hb => (haxis b).trans (if_pos hb)⟩, fun ad h => absurd (h.imp_right (Or.imp_right .inl)) hnot,
    fun h => absurd (.inr (.inr (.inr (.inl h)))) hnot, fun h => absurd (.inr (.inr (.inr (.inr h)))) hnot,
    fun b _ hb => (haxis b).trans (if_neg hb)⟩, ?_, fun b => by rw [hpool], by rw [hpool]; exact hwait, ?_⟩
  · obtain ⟨h1, h2, h3⟩ := hfaulted.others f hf
    rw [h1, h2, h3]
    exact hfirst.others f hf
  · rw [hfaulted.exhibit, Exhibit.entering_plain (st := .faulted) _ rfl]
  · rw [hfaulted.exhibit, Exhibit.entering_plain (st := .faulted) _ rfl]
  · by_cases ha : a ∈ s.boundAxes e
    · exact ⟨none, (haxis a).trans (if_pos ha)⟩
    · exact ⟨(s.axis a).resume, (haxis a).trans (if_neg ha)⟩
  · have hform := hfaulted.form
    rw [hfirst.form] at hform
    rw [hpool]
    have haxes : t.axes = A := hfaulted.axes
    rw [← haxes] at hform
    exact hform

/-- An exhibit that is in no state to be FAULTED. -/
theorem State.exhibitAxisFault_other {s : State} {e : ExhibitNo} {c : ExhibitConfig} (a : AxisNo) (cause : FaultCause)
    (hst : (s.exhibit e).state = .locked ∨ (s.exhibit e).state = .faulted ∨ (s.exhibit e).state = .off) (hwait : s.pool.waiting = []) :
    FaultMet s (s.exhibitAxisFault e cause) e c a cause ∧ FaultAct s (s.exhibitAxisFault e cause) a := by
  have hnot : ∀ h : (s.exhibit e).state = .running ∨ (s.exhibit e).state = .suspended ∨ (s.exhibit e).state = .guarded, False := fun h => by
    obtain k | k | k := hst <;> rw [k] at h <;> simp at h
  have hnot' : ∀ h : (s.exhibit e).state = .ready ∨ (s.exhibit e).state = .resting ∨ (s.exhibit e).state = .halting, False := fun h => by
    obtain k | k | k := hst <;> rw [k] at h <;> simp at h
  by_cases hlocked : (s.exhibit e).state = .locked
  · have hto := s.recordFirst_to e cause.showFault 0xFFFF
    have hact : s.exhibitAxisFault e cause = s.recordFirst e cause.showFault 0xFFFF := by
      unfold State.exhibitAxisFault
      rw [hlocked]
    rw [← hact] at hto
    refine ⟨⟨hto.others, fun h => absurd h hnot', fun _ h => absurd h hnot, fun _ => ⟨hto.exhibit, hto.source, by rw [hto.slot]⟩,
      fun h => absurd (hlocked.symm.trans h) (by decide), fun b _ _ => hto.axis b⟩, .of_show a hto hwait⟩
  · have hact : s.exhibitAxisFault e cause = s := by
      unfold State.exhibitAxisFault
      obtain h | h | h := hst
      · exact absurd h hlocked
      · rw [h]
      · rw [h]
    rw [hact]
    exact ⟨⟨fun _ _ => ⟨rfl, rfl, rfl⟩, fun h => absurd h hnot', fun _ h => absurd h hnot, fun h => absurd h hlocked,
      fun _ => ⟨rfl, rfl, rfl⟩, fun _ _ _ => rfl⟩, ⟨(s.axis a).resume, rfl⟩, fun _ => rfl, hwait, rfl⟩

theorem State.exhibitAxisFault_met {s : State} {e : ExhibitNo} {c : ExhibitConfig} {a : AxisNo} (cause : FaultCause)
    (hc : (s.exhibit e).config = some c) (hwait : s.pool.waiting = []) (hbusy : (s.axis a).state.busy = false)
    (hrest : ∀ b ∈ s.boundAxes e, b ≠ a → (s.axis b).state ≠ .homing ∧ (s.axis b).state ≠ .awaitPower) :
    FaultMet s (s.exhibitAxisFault e cause) e c a cause ∧ FaultAct s (s.exhibitAxisFault e cause) a := by
  cases hst : (s.exhibit e).state with
  | running | suspended | guarded => exact State.exhibitAxisFault_show cause (by simp [hst]) hc hwait hbusy hrest
  | ready | resting | halting => exact State.exhibitAxisFault_rest a cause (by simp [hst]) hwait
  | locked | faulted | off => exact State.exhibitAxisFault_other a cause (by simp [hst]) hwait

end Sys2Proof.Machine
end

section
/-! Axis faults and the switch events (R9, R68, R91, R92, R93, R103, R108, R109): O48. -/

namespace Sys2Proof.Machine

/-! ### The fault of a bound axis, with its alert -/

/-- What the fault of bound axis `a`, reported after crossings that nobody waits for, leaves. -/
structure BoundFault (u t : State) (e : ExhibitNo) (c : ExhibitConfig) (a : AxisNo) (cause : FaultCause) : Prop where
  met : FaultMet u t e c a cause
  axis : ∃ r, t.axis a = { u.axis a with resume := r }
  held : ∀ b, tget t.pool.held b = tget u.pool.held b
  unmarked : t.gallery.axisFault = u.gallery.axisFault
  alert : u.part = .run → u.alerts.length < 32 →
    ∃ y ∈ t.alerts, y.source = exhibitSource e ∧ y.cause = .axisFault ∧ y.severity = 2 ∧ y.acked = false

theorem State.settle_bound_fault {u : State} {a : AxisNo} {e : ExhibitNo} {c : ExhibitConfig} {cause : FaultCause} {rs : List Report}
    (hrs : u.reports = rs ++ [.axisFault a cause]) (hcross : OnlyCrossings a rs) (hlen : rs.length ≤ 4000) (hunc : u.Uncrossed a)
    (howner : u.axisOwner a = some e) (hc : (u.exhibit e).config = some c) (hwait : u.pool.waiting = [])
    (hbusy : (u.axis a).state.busy = false)
    (hrest : ∀ b ∈ u.boundAxes e, b ≠ a → (u.axis b).state ≠ .homing ∧ (u.axis b).state ≠ .awaitPower) :
    BoundFault u u.settle e c a cause := by
  obtain ⟨hmet, hact⟩ := State.exhibitAxisFault_met (s := { u with reports := [] }) cause hc hwait hbusy hrest
  have htake : State.takeAxisFault { u with reports := [] } a cause =
      ((State.exhibitAxisFault { u with reports := [] } e cause).raise (exhibitSource e) .axisFault 0 2).grantScan := by
    unfold State.takeAxisFault State.axisSource
    have ho : State.axisOwner { u with reports := [] } a = some e := howner
    rw [ho]
  generalize State.exhibitAxisFault { u with reports := [] } e cause = x at *
  have hraise := x.raise_act (exhibitSource e) .axisFault 0 2
  have hmarks := x.raise_marks (exhibitSource e) .axisFault 0 2
  have hlayer := fun ch => x.raise_layer (exhibitSource e) .axisFault 0 2 ch (n := .showLayer) (by decide)
  have hpresent := fun h1 h2 => State.raise_present (s := x) (exhibitSource e) .axisFault 0 2 h1 h2
  generalize x.raise (exhibitSource e) .axisFault 0 2 = t at *
  have hpool : t.pool = x.pool := by rw [hraise.1]
  rw [State.grantScan_empty (by rw [hpool]; exact hact.waiting)] at htake
  have hnone : t.reports = [] := by rw [hraise.1, hact.form]
  have htakes := Takes.report_after (n := 0) (t := t) rs hrs hcross hunc (by
    show Takes 0 (State.takeAxisFault { u with reports := [] } a cause) t
    rw [htake]
    exact .none hnone)
  rw [htakes.settle (by omega)]
  exact {
    met := (hmet.raised hraise hlayer).from rfl rfl rfl fun _ _ => rfl
    axis := by
      obtain ⟨r, hr⟩ := hact.axis
      exact ⟨r, (show t.axis a = x.axis a by rw [hraise.1]; rfl).trans hr⟩
    held := fun b => by rw [hpool, hact.held]
    unmarked := hmarks.1.trans (by rw [hact.form])
    alert := fun h1 h2 => hpresent (by rw [hact.form]; exact h1) (by rw [hact.form]; exact h2) }

/-! ### The events that fault a driving axis -/

/-- The event faults driving axis `a` with the cause. -/
abbrev State.FaultEvent (s : State) (a : AxisNo) (ev : Instr) (cause : FaultCause) : Prop :=
  (ev = .stall a ∧ cause = (if (s.axis a).state = .homing then .homeFail else .stall)) ∨
    (ev = .limitAsserted a .low ∧ (s.axis a).limitLow.level = false ∧ (s.axis a).dir = some .towardLow ∧
      cause = (if (s.axis a).state = .homing then .homeFail else .limit)) ∨
    (ev = .limitAsserted a .high ∧ (s.axis a).limitHigh.level = false ∧ (s.axis a).dir = some .towardHigh ∧
      cause = (if (s.axis a).state = .homing then .homeFail else .limit)) ∨
    (ev = .homeSearchExhausted a ∧ (s.axis a).state = .homing ∧ cause = .homeFail) ∨
    (ev = .homeSwitchOpening a ∧ (s.axis a).state = .homing ∧ (s.axis a).phase = some .creep ∧ (s.axis a).homeSwitch.level = true ∧
      cause = .homeFail)

theorem exec_limitAsserted_ahead {s : State} {a : AxisNo} {which : LimitEnd} (hdrives : (s.axis a).state.drives = true)
    (hlevel : ((s.axis a).limit which).level = false) (hdir : (s.axis a).dir = some (limitDir which)) :
    exec (.limitAsserted a which) s = .next ((s.setAxis a ((s.axis a).withLimit which (.recognised true))).faultAxis a
      (if (s.axis a).state = .homing then .homeFail else .limit)).settle := by
  have hact : s.limitAsserted a which = (s.setAxis a ((s.axis a).withLimit which (.recognised true))).limitFault a := by
    unfold State.limitAsserted
    simp only [hlevel, Bool.false_eq_true, if_false, hdrives, hdir, Bool.true_and]
    exact if_pos (by rw [beq_self_eq_true])
  have hstate : ((s.setAxis a ((s.axis a).withLimit which (.recognised true))).axis a).state = (s.axis a).state := by
    rw [State.setAxis_axis, if_pos rfl]
    cases which <;> rfl
  unfold State.limitFault at hact
  rw [hstate] at hact
  rw [← hact]
  rfl

/-- Every such event is a fault of the axis after a change of its switches at most. -/
theorem State.FaultEvent.spec {s : State} {a : AxisNo} {ev : Instr} {cause : FaultCause} (h : s.FaultEvent a ev cause)
    (hdrives : (s.axis a).state.drives = true) :
    ∃ x : Axis, exec ev s = .next ((s.setAxis a x).faultAxis a cause).settle ∧ x.encoder = (s.axis a).encoder ∧ x.homed = (s.axis a).homed := by
  obtain ⟨rfl, rfl⟩ | ⟨rfl, hlevel, hdir, rfl⟩ | ⟨rfl, hlevel, hdir, rfl⟩ | ⟨rfl, hst, rfl⟩ | ⟨rfl, hst, hph, hlevel, rfl⟩ := h
  · refine ⟨s.axis a, ?_, rfl, rfl⟩
    rw [State.setAxis_self]
    exact congrArg Host.Outcome.next (if_pos hdrives)
  · exact ⟨_, exec_limitAsserted_ahead hdrives hlevel hdir, rfl, rfl⟩
  · exact ⟨_, exec_limitAsserted_ahead hdrives hlevel hdir, rfl, rfl⟩
  · refine ⟨s.axis a, ?_, rfl, rfl⟩
    rw [State.setAxis_self]
    exact congrArg Host.Outcome.next (if_pos hst)
  · have hact : s.homeOpening a = (s.setAxis a { s.axis a with homeSwitch := .recognised false }).faultAxis a .homeFail := by
      unfold State.homeOpening
      simp only [hlevel, if_true, hst, hph, and_self]
    refine ⟨{ s.axis a with homeSwitch := .recognised false }, ?_, rfl, rfl⟩
    rw [← hact]
    rfl

/-- The fault of an unbound axis, after a change of its switches. -/
theorem FaultTaken.after {s u t : State} {a : AxisNo} {x y : Axis} {p : Pool} (h : AxisTo s u a x s.pool 0) (k : FaultTaken u t a y p) :
    FaultTaken s t a y p := by
  have hg : u.gallery = s.gallery := by rw [h.form]
  exact {
    axis := k.axis
    others := fun b hb => (k.others b hb).trans (h.others b hb)
    pool := k.pool
    marked := k.marked.trans (by rw [hg])
    disturbed := k.disturbed.trans (by rw [hg])
    word := fun n hn hout => (k.word n hn hout).trans (h.word n hout)
    form := by rw [k.form, h.form_axes] }

/-! ### Switch events that change a level only -/

theorem exec_limitAsserted_only {s : State} {a : AxisNo} {which : LimitEnd} (hrep : s.reports = [])
    (hlevel : ((s.axis a).limit which).level = false) (h : (s.axis a).state.drives = false ∨ (s.axis a).dir ≠ some (limitDir which)) :
    exec (.limitAsserted a which) s = .next (s.setAxis a ((s.axis a).withLimit which (.recognised true))) := by
  have hact : s.limitAsserted a which = s.setAxis a ((s.axis a).withLimit which (.recognised true)) := by
    unfold State.limitAsserted
    simp only [hlevel, Bool.false_eq_true, if_false]
    refine if_neg ?_
    rw [Bool.and_eq_true, beq_iff_eq]
    rintro ⟨h1, h2⟩
    exact h.elim (fun h => by rw [h1] at h; cases h) fun h => h h2
  show Host.Outcome.next (s.limitAsserted a which).settle = _
  rw [hact, State.settle_nil _ (by exact hrep)]

/-- The axis after an event that changes it alone. -/
theorem State.setAxis_spec (s : State) (a : AxisNo) (x : Axis) :
    (s.setAxis a x).axis a = x ∧ s.OtherAxes (s.setAxis a x) a ∧ s.setAxis a x = { s with axes := (s.setAxis a x).axes } :=
  ⟨by rw [State.setAxis_axis, if_pos rfl], (s.setAxis_to a x).others, rfl⟩

end Sys2Proof.Machine
end

section
/-! Axis faults and the switch events (R9, R68, R91, R92, R93, R103, R108, R109): O48. -/

namespace Sys2Proof.Machine

/-- The events that fault a bound axis. -/
abbrev State.BoundFaultEvent (s : State) (a : AxisNo) (ev : Instr) (cause : FaultCause) : Prop :=
  (ev = .stall a ∧ (s.axis a).state.drives = true ∧ cause = (if (s.axis a).state = .homing then .homeFail else .stall)) ∨
    (ev = .limitAsserted a .high ∧ (s.axis a).limitHigh.level = false ∧ (s.axis a).dir = some .towardHigh ∧ (s.axis a).state.drives = true ∧
      cause = (if (s.axis a).state = .homing then .homeFail else .limit)) ∨
    (ev = .homeSearchExhausted a ∧ (s.axis a).state = .homing ∧ cause = .homeFail) ∨
    (ev = .disturbance a ∧ (s.axis a).state = .idle ∧ (s.axis a).inWindow (s.axis a).encoder = false ∧ cause = .travel)

theorem State.BoundFaultEvent.cases {s : State} {a : AxisNo} {ev : Instr} {cause : FaultCause} (h : s.BoundFaultEvent a ev cause) :
    ((s.axis a).state.drives = true ∧ s.FaultEvent a ev cause ∧ ev ≠ .disturbance a) ∨
      (ev = .disturbance a ∧ (s.axis a).state = .idle ∧ (s.axis a).inWindow (s.axis a).encoder = false ∧ cause = .travel) := by
  obtain ⟨rfl, hd, hcause⟩ | ⟨rfl, hl, hdir, hd, hcause⟩ | ⟨rfl, hst, hcause⟩ | h := h
  · exact .inl ⟨hd, .inl ⟨rfl, hcause⟩, by simp⟩
  · exact .inl ⟨hd, .inr (.inr (.inl ⟨rfl, hl, hdir, hcause⟩)), by simp⟩
  · exact .inl ⟨by rw [hst]; rfl, .inr (.inr (.inr (.inl ⟨rfl, hst, hcause⟩))), by simp⟩
  · exact .inr h

/-- The state in which a bound axis has reported its fault: the axis is FAULTED, and but for it, the pool, the alerts and the gallery record
nothing has changed. -/
structure FaultReported (s u : State) (a : AxisNo) (cause : FaultCause) : Prop where
  reports : ∃ rs, u.reports = rs ++ [.axisFault a cause] ∧ rs.length ≤ 4 ∧ OnlyCrossings a rs
  state : (u.axis a).state = .faulted
  cause : (u.axis a).cause = some cause
  pos : (u.axis a).pos = (s.axis a).encoder
  others : s.OtherAxes u a
  exhibits : u.exhibits = s.exhibits
  slots : u.slots = s.slots
  sources : u.sources = s.sources
  part : u.part = s.part
  waiting : u.pool.waiting = []
  unmarked : u.gallery.axisFault = s.gallery.axisFault
  length : s.part = .run → s.alerts.length < 31 → u.alerts.length < 32

/-- A fault of a driving axis, reported. -/
theorem State.faultAxis_reported {s : State} {a : AxisNo} {x : Axis} (cause : FaultCause) (hrep : s.reports = []) (hwait : s.pool.waiting = [])
    (henc : x.encoder = (s.axis a).encoder) :
    FaultReported s ((s.setAxis a x).faultAxis a cause) a cause ∧ tget ((s.setAxis a x).faultAxis a cause).pool.held a = 0 := by
  have hset := s.setAxis_to a x
  obtain ⟨haxis, -, -⟩ := s.setAxis_spec a x
  unfold State.faultAxis
  generalize s.setAxis a x = v at *
  have hsync := v.resyncAs_to a ((v.axis a).enterFaulted cause)
  rw [hset.pool] at hsync
  have hall := hset.trans hsync
  generalize v.resyncAs a ((v.axis a).enterFaulted cause) = u at *
  obtain ⟨rs, hrs, hlen, hcross⟩ := hall.reports
  rw [hrep, List.nil_append] at hrs
  have hax : ∀ b, (u.report (.axisFault a cause)).axis b = u.axis b := fun _ => rfl
  refine ⟨⟨⟨rs, congrArg (· ++ _) hrs, by omega, hcross⟩, by rw [hax, hall.axis]; rfl, by rw [hax, hall.axis]; rfl, ?_, hall.others, hall.exhibits,
    hall.slots, by rw [hall.form]; rfl, by rw [hall.form]; rfl, ?_, by rw [hall.form]; rfl, fun _ hlen => ?_⟩, ?_⟩
  · rw [hax, hall.axis]
    show (v.axis a).encoder = _
    rw [haxis, henc]
  · show u.pool.waiting = []
    rw [hall.pool]
    exact hwait
  · show u.alerts.length < 32
    rw [hall.form]
    exact Nat.lt_succ_of_lt hlen
  · show tget u.pool.held a = 0
    rw [hall.pool, Pool.returned_held]

/-- A disturbance that finds the axis outside its window, reported. -/
theorem State.disturb_reported {s : State} {a : AxisNo} (hrep : s.reports = []) (hwait : s.pool.waiting = [])
    (hout : (s.axis a).inWindow (s.axis a).encoder = false) : FaultReported s (s.disturb a) a .travel := by
  have hspec := s.noteDisturbance_spec a
  rw [State.disturb_outside hout]
  generalize s.noteDisturbance a = v at *
  obtain ⟨rs, hrs, hlen, hcross⟩ := hspec.reports
  rw [hrep, List.nil_append] at hrs
  have hpool : v.pool = s.pool := by rw [hspec.form]
  have hleave : v.leaveList a = v := by
    unfold State.leaveList
    rw [Pool.left_nil a (by rw [hpool]; exact hwait)]
    rfl
  rw [hleave]
  have hput := v.putAxis_to a ((v.axis a).enterFaulted .travel) false
  generalize v.putAxis a ((v.axis a).enterFaulted .travel) false = u at *
  have hreports : u.reports = rs := by rw [hput.form_axes]; exact hrs
  have hax : ∀ b, (u.report (.axisFault a .travel)).axis b = u.axis b := fun _ => rfl
  refine ⟨⟨rs, congrArg (· ++ _) hreports, hlen, hcross⟩, by rw [hax, hput.axis]; rfl, by rw [hax, hput.axis]; rfl, ?_,
    fun b hb => (hput.others b hb).trans (hspec.others b hb), ?_, ?_, ?_, ?_, ?_, ?_, fun hrun hlt => ?_⟩
  · rw [hax, hput.axis]
    show (v.axis a).pos = _
    rw [hspec.axis]
    rfl
  · show u.exhibits = _
    rw [hput.form, hspec.form]
  · show u.slots = _
    rw [hput.form, hspec.form]
  · show u.sources = _
    rw [hput.form, hspec.form]
  · show u.part = _
    rw [hput.form, hspec.form]
  · show u.pool.waiting = []
    rw [hput.pool, hpool]
    exact hwait
  · show u.gallery.axisFault = _
    rw [hput.form]
    exact hspec.faults
  · show u.alerts.length < 32
    have := hspec.length hrun (by omega)
    rw [show u.alerts = v.alerts by rw [hput.form]]
    omega

/-- The fault of a bound axis is taken. -/
theorem FaultReported.settle {s u : State} {a : AxisNo} {e : ExhibitNo} {c : ExhibitConfig} {cause : FaultCause}
    (h : FaultReported s u a cause) (howner : s.axisOwner a = some e) (hc : (s.exhibit e).config = some c)
    (hcross : ∀ m up, (s.slot e).awaitsCrossing a m up = false)
    (hrest : ∀ b ∈ s.boundAxes e, b ≠ a → (s.axis b).state ≠ .homing ∧ (s.axis b).state ≠ .awaitPower) :
    BoundFault u u.settle e c a cause ∧ FaultMet s u.settle e c a cause := by
  obtain ⟨rs, hrs, hlen, hcr⟩ := h.reports
  have hx : u.exhibit e = s.exhibit e := congrArg (tget · e) h.exhibits
  have hbound : u.boundAxes e = s.boundAxes e := State.boundAxes_inForce (by rw [hx])
  have hunc : s.Uncrossed a := fun f hf => by
    rw [howner] at hf
    obtain rfl := Option.mem_some_iff.1 hf
    exact hcross
  have htaken := State.settle_bound_fault (c := c) (e := e) hrs hcr (by omega) (hunc.congr h.exhibits h.slots)
    ((State.axisOwner_congr h.exhibits a).trans howner) (by rw [hx]; exact hc) h.waiting (by rw [h.state]; rfl)
    (fun b hb hba => by rw [h.others b hba]; exact hrest b (hbound ▸ hb) hba)
  exact ⟨htaken, htaken.met.from h.exhibits h.slots h.sources h.others⟩

/-- Settles O48. -/
theorem axisFaultsAndSwitches : Obligations.AxisFaultsAndSwitches := by
  refine ⟨fun s a ev cause hdrives howner hrep hwait hev => ?_, fun s a e c ev cause howner hc hrep hwait hcross hrest hev => ?_,
    fun s a hrep => ⟨fun h1 h2 => ?_, fun h1 h2 => ?_, fun h => ?_, fun h => ?_, fun h1 h2 => ?_⟩,
    fun s a => ⟨fun hrep h => ?_, fun h => congrArg Host.Outcome.next (if_neg h), fun h => congrArg Host.Outcome.next (if_neg (by rw [h]; decide))⟩⟩
  · obtain ⟨x, hexec, henc, hhomed⟩ := State.FaultEvent.spec hev hdrives
    have hset := s.setAxis_to a x
    obtain ⟨haxis, -, -⟩ := s.setAxis_spec a x
    generalize s.setAxis a x = v at *
    have htaken := State.faultAxis_taken (s := v) (a := a) cause (by rw [hset.form_axes]; exact hrep) (hset.owner.trans howner)
      (by rw [hset.pool]; exact hwait)
    rw [haxis, hset.pool, henc] at htaken
    have ht := htaken.after hset
    refine ⟨_, hexec, ?_, ?_, ?_, ?_, ?_, ?_, ?_, ?_, ?_, ?_, ?_, ?_, fun b hb => ?_, ht.marked, ht.others, fun k _ => ht.word k, ht.form⟩
    · rw [ht.axis]; rfl
    · rw [ht.axis]; rfl
    · rw [ht.axis, ← hhomed]; rfl
    · rw [ht.axis]; rfl
    · rw [ht.axis]; exact henc
    · rw [ht.axis]; rfl
    · rw [ht.axis]; rfl
    · rw [ht.axis]; rfl
    · rw [ht.axis]; rfl
    · rw [ht.axis]; rfl
    · rw [ht.pool, Pool.returned_free]
    · rw [ht.pool, Pool.returned_held]
    · rw [ht.pool, Pool.returned_held_ne _ hb]
  · obtain ⟨u, hexec, hu, hheld⟩ : ∃ u, exec ev s = .next u.settle ∧ FaultReported s u a cause ∧
        (ev ≠ .disturbance a → tget u.pool.held a = 0) := by
      obtain ⟨hdrives, hfault, -⟩ | ⟨rfl, hst, hout, rfl⟩ := State.BoundFaultEvent.cases hev
      · obtain ⟨x, hexec, henc, -⟩ := hfault.spec hdrives
        obtain ⟨hrepd, hheld⟩ := State.faultAxis_reported (x := x) cause hrep hwait henc
        exact ⟨_, hexec, hrepd, fun _ => hheld⟩
      · exact ⟨s.disturb a, congrArg Host.Outcome.next (if_pos (by rw [hst]; rfl)), State.disturb_reported hrep hwait hout,
          fun h => absurd rfl h⟩
    obtain ⟨htaken, hmet⟩ := hu.settle howner hc hcross hrest
    obtain ⟨r, hr⟩ := htaken.axis
    refine ⟨_, hexec, ?_, ?_, ?_, fun h => (htaken.held a).trans (hheld h), htaken.unmarked.trans hu.unmarked, hmet.others,
      fun hrun hlen => htaken.alert (hu.part.trans hrun) (hu.length hrun hlen), hmet.atRest, hmet.inShow, hmet.locked, hmet.faulted, hmet.apart⟩
    · rw [hr]; exact hu.state
    · rw [hr]; exact hu.cause
    · rw [hr]; exact hu.pos
  · exact ⟨_, exec_limitAsserted_only (which := .high) hrep h1 h2, s.setAxis_spec a _⟩
  · exact ⟨_, exec_limitAsserted_only (which := .low) hrep h1 h2, s.setAxis_spec a _⟩
  · exact ⟨_, congrArg Host.Outcome.next (if_pos h), s.setAxis_spec a _⟩
  · exact ⟨_, congrArg Host.Outcome.next (if_pos h), s.setAxis_spec a _⟩
  · have hact : s.homeOpening a = s.setAxis a { s.axis a with homeSwitch := .recognised false } := by
      unfold State.homeOpening
      simp only [h1, if_true]
      exact if_neg fun h => h2.elim (fun hn => hn h.1) fun hn => hn h.2
    refine ⟨_, ?_, s.setAxis_spec a _⟩
    show Host.Outcome.next (s.homeOpening a).settle = _
    rw [hact, State.settle_nil _ (by exact hrep)]
    rfl
  · have hact : s.indexEvent a = s := by
      unfold State.indexEvent
      simp only
      split
      · next h1 h2 _ => exact (h.elim (fun hn => hn h1) fun hn => hn h2).elim
      · rfl
    show Host.Outcome.next (s.indexEvent a).settle = _
    rw [hact, State.settle_nil s hrep]

end Sys2Proof.Machine
end

section
/-! Axis reports that complete waits and halts (R10, R55 to R58, R66, R114). -/

namespace Sys2Proof.Machine

/-! ### An act on one axis and then on its exhibit -/

/-- Axis `a` is as `y` says, the pool is `p`, and the exhibit, its slot, its source record and its lamps are as an act on it leaves them. -/
structure AxisShowTo (s t : State) (a : AxisNo) (y : Axis) (p : Pool) (e : ExhibitNo) (x : Exhibit) (sl : Slot) (src : SourceRecord)
    (L : ChannelNo → Prop) : Prop where
  axis : (t.axis a).Matches y
  others : s.OtherAxes t a
  pool : t.pool = p
  exhibit : t.exhibit e = x
  slot : t.slot e = sl
  source : t.source e = src
  otherExhibits : s.OtherExhibits t e
  channel : ∀ ch, ¬ L ch → t.channel ch = s.channel ch
  word : ∀ k, OutsideExhibit e k → OutsideAxis a k → t.word k = s.word k
  form : t = { s with exhibits := t.exhibits, slots := t.slots, sources := t.sources, channels := t.channels, axes := t.axes,
                      pool := t.pool, ram := t.ram }

/-- The reports have been taken, the exhibit has acted. -/
theorem AxisTo.then_show {s u t : State} {a : AxisNo} {y : Axis} {p : Pool} {n : Nat} {e : ExhibitNo} {x : Exhibit} {sl : Slot}
    {src : SourceRecord} {L : ChannelNo → Prop} (h : AxisTo s u a y p n) (hrep : s.reports = [])
    (k : ShowTo { u with reports := [] } t e x sl src L) : AxisShowTo s t a y p e x sl src L := by
  have hx : ∀ f, u.exhibit f = s.exhibit f := fun f => by rw [h.form]; rfl
  have hs : ∀ f, u.slot f = s.slot f := fun f => by rw [h.form]; rfl
  have hr : ∀ f, u.source f = s.source f := fun f => by rw [h.form]; rfl
  have hc : ∀ f, u.channel f = s.channel f := fun f => by rw [h.form]; rfl
  have haxis : ∀ b, t.axis b = u.axis b := k.axis
  refine ⟨haxis a ▸ h.axis, fun b hb => (haxis b).trans (h.others b hb), k.pool.trans h.pool, k.exhibit, k.slot, k.source, fun f hf => ?_,
    fun ch hch => (k.channel ch hch).trans (hc ch), fun n hn hout => (k.word n hn).trans (h.word n hout), ?_⟩
  · rw [← hx, ← hs, ← hr]
    exact k.others f hf
  · have hform := k.form
    rw [h.form, ← hrep] at hform
    have hpool : t.pool = u.pool := k.pool
    have haxes : t.axes = u.axes := k.axes
    rw [hpool, haxes]
    exact hform

/-- The same with the reports aside. -/
theorem ShowTo.cleared {s t : State} {e : ExhibitNo} {x : Exhibit} {sl : Slot} {src : SourceRecord} {L : ChannelNo → Prop}
    (h : ShowTo s t e x sl src L) : ShowTo { s with reports := [] } { t with reports := [] } e x sl src L :=
  ⟨h.exhibit, h.slot, h.source, h.others, h.channel, h.word, by rw [h.form]⟩

namespace AxisShowTo

section
variable {s t : State} {a : AxisNo} {y : Axis} {p : Pool} {e : ExhibitNo} {x : Exhibit} {sl : Slot} {src : SourceRecord} {L : ChannelNo → Prop}

theorem exhibits_eq (h : AxisShowTo s t a y p e (s.exhibit e) sl src L) : t.exhibits = s.exhibits := tget_ext fun f => by
  by_cases hf : f = e
  · subst hf; exact h.exhibit
  · exact (h.otherExhibits f hf).1

theorem slots_eq (h : AxisShowTo s t a y p e x (s.slot e) src L) : t.slots = s.slots := tget_ext fun f => by
  by_cases hf : f = e
  · subst hf; exact h.slot
  · exact (h.otherExhibits f hf).2.1

theorem sources_eq (h : AxisShowTo s t a y p e x sl (s.source e) L) : t.sources = s.sources := tget_ext fun f => by
  by_cases hf : f = e
  · subst hf; exact h.source
  · exact (h.otherExhibits f hf).2.2

theorem channels_eq (h : AxisShowTo s t a y p e x sl src noLamps) : t.channels = s.channels := tget_ext fun ch => h.channel ch id

/-- Only the slot, the axis and the pool, with their images. -/
theorem form_slots (h : AxisShowTo s t a y p e (s.exhibit e) sl (s.source e) noLamps) :
    t = { s with slots := t.slots, axes := t.axes, pool := t.pool, ram := t.ram } := by
  have hform := h.form
  rw [h.exhibits_eq, h.sources_eq, h.channels_eq] at hform
  exact hform

theorem form_halt (h : AxisShowTo s t a y p e x (s.slot e) src L) :
    t = { s with exhibits := t.exhibits, sources := t.sources, channels := t.channels, axes := t.axes, pool := t.pool, ram := t.ram } := by
  have hform := h.form
  rw [h.slots_eq] at hform
  exact hform

end

end AxisShowTo

/-! ### The report that a slot waits for -/

/-- The slot waits for a motion of the axis or for its rest. -/
abbrev State.AwaitsAxis (s : State) (e : ExhibitNo) (a : AxisNo) (w : Wait) : Prop :=
  (s.slot e).wait = some w ∧ (s.slot e).status = some .waiting ∧ (s.slot e).frozen = false ∧ ((∃ k, w = .motion a k) ∨ w = .axisRest a)

theorem State.AwaitsAxis.uncrossed {s : State} {e : ExhibitNo} {a : AxisNo} {w : Wait} (h : s.AwaitsAxis e a w) (ho : s.axisOwner a = some e) :
    s.Uncrossed a := fun f hf m up => by
  rw [ho] at hf
  obtain rfl := Option.mem_some_iff.1 hf
  obtain ⟨hw, -, -, hkind⟩ := h
  unfold Slot.awaitsCrossing
  rw [hw]
  obtain ⟨k, rfl⟩ | rfl := hkind <;> simp

theorem State.AwaitsAxis.awaits {s : State} {e : ExhibitNo} {a : AxisNo} {w : Wait} (h : s.AwaitsAxis e a w) (v : Wait) :
    s.slotAwaits e v = decide (w = v) := by
  obtain ⟨hw, hst, hfr, -⟩ := h
  unfold State.slotAwaits
  rw [hw, hst, hfr]
  by_cases hv : w = v
  · subst hv; simp
  · simp [hv]

/-- The report that completes the wait. -/
def Wait.report (a : AxisNo) : Wait → Report
  | .motion _ k => .motionDone a k
  | _ => .atRest a

theorem State.AwaitsAxis.deliver {s : State} {e : ExhibitNo} {a : AxisNo} {w : Wait} (h : s.AwaitsAxis e a w) (ho : s.axisOwner a = some e) :
    s.deliver (w.report a) = s.completeWait e := by
  have hawaits := h.awaits w
  rw [decide_eq_true rfl] at hawaits
  obtain ⟨-, -, -, ⟨k, rfl⟩ | rfl⟩ := h
  · unfold State.deliver Wait.report
    simp only [ho, hawaits, if_true]
  · unfold State.deliver Wait.report
    simp only [ho, hawaits, if_true]

/-- The end of a motion is reported to the slot that waits for it, or for the rest. -/
theorem State.AwaitsAxis.reported {s : State} {e : ExhibitNo} {a : AxisNo} {w : Wait} (h : s.AwaitsAxis e a w) (ho : s.axisOwner a = some e)
    (hhalt : (s.exhibit e).state ≠ .halting) {k : MotionKind} (hw : w = .motion a k ∨ w = .axisRest a) :
    (s.reportDone a k).reportRest a = s.report (w.report a) := by
  have hdone : s.slotAwaits e (.motion a k) = decide (w = .motion a k) := h.awaits _
  have hrest : s.slotAwaits e (.axisRest a) = decide (w = .axisRest a) := h.awaits _
  obtain rfl | rfl := hw
  · have h1 : s.reportDone a k = s.report (.motionDone a k) := by
      unfold State.reportDone
      simp only [ho, hdone, decide_true, if_true]
    rw [h1]
    show State.reportRest (s.report (.motionDone a k)) a = _
    have ho' : (s.report (.motionDone a k)).axisOwner a = some e := ho
    have hrest' : (s.report (.motionDone a k)).slotAwaits e (.axisRest a) = false := hrest.trans (by simp)
    unfold State.reportRest
    simp only [ho', hrest', Bool.false_or]
    exact if_neg (by rw [beq_iff_eq]; exact hhalt)
  · have h1 : s.reportDone a k = s := by
      unfold State.reportDone
      simp only [ho, hdone]
      simp
    rw [h1]
    unfold State.reportRest
    simp only [ho, hrest, decide_true, Bool.true_or, if_true]
    rfl

/-- The rest alone is reported to the slot that waits for it. -/
theorem State.AwaitsAxis.reported_rest {s : State} {e : ExhibitNo} {a : AxisNo} (h : s.AwaitsAxis e a (.axisRest a)) (ho : s.axisOwner a = some e) :
    s.reportRest a = s.report (.atRest a) := by
  have hrest : s.slotAwaits e (.axisRest a) = decide (Wait.axisRest a = .axisRest a) := h.awaits _
  unfold State.reportRest
  simp only [ho, hrest, decide_true, Bool.true_or, if_true]

theorem State.AwaitsAxis.congr {s t : State} {e : ExhibitNo} {a : AxisNo} {w : Wait} (h : s.AwaitsAxis e a w) (hs : t.slots = s.slots) :
    t.AwaitsAxis e a w := by
  unfold State.AwaitsAxis State.slot
  rw [hs]
  exact h

/-- The report taken, the show goes on at a WAIT_TIME. -/
theorem AxisTo.completes {s u : State} {a : AxisNo} {y : Axis} {p : Pool} {n : Nat} {e : ExhibitNo} {w : Wait} {ad d : Nat}
    (h : AxisTo s u a y p n) (hn : n ≤ 4000) (hrep : s.reports = []) (ho : s.axisOwner a = some e) (hw : s.AwaitsAxis e a w)
    (hcur : (s.slot e).current = some ad) (htime : s.TimeStepAt (ad + w.stepLength) d) :
    AxisShowTo s (u.report (w.report a)).settle a y p e (s.exhibit e) ((s.slot e).waitingAt (ad + w.stepLength) d) (s.source e) noLamps := by
  obtain ⟨rs, hrs, hlen, hcross⟩ := h.reports
  rw [hrep, List.nil_append] at hrs
  have huo : u.axisOwner a = some e := h.owner.trans ho
  have huw : u.AwaitsAxis e a w := hw.congr h.slots
  have hslot : u.slot e = s.slot e := congrArg (tget · e) h.slots
  have hstore : ∀ k, u.storeWord k = s.storeWord k := fun k => h.word _ (.inr (by simp only [addrAxisImage, addrStore]; omega))
  have hdeliver : State.deliver { u with reports := [] } (w.report a) = State.completeWait { u with reports := [] } e :=
    State.AwaitsAxis.deliver (s := { u with reports := [] }) huw huo
  have hto := State.completeWait_time_to (s := { u with reports := [] }) (e := e) (w := w) (a := ad) (d := d)
    (hslot ▸ hw.1) (by show (u.slot e).current = _; rw [hslot]; exact hcur) (htime.of_store hstore)
  have htakes := Takes.report_after (u := u.report (w.report a)) (n := 0) (t := State.completeWait { u with reports := [] } e) rs
    (congrArg (· ++ _) hrs) hcross (State.Uncrossed.congr (s := u) rfl rfl (huw.uncrossed huo)) (by
      show Takes 0 (State.deliver { u with reports := [] } (w.report a)) _
      rw [hdeliver]
      exact .none hto.reports)
  rw [htakes.settle (by omega)]
  have hexhibit : u.exhibit e = s.exhibit e := congrArg (tget · e) h.exhibits
  have hsource : u.source e = s.source e := by rw [h.form]; rfl
  have hto' : ShowTo { u with reports := [] } (State.completeWait { u with reports := [] } e) e (u.exhibit e)
    ((u.slot e).waitingAt (ad + w.stepLength) d) (u.source e) noLamps := hto
  rw [hexhibit, hslot, hsource] at hto'
  exact h.then_show hrep hto'

/-! ### The end of a halt (R10) -/

/-- The exhibit is HALTING, and its slot waits for nothing. -/
abbrev State.HaltsAlone (s : State) (e : ExhibitNo) : Prop := (s.exhibit e).state = .halting ∧ (s.slot e).wait = none

theorem State.HaltsAlone.slotAwaits {s : State} {e : ExhibitNo} (h : s.HaltsAlone e) (w : Wait) : s.slotAwaits e w = false := by
  unfold State.slotAwaits
  rw [h.2]
  simp

theorem State.HaltsAlone.uncrossed {s : State} {e : ExhibitNo} {a : AxisNo} (h : s.HaltsAlone e) (ho : s.axisOwner a = some e) :
    s.Uncrossed a := fun f hf m up => by
  rw [ho] at hf
  obtain rfl := Option.mem_some_iff.1 hf
  unfold Slot.awaitsCrossing
  rw [h.2]
  simp

theorem State.HaltsAlone.reported_rest {s : State} {e : ExhibitNo} {a : AxisNo} (h : s.HaltsAlone e) (ho : s.axisOwner a = some e) :
    s.reportRest a = s.report (.atRest a) := by
  unfold State.reportRest
  simp only [ho, h.slotAwaits, Bool.false_or]
  exact if_pos (by rw [h.1]; rfl)

theorem State.HaltsAlone.reported {s : State} {e : ExhibitNo} {a : AxisNo} (h : s.HaltsAlone e) (ho : s.axisOwner a = some e) (k : MotionKind) :
    (s.reportDone a k).reportRest a = s.report (.atRest a) := by
  have h1 : s.reportDone a k = s := by
    unfold State.reportDone
    simp only [ho, h.slotAwaits]
    rfl
  rw [h1, h.reported_rest ho]

/-- The exhibit and the source record after an axis has come to rest in a halt. -/
def State.afterHalt (s : State) (e : ExhibitNo) (busy : Bool) : Exhibit × SourceRecord :=
  if busy then (s.exhibit e, s.source e) else ((s.exhibit e).entering .ready, { s.source e with halted := true })

theorem State.haltComplete_to {s : State} {e : ExhibitNo} (h : (s.exhibit e).state = .halting) :
    ShowTo s (s.haltComplete e) e (s.afterHalt e (s.someAxisBusy e)).1 (s.slot e) (s.afterHalt e (s.someAxisBusy e)).2
      ((s.exhibit e).entering .ready).IsReadyLamp := by
  unfold State.haltComplete State.afterHalt
  cases hbusy : s.someAxisBusy e with
  | true =>
    rw [if_neg (by simp)]
    exact (ShowTo.refl s e).silent _
  | false =>
    rw [if_pos ⟨h, rfl⟩]
    have henter := s.enterState_to e .ready
    have hmark := (s.enterState e .ready).markCondition_to e .halted
    rw [henter.exhibit, henter.slot, henter.source] at hmark
    exact henter.trans (hmark.silent _)

/-- The report taken, the halt is over when no bound axis is on its way. -/
theorem AxisTo.halts {s u : State} {a : AxisNo} {y : Axis} {p : Pool} {n : Nat} {e : ExhibitNo} (h : AxisTo s u a y p n) (hn : n ≤ 4000)
    (hrep : s.reports = []) (ho : s.axisOwner a = some e) (hh : s.HaltsAlone e) :
    AxisShowTo s (u.report (.atRest a)).settle a y p e (s.afterHalt e (u.someAxisBusy e)).1 (s.slot e) (s.afterHalt e (u.someAxisBusy e)).2
      ((s.exhibit e).entering .ready).IsReadyLamp := by
  obtain ⟨rs, hrs, hlen, hcross⟩ := h.reports
  rw [hrep, List.nil_append] at hrs
  have huo : u.axisOwner a = some e := h.owner.trans ho
  have hslot : u.slot e = s.slot e := congrArg (tget · e) h.slots
  have hexhibit : u.exhibit e = s.exhibit e := congrArg (tget · e) h.exhibits
  have hsource : u.source e = s.source e := by rw [h.form]; rfl
  have hu : u.HaltsAlone e := by unfold State.HaltsAlone; rw [hslot, hexhibit]; exact hh
  have hto := State.haltComplete_to (s := { u with reports := [] }) (e := e) hu.1
  have hdeliver : State.deliver { u with reports := [] } (.atRest a) = State.haltComplete { u with reports := [] } e := by
    have ho' : State.axisOwner { u with reports := [] } a = some e := huo
    have hno : State.slotAwaits { u with reports := [] } e (.axisRest a) = false := hu.slotAwaits _
    unfold State.deliver
    simp only [ho', hno]
    rfl
  have htakes := Takes.report_after (u := u.report (.atRest a)) (n := 0) (t := State.haltComplete { u with reports := [] } e) rs
    (congrArg (· ++ _) hrs) hcross (State.Uncrossed.congr (s := u) rfl rfl (hu.uncrossed huo)) (by
      show Takes 0 (State.deliver { u with reports := [] } (.atRest a)) _
      rw [hdeliver]
      exact .none hto.reports)
  rw [htakes.settle (by omega)]
  have hafter : State.afterHalt { u with reports := [] } e (State.someAxisBusy { u with reports := [] } e) = s.afterHalt e (u.someAxisBusy e) := by
    show (if u.someAxisBusy e then (u.exhibit e, u.source e) else ((u.exhibit e).entering .ready, { u.source e with halted := true })) = _
    rw [hexhibit, hsource]
    rfl
  rw [hafter] at hto
  have hto' : ShowTo { u with reports := [] } (State.haltComplete { u with reports := [] } e) e (s.afterHalt e (u.someAxisBusy e)).1 (u.slot e)
    (s.afterHalt e (u.someAxisBusy e)).2 ((u.exhibit e).entering .ready).IsReadyLamp := hto
  rw [hexhibit, hslot] at hto'
  exact h.then_show hrep hto'

end Sys2Proof.Machine
end

section
/-! Motions whose end a show or a halt waits for (R10, R55 to R58, R66, R87, R88, R108, R114). -/

namespace Sys2Proof.Machine

/-! ### An update that ends in a report -/

/-- The end of a motion, with no axis waiting for units, up to its reports. -/
theorem State.completeMotion_reports (s : State) {a : AxisNo} (hempty : s.pool.waiting = []) :
    ∃ v, AxisTo s v a (s.axis a).enterIdle (s.pool.returned a) 0 ∧ s.completeMotion a none = v.reportRest a ∧
      ∀ k, s.completeMotion a (some k) = (v.reportDone a k).reportRest a := by
  have hreturn := s.returnUnits_to a
  have hscan := State.grantScan_empty (s := s.returnUnits a) hempty
  have hput := (s.returnUnits a).putAxis_to a ((s.returnUnits a).axis a).enterIdle false
  rw [hreturn.pool] at hput
  refine ⟨_, hreturn.trans hput, ?_, fun k => ?_⟩
  · unfold State.completeMotion
    simp only [hscan]
  · unfold State.completeMotion
    simp only [hscan]

/-- An update whose steps end in one report. -/
theorem exec_axisUpdate_reports {s v : State} {a : AxisNo} {y : Axis} {p : Pool} {n r : Nat} {c : AxisConfig} {q : Report}
    (hlim : (s.axis a).limitAhead = false) (hdrive : s.driveUpdate a = v.report q) (h : AxisTo s v a y p n)
    (hc : y.config = some c) (hr : y.nextRun c = r) (hcalm : Calm c r) :
    ∃ u, exec (.axisUpdate a) s = .next (u.report q).settle ∧ AxisTo s u a { y with followRun := r } p n := by
  have hrun : (v.axis a).nextRun c = r := (h.axis.nextRun c).trans hr
  have hjudge := State.judgeFollowing_calm (s := v.report q) (a := a) (c := c) (h.axis.config.trans hc) (hrun.symm ▸ hcalm)
  have hset := v.setAxis_to a { v.axis a with followRun := r }
  rw [h.pool] at hset
  refine ⟨v.setAxis a { v.axis a with followRun := r }, ?_, (h.trans hset).congr (h.axis.withRun r)⟩
  rw [exec_axisUpdate hlim, hdrive, hjudge]
  show Host.Outcome.next ((v.setAxis a { v.axis a with followRun := (v.axis a).nextRun c }).report q).settle = _
  rw [hrun]

/-- A MOVING axis at its target, or a STOPPING one at rest, for which a slot waits. -/
theorem exec_axisUpdate_awaited {s u : State} {a : AxisNo} {z : Axis} {n r : Nat} {c : AxisConfig} {e : ExhibitNo} {w : Wait} {ad d : Nat}
    {kind : Option MotionKind} (hlim : (s.axis a).limitAhead = false) (h : AxisTo s u a z s.pool n) (hn : n ≤ 3900) (hrep : s.reports = [])
    (hdrive : s.driveUpdate a = u.completeMotion a kind) (hempty : s.pool.waiting = []) (hc : z.config = some c)
    (hr : z.enterIdle.nextRun c = r) (hcalm : Calm c r) (ho : s.axisOwner a = some e) (hw : s.AwaitsAxis e a w)
    (hkind : w = .axisRest a ∨ ∃ k, kind = some k ∧ w = .motion a k) (hhalt : (s.exhibit e).state ≠ .halting)
    (hcur : (s.slot e).current = some ad) (htime : s.TimeStepAt (ad + w.stepLength) d) :
    ∃ t, exec (.axisUpdate a) s = .next t ∧ AxisShowTo s t a { z.enterIdle with followRun := r } (s.pool.returned a) e (s.exhibit e)
      ((s.slot e).waitingAt (ad + w.stepLength) d) (s.source e) noLamps := by
  obtain ⟨v, hv, hrest, hdone⟩ := u.completeMotion_reports (a := a) (by rw [h.pool]; exact hempty)
  rw [h.pool] at hv
  have hall := (h.trans hv).congr h.axis.enterIdle
  have hvw : v.AwaitsAxis e a w := hw.congr hall.slots
  have hvo : v.axisOwner a = some e := hall.owner.trans ho
  have hvh : (v.exhibit e).state ≠ .halting := by rw [show v.exhibit e = s.exhibit e from congrArg (tget · e) hall.exhibits]; exact hhalt
  have hreport : s.driveUpdate a = v.report (w.report a) := by
    rw [hdrive]
    cases kind with
    | none =>
      obtain rfl | ⟨k, hk, -⟩ := hkind
      · rw [hrest, hvw.reported_rest hvo]; rfl
      · cases hk
    | some k =>
      rw [hdone, hvw.reported hvo hvh]
      obtain h | ⟨k', hk', h⟩ := hkind
      · exact .inr h
      · obtain rfl := Option.some.inj hk'
        exact .inl h
  obtain ⟨x, hexec, hx⟩ := exec_axisUpdate_reports (c := c) (r := r) hlim hreport hall hc hr hcalm
  exact ⟨_, hexec, hx.completes (by omega) hrep ho hw hcur htime⟩

/-- The same with a halt that waits for it. -/
theorem exec_axisUpdate_halts {s u : State} {a : AxisNo} {z : Axis} {n r : Nat} {c : AxisConfig} {e : ExhibitNo}
    {kind : Option MotionKind} (hlim : (s.axis a).limitAhead = false) (h : AxisTo s u a z s.pool n) (hn : n ≤ 3900) (hrep : s.reports = [])
    (hdrive : s.driveUpdate a = u.completeMotion a kind) (hempty : s.pool.waiting = []) (hc : z.config = some c)
    (hr : z.enterIdle.nextRun c = r) (hcalm : Calm c r) (ho : s.axisOwner a = some e) (hh : s.HaltsAlone e) :
    ∃ t busy, exec (.axisUpdate a) s = .next t ∧ (busy = true ↔ ∃ b ∈ s.boundAxes e, b ≠ a ∧ (s.axis b).state.busy = true) ∧
      AxisShowTo s t a { z.enterIdle with followRun := r } (s.pool.returned a) e (s.afterHalt e busy).1 (s.slot e) (s.afterHalt e busy).2
        ((s.exhibit e).entering .ready).IsReadyLamp := by
  obtain ⟨v, hv, hrest, hdone⟩ := u.completeMotion_reports (a := a) (by rw [h.pool]; exact hempty)
  rw [h.pool] at hv
  have hall := (h.trans hv).congr h.axis.enterIdle
  have hvo : v.axisOwner a = some e := hall.owner.trans ho
  have hvx : v.exhibit e = s.exhibit e := congrArg (tget · e) hall.exhibits
  have hvh : v.HaltsAlone e := by
    unfold State.HaltsAlone
    rw [hvx, show v.slot e = s.slot e from congrArg (tget · e) hall.slots]
    exact hh
  have hreport : s.driveUpdate a = v.report (.atRest a) := by
    rw [hdrive]
    cases kind with
    | none => rw [hrest, hvh.reported_rest hvo]
    | some k => rw [hdone, hvh.reported hvo]
  obtain ⟨x, hexec, hx⟩ := exec_axisUpdate_reports (c := c) (r := r) hlim hreport hall hc hr hcalm
  refine ⟨_, x.someAxisBusy e, hexec, ?_, hx.halts (by omega) hrep ho hh⟩
  have hbound : x.boundAxes e = s.boundAxes e :=
    State.boundAxes_inForce (by rw [show x.exhibit e = s.exhibit e from congrArg (tget · e) hx.exhibits])
  have hidle : (x.axis a).state.busy = false := by rw [hx.axis]; rfl
  rw [State.someAxisBusy_iff, hbound]
  refine exists_congr fun b => and_congr_right fun hb => ⟨fun hbusy => ?_, fun ⟨hba, hbusy⟩ => by rw [hx.others b hba]; exact hbusy⟩
  have hba : b ≠ a := by rintro rfl; rw [hidle] at hbusy; cases hbusy
  exact ⟨hba, by rw [← hx.others b hba]; exact hbusy⟩

/-! ### Crossings of a mark (R58, R113, R114) -/

theorem mem_insertCrossed (upward : Bool) (c x : CrossedMark) (l : List CrossedMark) : x ∈ insertCrossed upward c l ↔ x = c ∨ x ∈ l := by
  induction l with
  | nil => simp [insertCrossed]
  | cons y l ih =>
    have hput : ∀ b : Prop, [Decidable b] → (x ∈ (if b then c :: y :: l else y :: insertCrossed upward c l) ↔ x = c ∨ x ∈ y :: l) := by
      intro b _
      split
      · simp
      · rw [List.mem_cons, ih, List.mem_cons, or_left_comm]
    exact hput _

/-- What a fold that adds entries one index at a time holds. -/
theorem mem_foldl_adding {α β : Type} {f : List β → α → List β} {P : α → β → Prop} (hf : ∀ acc i c, c ∈ f acc i ↔ c ∈ acc ∨ P i c) (l : List α)
    (acc : List β) (c : β) : c ∈ l.foldl f acc ↔ c ∈ acc ∨ ∃ i ∈ l, P i c := by
  induction l generalizing acc with
  | nil => simp
  | cons i l ih => simp [ih, hf, or_assoc]

/-- The crossing of mark `i` by a change of P to `p`. -/
abbrev Axis.Crosses (x : Axis) (p : Int) (i : Fin 4) (c : CrossedMark) : Prop :=
  ∃ k side, tget x.marks i = some k ∧ tget x.sides i = some side ∧ sideOf k p ≠ side ∧
    c = { mark := i, position := k, up := sideOf k p == .above }

theorem mem_crossings {x : Axis} {p : Int} {c : CrossedMark} : c ∈ crossings x p ↔ ∃ i, x.Crosses p i c := by
  refine (mem_foldl_adding (P := fun i c => x.Crosses p i c) (fun acc i c => ?_) (List.finRange 4) [] c).trans (by simp)
  split
  · next k side hk hside =>
    have huniq : x.Crosses p i c → sideOf k p ≠ side ∧ c = { mark := i, position := k, up := sideOf k p == .above } := by
      rintro ⟨k', side', hk', hside', hne, h⟩
      rw [hk] at hk'
      rw [hside] at hside'
      obtain rfl := Option.some.inj hk'
      obtain rfl := Option.some.inj hside'
      exact ⟨hne, h⟩
    split
    · next heq => exact ⟨.inl, fun h => h.elim id fun h => absurd heq (huniq h).1⟩
    · next hne =>
      rw [mem_insertCrossed, or_comm]
      exact or_congr_right ⟨fun h => ⟨k, side, hk, hside, hne, h⟩, fun h => (huniq h).2⟩
  · next hnone => exact ⟨.inl, fun h => h.elim id fun ⟨k, side, hk, hside, _, _⟩ => (hnone k side hk hside).elim⟩

/-- Crossings of an axis, one of them awaited by a show that goes on at a WAIT_TIME, taken one after another. -/
theorem Takes.crossings {a : AxisNo} {e : ExhibitNo} {w : Wait} {ad d : Nat} (rs : List Report) : ∀ {u : State}, u.reports = rs →
    OnlyCrossings a rs → u.axisOwner a = some e → (u.slot e).wait = some w → (u.slot e).current = some ad → u.TimeStepAt (ad + w.stepLength) d →
    (∃ m up, Report.crossing a m up ∈ rs ∧ (u.slot e).awaitsCrossing a m up = true) →
    ∃ t, Takes rs.length u t ∧
      ShowTo { u with reports := [] } t e (u.exhibit e) ((u.slot e).waitingAt (ad + w.stepLength) d) (u.source e) noLamps := by
  induction rs with
  | nil => exact fun _ _ _ _ _ _ ⟨m, up, hm, _⟩ => absurd hm (by simp)
  | cons r rs ih =>
    intro u hr hrs ho hw hcur htime ⟨m, up, hmem, hawait⟩
    obtain ⟨m', up', rfl⟩ := hrs r (List.mem_cons_self ..)
    have hrest : OnlyCrossings a rs := fun q hq => hrs q (List.mem_cons_of_mem _ hq)
    have ho' : State.axisOwner { u with reports := rs } a = some e := ho
    by_cases hhead : (u.slot e).awaitsCrossing a m' up' = true
    · have hdeliver : State.deliver { u with reports := rs } (.crossing a m' up') = State.completeWait { u with reports := rs } e := by
        unfold State.deliver
        simp only [ho']
        exact if_pos hhead
      have hto := State.completeWait_time_to (s := { u with reports := rs }) (e := e) (w := w) (a := ad) (d := d) hw hcur htime
      have hunc : State.Uncrossed (State.completeWait { u with reports := rs } e) a := fun f hf m up => by
        rw [State.axisOwner_congr hto.exhibits_eq, ho'] at hf
        obtain rfl := Option.mem_some_iff.1 hf
        rw [hto.slot]
        unfold Slot.awaitsCrossing Slot.waitingAt
        simp
      generalize State.completeWait { u with reports := rs } e = v at *
      have hdrop : Takes rs.length v { v with reports := [] } := by
        have hvr : v.reports = rs := hto.reports
        have := Takes.dropped v fun q hq rest => by
          obtain ⟨m, up, rfl⟩ := hrest q (hvr ▸ hq)
          exact State.Uncrossed.deliver (State.Uncrossed.congr (s := v) (t := { v with reports := rest }) rfl rfl hunc) m up
        rwa [hvr] at this
      exact ⟨{ v with reports := [] }, .next hr (hdeliver ▸ hdrop), hto.cleared⟩
    · have hdeliver : State.deliver { u with reports := rs } (.crossing a m' up') = { u with reports := rs } := by
        unfold State.deliver
        simp only [ho']
        exact if_neg hhead
      obtain ⟨t, ht, hshow⟩ := ih (u := { u with reports := rs }) rfl hrest ho hw hcur htime
        ⟨m, up, (List.mem_cons.1 hmem).resolve_left (fun h => hhead (by
          injection h with _ h1 h2
          rw [← h1, ← h2]
          exact hawait)), hawait⟩
      exact ⟨t, .next hr (by rw [hdeliver]; exact ht), hshow⟩

end Sys2Proof.Machine
end

section
/-! Timers that expire, and motions whose end is awaited (R6, R10, R36, R55 to R60, R66, R88, R114, R163): O45. -/

namespace Sys2Proof.Machine

/-! ### Waits that run out (R59, R60) -/

theorem exec_timeWaitExpiry {s : State} {e : ExhibitNo} {r : Nat} (hst : (s.slot e).status = some .waiting) (hfr : (s.slot e).frozen = false)
    (hw : (s.slot e).wait = some (.time r)) : exec (.timeWaitExpiry e) s = .next (s.completeWait e).settle := by
  have hact : s.timeWaitExpiry e = (s.completeWait e).settle := by
    unfold State.timeWaitExpiry
    simp only [hst, hw, hfr]
  rw [← hact]
  rfl

theorem exec_pressTimeout {s : State} {e : ExhibitNo} {r : Nat} (hst : (s.slot e).status = some .waiting) (hfr : (s.slot e).frozen = false)
    (hw : (s.slot e).wait = some (.press (some r))) : exec (.pressTimeout e) s = .next (s.skipSuccessor e).settle := by
  have hact : s.pressTimeout e = (s.skipSuccessor e).settle := by
    unfold State.pressTimeout
    simp only [hst, hw, hfr]
  rw [← hact]
  rfl

/-- The kinds of one word (Table 3-2). -/
theorem stepKind?_oneWord {n : Nat} (h : n ∈ [0, 2, 3, 4, 8, 9, 11, 12]) : ∃ k, stepKind? n = some k ∧ k.length = 1 := by
  simp only [List.mem_cons, List.not_mem_nil, or_false] at h
  obtain rfl | rfl | rfl | rfl | rfl | rfl | rfl | rfl := h <;> exact ⟨_, rfl, rfl⟩

theorem State.skipSuccessor_time_to {s : State} {e : ExhibitNo} {a r d : Nat} (hw : (s.slot e).wait = some (.press (some r)))
    (hcur : (s.slot e).current = some a) (hkind : bits (s.storeWord (a + 2)) 10 6 ∈ [0, 2, 3, 4, 8, 9, 11, 12])
    (h : s.TimeStepAt (a + 3) d) :
    ShowTo s (s.skipSuccessor e) e (s.exhibit e) ((s.slot e).waitingAt (a + 3) d) (s.source e) noLamps := by
  obtain ⟨k, hk, hlen⟩ := stepKind?_oneWord hkind
  have hread : s.readKind (a + 2) = .ok k := State.readKind_ok rfl hk (by rw [hlen]; exact (by have := h.1; omega))
  have hact : s.skipSuccessor e = s.goOnAt e (a + 3) := by
    unfold State.skipSuccessor
    simp only [hw, hcur, Wait.stepLength, hread, hlen]
  rw [hact]
  exact State.goOnAt_time_to h

/-! ### A motion awaited -/

theorem State.haltsAlone_afterHalt (s : State) (e : ExhibitNo) {busy : Bool} (h : busy = false) :
    s.afterHalt e busy = ((s.exhibit e).entering .ready, { s.source e with halted := true }) := by
  unfold State.afterHalt
  rw [h]
  rfl

/-- A MOVING axis that goes on, with a show that waits for a mark of it. -/
theorem exec_axisUpdate_marks {s : State} {a : AxisNo} {c : AxisConfig} {m : MoveRecord} {v n r : Nat} {p : Int}
    (hst : (s.axis a).state = .moving) (hc : (s.axis a).config = some c) (hm : (s.axis a).move = some m)
    (hlim : (s.axis a).limitAhead = false) (hrep : s.reports = [])
    (hstep : (s.axis a).ProfileStep (tget c.sets m.speedSet) m.target v n p) (hrun : (s.axis a).RunAfter c p r) (hcalm : Calm c r)
    (hne : p ≠ m.target) :
    ∃ z, exec (.axisUpdate a) s = .next z.settle ∧
      AxisTo s z a { (s.axis a).steppedTo c v (((s.axis a).acc + v) % 1000) n p with followRun := r } s.pool 4 ∧
      z.reports = (crossings (s.axis a) p).map fun c => .crossing a c.mark c.up := by
  obtain ⟨u, hto, hreports, hupdate⟩ := State.updateMoving_eq hc hst hstep
  rw [if_neg hne, ← State.driveUpdate_moving hst hm] at hupdate
  rw [hrep, List.nil_append] at hreports
  rw [← hupdate] at hto hreports
  have hnext := (hto.axis.nextRun c).trans (Axis.steppedTo_nextRun (by rw [hst]; rfl) hrun)
  have hset := (s.driveUpdate a).setAxis_to a { (s.driveUpdate a).axis a with followRun := r }
  rw [hto.pool] at hset
  refine ⟨(s.driveUpdate a).setAxis a { (s.driveUpdate a).axis a with followRun := r }, ?_, (hto.trans hset).congr (hto.axis.withRun r), hreports⟩
  rw [exec_axisUpdate hlim, State.judgeFollowing_calm (hto.axis.config.trans hc) (hnext.symm ▸ hcalm), hnext]

/-- The slot waits for crossings of the mark. -/
abbrev State.AwaitsMark (s : State) (e : ExhibitNo) (a : AxisNo) (k : Fin 4) (sense : Sense) : Prop :=
  (s.slot e).wait = some (.mark a k sense) ∧ (s.slot e).status = some .waiting ∧ (s.slot e).frozen = false

theorem State.AwaitsMark.awaits {s : State} {e : ExhibitNo} {a : AxisNo} {k : Fin 4} {sense : Sense} (h : s.AwaitsMark e a k sense)
    (m : Fin 4) (up : Bool) : (s.slot e).awaitsCrossing a m up = (m == k && sense.matches up) := by
  obtain ⟨hw, hst, hfr⟩ := h
  unfold Slot.awaitsCrossing
  rw [hw, hst, hfr]
  simp

/-- The one crossing that a change of P makes of a mark whose side it changes. -/
theorem Axis.crosses_iff {x : Axis} {p q : Int} {k : Fin 4} {side : Side} {c : CrossedMark} (hm : tget x.marks k = some q)
    (hs : tget x.sides k = some side) : x.Crosses p k c ↔ sideOf q p ≠ side ∧ c = { mark := k, position := q, up := sideOf q p == .above } := by
  refine ⟨fun ⟨q', side', hm', hs', hne, hc⟩ => ?_, fun ⟨hne, hc⟩ => ⟨q, side, hm, hs, hne, hc⟩⟩
  rw [hm] at hm'
  rw [hs] at hs'
  obtain rfl := Option.some.inj hm'
  obtain rfl := Option.some.inj hs'
  exact ⟨hne, hc⟩

theorem sideOf_above {q p : Int} : sideOf q p = .above ↔ q ≤ p := by
  unfold sideOf
  split <;> simp_all

theorem sideOf_below {q p : Int} : sideOf q p = .below ↔ p < q := by
  unfold sideOf
  split <;> simp_all

/-- The update completes the wait for a mark. -/
theorem exec_axisUpdate_crossed {s z : State} {a : AxisNo} {y : Axis} {e : ExhibitNo} {k : Fin 4} {sense : Sense} {p q : Int} {ad d : Nat}
    (hz : AxisTo s z a y s.pool 4) (hrep : s.reports = [])
    (hreports : z.reports = (crossings (s.axis a) p).map fun c => .crossing a c.mark c.up) (ho : s.axisOwner a = some e)
    (hw : s.AwaitsMark e a k sense) (hcur : (s.slot e).current = some ad) (hm : tget (s.axis a).marks k = some q)
    (hside : tget (s.axis a).sides k = some (sideOf q (s.axis a).pos))
    (hcross : (sense ≠ .down ∧ (s.axis a).pos < q ∧ q ≤ p) ∨ (sense ≠ .up ∧ p < q ∧ q ≤ (s.axis a).pos))
    (htime : s.TimeStepAt (ad + 1) d) :
    AxisShowTo s z.settle a y s.pool e (s.exhibit e) ((s.slot e).waitingAt (ad + 1) d) (s.source e) noLamps := by
  have hslot : z.slot e = s.slot e := congrArg (tget · e) hz.slots
  have hzo : z.axisOwner a = some e := hz.owner.trans ho
  have hstore : ∀ k, z.storeWord k = s.storeWord k := fun k => hz.word _ (.inr (by simp only [addrAxisImage, addrStore]; omega))
  obtain ⟨up, hup, hne, hmatch⟩ : ∃ up, (sideOf q p == .above) = up ∧ sideOf q p ≠ sideOf q (s.axis a).pos ∧ sense.matches up = true := by
    obtain ⟨hs, h1, h2⟩ | ⟨hs, h1, h2⟩ := hcross
    · refine ⟨true, by rw [sideOf_above.2 h2]; rfl, by rw [sideOf_above.2 h2, sideOf_below.2 h1]; decide, ?_⟩
      cases sense with
      | down => exact absurd rfl hs
      | up | either => rfl
    · refine ⟨false, by rw [sideOf_below.2 h1]; rfl, by rw [sideOf_below.2 h1, sideOf_above.2 h2]; decide, ?_⟩
      cases sense with
      | up => exact absurd rfl hs
      | down | either => rfl
  have hmem : Report.crossing a k up ∈ z.reports := by
    rw [hreports, List.mem_map]
    exact ⟨_, mem_crossings.2 ⟨k, (Axis.crosses_iff hm hside).2 ⟨hne, rfl⟩⟩, by rw [hup]⟩
  have honly : OnlyCrossings a z.reports := by
    rw [hreports]
    intro r hr
    obtain ⟨c, -, rfl⟩ := List.mem_map.1 hr
    exact ⟨c.mark, c.up, rfl⟩
  obtain ⟨t, htakes, hshow⟩ := Takes.crossings (w := .mark a k sense) (ad := ad) (d := d) z.reports (u := z) rfl honly hzo (hslot ▸ hw.1)
    (by rw [hslot]; exact hcur) (htime.of_store hstore) ⟨k, up, hmem, by rw [hslot, hw.awaits, hmatch]; simp⟩
  have hlen : z.reports.length ≤ 4096 := by
    rw [hreports, List.length_map]
    exact (crossings_length _ _).trans (by decide)
  rw [htakes.settle hlen]
  have hexhibit : z.exhibit e = s.exhibit e := congrArg (tget · e) hz.exhibits
  have hsource : z.source e = s.source e := by rw [hz.form]; rfl
  rw [hslot, hexhibit, hsource] at hshow
  exact hz.then_show hrep hshow

/-- The update crosses the mark in the other sense. -/
theorem exec_axisUpdate_uncrossed {s z : State} {a : AxisNo} {y : Axis} {e : ExhibitNo} {k : Fin 4} {sense : Sense} {p q : Int}
    (hz : AxisTo s z a y s.pool 4) (hrep : s.reports = [])
    (hreports : z.reports = (crossings (s.axis a) p).map fun c => .crossing a c.mark c.up) (ho : s.axisOwner a = some e)
    (hw : s.AwaitsMark e a k sense) (hm : tget (s.axis a).marks k = some q)
    (hside : tget (s.axis a).sides k = some (sideOf q (s.axis a).pos))
    (hcross : (sense = .down ∧ (s.axis a).pos < q ∧ q ≤ p) ∨ (sense = .up ∧ p < q ∧ q ≤ (s.axis a).pos)) :
    AxisTo s z.settle a y s.pool 0 := by
  have hslot : z.slot e = s.slot e := congrArg (tget · e) hz.slots
  have hzo : z.axisOwner a = some e := hz.owner.trans ho
  have hmiss : sense.matches (sideOf q p == .above) = false := by
    obtain ⟨rfl, h1, h2⟩ | ⟨rfl, h1, h2⟩ := hcross
    · rw [sideOf_above.2 h2]; rfl
    · rw [sideOf_below.2 h1]; rfl
  have hdropped : Takes z.reports.length z { z with reports := [] } := Takes.dropped z fun r hr rest => by
    rw [hreports] at hr
    obtain ⟨c, hc, rfl⟩ := List.mem_map.1 hr
    obtain ⟨i, hi⟩ := mem_crossings.1 hc
    have hno : (s.slot e).awaitsCrossing a c.mark c.up = false := by
      rw [hw.awaits]
      obtain ⟨q', side', hm', hs', hne, rfl⟩ := hi
      by_cases hik : i = k
      · subst hik
        rw [hm] at hm'
        obtain rfl := Option.some.inj hm'
        rw [hmiss, Bool.and_false]
      · simp [hik]
    have ho' : State.axisOwner { z with reports := rest } a = some e := hzo
    have hno' : (State.slot { z with reports := rest } e).awaitsCrossing a c.mark c.up = false := by
      show (z.slot e).awaitsCrossing a c.mark c.up = false
      rw [hslot]
      exact hno
    unfold State.deliver
    simp only [ho', hno']
    rfl
  have hlen : z.reports.length ≤ 4096 := by
    rw [hreports, List.length_map]
    exact (crossings_length _ _).trans (by decide)
  rw [hdropped.settle hlen]
  exact {
    axis := hz.axis
    others := hz.others
    word := hz.word
    pool := hz.pool
    reports := ⟨[], by simp [hrep], le_rfl, by simp⟩
    form := by rw [hz.form] }

end Sys2Proof.Machine
end

section
/-! Timers that expire, and motions whose end is awaited (R6, R10, R36, R55 to R60, R66, R88, R114, R163): O45. -/

namespace Sys2Proof.Machine

/-! ### The rest timer (R6) -/

theorem State.restExpiry_ready {s : State} {e : ExhibitNo} (hst : (s.exhibit e).state = .resting) (hrest : (s.exhibit e).rest ≠ none)
    (h : (s.exhibit e).encore = false ∨ (s.exhibit e).guardOpen = true ∨ s.stopInForce = true) : s.restExpiry e = s.enterState e .ready := by
  have hon : ¬ ((s.exhibit e).state ≠ .resting ∨ (s.exhibit e).rest.isNone) := by
    rw [hst, Option.isNone_iff_eq_none]
    simp [hrest]
  unfold State.restExpiry
  simp only
  rw [if_neg hon, if_neg]
  rintro ⟨h1, h2, h3⟩
  rw [h1, h2, h3] at h
  simp at h

theorem State.restExpiry_encore {s : State} {e : ExhibitNo} (hst : (s.exhibit e).state = .resting) (hrest : (s.exhibit e).rest ≠ none)
    (h1 : (s.exhibit e).encore = true) (h2 : (s.exhibit e).guardOpen = false) (h3 : s.stopInForce = false) :
    s.restExpiry e = ((s.dropEncore e).startDefault e).settle := by
  have hon : ¬ ((s.exhibit e).state ≠ .resting ∨ (s.exhibit e).rest.isNone) := by
    rw [hst, Option.isNone_iff_eq_none]
    simp [hrest]
  unfold State.restExpiry
  simp only
  rw [if_neg hon, if_pos ⟨h1, h2, h3⟩]

/-- The encore show, started from RESTING. -/
theorem State.encore_time_to {s : State} {e : ExhibitNo} {c : ExhibitConfig} {d : Nat} (hc : (s.exhibit e).config = some c)
    (h : s.TimeStepAt c.defaultShow d) :
    ShowTo s ((s.dropEncore e).startDefault e) e (Exhibit.entering { s.exhibit e with encore := false } .running)
      (((s.slot e).started c.defaultShow).waitingAt c.defaultShow d) (s.source e) anyLamp := by
  have hput := s.putExhibit_to e { s.exhibit e with encore := false }
  unfold State.dropEncore
  have hstart := State.startDefault_time_to (s := s.putExhibit e { s.exhibit e with encore := false }) (e := e) (c := c) (d := d)
    (by rw [hput.exhibit]; exact hc) (h.of_store hput.storeWord)
  rw [hput.exhibit, hput.slot, hput.source] at hstart
  exact (hput.silent _).trans hstart.loose

/-! ### Timers and waits -/

/-- An axis without a request. -/
theorem Axis.without_request {x : Axis} (h : x.request = none) : { x with request := none } = x := by
  rw [← h]

theorem Slot.started_frozen (sl : Slot) (a : Nat) : (sl.started a).frozen = false := rfl

/-- A homing that a slot waits for arrives. -/
theorem exec_indexEvent_awaited {s : State} {a : AxisNo} {c : AxisConfig} {e : ExhibitNo} {ad d : Nat} (hst : (s.axis a).state = .homing)
    (hph : (s.axis a).phase = some .creep) (hc : (s.axis a).config = some c) (ho : s.axisOwner a = some e) (hrep : s.reports = [])
    (hempty : s.pool.waiting = []) (hw : s.AwaitsAxis e a (.motion a .home)) (hhalt : (s.exhibit e).state ≠ .halting)
    (hcur : (s.slot e).current = some ad) (htime : s.TimeStepAt (ad + 1) d) :
    ∃ t, exec (.indexEvent a) s = .next t ∧ AxisShowTo s t a ((s.axis a).homedBy c) (s.pool.returned a) e (s.exhibit e)
      ((s.slot e).waitingAt (ad + 1) d) (s.source e) noLamps := by
  obtain ⟨v, hv, harrive⟩ := State.arrive_reports hc hempty
  have hact : s.indexEvent a = s.arrive a c := by
    unfold State.indexEvent
    simp only [hst, hph, hc]
  have hvx : v.exhibit e = s.exhibit e := congrArg (tget · e) hv.exhibits
  have hreport := (hw.congr hv.slots).reported (hv.owner.trans ho) (by rw [hvx]; exact hhalt) (k := .home) (.inl rfl)
  refine ⟨_, ?_, hv.completes (by decide) hrep ho hw hcur htime⟩
  rw [← hreport, ← harrive, ← hact]
  rfl

/-- The same in a HALTING exhibit, where the rest is reported as well and may end the halt. -/
theorem exec_indexEvent_halting {s : State} {a : AxisNo} {c : AxisConfig} {e : ExhibitNo} {ad d : Nat} (hst : (s.axis a).state = .homing)
    (hph : (s.axis a).phase = some .creep) (hc : (s.axis a).config = some c) (ho : s.axisOwner a = some e) (hrep : s.reports = [])
    (hempty : s.pool.waiting = []) (hw : s.AwaitsAxis e a (.motion a .home)) (hhalt : (s.exhibit e).state = .halting)
    (hcur : (s.slot e).current = some ad) (htime : s.TimeStepAt (ad + 1) d) :
    ∃ t x src L, exec (.indexEvent a) s = .next t ∧ AxisShowTo s t a ((s.axis a).homedBy c) (s.pool.returned a) e x
      ((s.slot e).waitingAt (ad + 1) d) src L := by
  obtain ⟨v, hv, harrive⟩ := State.arrive_reports hc hempty
  have hact : s.indexEvent a = s.arrive a c := by
    unfold State.indexEvent
    simp only [hst, hph, hc]
  obtain ⟨rs, hrs, hlen, hcross⟩ := hv.reports
  rw [hrep, List.nil_append] at hrs
  have hvo : v.axisOwner a = some e := hv.owner.trans ho
  have hvw : v.AwaitsAxis e a (.motion a .home) := hw.congr hv.slots
  have hslot : v.slot e = s.slot e := congrArg (tget · e) hv.slots
  have hexhibit : v.exhibit e = s.exhibit e := congrArg (tget · e) hv.exhibits
  have hstore : ∀ k, v.storeWord k = s.storeWord k := fun k => hv.word _ (.inr (by simp only [addrAxisImage, addrStore]; omega))
  have hreport : (v.reportDone a .home).reportRest a = (v.report (.motionDone a .home)).report (.atRest a) := by
    have hdone : v.reportDone a .home = v.report (.motionDone a .home) := by
      have hawaits := hvw.awaits (.motion a .home)
      unfold State.reportDone
      simp only [hvo, hawaits, decide_true, if_true]
    have ho' : (v.report (.motionDone a .home)).axisOwner a = some e := hvo
    rw [hdone]
    unfold State.reportRest
    simp only [ho']
    refine if_pos ?_
    rw [Bool.or_eq_true, beq_iff_eq]
    exact .inr (hexhibit ▸ hhalt)
  have hto := State.completeWait_time_to (s := { v with reports := [.atRest a] }) (e := e) (w := .motion a .home) (a := ad) (d := d)
    (hslot ▸ hw.1) (by show (v.slot e).current = _; rw [hslot]; exact hcur) (htime.of_store hstore)
  have hdeliver : State.deliver { v with reports := [.atRest a] } (.motionDone a .home) = State.completeWait { v with reports := [.atRest a] } e :=
    State.AwaitsAxis.deliver (s := { v with reports := [.atRest a] }) (w := .motion a .home) hvw hvo
  generalize State.completeWait { v with reports := [.atRest a] } e = u at *
  have huo : State.axisOwner { u with reports := [] } a = some e := (State.axisOwner_congr hto.exhibits_eq a).trans hvo
  have hdeliver' : State.deliver { u with reports := [] } (.atRest a) = State.haltComplete { u with reports := [] } e := by
    have hno : State.slotAwaits { u with reports := [] } e (.axisRest a) = false := by
      have hus : (State.slot { u with reports := [] } e).wait = some (.time (10 * d)) := by
        show (u.slot e).wait = _
        rw [hto.slot]
        rfl
      unfold State.slotAwaits
      rw [hus]
      simp
    unfold State.deliver
    simp only [huo, hno]
    rfl
  have hux : u.exhibit e = s.exhibit e := hto.exhibit.trans hexhibit
  have hhalted := State.haltComplete_to (s := { u with reports := [] }) (e := e) (by show (u.exhibit e).state = _; rw [hux]; exact hhalt)
  have htakes := Takes.report_after (u := (v.report (.motionDone a .home)).report (.atRest a)) (n := 1) (qs := [.atRest a])
    (t := State.haltComplete { u with reports := [] } e) rs
    (by show (v.reports ++ [.motionDone a .home]) ++ [.atRest a] = _; rw [hrs, List.append_assoc]; rfl) hcross
    (State.Uncrossed.congr (s := v) rfl rfl (hvw.uncrossed hvo)) (by
      show Takes 1 (State.deliver { v with reports := [.atRest a] } (.motionDone a .home)) _
      rw [hdeliver]
      refine .next (n := 0) hto.reports ?_
      rw [hdeliver']
      exact .none hhalted.reports)
  have hboth := (hto.cleared.loose).trans hhalted.loose
  have huslot : State.slot { u with reports := [] } e = (s.slot e).waitingAt (ad + 1) d := by
    show u.slot e = _
    rw [hto.slot]
    show (v.slot e).waitingAt _ _ = _
    rw [hslot]
    rfl
  rw [huslot] at hboth
  have hexec : exec (.indexEvent a) s = .next (State.haltComplete { u with reports := [] } e) := by
    show Host.Outcome.next (s.indexEvent a).settle = _
    rw [hact, harrive, hreport, htakes.settle (by omega)]
  exact ⟨_, _, _, _, hexec, hv.then_show hrep hboth⟩

/-- Settles O45. -/
theorem timersExpire : Obligations.TimersExpire := by
  refine ⟨fun s e a r d hcur hst hfr hw hrep htime => ?_, fun s e a r d hcur hst hfr hw hrep hkind htime => ?_, fun s e hfr => ⟨?_, ?_⟩,
    fun s e c d hst hrest hrep hc => ⟨fun h => ?_, fun h1 h2 h3 htime => ?_⟩, fun s b => ?_, fun s st => ?_,
    fun s x e y m v n r d ad p hst hy hm hlim ho hrep hstep hrun hcalm hempty => ⟨fun w hp hw hwait hstatus hfr hcur hhalt htime => ?_,
      fun hp hhalt _ hwait hrest => ?_, fun k sense q hne hwait hstatus hfr hcur hhalt hmark hside => ⟨fun hcross htime => ?_, fun hcross => ?_⟩⟩,
    fun s x e y m b p dr v n r d ad hst hy hm hb hdir hlim ho hrep hv hn hp hrun hcalm hempty hstop =>
      ⟨fun hreq hhalt _ hwait => ?_, fun w hw hwait hstatus hfr hcur hhalt htime => ?_⟩,
    fun s x e y d ad hst hph hy ho hrep hempty hwait hstatus hfr hcur htime => ?_⟩
  · have hto := State.completeWait_time_to (e := e) hw hcur htime
    rw [exec_timeWaitExpiry hst hfr hw, State.settle_nil _ (by rw [hto.reports]; exact hrep)]
    refine ⟨_, rfl, ?_, by rw [hto.slot]; rfl, by rw [hto.slot]; rfl, hto.others, fun k _ => hto.word k, hto.form_slots⟩
    rw [hto.slot]
    exact Slot.waitingAt_waitsTime hfr _ _
  · have hto := State.skipSuccessor_time_to (e := e) hw hcur hkind htime
    rw [exec_pressTimeout hst hfr hw, State.settle_nil _ (by rw [hto.reports]; exact hrep)]
    refine ⟨_, rfl, ?_, by rw [hto.slot]; rfl, by rw [hto.slot]; rfl, hto.others, fun k _ => hto.word k, hto.form_slots⟩
    rw [hto.slot]
    exact Slot.waitingAt_waitsTime hfr _ _
  · refine congrArg Host.Outcome.next (?_ : s.timeWaitExpiry e = s)
    unfold State.timeWaitExpiry
    simp only [hfr]
    split
    · next h => cases h
    · rfl
  · refine congrArg Host.Outcome.next (?_ : s.pressTimeout e = s)
    unfold State.pressTimeout
    simp only [hfr]
    split
    · next h => cases h
    · rfl
  · have hto := s.enterState_to e .ready
    refine ⟨_, congrArg Host.Outcome.next (State.restExpiry_ready hst hrest h), ?_, hto.others, fun ch hch => hto.channel ch fun hl => ?_,
      fun k _ => hto.word k, ?_⟩
    · rw [hto.exhibit]
      exact Exhibit.entering_plain (st := .ready) _ rfl
    · have hready := Exhibit.isReadyLamp_config (x := (s.exhibit e).entering .ready) hl
      rw [show ((s.exhibit e).entering .ready).config = some c from hc] at hready
      exact hch hready
    · have hform := hto.form_shows
      rw [hto.slots_eq] at hform
      exact hform
  · have hto := State.encore_time_to hc htime
    have hexec : exec (.restExpiry e) s = .next ((s.dropEncore e).startDefault e) := by
      refine congrArg Host.Outcome.next ((State.restExpiry_encore hst hrest h1 h2 h3).trans (State.settle_nil _ ?_))
      rw [hto.reports]
      exact hrep
    refine ⟨_, hexec, ?_, ?_, hto.others, fun k _ => hto.word k, hto.form_shows⟩
    · rw [hto.exhibit]
      exact Exhibit.entering_show _ (.inl rfl)
    · rw [hto.slot]
      exact Slot.waitingAt_waitsTime ((s.slot e).started_frozen _) _ _
  · exact ⟨_, rfl, tget_tset_same _ _ _, fun c hc => tget_tset_ne _ _ hc.symm, rfl⟩
  · exact ⟨_, rfl, tget_tset_same _ _ _, fun c hc => tget_tset_ne _ _ hc.symm, rfl⟩
  · obtain ⟨u, hto, -, hupdate⟩ := State.updateMoving_eq hy hst hstep
    rw [if_pos hp, ← State.driveUpdate_moving hst hm] at hupdate
    have hw' : s.AwaitsAxis e x w := ⟨hwait, hstatus, hfr, hw.imp_left fun h => ⟨_, h⟩⟩
    obtain ⟨t, hexec, ht⟩ := exec_axisUpdate_awaited (r := r) hlim hto (by decide) hrep hupdate hempty hy (Axis.nextRun_judged rfl |>.trans hrun.symm)
      hcalm ho hw' (hw.symm.imp_right fun h => ⟨_, rfl, h⟩) hhalt hcur htime
    refine ⟨t, hexec, by rw [ht.axis]; rfl, by rw [ht.axis]; exact hp, ?_, by rw [ht.slot]; rfl, ht.otherExhibits, ht.others, ht.form_slots⟩
    rw [ht.slot]
    exact Slot.waitingAt_waitsTime hfr _ _
  · obtain ⟨u, hto, -, hupdate⟩ := State.updateMoving_eq hy hst hstep
    rw [if_pos hp, ← State.driveUpdate_moving hst hm] at hupdate
    obtain ⟨t, busy, hexec, hbusy, ht⟩ := exec_axisUpdate_halts (r := r) hlim hto (by decide) hrep hupdate hempty hy
      (Axis.nextRun_judged rfl |>.trans hrun.symm) hcalm ho ⟨hhalt, hwait⟩
    have hno : busy = false := Bool.eq_false_iff.2 fun h => by
      obtain ⟨b, hb, hbx, hbb⟩ := hbusy.1 h
      rw [hrest b hb hbx] at hbb
      cases hbb
    have hx := ht.exhibit
    have hsrc := ht.source
    rw [State.haltsAlone_afterHalt s e hno] at hx hsrc
    exact ⟨t, hexec, by rw [ht.axis]; rfl, by rw [hx]; rfl, hsrc, ht.otherExhibits, ht.others, ht.form_halt⟩
  · obtain ⟨z, hexec, hz, hreports⟩ := exec_axisUpdate_marks hst hy hm hlim hrep hstep hrun hcalm hne
    have ht := exec_axisUpdate_crossed hz hrep hreports ho ⟨hwait, hstatus, hfr⟩ hcur ((congrArg (tget · k) (Axis.marks_of_config hy)).trans hmark)
      hside hcross htime
    refine ⟨_, hexec, ?_, by rw [ht.axis]; rfl, by rw [ht.axis]; exact hst, ?_, ht.otherExhibits, ht.others, ?_⟩
    · rw [ht.slot]
      exact Slot.waitingAt_waitsTime hfr _ _
    · rw [ht.axis]
      show tget (sidesAt y.marks p) k = _
      unfold sidesAt
      rw [tget_tmap, hmark]
      rfl
    · have hform := ht.form_slots
      rw [ht.pool] at hform
      exact hform
  · obtain ⟨z, hexec, hz, hreports⟩ := exec_axisUpdate_marks hst hy hm hlim hrep hstep hrun hcalm hne
    have ht := exec_axisUpdate_uncrossed hz hrep hreports ho ⟨hwait, hstatus, hfr⟩ ((congrArg (tget · k) (Axis.marks_of_config hy)).trans hmark)
      hside hcross
    refine ⟨_, hexec, ?_, by rw [ht.axis]; rfl, ht.others, ht.form_axes⟩
    rw [ht.form_axes]
    rfl
  · obtain ⟨u, hto, -, hcomplete⟩ := State.updateStopping_rest hy hst hdir hv hn hp hstop
    have hdrive := State.driveUpdate_stopping hst hm
    rw [hb, Option.getD_some] at hdrive
    obtain ⟨kind, -, -, hkind⟩ := hcomplete (fun t i h => by rw [hreq] at h; cases h)
    obtain ⟨t, busy, hexec, hbusy, ht⟩ := exec_axisUpdate_halts (r := r) hlim hto (by decide) hrep (hdrive.trans hkind) hempty hy
      (Axis.nextRun_judged rfl |>.trans hrun.symm) hcalm ho ⟨hhalt, hwait⟩
    have hx := ht.exhibit
    have hsrc := ht.source
    refine ⟨t, hexec, ?_, by rw [ht.pool, Pool.returned_free], by rw [ht.pool, Pool.returned_held], by rw [ht.pool, Pool.returned_waiting, hempty],
      fun hrest => ?_, fun hbusy' => ?_, ht.slot, ht.otherExhibits, ht.others, fun ch hch => ht.channel ch fun hl => ?_,
      fun k _ => ht.word k, ht.form_halt⟩
    · have haxis := ht.axis
      rw [← Axis.without_request hreq]
      exact haxis
    · have hno : busy = false := Bool.eq_false_iff.2 fun h => by
        obtain ⟨b, hb, hbx, hbb⟩ := hbusy.1 h
        rw [hrest b hb hbx] at hbb
        cases hbb
      rw [State.haltsAlone_afterHalt s e hno] at hx hsrc
      exact ⟨hx.trans (Exhibit.entering_plain (st := .ready) _ rfl), hsrc⟩
    · rw [hbusy.2 hbusy'] at hx hsrc
      exact ⟨hx, hsrc⟩
    · exact hch (Exhibit.isReadyLamp_config (x := (s.exhibit e).entering .ready) hl)
  · obtain ⟨u, hto, -, hcomplete⟩ := State.updateStopping_rest hy hst hdir hv hn hp hstop
    have hdrive := State.driveUpdate_stopping hst hm
    rw [hb, Option.getD_some] at hdrive
    have hreq : ∀ t i, (s.axis x).request = some (.move t i) → t = p := fun t i ht => by
      obtain ⟨-, h⟩ | ⟨-, j, h⟩ := hw
      · rw [h] at ht; cases ht
      · rw [h] at ht
        injection ht with ht
        injection ht with ht
        exact ht.symm
    obtain ⟨kind, -, hmove, hkind⟩ := hcomplete hreq
    have hw' : s.AwaitsAxis e x w := ⟨hwait, hstatus, hfr, by
      obtain ⟨rfl, -⟩ | ⟨rfl | rfl, -⟩ := hw
      · exact .inr rfl
      · exact .inr rfl
      · exact .inl ⟨_, rfl⟩⟩
    obtain ⟨t, hexec, ht⟩ := exec_axisUpdate_awaited (r := r) hlim hto (by decide) hrep (hdrive.trans hkind) hempty hy
      (Axis.nextRun_judged rfl |>.trans hrun.symm) hcalm ho hw' (by
        obtain ⟨rfl, -⟩ | ⟨rfl | rfl, hreq⟩ := hw
        · exact .inl rfl
        · exact .inl rfl
        · exact .inr ⟨_, hmove hreq, rfl⟩) hhalt hcur htime
    refine ⟨t, hexec, by rw [ht.axis]; rfl, by rw [ht.axis]; rfl, by rw [ht.axis]; rfl, ?_, by rw [ht.slot]; rfl, ht.otherExhibits, ht.others,
      ht.form_slots⟩
    rw [ht.slot]
    exact Slot.waitingAt_waitsTime hfr _ _
  · by_cases hhalt : (s.exhibit e).state = .halting
    · obtain ⟨t, ex, src, L, hexec, ht⟩ := exec_indexEvent_halting hst hph hy ho hrep hempty ⟨hwait, hstatus, hfr, .inl ⟨_, rfl⟩⟩ hhalt hcur htime
      refine ⟨t, hexec, by rw [ht.axis]; rfl, by rw [ht.axis]; rfl, ?_, ht.otherExhibits, ht.others⟩
      rw [ht.slot]
      exact Slot.waitingAt_waitsTime hfr _ _
    · obtain ⟨t, hexec, ht⟩ := exec_indexEvent_awaited hst hph hy ho hrep hempty ⟨hwait, hstatus, hfr, .inl ⟨_, rfl⟩⟩ hhalt hcur htime
      refine ⟨t, hexec, by rw [ht.axis]; rfl, by rw [ht.axis]; rfl, ?_, ht.otherExhibits, ht.others⟩
      rw [ht.slot]
      exact Slot.waitingAt_waitsTime hfr _ _

end Sys2Proof.Machine
end

section
/-! What the holds under way meet when CONFIGURE GALLERY brings new values (R34), button by button. -/

namespace Sys2Proof.Machine

/-! ### What a long press and a stuck moment leave alone -/

/-- What an act of the buttons leaves to the order unit and to the passes that follow. -/
structure PressKeeps (s t : State) : Prop where
  cells : KeepsCells s t
  reports : t.reports = s.reports
  deck : t.deck = s.deck
  params : t.params = s.params

theorem PressKeeps.refl (s : State) : PressKeeps s s := ⟨⟨rfl, fun _ _ _ => rfl⟩, rfl, rfl, rfl⟩

theorem PressKeeps.trans {s t u : State} (h : PressKeeps s t) (k : PressKeeps t u) : PressKeeps s u :=
  ⟨⟨k.cells.1.trans h.cells.1, fun n hn h3 => (k.cells.2 n hn h3).trans (h.cells.2 n hn h3)⟩, k.reports.trans h.reports, k.deck.trans h.deck,
    k.params.trans h.params⟩

theorem PressKeeps.setButton (s : State) (b : ButtonNo) (x : Button) : PressKeeps s (s.setButton b x) :=
  ⟨⟨rfl, fun _ _ _ => rfl⟩, rfl, rfl, rfl⟩

theorem AlertAct.pressKeeps {s t : State} (h : AlertAct s t) : PressKeeps s t ∧ t.buttons = s.buttons := by
  have hcells := h.keepsDesk.cells
  obtain ⟨hform, -⟩ := h
  exact ⟨⟨hcells, by rw [hform], by rw [hform], by rw [hform]⟩, by rw [hform]⟩

theorem State.countIgnored_pressKeeps (s : State) (e : ExhibitNo) :
    PressKeeps s (s.countIgnored e) ∧ (s.countIgnored e).buttons = s.buttons := by
  obtain ⟨-, hword, hform⟩ := s.countIgnored_spec e
  refine ⟨⟨⟨by rw [hform], fun k hk _ => hword k ?_⟩, by rw [hform], by rw [hform], by rw [hform]⟩, by rw [hform]⟩
  simp only [OutsideExhibit, Outside, addrExhibitImage]
  omega

/-- A long action judged writes neither buttons nor cells (R41, R42). -/
theorem State.judge_long (s : State) (l : LongAction) :
    PressKeeps s (s.judge l.action).state ∧ (s.judge l.action).state.buttons = s.buttons := by
  cases l with
  | none => exact ⟨.refl s, rfl⟩
  | call e =>
    show PressKeeps s (s.callPress e).state ∧ (s.callPress e).state.buttons = s.buttons
    unfold State.callPress
    split
    · exact s.countIgnored_pressKeeps e
    · exact s.countIgnored_pressKeeps e
    all_goals exact (s.raise_act _ _ _ _).pressKeeps
  | ack st =>
    show PressKeeps s (s.ackPress st).state ∧ (s.ackPress st).state.buttons = s.buttons
    unfold State.ackPress
    split
    · exact (s.acknowledge_act _).pressKeeps
    · exact ⟨.refl s, rfl⟩

theorem State.countDropped_long (s : State) (l : LongAction) :
    PressKeeps s (s.countDropped l.action) ∧ (s.countDropped l.action).buttons = s.buttons := by
  cases l with
  | none => exact ⟨.refl s, rfl⟩
  | call e => exact s.countIgnored_pressKeeps e
  | ack st => exact ⟨.refl s, rfl⟩

/-- An act at one button: the button is left `x` but for its lockout, and every other as it was. -/
structure ButtonAct (s t : State) (b : ButtonNo) (x : Button) : Prop where
  keeps : PressKeeps s t
  own : t.button b = { x with lockout := (t.button b).lockout }
  others : ∀ c, c ≠ b → t.button c = s.button c

theorem ButtonAct.setButton (s : State) (b : ButtonNo) (x : Button) : ButtonAct s (s.setButton b x) b x :=
  ⟨.setButton s b x, by rw [s.button_setButton], fun _ hc => s.button_setButton_ne x hc⟩

/-- A further act that leaves the buttons. -/
theorem ButtonAct.then_keeps {s t u : State} {b : ButtonNo} {x : Button} (h : ButtonAct s t b x) (k : PressKeeps t u ∧ u.buttons = t.buttons) :
    ButtonAct s u b x := by
  have hbutton : ∀ c, u.button c = t.button c := fun c => by unfold State.button; rw [k.2]
  exact ⟨h.keeps.trans k.1, by rw [hbutton]; exact h.own, fun c hc => (hbutton c).trans (h.others c hc)⟩

theorem ButtonAct.then_lockout {s t : State} {b : ButtonNo} {x : Button} (h : ButtonAct s t b x) : ButtonAct s (t.startLockout b) b x := by
  unfold State.startLockout
  simp only
  split
  · refine ⟨h.keeps.trans (.setButton ..), ?_, fun c hc => (t.button_setButton_ne _ hc).trans (h.others c hc)⟩
    rw [t.button_setButton]
    exact congrArg (fun y : Button => { y with lockout := some ((t.button b).entry.lockout * 100) }) h.own
  · exact h

/-- The dispatch of a long action, from the button as the press leaves it. -/
theorem State.dispatch_long (s : State) (b : ButtonNo) (x : Button) (l : LongAction) :
    ButtonAct s ((s.setButton b x).dispatch b l.action) b x := by
  have hset := ButtonAct.setButton s b x
  by_cases hnone : l.action = .none
  · rwa [hnone, State.dispatch_none]
  · by_cases hlock : ((s.setButton b x).button b).lockout = none
    · rw [State.dispatch_judged hnone hlock]
      have hjudged := hset.then_keeps ((s.setButton b x).judge_long l)
      split
      · exact hjudged.then_lockout
      · exact hjudged
    · rw [State.dispatch_dropped hnone hlock]
      exact hset.then_keeps ((s.setButton b x).countDropped_long l)

/-- The button that has given its long press. -/
def State.longButton (s : State) (b : ButtonNo) : Button :=
  { s.button b with hold := .longGiven, holdTimer := max (s.button b).holdTimer s.longMs }

theorem State.longPress_act {s : State} {b : ButtonNo} (h : (s.button b).hold = .watched) (hrep : s.reports = []) :
    ButtonAct s (s.longPress b) b (s.longButton b) := by
  have hact := s.dispatch_long b (s.longButton b) (s.button b).entry.longAction
  have hpress : s.longPress b = ((s.setButton b (s.longButton b)).dispatch b (s.button b).entry.longAction.action).settle := if_pos h
  rwa [hpress, State.settle_nil _ (hact.keeps.reports.trans hrep)]

theorem State.stuck_act {s : State} {b : ButtonNo} (h : (s.button b).hold = .plain ∨ (s.button b).hold = .longGiven) :
    ButtonAct s (s.stuck b) b (s.stuckButton b) ∧ ((s.stuck b).button b).lockout = (s.button b).lockout := by
  have hstuck : s.stuck b = (s.setButton b (s.stuckButton b)).raise (s.stuckSource (s.button b).entry) .buttonStuck 0 1 := if_pos h
  have hraise := ((s.setButton b (s.stuckButton b)).raise_act (s.stuckSource (s.button b).entry) .buttonStuck 0 1).pressKeeps
  rw [hstuck]
  refine ⟨(ButtonAct.setButton s b _).then_keeps hraise, ?_⟩
  exact (congrArg (fun v => (tget v b).lockout) hraise.2).trans (congrArg Button.lockout (s.button_setButton b _))

/-! ### A button whose hold meets the new values -/

/-- The hold has passed the long threshold (R28). -/
abbrev Button.PastLong (x : Button) (long : Nat) : Prop := x.hold = .watched ∧ long ≤ x.holdTimer

/-- The hold has passed the stuck time (R29). -/
abbrev Button.PastStuck (x : Button) (stuck : Nat) : Prop := (x.hold = .plain ∨ x.hold = .longGiven) ∧ stuck ≤ x.holdTimer

/-- The button after the new values have met its hold. -/
def Button.met (x : Button) (long stuck : Nat) : Button :=
  if x.PastLong long then (if stuck ≤ x.holdTimer then { x with hold := .stuck } else { x with hold := .longGiven })
  else if x.PastStuck stuck then { x with hold := .stuck } else x

theorem State.holdMeetsParams_still {s : State} {b : ButtonNo} (hlong : ¬ (s.button b).PastLong s.longMs)
    (hstuck : ¬ (s.button b).PastStuck s.stuckMs) : s.holdMeetsParams b = s := by
  unfold State.holdMeetsParams
  simp only
  rw [if_neg hlong, if_neg hstuck]

theorem State.holdMeetsParams_stuck {s : State} {b : ButtonNo} (h : (s.button b).PastStuck s.stuckMs) : s.holdMeetsParams b = s.stuck b := by
  have hlong : ¬ (s.button b).PastLong s.longMs := fun hl => by
    obtain ⟨hp | hg, -⟩ := h
    · simp [hl.1] at hp
    · simp [hl.1] at hg
  unfold State.holdMeetsParams
  simp only
  rw [if_neg hlong, if_pos h]

/-- A hold past its long threshold gives its long press, and is stuck at once when it is past the stuck time too. -/
theorem State.holdMeetsParams_long {s : State} {b : ButtonNo} (h : (s.button b).PastLong s.longMs) (hrep : s.reports = []) :
    (((s.longPress b).button b).PastStuck (s.longPress b).stuckMs ↔ s.stuckMs ≤ (s.button b).holdTimer) ∧
      s.holdMeetsParams b = if s.stuckMs ≤ (s.button b).holdTimer then (s.longPress b).stuck b else s.longPress b := by
  have hact := State.longPress_act h.1 hrep
  have hstuck : (s.longPress b).stuckMs = s.stuckMs := congrArg (·.stuckTime * 1000) hact.keeps.params
  have hown := hact.own
  have hpast : ((s.longPress b).button b).PastStuck (s.longPress b).stuckMs ↔ s.stuckMs ≤ (s.button b).holdTimer := by
    rw [hstuck, hown]
    simp [Button.PastStuck, State.longButton, max_eq_left h.2]
  refine ⟨hpast, ?_⟩
  unfold State.holdMeetsParams
  simp only
  rw [if_pos h]
  exact if_congr hpast rfl rfl

/-- The new values meet one hold. -/
theorem State.holdMeetsParams_act {s : State} (b : ButtonNo) (hrep : s.reports = []) :
    ButtonAct s (s.holdMeetsParams b) b ((s.button b).met s.longMs s.stuckMs) ∧
      (¬ (s.button b).PastLong s.longMs → ((s.holdMeetsParams b).button b).lockout = (s.button b).lockout) := by
  unfold Button.met
  by_cases hlong : (s.button b).PastLong s.longMs
  · have hact := State.longPress_act hlong.1 hrep
    obtain ⟨hpast, hmeets⟩ := State.holdMeetsParams_long hlong hrep
    have hbutton : s.longButton b = { s.button b with hold := .longGiven } := by
      unfold State.longButton
      rw [max_eq_left hlong.2]
    refine ⟨?_, fun h => absurd hlong h⟩
    rw [if_pos hlong, hmeets]
    by_cases hstuck : s.stuckMs ≤ (s.button b).holdTimer
    · rw [if_pos hstuck, if_pos hstuck]
      obtain ⟨kact, -⟩ := State.stuck_act (hpast.2 hstuck).1
      refine ⟨hact.keeps.trans kact.keeps, ?_, fun c hc => (kact.others c hc).trans (hact.others c hc)⟩
      have hown := kact.own
      unfold State.stuckButton at hown
      rw [max_eq_left (hpast.2 hstuck).2, hact.own, hbutton] at hown
      exact hown
    · rw [if_neg hstuck, if_neg hstuck, ← hbutton]
      exact hact
  · by_cases hstuck : (s.button b).PastStuck s.stuckMs
    · rw [if_neg hlong, if_pos hstuck, State.holdMeetsParams_stuck hstuck]
      obtain ⟨kact, klock⟩ := State.stuck_act hstuck.1
      have hbutton : s.stuckButton b = { s.button b with hold := .stuck } := by
        unfold State.stuckButton
        rw [max_eq_left hstuck.2]
      exact ⟨hbutton ▸ kact, fun _ => klock⟩
    · rw [if_neg hlong, if_neg hstuck, State.holdMeetsParams_still hlong hstuck]
      exact ⟨⟨.refl s, rfl, fun _ _ => rfl⟩, fun _ => rfl⟩

/-! ### The passes over the 256 buttons (R34) -/

/-- The passes have met the holds of the buttons done and no other. -/
structure HoldsMet (s : State) (long stuck : Nat) (done : List ButtonNo) (t : State) : Prop where
  keeps : PressKeeps s t
  met : ∀ b ∈ done, t.button b = { (s.button b).met long stuck with lockout := (t.button b).lockout } ∧
    (¬ (s.button b).PastLong long → (t.button b).lockout = (s.button b).lockout)
  left : ∀ b, b ∉ done → t.button b = s.button b

theorem State.holdsMet (s : State) (hrep : s.reports = []) :
    HoldsMet s s.longMs s.stuckMs (List.finRange 256) (forEach 256 (fun b t => t.holdMeetsParams b) s) := by
  refine forEach_progress (HoldsMet s s.longMs s.stuckMs) ⟨.refl s, by simp, fun _ _ => rfl⟩ fun done b t hb h => ?_
  obtain ⟨hact, hlock⟩ := State.holdMeetsParams_act (s := t) b (h.keeps.reports.trans hrep)
  have hlong : t.longMs = s.longMs := congrArg (·.longThreshold * 100) h.keeps.params
  have hstuck : t.stuckMs = s.stuckMs := congrArg (·.stuckTime * 1000) h.keeps.params
  rw [hlong, hstuck, h.left b hb] at hact
  rw [hlong, h.left b hb] at hlock
  refine ⟨h.keeps.trans hact.keeps, fun c hc => ?_, fun c hc => ?_⟩
  · obtain hc | hc := List.mem_append.1 hc
    · rw [hact.others c (fun he => hb (he ▸ hc))]
      exact h.met c hc
    · rw [List.mem_singleton.1 hc]
      exact ⟨hact.own, hlock⟩
  · rw [List.mem_append, List.mem_singleton, not_or] at hc
    exact (hact.others c hc.2).trans (h.left c hc.1)

/-- A button at rest, open or stuck: new values do not meet it. -/
abbrev State.HoldRests (s : State) (c : ButtonNo) : Prop := (s.button c).hold = .opened ∨ (s.button c).hold = .stuck

theorem State.holdMeetsParams_rests {s : State} {c : ButtonNo} (h : s.HoldRests c) : s.holdMeetsParams c = s := by
  refine State.holdMeetsParams_still (fun ⟨hl, _⟩ => ?_) fun ⟨hs, _⟩ => ?_
  · obtain h | h := h <;> simp [hl] at h
  · obtain h | h := h <;> simp [h] at hs

/-- With every other button open or stuck, the passes are that of the one button. -/
theorem State.holdMeetsParams_sole {s : State} {b : ButtonNo} (hrep : s.reports = []) (h : ∀ c, c ≠ b → s.HoldRests c) :
    forEach 256 (fun b t => t.holdMeetsParams b) s = s.holdMeetsParams b := by
  have hpasses := forEach_progress (f := fun b t => State.holdMeetsParams t b) (s := s)
    (fun done t => (b ∉ done → t = s) ∧ (b ∈ done → t = s.holdMeetsParams b)) ⟨fun _ => rfl, by simp⟩ fun done c t hc ht => ?_
  · exact hpasses.2 (List.mem_finRange b)
  · by_cases hcb : c = b
    · subst hcb
      exact ⟨fun hn => absurd (by simp) hn, fun _ => by rw [ht.1 hc]⟩
    · have hbutton : t.button c = s.button c := by
        by_cases hb : b ∈ done
        · rw [ht.2 hb]
          exact (State.holdMeetsParams_act b hrep).1.others c hcb
        · rw [ht.1 hb]
      have hsame : t.holdMeetsParams c = t := State.holdMeetsParams_rests (by unfold State.HoldRests; rw [hbutton]; exact h c hcb)
      rw [hsame]
      simpa [Ne.symm hcb] using ht

/-- With every button open or stuck the passes change nothing. -/
theorem State.holdMeetsParams_none {s : State} (h : ∀ c, s.HoldRests c) : forEach 256 (fun b t => t.holdMeetsParams b) s = s :=
  forEach_progress (f := fun b t => State.holdMeetsParams t b) (s := s) (fun _ t => t = s) rfl fun _ c t _ ht => by
    subst ht
    exact State.holdMeetsParams_rests (h c)

end Sys2Proof.Machine
end

section
/-! CONFIGURE GALLERY, CONFIGURE BUTTONS and CONFIGURE GROUPS (R31 to R34, R43): O24. -/

namespace Sys2Proof.Machine

/-! ### CONFIGURE GALLERY (R33, R34) -/

theorem galleryRow : RowOf 0x02 State.orderConfigureGallery := fun _ => rfl

/-- The parameters a gallery record names. -/
abbrev galleryParams (n l k : Nat) : GalleryParams := { debounce := n, longThreshold := l, stuckTime := k }

/-- Each field of the gallery record lies in its range (Table 2-4). -/
abbrev GalleryValid (n l k : Nat) : Prop := (2 ≤ n ∧ n ≤ 15) ∧ (5 ≤ l ∧ l ≤ 50) ∧ 10 ≤ k ∧ k ≤ 255

section
variable {s : State} {w1 w2 n l k : Nat} (hn : (s.word 0x0120).toNat = n) (hl : (s.word 0x0121).toNat = l) (hk : (s.word 0x0122).toNat = k)

include hn hl hk in
theorem State.galleryFieldFault_eq :
    s.galleryFieldFault = if n < 2 ∨ 15 < n then some 1 else if l < 5 ∨ 50 < l then some 2 else if k < 10 ∨ 255 < k then some 3 else none := by
  subst hn hl hk
  rfl

include hn hl hk in
theorem State.takeGalleryRecord_eq :
    s.takeGalleryRecord = forEach 256 (fun b t => t.holdMeetsParams b) (s.setParams (galleryParams n l k)) := by
  subst hn hl hk
  rfl

include hn hl hk in
/-- A valid record: what the passes leave, and the answer. -/
theorem exec_configureGallery_taken (hcell : s.AtCell 0x02 w1 w2) (hp : s.part = .run) (hvalid : GalleryValid n l k) {v : State}
    (hv : forEach 256 (fun b t => t.holdMeetsParams b) (s.setParams (galleryParams n l k)) = v) :
    ∃ t, exec .configureGallery s = .next t ∧ s.Answered t 0x02 0 0 ∧ t.params = galleryParams n l k ∧
      HoldsMet (s.setParams (galleryParams n l k)) (l * 100) (k * 1000) (List.finRange 256) v ∧ (∀ j, j < 16384 → s.NotOfCell j → t.word j = v.word j) ∧
      t = { v with ram := t.ram, deck := t.deck, attn := t.attn } := by
  obtain ⟨-, -, -, -, -, hrep⟩ := id hcell
  have hmet : HoldsMet (s.setParams (galleryParams n l k)) (l * 100) (k * 1000) (List.finRange 256) v := hv ▸ State.holdsMet _ hrep
  obtain ⟨hcells, hreports, hdeck, hparams⟩ := hmet.keeps
  obtain ⟨t, hexec, hans, hword, hform⟩ := galleryRow.taken_over hcell hp (r := .taken) (d := 0) (by omega) (u := v) (v := v)
    (fun v1 v2 _ _ => by
      obtain ⟨h1, h2, h3⟩ := hvalid
      unfold State.orderConfigureGallery
      rw [State.galleryFieldFault_eq hn hl hk, if_neg (by omega), if_neg (by omega), if_neg (by omega), State.takeGalleryRecord_eq hn hl hk, hv]
      rfl)
    (State.settle_nil v (hreports.trans hrep)) hcells hdeck
  refine ⟨t, hexec, hans, ?_, hmet, hword, hform⟩
  rw [hform]
  exact hparams

include hn hl hk in
/-- An invalid record is answered with its first fault. -/
theorem exec_configureGallery_bad (hcell : s.AtCell 0x02 w1 w2) (hp : s.part = .run) {m : Nat} (hm : m < 65536)
    (hfault : (if n < 2 ∨ 15 < n then some 1 else if l < 5 ∨ 50 < l then some 2 else if k < 10 ∨ 255 < k then some 3 else none) = some m) :
    ∃ t, exec .configureGallery s = .next t ∧ s.Answered t 0x02 4 m ∧ s.OnlyAnswered t :=
  galleryRow.answered hcell hp (r := .badValue) hm fun v1 v2 _ _ => by
    unfold State.orderConfigureGallery
    rw [State.galleryFieldFault_eq hn hl hk, hfault]

end

/-- What the new values make of a hold, by the hold it was. -/
theorem Button.met_hold (x : Button) (long stuck : Nat) : x.met long stuck = { x with hold := (x.met long stuck).hold } := by
  unfold Button.met
  split_ifs <;> rfl

theorem Button.met_watched {x : Button} (long stuck : Nat) (h : x.hold = .watched) :
    (x.met long stuck).hold = if long ≤ x.holdTimer then (if stuck ≤ x.holdTimer then .stuck else .longGiven) else .watched := by
  unfold Button.met
  by_cases hlong : long ≤ x.holdTimer
  · rw [if_pos ⟨h, hlong⟩, if_pos hlong]
    split_ifs <;> rfl
  · rw [if_neg (fun hp => hlong hp.2), if_neg (fun ⟨hp, _⟩ => by simp [h] at hp), if_neg hlong, h]

theorem Button.met_given {x : Button} (long stuck : Nat) (h : x.hold = .plain ∨ x.hold = .longGiven) :
    (x.met long stuck).hold = if stuck ≤ x.holdTimer then .stuck else x.hold := by
  have hlong : ¬ x.PastLong long := fun ⟨hw, _⟩ => by simp [hw] at h
  unfold Button.met
  rw [if_neg hlong]
  by_cases hstuck : stuck ≤ x.holdTimer
  · rw [if_pos ⟨h, hstuck⟩, if_pos hstuck]
  · rw [if_neg (fun hp => hstuck hp.2), if_neg hstuck]

theorem Button.met_rests {x : Button} (long stuck : Nat) (h : x.hold = .opened ∨ x.hold = .stuck) : (x.met long stuck).hold = x.hold := by
  have hlong : ¬ x.PastLong long := fun ⟨hw, _⟩ => by simp [hw] at h
  have hstuck : ¬ x.PastStuck stuck := fun ⟨hw, _⟩ => by obtain h | h := h <;> simp [h] at hw
  unfold Button.met
  rw [if_neg hlong, if_neg hstuck]

/-- The hold that new values leave, as the manual lists the holds (R34). -/
theorem Button.met_cases (x : Button) (long stuck : Nat) :
    (x.hold = .watched → (x.met long stuck).hold =
      if long ≤ x.holdTimer then (if stuck ≤ x.holdTimer then .stuck else .longGiven) else .watched) ∧
    (x.hold = .plain → (x.met long stuck).hold = if stuck ≤ x.holdTimer then .stuck else .plain) ∧
    (x.hold = .longGiven → (x.met long stuck).hold = if stuck ≤ x.holdTimer then .stuck else .longGiven) ∧
    (x.hold = .opened → (x.met long stuck).hold = .opened) ∧ (x.hold = .stuck → (x.met long stuck).hold = .stuck) :=
  ⟨Button.met_watched long stuck, fun h => h ▸ Button.met_given long stuck (.inl h), fun h => h ▸ Button.met_given long stuck (.inr h),
    fun h => (Button.met_rests long stuck (.inl h)).trans h, fun h => (Button.met_rests long stuck (.inr h)).trans h⟩

/-! ### CONFIGURE BUTTONS (R31, R32) -/

theorem buttonsRow : RowOf 0x05 State.orderConfigureButtons := fun _ => rfl

/-- The lowest number that meets a test is found when no lower one meets it. -/
theorem lowest_eq_some {n : Nat} {p : Fin n → Bool} {i : Fin n} (hi : p i = true) (hlow : ∀ j, j < i → p j = false) : lowest n p = some i := by
  unfold lowest
  refine find?_of_getElem? (i := i.val) (by simp) hi fun z hz => ?_
  obtain ⟨j, hj, rfl⟩ := List.mem_iff_getElem.1 hz
  rw [List.getElem_take, List.getElem_finRange]
  rw [List.length_take] at hj
  rw [hlow _ (Fin.lt_def.2 (by simp; omega))]

theorem State.buttonMapFault_none {s : State} (h : ∀ b, (s.readButton b).isSome = true) : s.buttonMapFault = none := by
  unfold State.buttonMapFault lowest
  refine List.find?_eq_none.2 fun b _ => ?_
  obtain ⟨x, hx⟩ := Option.isSome_iff_exists.1 (h b)
  simp [hx]

theorem State.buttonMapFault_some {s : State} {b : ButtonNo} (hb : s.readButton b = none) (hlow : ∀ c < b, (s.readButton c).isSome = true) :
    s.buttonMapFault = some b :=
  lowest_eq_some (by rw [hb]; rfl) fun c hc => by
    obtain ⟨x, hx⟩ := Option.isSome_iff_exists.1 (hlow c hc)
    rw [hx]
    rfl

theorem State.takeButtonMap_form (s : State) : s.takeButtonMap = { s with buttons := s.takeButtonMap.buttons } := rfl

theorem State.takeButtonMap_button (s : State) (b : ButtonNo) :
    s.takeButtonMap.button b = { s.button b with entry := (s.readButton b).getD (s.button b).entry } := by
  unfold State.takeButtonMap State.button
  rw [tget_tmap]

/-! ### CONFIGURE GROUPS (R43) -/

theorem State.takeGroups_form (s : State) : s.takeGroups = { s with groups := s.takeGroups.groups } := rfl

theorem State.takeGroups_group (s : State) (g : Fin 8) : tget s.takeGroups.groups g = s.readGroup g := by
  unfold State.takeGroups
  exact tget_tmap (fun g _ => s.readGroup g) s.groups g

theorem groupsRow : RowOf 0x06 State.orderConfigureGroups := fun _ => rfl

/-- Bit 16·q + r of three words in a row is bit r of word q. -/
theorem testBit_words {a b c : Nat} (ha : a < 65536) (hb : b < 65536) (i : Nat) :
    (a + 65536 * b + 4294967296 * c).testBit i =
      if i < 16 then a.testBit i else if i < 32 then b.testBit (i - 16) else c.testBit (i - 32) := by
  have hsplit : a + 65536 * b + 4294967296 * c = 2 ^ 16 * (2 ^ 16 * c + b) + a := by omega
  rw [hsplit, Nat.testBit_two_pow_mul_add _ (by simpa using ha), Nat.testBit_two_pow_mul_add _ (by simpa using hb)]
  by_cases h1 : i < 16
  · rw [if_pos h1, if_pos h1]
  · rw [if_neg h1, if_neg h1]
    by_cases h2 : i < 32
    · rw [if_pos h2, if_pos (by omega)]
    · rw [if_neg h2, if_neg (by omega), Nat.sub_sub]

theorem State.readGroup_bit (s : State) (g : Fin 8) (e : ExhibitNo) :
    (s.readGroup g).getLsbD e.val = (s.word (0x0B30 + 4 * g.val + e.val / 16)).getLsbD (e.val % 16) := by
  unfold State.readGroup addrGroup
  rw [BitVec.getLsbD_ofNat, testBit_words (s.word _).isLt (s.word _).isLt, decide_eq_true e.isLt, Bool.true_and]
  by_cases h1 : e.val < 16
  · rw [if_pos h1, show e.val / 16 = 0 by omega, show e.val % 16 = e.val by omega]
    rfl
  · rw [if_neg h1]
    by_cases h2 : e.val < 32
    · rw [if_pos h2, show e.val / 16 = 1 by omega, show e.val % 16 = e.val - 16 by omega]
      rfl
    · rw [if_neg h2, show e.val / 16 = 2 by omega, show e.val % 16 = e.val - 32 by omega]
      rfl

/-- Settles O24, from what one pass leaves of its button and of the buttons that follow. -/
theorem configureGalleryButtonsGroups : Obligations.ConfigureGalleryButtonsGroups := by
  refine ⟨fun s w1 w2 n l k hcell hp hn hl hk => ⟨fun hvalid => ?_, fun hbad => ?_, fun _ hbad => ?_, fun _ _ hbad => ?_⟩,
    fun s w1 w2 n l k hcell hp hn hl hk hvalid => ?_, fun s w1 w2 hcell hp hall => ?_, fun s w1 w2 b hcell hp hb hlow => ?_,
    fun s w1 w2 hcell hp => ?_⟩
  · obtain ⟨t, hexec, hans, hparams, -, hword, hform⟩ := exec_configureGallery_taken hn hl hk hcell hp hvalid rfl
    refine ⟨t, hexec, hans, hparams, fun hrests => ?_⟩
    have hstill := State.holdMeetsParams_none (s := s.setParams (galleryParams n l k)) hrests
    rw [hstill] at hword hform
    rw [hparams]
    exact ⟨hword, hform⟩
  · exact exec_configureGallery_bad hn hl hk hcell hp (by omega) (if_pos hbad)
  · exact exec_configureGallery_bad hn hl hk hcell hp (by omega) (by rw [if_neg (by omega), if_pos hbad])
  · exact exec_configureGallery_bad hn hl hk hcell hp (by omega) (by rw [if_neg (by omega), if_neg (by omega), if_pos hbad])
  · obtain ⟨-, -, -, -, -, hrep⟩ := id hcell
    obtain ⟨v, hv⟩ : ∃ v, forEach 256 (fun b t => t.holdMeetsParams b) (s.setParams (galleryParams n l k)) = v := ⟨_, rfl⟩
    obtain ⟨t, hexec, hans, hparams, hmet, -, hform⟩ := exec_configureGallery_taken hn hl hk hcell hp hvalid hv
    have hbutton : ∀ b, t.button b = v.button b := fun b => by rw [hform]; rfl
    refine ⟨t, hexec, hans, hparams, fun b => ?_, fun b hrests => ?_⟩
    · obtain ⟨hown, hlock⟩ := hmet.met b (List.mem_finRange b)
      rw [← hbutton] at hown hlock
      rw [Button.met_hold] at hown
      obtain ⟨hwatched, hplain, hgiven, hopened, hstuck⟩ := (s.button b).met_cases (l * 100) (k * 1000)
      refine ⟨hown.trans (congrArg (fun h => { s.button b with lockout := (t.button b).lockout, hold := h }) ?_), fun hshort => hlock ?_⟩
      · cases hhold : (s.button b).hold with
        | opened => exact hopened hhold
        | watched => exact hwatched hhold
        | plain => exact hplain hhold
        | longGiven => exact hgiven hhold
        | stuck => exact hstuck hhold
      · rintro ⟨hw, hlong⟩
        obtain h | h := hshort
        · exact h hw
        · exact absurd h (Nat.not_lt.2 hlong)
    · have hsole := State.holdMeetsParams_sole (s := s.setParams (galleryParams n l k)) (b := b) hrep hrests
      rw [hv] at hsole
      have hsame : ∀ u, v = u → t.button b = u.button b ∧ t.alerts = u.alerts ∧ t.exhibits = u.exhibits ∧ t.stations = u.stations ∧
          t.gallery = u.gallery := fun u hu => by
        rw [hform, hu]
        exact ⟨rfl, rfl, rfl, rfl, rfl⟩
      rw [hparams]
      refine ⟨fun hwatched hlong hshort => ⟨_, rfl, hsame _ ?_⟩, fun hhold hstuck => ⟨_, rfl, hsame _ ?_⟩⟩
      · rw [hsole, (State.holdMeetsParams_long (s := s.setParams (galleryParams n l k)) ⟨hwatched, hlong⟩ hrep).2]
        exact if_neg (Nat.not_le.2 hshort)
      · rw [hsole, State.holdMeetsParams_stuck (s := s.setParams (galleryParams n l k)) ⟨hhold, hstuck⟩]
        rfl
  · obtain ⟨-, -, -, -, -, hrep⟩ := id hcell
    have hbutton := s.takeButtonMap_button
    have horder : ∀ v1 v2 : Word, State.orderConfigureButtons v1 v2 s = s.takeButtonMap.answer .taken 0 := fun v1 v2 => by
      unfold State.orderConfigureButtons
      rw [State.buttonMapFault_none hall]
      rfl
    have hmap := s.takeButtonMap_form
    generalize s.takeButtonMap = v at hbutton horder hmap
    obtain ⟨t, hexec, hans, hword, hform⟩ := buttonsRow.taken_over hcell hp (r := .taken) (d := 0) (by omega) (u := v) (v := v)
      (fun v1 v2 _ _ => horder v1 v2) (State.settle_nil v (by rw [hmap]; exact hrep))
      ⟨by rw [hmap], fun _ _ _ => by rw [hmap]; rfl⟩ (by rw [hmap])
    have hbuttons : t.buttons = v.buttons := by rw [hform]
    have htbutton : ∀ b, t.button b = v.button b := fun b => congrArg (tget · b) hbuttons
    refine ⟨t, hexec, hans, fun b => ⟨?_, by rw [htbutton, hbutton]⟩, fun j hj hc => (hword j hj hc).trans (by rw [hmap]; rfl), ?_⟩
    · obtain ⟨x, hx⟩ := Option.isSome_iff_exists.1 (hall b)
      rw [htbutton, hbutton, hx]
      rfl
    · rw [hmap] at hform
      rw [hbuttons]
      exact hform
  · exact buttonsRow.answered hcell hp (r := .badValue) (by omega) fun v1 v2 _ _ => by
      unfold State.orderConfigureButtons
      rw [State.buttonMapFault_some hb hlow]
  · obtain ⟨-, -, -, -, -, hrep⟩ := id hcell
    have hgroup := s.takeGroups_group
    have horder : ∀ v1 v2 : Word, State.orderConfigureGroups v1 v2 s = s.takeGroups.answer .taken 0 := fun _ _ => rfl
    have htable := s.takeGroups_form
    generalize s.takeGroups = v at hgroup horder htable
    obtain ⟨t, hexec, hans, hword, hform⟩ := groupsRow.taken_over hcell hp (r := .taken) (d := 0) (by omega) (u := v) (v := v)
      (fun v1 v2 _ _ => horder v1 v2) (State.settle_nil v (by rw [htable]; exact hrep))
      ⟨by rw [htable], fun _ _ _ => by rw [htable]; rfl⟩ (by rw [htable])
    have hgroups : t.groups = v.groups := by rw [hform]
    refine ⟨t, hexec, hans, fun g e => ?_, fun j hj hc => (hword j hj hc).trans (by rw [htable]; rfl), ?_⟩
    · unfold State.isMember
      rw [hgroups, hgroup]
      exact s.readGroup_bit g e
    · rw [htable] at hform
      rw [hgroups]
      exact hform

end Sys2Proof.Machine
end

section
/-! The lamps an exhibit's record gives up and takes over (R3, R4, R18, R172), layer by layer. -/

namespace Sys2Proof.Machine

/-! ### Channels with layers set anew -/

/-- A channel with layers set anew: its brightness follows when anything changed. -/
abbrev Channel.Relit (table : Vector Pattern 32) (c d : Channel) : Prop :=
  d = { c with showLayer := d.showLayer, readyLayer := d.readyLayer, alertLayer := d.alertLayer, brightness := d.brightness } ∧
    (d = c ∨ d.brightness = combined table d)

theorem Channel.Relit.refl (table : Vector Pattern 32) (c : Channel) : c.Relit table c := ⟨rfl, .inl rfl⟩

theorem Channel.Relit.trans {table : Vector Pattern 32} {c d f : Channel} (h : c.Relit table d) (k : d.Relit table f) : c.Relit table f := by
  obtain ⟨hform, hlight⟩ := h
  obtain ⟨kform, klight⟩ := k
  refine ⟨by rw [kform, hform], ?_⟩
  obtain rfl | hk := klight
  · exact hlight
  · exact .inr hk

theorem Channel.Relit.withLayer (table : Vector Pattern 32) (c : Channel) (n : LayerName) (l : Layer) :
    c.Relit table ((c.withLayer n l).refresh table) := by
  refine ⟨?_, .inr (Channel.refresh_brightness _ _)⟩
  cases n <;> rfl

/-- Every channel is as it was but for layers set anew. -/
structure State.Relit (s t : State) : Prop where
  patterns : t.patterns = s.patterns
  channel : ∀ ch, (s.channel ch).Relit s.patterns (t.channel ch)

theorem State.Relit.refl (s : State) : s.Relit s := ⟨rfl, fun _ => .refl _ _⟩

theorem State.Relit.trans {s t u : State} (h : s.Relit t) (k : t.Relit u) : s.Relit u :=
  ⟨k.patterns.trans h.patterns, fun ch => (h.channel ch).trans (h.patterns ▸ k.channel ch)⟩

theorem State.Relit.of_channels {s t : State} (patterns : t.patterns = s.patterns := by rfl) (channels : t.channels = s.channels := by rfl) :
    s.Relit t := ⟨patterns, fun ch => by unfold State.channel; rw [channels]; exact .refl _ _⟩

theorem State.setLayer_relit (s : State) (ch : ChannelNo) (n : LayerName) (x : Setting) : s.Relit (s.setLayer ch n x) := by
  refine ⟨rfl, fun c => ?_⟩
  rw [State.channel_setLayer]
  by_cases hc : ch = c
  · subst hc
    rw [if_pos rfl]
    exact .withLayer _ _ _ _
  · rw [if_neg hc]
    exact .refl _ _

theorem State.chooseLamp_relit (s : State) (l : Option ChannelNo) (n : LayerName) (x : Setting) : s.Relit (s.chooseLamp l n x) := by
  unfold State.chooseLamp State.chooseLayer
  split
  · exact .refl s
  · split
    · exact .refl s
    · exact s.setLayer_relit _ _ _

theorem State.dropRole_relit (s : State) (n : LayerName) (keep : ChannelNo → Bool) (l : Option ChannelNo) : s.Relit (s.dropRole n keep l) := by
  unfold State.dropRole
  split
  · exact .refl s
  · split
    · exact .refl s
    · exact s.setLayer_relit _ _ _

theorem State.dropRoles_relit (s : State) (old new : Option ExhibitConfig) : s.Relit (s.dropRoles old new) := by
  unfold State.dropRoles
  split
  · exact .refl s
  · exact ((foldl_invariant (State.Relit s) _ (fun t l h => h.trans (t.dropRole_relit _ _ l)) _ s (.refl s)).trans
      (State.dropRole_relit _ _ _ _)).trans (State.dropRole_relit _ _ _ _)

theorem State.evalReady_relit (s : State) (e : ExhibitNo) : s.Relit (s.evalReady e) := by
  unfold State.evalReady
  split
  · exact .refl s
  · exact s.chooseLamp_relit _ _ _

theorem State.refreshBeacon_relit (s : State) (e : ExhibitNo) : s.Relit (s.refreshBeacon e) := by
  unfold State.refreshBeacon
  split
  · exact .refl s
  · exact s.chooseLamp_relit _ _ _

theorem State.refreshSourceBeacon_relit (s : State) (src : SourceNo) : s.Relit (s.refreshSourceBeacon src) := by
  unfold State.refreshSourceBeacon
  split
  · exact .refl s
  · exact s.refreshBeacon_relit _

theorem State.refreshStation_relit (s : State) (st : StationNo) : s.Relit (s.refreshStation st) := by
  unfold State.refreshStation
  exact State.Relit.trans (t := s.setStation st _) .of_channels (State.chooseLamp_relit _ _ _ _)

theorem State.closeAct_relit (s : State) (fresh : List Nat) (sources : List SourceNo) : s.Relit (s.closeAct fresh sources) := by
  unfold State.closeAct
  have hstations := forEach_invariant (State.Relit s) (fun st u => State.refreshStation u st)
    (fun st t ht => ht.trans (t.refreshStation_relit st)) (s.selectAll fresh) .of_channels
  exact (foldl_invariant (State.Relit s) (fun u src => State.refreshSourceBeacon u src)
    (fun t src ht => ht.trans (t.refreshSourceBeacon_relit src)) sources _ hstations).trans .of_channels

theorem State.removeAlerts_relit (s : State) (p : Alert → Bool) : s.Relit (s.removeAlerts p) := by
  unfold State.removeAlerts
  split
  · exact State.Relit.trans (t := s.setAlerts (s.alerts.filter fun x => !p x)) .of_channels (State.closeAct_relit _ _ _)
  · exact .refl s

/-! ### Roles given up (R3, R149, R150) -/

theorem State.dropRole_layer (s : State) (n m : LayerName) (keep : ChannelNo → Bool) (l : Option ChannelNo) (ch : ChannelNo) :
    ((s.dropRole n keep l).channel ch).layer m =
      if l = some ch ∧ keep ch = false ∧ n = m then Layer.reset else (s.channel ch).layer m := by
  cases l with
  | none => exact (if_neg (by simp)).symm
  | some c =>
    show (State.channel (if keep c then s else s.setLayer c n .idle) ch).layer m = _
    by_cases hc : c = ch
    · subst hc
      by_cases hk : keep c = true
      · rw [if_pos hk, if_neg (by simp [hk])]
      · rw [if_neg hk, State.setLayer_layer, startLayer_idle]
        exact if_congr (by simp [Bool.not_eq_true _ ▸ hk]) rfl rfl
    · refine Eq.trans ?_ (if_neg fun h => hc (Option.some.inj h.1)).symm
      split
      · rfl
      · rw [State.setLayer_layer, if_neg fun h => hc h.1]

theorem State.dropShowLamps_layer (s : State) (m : LayerName) (keep : ChannelNo → Bool) (lamps : List (Option ChannelNo)) (ch : ChannelNo) :
    ((lamps.foldl (fun u l => State.dropRole u .showLayer keep l) s).channel ch).layer m =
      if some ch ∈ lamps ∧ keep ch = false ∧ .showLayer = m then Layer.reset else (s.channel ch).layer m := by
  induction lamps generalizing s with
  | nil => exact (if_neg (by simp)).symm
  | cons l lamps ih =>
    refine (ih _).trans ?_
    rw [State.dropRole_layer]
    by_cases hmem : some ch ∈ lamps ∧ keep ch = false ∧ .showLayer = m
    · rw [if_pos hmem, if_pos ⟨List.mem_cons_of_mem _ hmem.1, hmem.2⟩]
    · rw [if_neg hmem]
      refine if_congr ⟨fun h => ⟨by rw [h.1]; simp, h.2⟩, fun h => ⟨?_, h.2⟩⟩ rfl rfl
      obtain h1 | h1 := List.mem_cons.1 h.1
      · exact h1.symm
      · exact absurd ⟨h1, h.2⟩ hmem

/-- What each layer of a channel is when the roles of a record are given up to another record. -/
theorem State.dropRoles_layers (s : State) (old new : Option ExhibitConfig) (ch : ChannelNo) :
    ((s.dropRoles old new).channel ch).showLayer =
        (if old.any (·.namesShowLamp ch) && !new.any (·.namesShowLamp ch) then Layer.reset else (s.channel ch).showLayer) ∧
      ((s.dropRoles old new).channel ch).readyLayer =
        (if old.bind (·.readyLamp) = some ch ∧ new.bind (·.readyLamp) ≠ some ch then Layer.reset else (s.channel ch).readyLayer) ∧
      ((s.dropRoles old new).channel ch).alertLayer =
        (if old.bind (·.beaconLamp) = some ch ∧ new.bind (·.beaconLamp) ≠ some ch then Layer.reset else (s.channel ch).alertLayer) := by
  cases old with
  | none => exact ⟨rfl, (if_neg (by simp)).symm, (if_neg (by simp)).symm⟩
  | some c =>
    have hshow : (new.map fun d => d.namesShowLamp ch).getD false = new.any (·.namesShowLamp ch) := by cases new <;> rfl
    have hready : (new.map fun d => d.readyLamp == some ch).getD false = false ↔ new.bind (·.readyLamp) ≠ some ch := by cases new <;> simp
    have hbeacon : (new.map fun d => d.beaconLamp == some ch).getD false = false ↔ new.bind (·.beaconLamp) ≠ some ch := by cases new <;> simp
    have hlayer : ∀ m, ((s.dropRoles (some c) new).channel ch).layer m = _ := fun m =>
      (State.dropRole_layer _ .alertLayer m _ _ ch).trans (if_congr Iff.rfl rfl ((State.dropRole_layer _ .readyLayer m _ _ ch).trans
        (if_congr Iff.rfl rfl (State.dropShowLamps_layer s m _ _ ch))))
    refine ⟨(hlayer .showLayer).trans ?_, (hlayer .readyLayer).trans ?_, (hlayer .alertLayer).trans ?_⟩
    · rw [if_neg (by simp), if_neg (by simp)]
      refine if_congr ?_ rfl rfl
      rw [hshow]
      simp [ExhibitConfig.namesShowLamp]
    · rw [if_neg (by simp)]
      refine if_congr ?_ rfl (if_neg (by simp))
      rw [hready]
      simp
    · refine if_congr ?_ rfl ((if_neg (by simp)).trans (if_neg (by simp)))
      rw [hbeacon]
      simp

/-! ### Layers chosen -/

/-- A layer chosen: set where its setting differs. -/
def Layer.chosen (l : Layer) (table : Vector Pattern 32) (x : Setting) : Layer := if l.setting = x then l else startLayer table x

theorem Layer.chosen_setting (l : Layer) (table : Vector Pattern 32) (x : Setting) : (l.chosen table x).setting = x := by
  unfold Layer.chosen
  split
  · next h => exact h
  · rfl

theorem Layer.chosen_again (l : Layer) (table : Vector Pattern 32) (x : Setting) : (l.chosen table x).chosen table x = l.chosen table x :=
  if_pos (l.chosen_setting table x)

theorem State.chooseLamp_layer (s : State) (l : Option ChannelNo) (ch : ChannelNo) (n : LayerName) (x : Setting) :
    ((s.chooseLamp l n x).channel ch).layer n =
      if l = some ch then ((s.channel ch).layer n).chosen s.patterns x else (s.channel ch).layer n := by
  cases l with
  | none => rfl
  | some c =>
    show ((s.chooseLayer c n x).channel ch).layer n = _
    unfold State.chooseLayer Layer.chosen
    by_cases hc : c = ch
    · subst hc
      rw [if_pos rfl]
      split
      · rfl
      · rw [State.setLayer_layer, if_pos ⟨rfl, rfl⟩]
    · refine Eq.trans ?_ (if_neg fun h => hc (Option.some.inj h)).symm
      split
      · rfl
      · rw [State.setLayer_layer, if_neg fun h => hc h.1]

theorem State.evalReady_readyLayer (s : State) (e : ExhibitNo) (ch : ChannelNo) :
    ((s.evalReady e).channel ch).readyLayer =
      if (s.exhibit e).inForce.bind (·.readyLamp) = some ch then (s.channel ch).readyLayer.chosen s.patterns (s.readySetting e)
      else (s.channel ch).readyLayer := by
  unfold State.evalReady
  cases (s.exhibit e).inForce with
  | none => rfl
  | some c => exact s.chooseLamp_layer c.readyLamp ch .readyLayer _

theorem State.refreshBeacon_alertLayer (s : State) (e : ExhibitNo) (ch : ChannelNo) :
    ((s.refreshBeacon e).channel ch).alertLayer =
      if (s.exhibit e).inForce.bind (·.beaconLamp) = some ch then (s.channel ch).alertLayer.chosen s.patterns (s.beaconSetting e)
      else (s.channel ch).alertLayer := by
  unfold State.refreshBeacon
  cases (s.exhibit e).inForce with
  | none => rfl
  | some c => exact s.chooseLamp_layer c.beaconLamp ch .alertLayer _

theorem State.refreshBeacon_layer (s : State) (e : ExhibitNo) (ch : ChannelNo) {n : LayerName} (h : n ≠ .alertLayer) :
    ((s.refreshBeacon e).channel ch).layer n = (s.channel ch).layer n := by
  have hsource := s.refreshSourceBeacon_layer (exhibitSource e) ch h
  unfold State.refreshSourceBeacon at hsource
  rwa [sourceExhibit_exhibit] at hsource

end Sys2Proof.Machine
end

section
/-! CONFIGURE EXHIBIT (R2 to R4, R18, R172): O25. -/

namespace Sys2Proof.Machine

/-! ### The ALERT layer of a channel that is no call lamp, as alerts of one exhibit leave -/

/-- No station has the channel as its call lamp. -/
abbrev State.NoCallLamp (s : State) (ch : ChannelNo) : Prop := ∀ st, (s.station st).callLamp ≠ some ch

theorem State.refreshStations_channel {u : State} {ch : ChannelNo} (hcall : u.NoCallLamp ch) :
    (forEach 4 (fun st v => State.refreshStation v st) u).channel ch = u.channel ch := by
  have hkept := forEach_invariant (fun t : State => t.channel ch = u.channel ch ∧ t.NoCallLamp ch) (fun (st : StationNo) v => State.refreshStation v st)
    (fun st t ⟨hch, hno⟩ => ⟨by
      unfold State.refreshStation
      exact (State.chooseLamp_channel_ne _ _ _ (hno st)).trans hch, fun w => by rw [State.refreshStation_callLamp]; exact hno w⟩) u ⟨rfl, hcall⟩
  exact hkept.1

theorem State.refreshStations_form (u : State) :
    forEach 4 (fun st v => State.refreshStation v st) u =
      { u with
        stations := (forEach 4 (fun st v => State.refreshStation v st) u).stations,
        channels := (forEach 4 (fun st v => State.refreshStation v st) u).channels } :=
  forEach_invariant (fun t : State => t = { u with stations := t.stations, channels := t.channels })
    (fun (st : StationNo) v => State.refreshStation v st) (fun st t h => by rw [State.refreshStation_form t st, h]) u rfl

/-- The beacon of one exhibit refreshed as often as its alerts left. -/
theorem State.refreshSources_alertLayer (e : ExhibitNo) (ch : ChannelNo) {sources : List SourceNo} (hs : ∀ x ∈ sources, x = exhibitSource e) :
    ∀ u : State, ((sources.foldl (fun v src => State.refreshSourceBeacon v src) u).channel ch).alertLayer =
      if sources ≠ [] ∧ (u.exhibit e).inForce.bind (·.beaconLamp) = some ch then (u.channel ch).alertLayer.chosen u.patterns (u.beaconSetting e)
      else (u.channel ch).alertLayer := by
  induction sources with
  | nil => exact fun u => (if_neg (by simp)).symm
  | cons src sources ih =>
    intro u
    have hsrc : src = exhibitSource e := hs src (by simp)
    have hstep : u.refreshSourceBeacon src = u.refreshBeacon e := by
      unfold State.refreshSourceBeacon
      rw [hsrc, sourceExhibit_exhibit]
    refine (ih (fun x hx => hs x (List.mem_cons_of_mem _ hx)) (u.refreshSourceBeacon src)).trans ?_
    rw [hstep, State.refreshBeacon_alertLayer]
    have hform := u.refreshBeacon_form e
    generalize u.refreshBeacon e = v at hform
    have hexhibit : v.exhibit e = u.exhibit e := by rw [hform]; rfl
    have hsetting : v.beaconSetting e = u.beaconSetting e := by rw [hform]; rfl
    have htable : v.patterns = u.patterns := by rw [hform]
    rw [hexhibit, hsetting, htable]
    by_cases hlamp : (u.exhibit e).inForce.bind (·.beaconLamp) = some ch
    · simp only [hlamp, and_true, ne_eq, reduceCtorEq, not_false_eq_true, if_true]
      split
      · exact Layer.chosen_again _ _ _
      · rfl
    · rw [if_neg hlamp, if_neg fun h => hlamp h.2, if_neg fun h => hlamp h.2]

theorem State.removeAlerts_alertLayer {s : State} {e : ExhibitNo} {ch : ChannelNo} (hcall : s.NoCallLamp ch) {p : Alert → Bool}
    (hp : ∀ x, p x = true → x.source = exhibitSource e) :
    ((s.removeAlerts p).channel ch).alertLayer =
      if s.alerts.any p = true ∧ (s.exhibit e).inForce.bind (·.beaconLamp) = some ch then
        (s.channel ch).alertLayer.chosen s.patterns ((s.removeAlerts p).beaconSetting e)
      else (s.channel ch).alertLayer := by
  have hsetting : (s.removeAlerts p).beaconSetting e = (s.setAlerts (s.alerts.filter fun x => !p x)).beaconSetting e := by
    unfold State.beaconSetting
    rw [State.removeAlerts_alerts]
    rfl
  rw [hsetting]
  unfold State.removeAlerts
  split
  · next hany =>
    have hsources : ∀ x ∈ (s.alerts.filter p).map (·.source), x = exhibitSource e := fun x hx => by
      obtain ⟨y, hy, rfl⟩ := List.mem_map.1 hx
      exact hp y (List.mem_filter.1 hy).2
    have hsome : (s.alerts.filter p).map (·.source) ≠ [] := by
      obtain ⟨y, hy, hpy⟩ := List.any_eq_true.1 hany
      exact List.ne_nil_of_mem (List.mem_map.2 ⟨y, List.mem_filter.2 ⟨hy, hpy⟩, rfl⟩)
    have hselected : ((s.setAlerts (s.alerts.filter fun x => !p x)).selectAll []).NoCallLamp ch := fun st => by
      rw [show ((s.setAlerts (s.alerts.filter fun x => !p x)).selectAll []).station st =
        (s.station st).select (s.alerts.filter fun x => !p x) [] st from tget_tmap _ _ _]
      exact hcall st
    have hchannel := State.refreshStations_channel hselected
    have hform := State.refreshStations_form ((s.setAlerts (s.alerts.filter fun x => !p x)).selectAll [])
    refine (State.refreshSources_alertLayer e ch hsources _).trans ?_
    generalize forEach 4 (fun st v => State.refreshStation v st) ((s.setAlerts (s.alerts.filter fun x => !p x)).selectAll []) = v at hchannel hform
    have hexhibit : v.exhibit e = s.exhibit e := by rw [hform]; rfl
    have hv : v.beaconSetting e = (s.setAlerts (s.alerts.filter fun x => !p x)).beaconSetting e := by rw [hform]; rfl
    have htable : v.patterns = s.patterns := by rw [hform]; rfl
    rw [hexhibit, hv, htable, hchannel]
    exact if_congr ⟨fun h => ⟨hany, h.2⟩, fun h => ⟨hsome, h.2⟩⟩ rfl rfl
  · next hany => exact (if_neg fun h => hany h.1).symm

/-- An act that removes an entry leaves another list. -/
theorem State.removeAlerts_changes {s : State} {p : Alert → Bool} (h : s.alerts.any p = true) : (s.removeAlerts p).alerts ≠ s.alerts := by
  rw [State.removeAlerts_alerts]
  intro he
  obtain ⟨x, hx, hpx⟩ := List.any_eq_true.1 h
  have hkept := List.filter_eq_self.1 he x hx
  simp [hpx] at hkept

/-! ### The settings of the ready lamp and the beacon lamp -/

theorem State.beaconSetting_wanted {s : State} {e : ExhibitNo} {wanted : Setting}
    (h : (∃ y ∈ s.alerts, y.source = exhibitSource e ∧ y.acked = false ∧ wanted = .fixed (severityPattern y.severity) ∧
        ∀ z ∈ s.alerts, z.source = exhibitSource e → z.acked = false → z.severity ≤ y.severity) ∨
      ((∀ y ∈ s.alerts, y.source = exhibitSource e → y.acked = true) ∧
        ((wanted = .fixed .acknowledged ∧ ∃ y ∈ s.alerts, y.source = exhibitSource e) ∨
          (wanted = .idle ∧ ∀ y ∈ s.alerts, y.source ≠ exhibitSource e)))) : s.beaconSetting e = wanted := by
  have hmem : ∀ y, y ∈ (s.alerts.filter fun x => x.source == exhibitSource e).filter (fun x => !x.acked) ↔
      y ∈ s.alerts ∧ y.source = exhibitSource e ∧ y.acked = false := by
    simp only [List.mem_filter, Bool.not_eq_true', beq_iff_eq, and_assoc, implies_true]
  have hmine : ∀ y, y ∈ s.alerts.filter (fun x => x.source == exhibitSource e) ↔ y ∈ s.alerts ∧ y.source = exhibitSource e := by simp
  unfold State.beaconSetting
  generalize s.alerts.filter (fun x => x.source == exhibitSource e) = mine at hmem hmine
  simp only
  obtain ⟨y, hy, hsrc, hraised, rfl, hmax⟩ | ⟨hall, h⟩ := h
  · have hin := (hmem y).2 ⟨hy, hsrc, hraised⟩
    cases hlist : mine.filter (fun x => !x.acked) with
    | nil => simp [hlist] at hin
    | cons x xs =>
      rw [hlist] at hin
      have hbound : ∀ z ∈ x :: xs, z.severity ≤ y.severity := fun z hz => by
        obtain ⟨h1, h2, h3⟩ := (hmem z).1 (hlist ▸ hz)
        exact hmax z h1 h2 h3
      have hfold : ∀ (l : List Alert) (m : Nat), (∀ z ∈ l, z.severity ≤ y.severity) → m ≤ y.severity → (m = y.severity ∨ y ∈ l) →
          l.foldl (fun m z => max m z.severity) m = y.severity := by
        intro l
        induction l with
        | nil => exact fun m _ _ h => h.resolve_right (by simp)
        | cons z l ih =>
          intro m hl hm h
          have hz := hl z (by simp)
          refine ih _ (fun w hw => hl w (List.mem_cons_of_mem _ hw)) (max_le hm hz) ?_
          obtain rfl | h := h
          · exact .inl (max_eq_left hz)
          · obtain rfl | h := List.mem_cons.1 h
            · exact .inl (max_eq_right hm)
            · exact .inr h
      show Setting.fixed (severityPattern (xs.foldl _ x.severity)) = _
      rw [hfold xs x.severity (fun z hz => hbound z (List.mem_cons_of_mem _ hz)) (hbound x (by simp))
        ((List.mem_cons.1 hin).imp (fun h => congrArg Alert.severity h.symm) id)]
  · have hnil : mine.filter (fun x => !x.acked) = [] := List.eq_nil_iff_forall_not_mem.2 fun y hy => by
      obtain ⟨h1, h2, h3⟩ := (hmem y).1 hy
      simp [hall y h1 h2] at h3
    rw [hnil]
    obtain ⟨rfl, y, hy, hsrc⟩ | ⟨rfl, hno⟩ := h
    · exact if_neg (by simpa using List.ne_nil_of_mem ((hmine y).2 ⟨hy, hsrc⟩))
    · have : mine = [] := List.eq_nil_iff_forall_not_mem.2 fun y hy => hno y ((hmine y).1 hy).1 ((hmine y).1 hy).2
      rw [this]
      rfl

/-! ### A taken record -/

/-- Exhibit `e` is left `x`, and its lamps and alerts are set; nothing else has changed. -/
structure ConfiguredTo (s t : State) (e : ExhibitNo) (x : Exhibit) : Prop where
  exhibit : t.exhibit e = x
  others : ∀ f, f ≠ e → t.exhibit f = s.exhibit f
  word : ∀ k, NotOfAlerts k → OutsideExhibit e k → t.word k = s.word k
  form : t = { s with
    exhibits := t.exhibits, channels := t.channels, alerts := t.alerts, stations := t.stations, rewriteCount := t.rewriteCount, ram := t.ram }

theorem ConfiguredTo.relamped {s t u : State} {e : ExhibitNo} {x : Exhibit} (h : ConfiguredTo s t e x)
    (k : u = { t with channels := u.channels }) : ConfiguredTo s u e x := by
  have hexhibit : ∀ f, u.exhibit f = t.exhibit f := fun f => by rw [k]; rfl
  refine ⟨(hexhibit e).trans h.exhibit, fun f hf => (hexhibit f).trans (h.others f hf), fun n h1 h2 => ?_, ?_⟩
  · rw [k]
    exact h.word n h1 h2
  · have hform := h.form
    rw [hform] at k
    rw [k]

theorem ConfiguredTo.removed {s t : State} {e : ExhibitNo} {x : Exhibit} (h : ConfiguredTo s t e x) (p : Alert → Bool) :
    ConfiguredTo s (t.removeAlerts p) e x := by
  have hform := t.removeAlerts_form p
  have hword := (t.removeAlerts_act p).2
  generalize t.removeAlerts p = u at hform hword
  have hexhibit : ∀ f, u.exhibit f = t.exhibit f := fun f => by rw [hform]; rfl
  refine ⟨(hexhibit e).trans h.exhibit, fun f hf => (hexhibit f).trans (h.others f hf), fun n h1 h2 => (hword n h1).trans (h.word n h1 h2), ?_⟩
  have ht := h.form
  rw [ht] at hform
  rw [hform]

theorem State.putExhibit_configured {s t : State} (h : t = { s with channels := t.channels }) (e : ExhibitNo) (x : Exhibit) :
    ConfiguredTo s (t.putExhibit e x) e x := by
  refine ⟨t.exhibit_putExhibit e x, fun f hf => ?_, fun k _ hk => ?_, ?_⟩
  · rw [State.exhibit_putExhibit_ite, if_neg hf.symm, h]
    rfl
  · rw [State.putExhibit_word _ _ _ _ hk, h]
    rfl
  · rw [State.putExhibit_form, h]

/-- What becomes of the lamps and the alerts when the record `new` takes the place of `old` (R3, R4, R18, R172). -/
structure LampsMet (s t : State) (e : ExhibitNo) (old new : Option ExhibitConfig) : Prop where
  relit : s.Relit t
  show_ : ∀ ch, (t.channel ch).showLayer =
    if old.any (·.namesShowLamp ch) && !new.any (·.namesShowLamp ch) then Layer.reset else (s.channel ch).showLayer
  ready : ∀ ch, (t.channel ch).readyLayer =
    if new.bind (·.readyLamp) = some ch then (s.channel ch).readyLayer.chosen s.patterns (t.readySetting e)
    else if old.bind (·.readyLamp) = some ch then Layer.reset else (s.channel ch).readyLayer
  beacon : ∀ ch, s.NoCallLamp ch → new.bind (·.beaconLamp) = some ch → (t.channel ch).alertLayer.setting = t.beaconSetting e ∧
    (t.alerts = s.alerts → (t.channel ch).alertLayer = (s.channel ch).alertLayer.chosen s.patterns (t.beaconSetting e))
  rest : ∀ ch, s.NoCallLamp ch → new.bind (·.beaconLamp) ≠ some ch →
    (t.channel ch).alertLayer = if old.bind (·.beaconLamp) = some ch then Layer.reset else (s.channel ch).alertLayer

/-- The exhibit with the copy of a taken record. -/
def State.onRecord (s : State) (e : ExhibitNo) (c : ExhibitConfig) : Exhibit :=
  { (s.exhibit e).uncounted with
    config := some c, guardOpen := s.guardLevel c.guard, settle := none, guardAlert := none,
    state := if (s.exhibit e).state = .off then .ready else (s.exhibit e).state }

/-- The exhibit taken out of the configuration. -/
def Exhibit.offRecord (x : Exhibit) : Exhibit :=
  { x.uncounted.entering .off with config := none, guardOpen := false, settle := none, guardAlert := none }

/-- The lamps stay met when alerts of the exhibit leave. -/
theorem LampsMet.removed {s v : State} {e : ExhibitNo} {old new : Option ExhibitConfig} (h : LampsMet s v e old new)
    (halerts : v.alerts = s.alerts) (hstations : v.stations = s.stations) (hforce : (v.exhibit e).inForce = new) {p : Alert → Bool}
    (hp : ∀ x, p x = true → x.source = exhibitSource e) : LampsMet s (v.removeAlerts p) e old new := by
  have hcall : ∀ {ch}, s.NoCallLamp ch → v.NoCallLamp ch := fun hno st => by unfold State.station; rw [hstations]; exact hno st
  have hready : (v.removeAlerts p).readySetting e = v.readySetting e := by rw [v.removeAlerts_form p]; rfl
  have hlayer := fun ch (n : LayerName) (hn : n ≠ .alertLayer) => v.removeAlerts_layer p ch hn
  have halert := fun ch (hno : s.NoCallLamp ch) => State.removeAlerts_alertLayer (e := e) (hcall hno) hp
  have hsame : v.alerts.any p = false → v.removeAlerts p = v := fun hany => if_neg (by simp [hany])
  refine ⟨h.relit.trans (v.removeAlerts_relit p), fun ch => (hlayer ch .showLayer (by simp)).trans (h.show_ ch), fun ch => ?_,
    fun ch hno hlamp => ?_, fun ch hno hlamp => ?_⟩
  · rw [hready]
    exact (hlayer ch .readyLayer (by simp)).trans (h.ready ch)
  · by_cases hany : v.alerts.any p = true
    · refine ⟨?_, fun he => absurd (he.trans halerts.symm) (State.removeAlerts_changes hany)⟩
      rw [halert ch hno, if_pos ⟨hany, by rw [hforce]; exact hlamp⟩]
      exact Layer.chosen_setting _ _ _
    · rw [hsame (Bool.not_eq_true _ ▸ hany)]
      exact h.beacon ch hno hlamp
  · rw [halert ch hno, if_neg fun ha => hlamp (hforce ▸ ha.2)]
    exact h.rest ch hno hlamp

theorem State.onRecord_inForce (s : State) (e : ExhibitNo) (c : ExhibitConfig) : (s.onRecord e c).inForce = some c := by
  refine if_neg fun h => ?_
  unfold State.onRecord at h
  dsimp only at h
  split at h
  · simp at h
  · next hoff => exact hoff h

theorem State.configureOn_spec (s : State) (e : ExhibitNo) (c : ExhibitConfig) :
    ConfiguredTo s (s.configureOn e c) e (s.onRecord e c) ∧ LampsMet s (s.configureOn e c) e (s.exhibit e).inForce (some c) := by
  have hform := s.dropRoles_form (s.exhibit e).inForce (some c)
  have hrelit := s.dropRoles_relit (s.exhibit e).inForce (some c)
  have hlayers := s.dropRoles_layers (s.exhibit e).inForce (some c)
  have heq : s.configureOn e c =
      if (s.exhibit e).guardOpen ∧ s.guardLevel c.guard = false then
        ((((s.dropRoles (s.exhibit e).inForce (some c)).putExhibit e (s.onRecord e c)).evalReady e).refreshBeacon e).clearingEvent
          (exhibitSource e) .guardHeld
      else (((s.dropRoles (s.exhibit e).inForce (some c)).putExhibit e (s.onRecord e c)).evalReady e).refreshBeacon e := rfl
  rw [heq]
  clear heq
  generalize s.dropRoles (s.exhibit e).inForce (some c) = d at hform hrelit hlayers
  have hput := State.putExhibit_configured hform e (s.onRecord e c)
  have huform := d.putExhibit_form e (s.onRecord e c)
  generalize d.putExhibit e (s.onRecord e c) = u at hput huform
  have huchannel : ∀ ch, u.channel ch = d.channel ch := fun ch => by rw [huform]; rfl
  have hforce : (u.exhibit e).inForce = some c := by rw [hput.exhibit]; exact s.onRecord_inForce e c
  have htable : u.patterns = s.patterns := by rw [hput.form]
  have hready := fun ch => u.evalReady_readyLayer e ch
  have hkept := fun ch (n : LayerName) (hn : n ≠ .readyLayer) => u.evalReady_layer e ch hn
  have hrrelit := u.evalReady_relit e
  have hrform := u.evalReady_form e
  generalize u.evalReady e = r at hready hkept hrrelit hrform
  have hrexhibit : r.exhibit e = u.exhibit e := by rw [hrform]; rfl
  have hrpatterns : r.patterns = u.patterns := hrrelit.patterns
  have hbeacon := fun ch => r.refreshBeacon_alertLayer e ch
  have hbkept := fun ch (n : LayerName) (hn : n ≠ .alertLayer) => r.refreshBeacon_layer e ch hn
  have hbrelit := r.refreshBeacon_relit e
  have hbform := r.refreshBeacon_form e
  generalize r.refreshBeacon e = v at hbeacon hbkept hbrelit hbform
  have hvexhibit : v.exhibit e = u.exhibit e := by rw [hbform]; exact hrexhibit
  have hsetting : r.beaconSetting e = v.beaconSetting e := by rw [hbform]; rfl
  have hrsetting : u.readySetting e = v.readySetting e := by rw [hbform, hrform]; rfl
  have hconf : ConfiguredTo s v e (s.onRecord e c) := (hput.relamped hrform).relamped hbform
  have hvalerts : v.alerts = s.alerts := by rw [hbform, hrform, huform, hform]
  have hvstations : v.stations = s.stations := by rw [hbform, hrform, huform, hform]
  have hlamps : LampsMet s v e (s.exhibit e).inForce (some c) := by
    have hurelit : d.Relit u := .of_channels (by rw [huform]) (by rw [huform])
    refine ⟨((hrelit.trans hurelit).trans hrrelit).trans hbrelit, fun ch => ?_, fun ch => ?_, fun ch _ hlamp => ?_, fun ch _ hlamp => ?_⟩
    · refine (hbkept ch .showLayer (by simp)).trans ((hkept ch .showLayer (by simp)).trans ?_)
      rw [huchannel]
      exact (hlayers ch).1
    · refine (hbkept ch .readyLayer (by simp)).trans ((hready ch).trans ?_)
      rw [hforce, htable, hrsetting, huchannel, (hlayers ch).2.1]
      by_cases hlamp : (some c).bind (·.readyLamp) = some ch
      · rw [if_pos hlamp, if_pos hlamp, if_neg fun h => h.2 hlamp]
      · rw [if_neg hlamp, if_neg hlamp]
        exact if_congr (and_iff_left hlamp) rfl rfl
    · have hlayer : (v.channel ch).alertLayer = (s.channel ch).alertLayer.chosen s.patterns (v.beaconSetting e) := by
        rw [hbeacon, hrexhibit, hforce, if_pos hlamp, hrpatterns, htable, hsetting]
        refine congrArg (Layer.chosen · s.patterns (v.beaconSetting e)) ((hkept ch .alertLayer (by simp)).trans ?_)
        rw [huchannel]
        exact (hlayers ch).2.2.trans (if_neg fun h => h.2 hlamp)
      exact ⟨by rw [hlayer]; exact Layer.chosen_setting _ _ _, fun _ => hlayer⟩
    · rw [hbeacon, hrexhibit, hforce, if_neg hlamp]
      refine (hkept ch .alertLayer (by simp)).trans ?_
      rw [huchannel]
      exact (hlayers ch).2.2.trans (if_congr (and_iff_left hlamp) rfl rfl)
  split
  · exact ⟨hconf.removed _, hlamps.removed hvalerts hvstations (by rw [hvexhibit, hforce]) fun x hx => by
      simp only [Bool.and_eq_true, beq_iff_eq] at hx
      exact hx.1.1⟩
  · exact ⟨hconf, hlamps⟩

theorem State.configureOff_spec (s : State) {e : ExhibitNo} (h : (s.exhibit e).state ≠ .off) :
    ConfiguredTo s (s.configureOff e) e (s.exhibit e).offRecord ∧ LampsMet s (s.configureOff e) e (s.exhibit e).inForce none ∧
      (s.configureOff e).alerts = s.alerts.filter fun x => x.source != exhibitSource e := by
  have hform := s.dropRoles_form (s.exhibit e).inForce none
  have hrelit := s.dropRoles_relit (s.exhibit e).inForce none
  have hlayers := s.dropRoles_layers (s.exhibit e).inForce none
  have heq : s.configureOff e =
      ((s.dropRoles (s.exhibit e).inForce none).putExhibit e (s.exhibit e).offRecord).removeAlerts fun x => x.source == exhibitSource e :=
    if_neg h
  rw [heq]
  clear heq
  generalize s.dropRoles (s.exhibit e).inForce none = d at hform hrelit hlayers
  have hput := State.putExhibit_configured hform e (s.exhibit e).offRecord
  have huform := d.putExhibit_form e (s.exhibit e).offRecord
  generalize d.putExhibit e (s.exhibit e).offRecord = u at hput huform
  have huchannel : ∀ ch, u.channel ch = d.channel ch := fun ch => by rw [huform]; rfl
  have hualerts : u.alerts = s.alerts := by rw [huform, hform]
  have hlamps : LampsMet s u e (s.exhibit e).inForce none := by
    refine ⟨hrelit.trans (.of_channels (by rw [huform]) (by rw [huform])), fun ch => ?_, fun ch => ?_, fun ch _ hlamp => by simp at hlamp,
      fun ch _ hlamp => ?_⟩
    · rw [huchannel]
      exact (hlayers ch).1
    · rw [huchannel, (hlayers ch).2.1]
      exact (if_congr (and_iff_left (by simp)) rfl rfl).trans (if_neg (by simp)).symm
    · rw [huchannel, (hlayers ch).2.2]
      exact if_congr (and_iff_left hlamp) rfl rfl
  refine ⟨hput.removed _, hlamps.removed hualerts (by rw [huform, hform]) (by rw [hput.exhibit]; rfl) fun x hx => by simpa using hx, ?_⟩
  rw [State.removeAlerts_alerts, hualerts]
  rfl

end Sys2Proof.Machine
end

section
/-! The answers of CONFIGURE EXHIBIT (R2 to R4): O25. -/

namespace Sys2Proof.Machine

theorem exhibitRow : RowOf 0x03 State.orderConfigureExhibit := fun _ => rfl

theorem State.orderConfigureExhibit_valid (s : State) {e : ExhibitNo} {v1 : Word} (v2 : Word) (h1 : v1.toNat = e.val)
    (hf : s.exhibitRecordFault e = none) (htakes : (s.exhibit e).state.takesConfigure = true) :
    State.orderConfigureExhibit v1 v2 s =
      (if s.exhibitEnabled e then s.configureOn e (s.readExhibit e) else s.configureOff e).answer .taken 0 := by
  rw [State.orderConfigureExhibit, s.forExhibit_valid _ h1, hf]
  exact if_pos htakes

theorem State.exhibitRecordFault_lt {s : State} {e : ExhibitNo} {n : Nat} (h : s.exhibitRecordFault e = some n) : n < 65536 := by
  unfold State.exhibitRecordFault at h
  split at h
  · simp at h
  · obtain ⟨⟨k, b⟩, hb, rfl⟩ := List.mem_map.1 (firstFault_mem h)
    unfold State.exhibitChecks at hb
    simp only [List.mem_append, List.mem_map, List.mem_cons, Prod.mk.injEq, List.mem_range, List.not_mem_nil, or_false] at hb
    show k < 65536
    obtain (((⟨h, -⟩ | ⟨h, -⟩ | ⟨h, -⟩ | ⟨h, -⟩ | ⟨h, -⟩) | ⟨i, -, h, -⟩) | ⟨i, hi, h, -⟩) | ⟨h, -⟩ | ⟨h, -⟩ | ⟨h, -⟩ := hb
    all_goals omega
  · obtain rfl := Option.some.inj h
    decide

/-- A record taken: the exhibit, its lamps and its alerts. -/
theorem exec_configureExhibit_taken {s v : State} {e : ExhibitNo} {x : Exhibit} {w2 : Nat} {old new : Option ExhibitConfig}
    (hcell : s.AtCell 0x03 e.val w2) (hp : s.part = .run) (hf : s.exhibitRecordFault e = none)
    (htakes : (s.exhibit e).state.takesConfigure = true)
    (hv : (if s.exhibitEnabled e then s.configureOn e (s.readExhibit e) else s.configureOff e) = v)
    (hto : ConfiguredTo s v e x) (hlamps : LampsMet s v e old new) :
    ∃ t, exec .configureExhibit s = .next t ∧ s.Answered t 0x03 0 0 ∧ t.exhibit e = x ∧ (∀ f, f ≠ e → t.exhibit f = s.exhibit f) ∧
      t.alerts = v.alerts ∧ LampsMet s t e old new ∧
      (∀ k < 16384, s.NotOfCell k → NotOfAlerts k → OutsideExhibit e k → t.word k = s.word k) ∧
      t = { s with exhibits := t.exhibits, channels := t.channels, alerts := t.alerts, stations := t.stations,
                   rewriteCount := t.rewriteCount, ram := t.ram, deck := t.deck, attn := t.attn } := by
  obtain ⟨-, -, -, -, -, hrep⟩ := id hcell
  have hvform := hto.form
  obtain ⟨t, hexec, hans, hword, hform⟩ := exhibitRow.taken_over hcell hp (r := .taken) (d := 0) (by omega) (u := v) (v := v)
    (fun v1 v2 h1 _ => (s.orderConfigureExhibit_valid v2 h1 hf htakes).trans (by rw [hv]))
    (State.settle_nil v (by rw [hvform]; exact hrep))
    ⟨by rw [hvform], fun k hk h3 => hto.word k (by simp only [NotOfAlerts, Outside, addrImageSeq, addrAlertImage]; omega)
      (by simp only [OutsideExhibit, Outside, addrExhibitImage]; omega)⟩ (by rw [hvform])
  have hexhibit : ∀ f, t.exhibit f = v.exhibit f := fun f => by rw [hform]; rfl
  have hchannel : ∀ ch, t.channel ch = v.channel ch := fun ch => by rw [hform]; rfl
  have hpatterns : t.patterns = v.patterns := by rw [hform]
  have hready : t.readySetting e = v.readySetting e := by rw [hform]; rfl
  have hbeacon : t.beaconSetting e = v.beaconSetting e := by rw [hform]; rfl
  have halerts : t.alerts = v.alerts := by rw [hform]
  refine ⟨t, hexec, hans, (hexhibit e).trans hto.exhibit, fun f hf => (hexhibit f).trans (hto.others f hf), halerts, ?_,
    fun k hk hnot h1 h2 => (hword k hk hnot).trans (hto.word k h1 h2), ?_⟩
  · refine ⟨⟨hpatterns.trans hlamps.relit.patterns, fun ch => by rw [hchannel]; exact hlamps.relit.channel ch⟩, fun ch => ?_, fun ch => ?_,
      fun ch hno hlamp => ?_, fun ch hno hlamp => ?_⟩
    · rw [hchannel]
      exact hlamps.show_ ch
    · rw [hchannel, hready]
      exact hlamps.ready ch
    · rw [hchannel, hbeacon, halerts]
      exact hlamps.beacon ch hno hlamp
    · rw [hchannel]
      exact hlamps.rest ch hno hlamp
  · rw [hvform] at hform
    rw [hform]

/-- The record of an OFF exhibit with enable no changes nothing but the counters. -/
theorem State.configureOff_of_off (s : State) {e : ExhibitNo} (h : (s.exhibit e).state = .off) :
    ConfiguredTo s (s.configureOff e) e (s.exhibit e).uncounted ∧ LampsMet s (s.configureOff e) e none none := by
  have heq : s.configureOff e = s.putExhibit e (s.exhibit e).uncounted := if_pos h
  have hput := State.putExhibit_configured (s := s) (t := s) rfl e (s.exhibit e).uncounted
  have hform := s.putExhibit_form e (s.exhibit e).uncounted
  rw [heq]
  clear heq
  generalize s.putExhibit e (s.exhibit e).uncounted = u at hput hform
  have hchannel : ∀ ch, u.channel ch = s.channel ch := fun ch => by rw [hform]; rfl
  refine ⟨hput, .of_channels (by rw [hform]) (by rw [hform]), fun ch => ?_, fun ch => ?_, fun ch _ hlamp => by simp at hlamp, fun ch _ _ => ?_⟩
  all_goals rw [hchannel]; simp

/-- What CONFIGURE EXHIBIT makes of the exhibit. -/
def State.recorded (s : State) (e : ExhibitNo) : Exhibit :=
  if s.exhibitEnabled e then s.onRecord e (s.readExhibit e)
  else if (s.exhibit e).state = .off then (s.exhibit e).uncounted else (s.exhibit e).offRecord

theorem State.recorded_counters (s : State) (e : ExhibitNo) :
    (s.recorded e).accepted = 0 ∧ (s.recorded e).ignored = 0 ∧ (s.recorded e).completed = 0 := by
  unfold State.recorded
  split_ifs <;> exact ⟨rfl, rfl, rfl⟩

/-- A taken record, enabled or not. -/
theorem State.configure_spec (s : State) (e : ExhibitNo) :
    ∃ v, (if s.exhibitEnabled e then s.configureOn e (s.readExhibit e) else s.configureOff e) = v ∧ ConfiguredTo s v e (s.recorded e) ∧
      LampsMet s v e (s.exhibit e).inForce (if s.exhibitEnabled e then some (s.readExhibit e) else none) ∧
      (s.exhibitEnabled e = false → (s.exhibit e).state ≠ .off → v.alerts = s.alerts.filter fun x => x.source != exhibitSource e) := by
  refine ⟨_, rfl, ?_⟩
  unfold State.recorded
  by_cases hon : s.exhibitEnabled e = true
  · obtain ⟨hto, hlamps⟩ := s.configureOn_spec e (s.readExhibit e)
    simp only [hon, if_true]
    exact ⟨hto, hlamps, fun h => by simp at h⟩
  · rw [if_neg hon, if_neg hon, if_neg hon]
    by_cases hoff : (s.exhibit e).state = .off
    · obtain ⟨hto, hlamps⟩ := s.configureOff_of_off hoff
      rw [if_pos hoff]
      exact ⟨hto, by rwa [show (s.exhibit e).inForce = none from if_pos hoff], fun _ h => absurd hoff h⟩
    · obtain ⟨hto, hlamps, halerts⟩ := s.configureOff_spec hoff
      rw [if_neg hoff]
      exact ⟨hto, hlamps, fun _ _ => halerts⟩

/-- The setting of the ready lamp of an exhibit that takes a record (Table 1-7). -/
theorem State.readySetting_configured {s t : State} {e : ExhibitNo} (hx : t.exhibit e = s.onRecord e (s.readExhibit e))
    (htakes : (s.exhibit e).state.takesConfigure = true) (hstop : t.stopInForce = s.stopInForce) :
    t.readySetting e = if (t.exhibit e).guardOpen then .fixed .readyGuard
      else if (t.exhibit e).state = .ready ∧ s.stopInForce = false then .fixed .readySteady else .idle := by
  have hstate : (t.exhibit e).state = .ready ∨ (t.exhibit e).state = .locked := by
    rw [hx]
    show (if (s.exhibit e).state = .off then ExhibitState.ready else (s.exhibit e).state) = _ ∨
      (if (s.exhibit e).state = .off then ExhibitState.ready else (s.exhibit e).state) = _
    cases hst : (s.exhibit e).state <;> simp [hst, ExhibitState.takesConfigure] at htakes ⊢
  unfold State.readySetting
  simp only
  rw [hstop]
  obtain h | h := hstate <;> simp [h]

/-- Settles O25, from what the record makes of the exhibit, of its lamps and of its alerts. -/
theorem configureExhibitTakesRecord : Obligations.ConfigureExhibitTakesRecord := by
  refine ⟨fun s e w2 hcell hp => ⟨fun n hn => ?_, fun hf hno => ?_, fun hf htakes => ?_⟩, fun s w1 w2 hcell hp hbad => ?_,
    fun s e w2 old new hcell hp hf htakes hold hnew => ?_⟩
  · refine exhibitRow.answered hcell hp (r := .badValue) (State.exhibitRecordFault_lt hn) fun v1 v2 h1 _ => ?_
    rw [State.orderConfigureExhibit, s.forExhibit_valid _ h1, hn]
  · refine exhibitRow.answered hcell hp (r := .notNow) (ExhibitState.code_lt _) fun v1 v2 h1 _ => ?_
    rw [State.orderConfigureExhibit, s.forExhibit_valid _ h1, hf]
    exact if_neg (by simp [hno])
  · obtain ⟨v, hv, hto, hlamps, halerts⟩ := s.configure_spec e
    obtain ⟨t, hexec, hans, hx, hothers, htalerts, -, hword, hform⟩ := exec_configureExhibit_taken hcell hp hf htakes hv hto hlamps
    obtain ⟨hacc, hign, hcomp⟩ := s.recorded_counters e
    refine ⟨t, hexec, hans, fun hon => ?_, fun hoff => ?_, by rw [hx, hacc], by rw [hx, hign], by rw [hx, hcomp], hothers, hword, hform⟩
    · rw [hx, State.recorded, if_pos hon]
      exact ⟨rfl, rfl, rfl⟩
    · rw [hx, State.recorded, if_neg (by simp [hoff])]
      refine ⟨?_, fun hst => ?_⟩
      · split
        · next h => exact h
        · rfl
      · rw [if_neg hst]
        exact ⟨rfl, rfl, htalerts.trans (halerts hoff hst)⟩
  · refine exhibitRow.answered hcell hp (r := .badValue) (by omega) fun v1 v2 h1 _ => ?_
    exact s.forExhibit_bad _ _ (by omega)
  · obtain ⟨v, hv, hto, hlamps, -⟩ := s.configure_spec e
    rw [show (s.exhibit e).inForce = old from hold.symm, ← hnew] at hlamps
    obtain ⟨t, hexec, -, hx, -, -, ⟨hrelit, hshow, hready, hbeacon, hrest⟩, -, hform⟩ :=
      exec_configureExhibit_taken hcell hp hf htakes hv hto hlamps
    have hstop : t.stopInForce = s.stopInForce := by rw [hform]
    have hon : new ≠ none → s.exhibitEnabled e = true ∧ new = some (s.readExhibit e) := fun hne => by
      by_cases h : s.exhibitEnabled e = true
      · exact ⟨h, hnew.trans (if_pos h)⟩
      · exact absurd (hnew.trans (if_neg h)) hne
    refine ⟨t, hexec, fun ch => ⟨(hrelit.channel ch).1, (hrelit.channel ch).2, hshow ch, fun ho hn => ?_, fun ho hn => ?_, fun wanted hlamp hw => ?_,
      fun wanted hlamp hw => ?_, fun hno hn => hrest ch hno hn⟩⟩
    · rw [hready, if_neg hn, if_pos ho]
    · rw [hready, if_neg hn, if_neg ho]
    · obtain ⟨hen, -⟩ := hon (by rintro rfl; simp at hlamp)
      rw [hready, if_pos hlamp, State.readySetting_configured (s := s) (by rw [hx, State.recorded, if_pos hen]) htakes hstop, ← hw]
      rfl
    · obtain ⟨hen, hsome⟩ := hon (by rintro rfl; simp at hlamp)
      have hno : s.NoCallLamp ch := fun st hst => by
        have hfree := (State.exhibitRecord_free hf hen).2 ch (by
          rw [hsome] at hlamp
          simp [ExhibitConfig.namesChannel, show (s.readExhibit e).beaconLamp = some ch from hlamp])
        unfold State.channelElsewhere at hfree
        simp [(s.isCallLamp_iff ch).2 ⟨st, hst⟩] at hfree
      obtain ⟨hset, hkeep⟩ := hbeacon ch hno hlamp
      rw [State.beaconSetting_wanted hw] at hset hkeep
      exact ⟨hset, fun ha hs => (hkeep ha).trans (if_pos hs)⟩

end Sys2Proof.Machine
end

section
/-! Acts that stop several axes where their models are, and the TRAVEL faults they find (R89, R93, R129, R136). -/

namespace Sys2Proof.Machine

/-! ### An act on one axis, with its report of a TRAVEL fault -/

/-- The operation `F` deals with an axis as `f` does, and reports a TRAVEL fault of an axis where `finds` says so. -/
structure AxisDeal.Reports (D : AxisDeal) (finds : Axis → Bool) (f F : State → AxisNo → State) : Prop where
  does : D.Does f
  eq : ∀ s a, F s a = if finds (s.axis a) then (f s a).report (.axisFault a .travel) else f s a

/-- The same operation on a state with other reports. -/
def reportingOver (f : State → AxisNo → State) (qs : List Report) (s : State) (a : AxisNo) : State :=
  { f { s with reports := qs } a with reports := s.reports ++ (f { s with reports := qs } a).reports.drop qs.length }

theorem AxisDeal.Does.over {D : AxisDeal} {f : State → AxisNo → State} (hd : D.Does f) (qs : List Report) : D.Does (reportingOver f qs) where
  touched s a h := by
    have hto := hd.touched { s with reports := qs } a h
    obtain ⟨rs, hrs, hn, hr⟩ := hto.reports
    have hform := hto.form
    have haxis := hto.axis
    have hothers := hto.others
    have hword := hto.word
    have hpool := hto.pool
    unfold reportingOver
    generalize f { s with reports := qs } a = t at *
    refine ⟨haxis, hothers, hword, hpool, ⟨rs, ?_, hn, hr⟩, ?_⟩
    · rw [hrs]
      exact congrArg (s.reports ++ ·) List.drop_left
    · rw [hform]
  untouched s a h := by
    have hsame := hd.untouched { s with reports := qs } a h
    unfold reportingOver
    rw [hsame]
    show State.mk .. = _
    have hnil : s.reports ++ qs.drop qs.length = s.reports := by simp
    exact congrArg (fun rs => { s.setAxis a (D.idle (s.axis a)) with reports := rs }) hnil
  calm := hd.calm
  apart := hd.apart

/-- An axis fault is reported. -/
def Report.isFault : Report → Bool
  | .axisFault _ _ => true
  | .crossing _ _ _ => false
  | .motionDone _ _ => false
  | .atRest _ => false

/-- The reports of an act that has dealt with the axes of `d`: crossings, and the TRAVEL faults it found. -/
structure TravelReports (s : State) (D : AxisDeal) (finds : Axis → Bool) (d : List AxisNo) (rs : List Report) : Prop where
  count : rs.length ≤ (D.most + 1) * d.length
  kinds : ∀ r ∈ rs, ∃ a ∈ d, (D.crosses (s.axis a) = true ∧ ∃ m up, r = .crossing a m up) ∨ (finds (s.axis a) = true ∧ r = .axisFault a .travel)
  found : ∀ a ∈ d, finds (s.axis a) = true → .axisFault a .travel ∈ rs
  few : rs.countP Report.isFault ≤ d.length

/-- The axes of `d` are dealt with as in the state `t₀`, and the reports are of crossings and of TRAVEL faults. -/
structure TravelTo (s t : State) (D : AxisDeal) (finds : Axis → Bool) (d : List AxisNo) : Prop where
  shadow : ∃ t₀, AxesTo s t₀ D d ∧ t = { t₀ with reports := t.reports }
  reports : ∃ rs, t.reports = s.reports ++ rs ∧ TravelReports s D finds d rs

/-- One axis more is dealt with. -/
theorem TravelTo.step {s t : State} {D : AxisDeal} {finds : Axis → Bool} {f F : State → AxisNo → State} {d : List AxisNo} {a : AxisNo}
    (h : TravelTo s t D finds d) (hd : D.Reports finds f F) (ha : a ∉ d) : TravelTo s (F t a) D finds (d ++ [a]) := by
  obtain ⟨⟨t₀, hto, hshadow⟩, rs, hrs, hcount, hkinds, hfound, hfew⟩ := h
  have hnext := hto.step (hd.does.over t.reports) (a := a) (.inl ha)
  have haxis : t.axis a = s.axis a := by
    rw [hshadow]
    exact hto.others a ha
  obtain ⟨-, -, -, ⟨qs, hqs, hlen, hq⟩, -⟩ := hd.does.op t a
  have hover : reportingOver f t.reports t₀ a = { f t a with reports := t₀.reports ++ (f t a).reports.drop t.reports.length } := by
    unfold reportingOver
    rw [← hshadow]
  have hF := hd.eq t a
  rw [haxis] at hF hq
  refine ⟨⟨reportingOver f t.reports t₀ a, hnext, ?_⟩, ?_⟩
  · rw [hover, hF]
    split <;> rfl
  · have hbound : rs.length + (qs.length + 1) ≤ (D.most + 1) * (d ++ [a]).length := by
      rw [List.length_append, List.length_singleton, Nat.mul_add, Nat.mul_one]
      omega
    have hold : ∀ r ∈ rs, ∃ b ∈ d ++ [a], (D.crosses (s.axis b) = true ∧ ∃ m up, r = .crossing b m up) ∨
        (finds (s.axis b) = true ∧ r = .axisFault b .travel) := fun r hr => by
      obtain ⟨b, hb, hkind⟩ := hkinds r hr
      exact ⟨b, List.mem_append_left _ hb, hkind⟩
    have hnew : ∀ r ∈ qs, ∃ b ∈ d ++ [a], (D.crosses (s.axis b) = true ∧ ∃ m up, r = .crossing b m up) ∨
        (finds (s.axis b) = true ∧ r = .axisFault b .travel) := fun r hr => ⟨a, by simp, .inl (hq r hr)⟩
    have hsilent : qs.countP Report.isFault = 0 := List.countP_eq_zero.2 fun r hr => by
      obtain ⟨-, m, up, rfl⟩ := hq r hr
      exact Bool.false_ne_true
    by_cases hfinds : finds (s.axis a) = true
    · rw [hF, if_pos hfinds]
      refine ⟨rs ++ (qs ++ [.axisFault a .travel]), ?_, ?_, fun r hr => ?_, fun b hb hfb => ?_, ?_⟩
      · show (f t a).reports ++ [Report.axisFault a .travel] = _
        rw [hqs, hrs, List.append_assoc, List.append_assoc]
      · simpa using hbound
      · rw [List.mem_append, List.mem_append, List.mem_singleton] at hr
        obtain hr | hr | rfl := hr
        · exact hold r hr
        · exact hnew r hr
        · exact ⟨a, by simp, .inr ⟨hfinds, rfl⟩⟩
      · rw [List.mem_append, List.mem_singleton] at hb
        obtain hb | rfl := hb
        · exact List.mem_append_left _ (hfound b hb hfb)
        · simp
      · rw [List.countP_append, List.countP_append, hsilent, List.length_append]
        exact Nat.add_le_add hfew (by simp [Report.isFault])
    · rw [hF, if_neg hfinds]
      refine ⟨rs ++ qs, by rw [hqs, hrs, List.append_assoc], ?_, fun r hr => ?_, fun b hb hfb => ?_, ?_⟩
      · rw [List.length_append]
        omega
      · rw [List.mem_append] at hr
        exact hr.elim (hold r) (hnew r)
      · rw [List.mem_append, List.mem_singleton] at hb
        obtain hb | rfl := hb
        · exact List.mem_append_left _ (hfound b hb hfb)
        · exact absurd hfb hfinds
      · rw [List.countP_append, hsilent, List.length_append]
        exact Nat.add_le_add hfew (by simp)

/-- A list of axes is dealt with in order. -/
theorem TravelTo.foldl {D : AxisDeal} {finds : Axis → Bool} {f F : State → AxisNo → State} (hd : D.Reports finds f F) (s : State)
    {l : List AxisNo} (hn : l.Nodup) : TravelTo s (l.foldl F s) D finds l := by
  have hfold : ∀ (l d : List AxisNo) (t : State), (d ++ l).Nodup → TravelTo s t D finds d → TravelTo s (l.foldl F t) D finds (d ++ l) := by
    intro l
    induction l with
    | nil => intro d t _ h; simpa using h
    | cons a l ih =>
      intro d t hn h
      have := ih (d ++ [a]) (F t a) (by simpa using hn) (h.step hd fun hmem => (List.nodup_append.1 hn).2.2 a hmem a (by simp) rfl)
      simpa using this
  simpa using hfold l [] s (by simpa using hn) ⟨⟨s, .nil s D, rfl⟩, [], by simp, by simp, by simp, by simp, by simp⟩

/-! ### Axes stopped where their models are (R129, R136) -/

/-- An axis stopped in place: a quick stop, or its place in the wait list given up. -/
def Axis.stoppedInPlace (x : Axis) : Axis := if x.state = .awaitPower then x.unqueued else x.stoppedHere

/-- A quick stop of a MOVING or STOPPING axis finds its model outside the travel window. -/
def Axis.strays (x : Axis) : Bool := x.state.drives && x.state != .homing && !x.inWindow x.encoder

theorem Axis.strays_iff {x : Axis} : x.strays = true ↔ (x.state = .moving ∨ x.state = .stopping) ∧ x.inWindow x.encoder = false := by
  unfold Axis.strays
  cases x.state <;> simp [AxisState.drives]

/-- What a stop in place does to an axis. -/
def hereDeal : AxisDeal where
  touches x := x.state.busy
  result := Axis.stoppedInPlace
  idle x := x
  crosses x := x.state.busy
  returns x := x.state.drives
  leaves x := x.state == .awaitPower
  most := 4

/-- The stop in place without its report. -/
def State.stopHere (s : State) (a : AxisNo) : State := if (s.axis a).state = .awaitPower then s.leaveAwait a else s.quickStopSilently a

theorem AxisState.busy_iff (st : AxisState) : st.busy = true ↔ st.drives = true ∨ st = .awaitPower := by
  cases st <;> simp [AxisState.busy, AxisState.drives]

theorem hereDeal_does : hereDeal.Does State.stopHere where
  touched s a h := by
    have hbusy : (s.axis a).state.busy = true := h
    unfold State.stopHere
    by_cases hawait : (s.axis a).state = .awaitPower
    · rw [if_pos hawait]
      simpa [hereDeal, AxisDeal.pool, hawait, Axis.stoppedInPlace, AxisState.drives, AxisState.busy] using s.leaveAwait_to a
    · have hdrives := ((AxisState.busy_iff _).1 hbusy).resolve_right hawait
      rw [if_neg hawait]
      have hto := stopDeal_does.touched s a hdrives
      simpa [hereDeal, stopDeal, AxisDeal.pool, hawait, Axis.stoppedInPlace, hdrives, hbusy] using hto
  untouched s a h := by
    have hbusy : (s.axis a).state.busy = false := h
    have hno : ¬ ((s.axis a).state.drives = true ∨ (s.axis a).state = .awaitPower) := by rw [← AxisState.busy_iff, hbusy]; decide
    unfold State.stopHere
    rw [if_neg fun ha => hno (.inr ha)]
    exact stopDeal_does.untouched s a (Bool.eq_false_iff.2 fun hd => hno (.inl hd))
  calm x h := by
    have hbusy : x.state.busy = false := h
    have hno : ¬ (x.state.drives = true ∨ x.state = .awaitPower) := by rw [← AxisState.busy_iff, hbusy]; decide
    exact ⟨h, Bool.eq_false_iff.2 fun hd => hno (.inl hd), by simpa [hereDeal] using fun ha => hno (.inr ha)⟩
  apart x h := by
    have hdrives : x.state.drives = true := h
    simp only [hereDeal]
    cases hst : x.state <;> simp [hst, AxisState.drives] at hdrives ⊢

/-- A quick stop ends FAULTED exactly where it finds the model outside the window. -/
theorem Axis.stoppedHere_faulted {x : Axis} (h : x.state.drives = true) : x.stoppedHere.state = .faulted ↔ x.strays = true := by
  unfold Axis.stoppedHere Axis.afterQuickStop Axis.strays
  by_cases hhoming : x.state = .homing
  · rw [if_pos hhoming]
    simp [hhoming, Axis.movedTo, Axis.enterUnhomed]
  · rw [if_neg hhoming]
    by_cases hin : x.inWindow x.encoder = true
    · rw [if_pos hin]
      simp [hin, Axis.movedTo]
    · rw [if_neg hin]
      simp [hin, h, hhoming, Axis.movedTo, Axis.enterFaulted]

/-- A quick stop with its report. -/
theorem State.quickStop_reports (s : State) (a : AxisNo) :
    s.quickStop a = if (s.axis a).strays then (s.quickStopSilently a).report (.axisFault a .travel) else s.quickStopSilently a := by
  unfold State.quickStop
  simp only
  by_cases hdrives : (s.axis a).state.drives = true
  · have hstate : ((s.quickStopSilently a).axis a).state = (s.axis a).stoppedHere.state := (stopDeal_does.touched s a hdrives).axis.state
    refine if_congr ?_ rfl rfl
    rw [hstate, hdrives, Bool.true_and, beq_iff_eq]
    exact Axis.stoppedHere_faulted hdrives
  · have hstrays : (s.axis a).strays = false := by
      unfold Axis.strays
      simp [hdrives]
    rw [hstrays, if_neg (by simp [hdrives]), if_neg (by simp)]

theorem State.stopInPlace_reports : hereDeal.Reports Axis.strays State.stopHere State.stopInPlace where
  does := hereDeal_does
  eq s a := by
    unfold State.stopInPlace State.stopHere
    cases hst : (s.axis a).state
    case homing | moving | stopping => exact s.quickStop_reports a
    case awaitPower => simp [Axis.strays, hst, AxisState.drives]
    all_goals simp [Axis.strays, hst, AxisState.drives, State.quickStopSilently]

end Sys2Proof.Machine
end

section
/-! What the beginning of the gallery stop leaves before its reports are taken (R136 steps 1 to 4): O55. -/

namespace Sys2Proof.Machine

/-! ### Shows and halts end (R12, R136 step 2) -/

/-- The exhibit, its slot and its source record once the stop has ended its show or halt. -/
def Exhibit.ended (x : Exhibit) : Exhibit := if x.state.stopEnds then x.entering .ready else x

def State.endedSlot (s : State) (e : ExhibitNo) : Slot := if (s.exhibit e).state.stopEnds then (s.slot e).emptied else s.slot e

def State.endedSource (s : State) (e : ExhibitNo) : SourceRecord :=
  if (s.exhibit e).state.stopEnds then { s.source e with stopped := true } else s.source e

theorem Axis.resume_congr (x : Axis) {p q : Prop} [Decidable p] [Decidable q] (h : p ↔ q) :
    ({ x with resume := if p then none else x.resume } : Axis) = { x with resume := if q then none else x.resume } := by
  rw [if_congr h rfl rfl]

/-- The stop has ended the shows and halts of the exhibits done. -/
structure ShowsEnded (s t : State) (done : List ExhibitNo) : Prop where
  ended : ∀ e ∈ done, t.exhibit e = (s.exhibit e).ended ∧ t.slot e = s.endedSlot e ∧ t.source e = s.endedSource e
  left : ∀ e, e ∉ done → t.exhibit e = s.exhibit e ∧ t.slot e = s.slot e ∧ t.source e = s.source e
  axis : ∀ a, t.axis a = { s.axis a with
    resume := if ∃ e ∈ done, (s.exhibit e).state.stopEnds = true ∧ a ∈ s.boundAxes e then none else (s.axis a).resume }
  word : ∀ k, (∀ e, OutsideExhibit e k) → t.word k = s.word k
  form : t = { s with
    exhibits := t.exhibits, slots := t.slots, sources := t.sources, channels := t.channels, axes := t.axes, ram := t.ram }

/-- One exhibit whose show or halt ends. -/
theorem State.stopExhibit_spec {t : State} {e : ExhibitNo} (h : (t.exhibit e).state.stopEnds = true) :
    (t.stopExhibit e).exhibit e = (t.exhibit e).entering .ready ∧ (t.stopExhibit e).slot e = (t.slot e).emptied ∧
      (t.stopExhibit e).source e = { t.source e with stopped := true } ∧ t.OtherExhibits (t.stopExhibit e) e ∧
      t.OnlyResumeDropped (t.stopExhibit e) (t.boundAxes e) ∧ (∀ k, OutsideExhibit e k → (t.stopExhibit e).word k = t.word k) ∧
      t.stopExhibit e = { t with
        exhibits := (t.stopExhibit e).exhibits, slots := (t.stopExhibit e).slots, sources := (t.stopExhibit e).sources,
        channels := (t.stopExhibit e).channels, axes := (t.stopExhibit e).axes, ram := (t.stopExhibit e).ram } := by
  have heq : t.stopExhibit e = (((t.endShow e).discardResume e).enterState e .ready).markCondition e .stopped := if_pos h
  rw [heq]
  clear heq
  have hend := t.endShow_to e
  obtain ⟨hdrop, hdform⟩ := (t.endShow e).discardResume_spec e
  generalize t.endShow e = u at *
  rw [State.boundAxes_inForce (by rw [hend.exhibit] : (u.exhibit e).inForce = (t.exhibit e).inForce)] at hdrop
  generalize u.discardResume e = v at *
  have henter := v.enterState_to e .ready
  generalize v.enterState e .ready = w at *
  have hmark := w.markCondition_to e .stopped
  generalize w.markCondition e .stopped = z at *
  have hvx : ∀ f, v.exhibit f = u.exhibit f := fun f => by rw [hdform]; rfl
  have hvs : ∀ f, v.slot f = u.slot f := fun f => by rw [hdform]; rfl
  have hvr : ∀ f, v.source f = u.source f := fun f => by rw [hdform]; rfl
  refine ⟨?_, ?_, ?_, fun f hf => ?_, fun a => ?_, fun k hk => ?_, ?_⟩
  · rw [hmark.exhibit, henter.exhibit, hvx, hend.exhibit]
  · rw [hmark.slot, henter.slot, hvs, hend.slot]
  · rw [hmark.source, henter.source, hvr, hend.source]
    rfl
  · obtain ⟨m1, m2, m3⟩ := hmark.others f hf
    obtain ⟨n1, n2, n3⟩ := henter.others f hf
    rw [m1, m2, m3, n1, n2, n3, hvx, hvs, hvr]
    exact hend.others f hf
  · rw [hmark.axis, henter.axis, hdrop, hend.axis]
  · rw [hmark.word k hk, henter.word k hk, hdform]
    exact hend.word k hk
  · have hform := hmark.form
    rw [henter.form, hdform, hend.form] at hform
    rw [show z.axes = v.axes by rw [hmark.form, henter.form]]
    exact hform

theorem ShowsEnded.step {s t : State} {done : List ExhibitNo} {e : ExhibitNo} (h : ShowsEnded s t done) (he : e ∉ done) :
    ShowsEnded s (t.stopExhibit e) (done ++ [e]) := by
  obtain ⟨hx, hs, hr⟩ := h.left e he
  have hsplit : ∀ f, f ∈ done ++ [e] → f ∈ done ∧ f ≠ e ∨ f = e := fun f hf => by
    rw [List.mem_append, List.mem_singleton] at hf
    by_cases hfe : f = e
    · exact .inr hfe
    · exact .inl ⟨hf.resolve_right hfe, hfe⟩
  by_cases hends : (s.exhibit e).state.stopEnds = true
  · have hbound : t.boundAxes e = s.boundAxes e := State.boundAxes_inForce (by rw [hx])
    obtain ⟨kx, ks, kr, kothers, kaxis, kword, kform⟩ := State.stopExhibit_spec (t := t) (e := e) (by rw [hx]; exact hends)
    rw [hbound] at kaxis
    generalize t.stopExhibit e = u at *
    refine ⟨fun f hf => ?_, fun f hf => ?_, fun a => ?_, fun k hk => (kword k (hk e)).trans (h.word k hk), ?_⟩
    · obtain ⟨hf, hne⟩ | rfl := hsplit f hf
      · obtain ⟨k1, k2, k3⟩ := kothers f hne
        rw [k1, k2, k3]
        exact h.ended f hf
      · rw [kx, ks, kr, hx, hs, hr]
        unfold Exhibit.ended State.endedSlot State.endedSource
        rw [if_pos hends, if_pos hends, if_pos hends]
        exact ⟨rfl, rfl, rfl⟩
    · rw [List.mem_append, List.mem_singleton, not_or] at hf
      obtain ⟨k1, k2, k3⟩ := kothers f hf.2
      rw [k1, k2, k3]
      exact h.left f hf.1
    · rw [kaxis, h.axis]
      by_cases ha : a ∈ s.boundAxes e
      · rw [if_pos ha]
        have hends' : ∃ f ∈ done ++ [e], (s.exhibit f).state.stopEnds = true ∧ a ∈ s.boundAxes f := ⟨e, by simp, hends, ha⟩
        simp only [hends', if_true]
      · rw [if_neg ha]
        refine Axis.resume_congr (s.axis a) ⟨?_, ?_⟩
        · exact fun ⟨f, hf, hfa⟩ => ⟨f, List.mem_append_left _ hf, hfa⟩
        · rintro ⟨f, hf, hfe, hfa⟩
          obtain ⟨hf, -⟩ | rfl := hsplit f hf
          · exact ⟨f, hf, hfe, hfa⟩
          · exact absurd hfa ha
    · rw [h.form] at kform
      exact kform
  · have hsame : t.stopExhibit e = t := if_neg (by rw [hx]; exact hends)
    rw [hsame]
    refine ⟨fun f hf => ?_, fun f hf => h.left f fun hd => hf (List.mem_append_left _ hd), fun a => ?_, h.word, h.form⟩
    · obtain ⟨hf, -⟩ | rfl := hsplit f hf
      · exact h.ended f hf
      · rw [hx, hs, hr]
        unfold Exhibit.ended State.endedSlot State.endedSource
        rw [if_neg hends, if_neg hends, if_neg hends]
        exact ⟨rfl, rfl, rfl⟩
    · rw [h.axis]
      refine Axis.resume_congr (s.axis a) ⟨?_, ?_⟩
      · exact fun ⟨f, hf, hfa⟩ => ⟨f, List.mem_append_left _ hf, hfa⟩
      · rintro ⟨f, hf, hfe, hfa⟩
        obtain ⟨hf, -⟩ | rfl := hsplit f hf
        · exact ⟨f, hf, hfe, hfa⟩
        · exact absurd hfe hends

theorem State.showsEnded (s : State) : ShowsEnded s (forEach 48 (fun e u => State.stopExhibit u e) s) (List.finRange 48) :=
  forEach_progress (fun done t => ShowsEnded s t done)
    ⟨by simp, fun _ _ => ⟨rfl, rfl, rfl⟩, fun a => by simp, fun _ _ => rfl, rfl⟩ fun _ _ _ he h => h.step he

/-! ### Encores drop (R7, R136 step 3) -/

/-- The encore flags of the exhibits done are dropped. -/
structure EncoresDropped (s t : State) (done : List ExhibitNo) : Prop where
  dropped : ∀ e ∈ done, t.exhibit e = { s.exhibit e with encore := false }
  left : ∀ e, e ∉ done → t.exhibit e = s.exhibit e
  word : ∀ k, (∀ e, OutsideExhibit e k) → t.word k = s.word k
  form : t = { s with exhibits := t.exhibits, ram := t.ram }

theorem State.encoresDropped (s : State) : EncoresDropped s (forEach 48 (fun e u => State.dropEncore u e) s) (List.finRange 48) := by
  refine forEach_progress (fun done t => EncoresDropped s t done) ⟨by simp, fun _ _ => rfl, fun _ _ => rfl, rfl⟩ fun done e t he h => ?_
  have hput := t.putExhibit_to e { t.exhibit e with encore := false }
  have hform : t.putExhibit e { t.exhibit e with encore := false } = { t with
      exhibits := (t.putExhibit e { t.exhibit e with encore := false }).exhibits,
      ram := (t.putExhibit e { t.exhibit e with encore := false }).ram } := by rw [State.putExhibit_form]
  have heq : t.dropEncore e = t.putExhibit e { t.exhibit e with encore := false } := rfl
  rw [heq]
  generalize t.putExhibit e { t.exhibit e with encore := false } = u at *
  refine ⟨fun f hf => ?_, fun f hf => ?_, fun k hk => (hput.word k (hk e)).trans (h.word k hk), ?_⟩
  · rw [List.mem_append, List.mem_singleton] at hf
    by_cases hfe : f = e
    · subst hfe
      rw [hput.exhibit, h.left f he]
    · rw [(hput.others f hfe).1]
      exact h.dropped f (hf.resolve_right hfe)
  · rw [List.mem_append, List.mem_singleton, not_or] at hf
    rw [(hput.others f hf.2).1]
    exact h.left f hf.1
  · rw [h.form] at hform
    exact hform

/-! ### Every axis comes to rest (R136 step 4) -/

/-- The states of the ended shows and halts, as a list. -/
theorem ExhibitState.stopEnds_iff (st : ExhibitState) :
    st.stopEnds = true ↔ st ∈ [ExhibitState.running, .suspended, .guarded, .halting] := by
  cases st <;> simp [ExhibitState.stopEnds]

/-- The exhibit as the stop leaves it before its reports. -/
def Exhibit.stopped (x : Exhibit) : Exhibit := { x.ended with encore := false }

/-- The resume record of an axis is gone where its show or halt has ended. -/
def State.keptResume (s : State) (a : AxisNo) : Option Request :=
  if ∃ e, (s.exhibit e).state ∈ [ExhibitState.running, .suspended, .guarded, .halting] ∧ a ∈ s.boundAxes e then none else (s.axis a).resume

/-- The axis before it is stopped. -/
def State.stopAxis (s : State) (a : AxisNo) : Axis := { s.axis a with resume := s.keptResume a }

/-- What the beginning of the gallery stop leaves before its reports are taken. -/
structure StoppedAll (s t : State) : Prop where
  exhibit : ∀ e, t.exhibit e = (s.exhibit e).stopped
  slot : ∀ e, t.slot e = s.endedSlot e
  source : ∀ e, t.source e = s.endedSource e
  busy : ∀ a, (s.axis a).state.busy = true → (t.axis a).Matches (s.stopAxis a).stoppedInPlace
  rest : ∀ a, (s.axis a).state.busy = false → t.axis a = s.stopAxis a
  free : t.pool.free = 32
  waiting : t.pool.waiting = []
  held : ∀ a, tget t.pool.held a = 0
  word : ∀ k, (∀ e, OutsideExhibit e k) → (∀ a, OutsideAxis a k) → t.word k = s.word k
  count : t.reports.length ≤ 80
  kinds : ∀ r ∈ t.reports, ∃ a, (∃ m up, r = .crossing a m up) ∨ ((s.axis a).strays = true ∧ r = .axisFault a .travel)
  found : ∀ a, (s.axis a).strays = true → .axisFault a .travel ∈ t.reports
  few : t.reports.countP Report.isFault ≤ 16
  stop : t.stopInForce = true ∧ t.releaseWritten = false
  form : t = { s with
    exhibits := t.exhibits, slots := t.slots, sources := t.sources, channels := t.channels, axes := t.axes, pool := t.pool, ram := t.ram,
    reports := t.reports, stopInForce := t.stopInForce, releaseWritten := t.releaseWritten }

/-- The passes of the beginning: over the exhibits twice, then over the axes. -/
theorem State.stopAll_passes (s : State) :
    s.stopAll = ((List.finRange 16).foldl State.stopInPlace (forEach 48 (fun e v => State.dropEncore v e)
      (forEach 48 (fun e u => State.stopExhibit u e) (s.setStop true)))).grantScan := by
  unfold State.stopAll
  simp only
  generalize forEach 48 (fun e v => State.dropEncore v e) (forEach 48 (fun e u => State.stopExhibit u e) (s.setStop true)) = t
  rfl

theorem State.stopAll_spec {s : State} (hrep : s.reports = []) (hheld : s.HeldLaw) (hunits : s.UnitLaw) : StoppedAll s s.stopAll := by
  obtain ⟨⟨hwait, -⟩, -, hdrives, -, -⟩ := hheld
  have hshows := (s.setStop true).showsEnded
  rw [s.stopAll_passes]
  generalize forEach 48 (fun e u => State.stopExhibit u e) (s.setStop true) = t at *
  have hencores := t.encoresDropped
  generalize forEach 48 (fun e v => State.dropEncore v e) t = u at *
  have hall : ∀ {n : Nat} (i : Fin n), i ∈ List.finRange n := List.mem_finRange
  have huaxis : ∀ a, u.axis a = s.stopAxis a := fun a => by
    have hax := hshows.axis a
    rw [hencores.form]
    refine hax.trans ?_
    unfold State.stopAxis State.keptResume
    refine Axis.resume_congr (s.axis a) ?_
    exact exists_congr fun e => ⟨fun ⟨_, h, ha⟩ => ⟨(ExhibitState.stopEnds_iff _).1 h, ha⟩, fun ⟨h, ha⟩ => ⟨hall e, (ExhibitState.stopEnds_iff _).2 h, ha⟩⟩
  have hustate : ∀ a, (u.axis a).state = (s.axis a).state := fun a => by rw [huaxis]; rfl
  have hupool : u.pool = s.pool := by rw [hencores.form, hshows.form]; rfl
  have hureports : u.reports = [] := by rw [hencores.form, hshows.form]; exact hrep
  obtain ⟨⟨v, hto, hshadow⟩, rs, hrs, hcount, hkinds, hfound, hfew⟩ := TravelTo.foldl State.stopInPlace_reports u (List.nodup_finRange 16)
  generalize (List.finRange 16).foldl State.stopInPlace u = w at *
  rw [hureports, List.nil_append] at hrs
  have hwpool : w.pool = v.pool := by rw [hshadow]
  have hwaxis : ∀ a, w.axis a = v.axis a := fun a => by rw [hshadow]; rfl
  have hwaiting : w.pool.waiting = [] := by
    rw [hwpool, hto.waiting, List.filter_eq_nil_iff]
    intro x hx
    rw [hupool] at hx
    simp [hereDeal, hall, hustate, hwait x hx]
  rw [State.grantScan_empty hwaiting]
  have hheld0 : ∀ a, tget w.pool.held a = 0 := fun a => by
    rw [hwpool, hto.held, hupool]
    by_cases ha : tget s.pool.held a = 0
    · rw [ha]
      exact ite_self _
    · exact if_pos ⟨hall a, by show (u.axis a).state.drives = true; rw [hustate]; exact hdrives a ha⟩
  refine ⟨fun e => ?_, fun e => ?_, fun e => ?_, fun a hb => ?_, fun a hb => ?_, ?_, hwaiting, hheld0, fun k h1 h2 => ?_, ?_, fun r hr => ?_,
    fun a ha => ?_, ?_, ?_, ?_⟩
  · have hx : w.exhibit e = u.exhibit e := by rw [hshadow, hto.form]; rfl
    rw [hx, hencores.dropped e (hall e), (hshows.ended e (hall e)).1]
    rfl
  · have hx : w.slot e = t.slot e := by rw [hshadow, hto.form, hencores.form]; rfl
    rw [hx]
    exact (hshows.ended e (hall e)).2.1
  · have hx : w.source e = t.source e := by rw [hshadow, hto.form, hencores.form]; rfl
    rw [hx]
    exact (hshows.ended e (hall e)).2.2
  · rw [hwaxis, ← huaxis]
    exact hto.touched a (hall a) (by rw [huaxis]; exact hb)
  · rw [hwaxis, ← huaxis]
    exact hto.untouched a (hall a) (by rw [huaxis]; exact hb)
  · have hsum : w.unitsHeld = 0 := by
      unfold State.unitsHeld
      rw [show w.pool.held = Vector.replicate 16 0 from tget_ext fun a => by rw [hheld0]; simp [tget]]
      decide
    have hu := hto.units
    have hs : s.pool.free + s.pool.held.toList.sum = 32 := hunits
    unfold State.unitsHeld at hu hsum
    rw [← hwpool, hupool] at hu
    omega
  · have hx : w.word k = v.word k := by rw [hshadow]; rfl
    rw [hx, hto.word k fun a _ _ => h2 a, hencores.word k h1, hshows.word k h1]
    rfl
  · rw [hrs]
    simpa [hereDeal] using hcount
  · obtain ⟨a, -, h | ⟨hf, rfl⟩⟩ := hkinds r (hrs ▸ hr)
    · exact ⟨a, .inl h.2⟩
    · exact ⟨a, .inr ⟨by rw [huaxis] at hf; exact hf, rfl⟩⟩
  · rw [hrs]
    exact hfound a (hall a) (by rw [huaxis]; exact ha)
  · rw [hrs]
    simpa using hfew
  · have hvstop : v.stopInForce = u.stopInForce ∧ v.releaseWritten = u.releaseWritten := by
      rw [hto.form]
      exact ⟨rfl, rfl⟩
    rw [hshadow]
    show v.stopInForce = true ∧ v.releaseWritten = false
    rw [hvstop.1, hvstop.2, hencores.form, hshows.form]
    exact ⟨rfl, rfl⟩
  · have huform := hencores.form
    rw [hshows.form] at huform
    have hvform := hto.form
    rw [huform] at hvform
    rw [hvform] at hshadow
    rw [hshadow]
    rfl

end Sys2Proof.Machine
end

section
/-! Reports taken one after another, and entries that later raises leave in the alert list (R155 to R159). -/

namespace Sys2Proof.Machine

/-! ### Reports taken in order -/

/-- What every report taken keeps holds when all are taken, when none makes another. -/
theorem State.settle_progress {t : State} {rs : List Report} (I : List Report → State → Prop) (hrs : t.reports = rs) (hlen : rs.length ≤ 4096)
    (h0 : I [] t) (hstep : ∀ done r rest u, rs = done ++ r :: rest → u.reports = r :: rest → I done u →
      I (done ++ [r]) (State.deliver { u with reports := rest } r) ∧ (State.deliver { u with reports := rest } r).reports = rest) :
    I rs t.settle ∧ t.settle.reports = [] := by
  have hrun : ∀ (n : Nat) (rest done : List Report) (u : State), rs = done ++ rest → rest.length ≤ n → u.reports = rest → I done u →
      I rs (settleUpTo n u) ∧ (settleUpTo n u).reports = [] := by
    intro n
    induction n with
    | zero =>
      intro rest done u hsplit hn hu hI
      obtain rfl := List.length_eq_zero_iff.1 (Nat.le_zero.1 hn)
      rw [List.append_nil] at hsplit
      exact ⟨hsplit ▸ hI, hu⟩
    | succ n ih =>
      intro rest done u hsplit hn hu hI
      unfold settleUpTo
      cases rest with
      | nil =>
        rw [hu]
        rw [List.append_nil] at hsplit
        exact ⟨hsplit ▸ hI, hu⟩
      | cons r rest =>
        rw [hu]
        obtain ⟨hnext, hreports⟩ := hstep done r rest u hsplit hu hI
        exact ih rest (done ++ [r]) _ (by simpa using hsplit) (by simpa using hn) hreports hnext
  exact hrun 4096 rs [] t rfl hlen hrs h0

/-! ### Entries that stay (R155 to R159) -/

/-- A RAISED entry of this source, cause and severity stands in the list, with a number of its own. -/
def State.Entered (s : State) (src : SourceNo) (cause : AlertCause) (severity : Nat) : Prop :=
  ∃ y ∈ s.alerts, (y.source = src ∧ y.cause = cause ∧ y.severity = severity ∧ y.acked = false) ∧ ∀ z ∈ s.alerts, z.number = y.number → z = y

/-- What a raise makes of a list with room: a merged entry, or a new one at the tail. -/
theorem State.raise_list {s : State} (src : SourceNo) (cause : AlertCause) (code severity : Nat) (hrun : s.part = .run)
    (hlen : s.alerts.length < 32) :
    ∃ y : Alert, (y.source = src ∧ y.cause = cause ∧ y.severity = severity ∧ y.acked = false) ∧
      ((∃ x ∈ s.alerts, x.source = src ∧ x.cause = cause ∧ y.number = x.number ∧
          (s.raise src cause code severity).alerts = (s.alerts.filter fun z => z.number != x.number) ++ [y]) ∨
        ((∀ x ∈ s.alerts, ¬ (x.source = src ∧ x.cause = cause)) ∧ (∀ z ∈ s.alerts, z.number ≠ y.number) ∧
          (s.raise src cause code severity).alerts = s.alerts ++ [y])) := by
  cases hof : s.alertOf? src cause with
  | none =>
    obtain ⟨y, hy, h1, h2, h3, -, h4, -, h5⟩ := State.raise_entered_list (s := s) code severity hrun hof hlen
    refine ⟨y, ⟨h1, h2, h3, h4⟩, .inr ⟨fun x hx hk => ?_, fun z hz hn => ?_, hy⟩⟩
    · exact State.alertOf?_none hof (List.mem_map.2 ⟨x, hx, by rw [hk.1, hk.2]⟩)
    · refine freeNumber_free s.alerts s.nextNumber hlen.le (List.mem_map.2 ⟨z, hz, ?_⟩)
      rw [hn, h5]
  | some x =>
    obtain ⟨hx, hsrc, hcause⟩ := State.alertOf?_some hof
    obtain ⟨hnum, h1, h2, -, h3, h4, -⟩ := s.mergedAlert_spec x code severity
    refine ⟨s.mergedAlert x code severity, ⟨h1.trans hsrc, h2.trans hcause, h3, h4⟩, .inl ⟨x, hx, hsrc, hcause, hnum, ?_⟩⟩
    unfold State.raise
    rw [State.raiseCase_merged severity hrun hof]
    exact s.mergeRaise_list x code severity

/-- A raise leaves its entry. -/
theorem State.raise_enters {s : State} (src : SourceNo) (cause : AlertCause) (code severity : Nat) (hrun : s.part = .run)
    (hlen : s.alerts.length < 32) : (s.raise src cause code severity).Entered src cause severity := by
  obtain ⟨y, hy, ⟨x, -, -, -, hnum, hlist⟩ | ⟨-, hfresh, hlist⟩⟩ := State.raise_list (s := s) src cause code severity hrun hlen
  · refine ⟨y, by rw [hlist]; simp, hy, fun z hz hn => ?_⟩
    rw [hlist, List.mem_append, List.mem_singleton, List.mem_filter] at hz
    obtain ⟨-, hz⟩ | hz := hz
    · simp [hn, hnum] at hz
    · exact hz
  · refine ⟨y, by rw [hlist]; simp, hy, fun z hz hn => ?_⟩
    rw [hlist, List.mem_append, List.mem_singleton] at hz
    exact hz.resolve_left fun hz => hfresh z hz hn

/-- An entry stays at a later raise, one of its own source and cause among them where the severity is the same. -/
theorem State.Entered.raise {s : State} {src : SourceNo} {cause : AlertCause} {severity : Nat} (h : s.Entered src cause severity)
    (src' : SourceNo) (cause' : AlertCause) (code' severity' : Nat) (hrun : s.part = .run) (hlen : s.alerts.length < 32)
    (hsame : src' = src → cause' = cause → severity' = severity) : (s.raise src' cause' code' severity').Entered src cause severity := by
  by_cases hkey : src' = src ∧ cause' = cause
  · obtain ⟨rfl, rfl⟩ := hkey
    obtain rfl := hsame rfl rfl
    exact State.raise_enters src' cause' code' severity' hrun hlen
  · obtain ⟨w, hw, ⟨hsrc, hcause, hsev, hraised⟩, hown⟩ := h
    obtain ⟨y, -, ⟨x, hx, hxs, hxc, hnum, hlist⟩ | ⟨-, hfresh, hlist⟩⟩ := State.raise_list (s := s) src' cause' code' severity' hrun hlen
    · have hne : w.number ≠ x.number := fun hn => by
        obtain rfl := hown x hx hn.symm
        exact hkey ⟨hxs.symm.trans hsrc, hxc.symm.trans hcause⟩
      refine ⟨w, ?_, ⟨hsrc, hcause, hsev, hraised⟩, fun z hz hn => ?_⟩
      · rw [hlist, List.mem_append, List.mem_filter]
        exact .inl ⟨hw, by simpa using hne⟩
      · rw [hlist, List.mem_append, List.mem_filter, List.mem_singleton] at hz
        obtain ⟨hz, -⟩ | rfl := hz
        · exact hown z hz hn
        · exact absurd (hn.symm.trans hnum) hne
    · refine ⟨w, by rw [hlist]; exact List.mem_append_left _ hw, ⟨hsrc, hcause, hsev, hraised⟩, fun z hz hn => ?_⟩
      rw [hlist, List.mem_append, List.mem_singleton] at hz
      obtain hz | rfl := hz
      · exact hown z hz hn
      · exact absurd hn.symm (hfresh w hw)

theorem State.Entered.of_alerts {s t : State} {src : SourceNo} {cause : AlertCause} {severity : Nat} (h : s.Entered src cause severity)
    (ha : t.alerts = s.alerts) : t.Entered src cause severity := by
  unfold State.Entered
  rw [ha]
  exact h

/-- A raise changes of the gallery record the overflow count and the mark of entries without a station. -/
theorem State.raise_gallery (s : State) (src : SourceNo) (cause : AlertCause) (code severity : Nat) :
    (s.raise src cause code severity).gallery = { s.gallery with
      overflow := (s.raise src cause code severity).gallery.overflow, unrouted := (s.raise src cause code severity).gallery.unrouted } := by
  have hnote : ∀ (u : State) (x : Alert), (u.noteRouting x).gallery = { u.gallery with unrouted := (u.noteRouting x).gallery.unrouted } := fun u x => by
    unfold State.noteRouting
    split <;> rfl
  unfold State.raise
  split
  · rfl
  · unfold State.mergeRaise
    simp only
    rw [State.closeAct_form, hnote]
    rfl
  · unfold State.enterAlert
    simp only
    rw [State.closeAct_form, hnote]
    rfl
  · unfold State.enterAlert
    simp only
    rw [State.closeAct_form, hnote]
    rfl
  · rfl

end Sys2Proof.Machine
end

section
/-! The TRAVEL faults of the gallery stop, taken against the exhibits the stop has left (R9, R93, R136). -/

namespace Sys2Proof.Machine

/-! ### An axis fault at an exhibit without a show -/

/-- What an axis fault leaves of an exhibit that runs no show, of the axes, and of everything else. -/
structure StillFault (s t : State) (e : ExhibitNo) (code : ShowFault) : Prop where
  others : s.OtherExhibits t e
  atRest : (s.exhibit e).state = .ready ∨ (s.exhibit e).state = .resting →
    t.exhibit e = (s.exhibit e).entering .faulted ∧ t.slot e = { s.slot e with firstFault := some ((s.slot e).firstOf code 0xFFFF) } ∧
      t.source e = { s.source e with faulted := (t.slot e).firstFault.map fun f => { code := some f.code, address := f.address } }
  locked : (s.exhibit e).state = .locked → t.exhibit e = s.exhibit e ∧ t.source e = s.source e ∧ ∃ f, t.slot e = { s.slot e with firstFault := f }
  faulted : (s.exhibit e).state = .faulted → t = s
  axis : ∀ b, ∃ r, t.axis b = { s.axis b with resume := r }
  form : t = { s with exhibits := t.exhibits, slots := t.slots, sources := t.sources, channels := t.channels, axes := t.axes, ram := t.ram }

theorem ShowTo.form_axes {s t : State} {e : ExhibitNo} {x : Exhibit} {sl : Slot} {src : SourceRecord} {L : ChannelNo → Prop}
    (h : ShowTo s t e x sl src L) :
    t = { s with exhibits := t.exhibits, slots := t.slots, sources := t.sources, channels := t.channels, axes := t.axes, ram := t.ram } := by
  rw [h.form]

theorem State.exhibitAxisFault_still (s : State) {e : ExhibitNo} (cause : FaultCause)
    (h : (s.exhibit e).state ∈ [ExhibitState.ready, .resting, .locked, .faulted]) :
    StillFault s (s.exhibitAxisFault e cause) e cause.showFault := by
  have hrest : ∀ b, ∃ r, s.axis b = { s.axis b with resume := r } := fun b => ⟨_, rfl⟩
  simp only [List.mem_cons, List.not_mem_nil, or_false] at h
  obtain hst | hst | hst | hst := h
  case inr.inr.inl =>
    have hact : s.exhibitAxisFault e cause = s.recordFirst e cause.showFault 0xFFFF := by unfold State.exhibitAxisFault; rw [hst]
    have hto := s.recordFirst_to e cause.showFault 0xFFFF
    rw [← hact] at hto
    exact ⟨hto.others, fun hr => by simp [hst] at hr, fun _ => ⟨hto.exhibit, hto.source, _, hto.slot⟩, fun hr => by simp [hst] at hr,
      fun b => ⟨_, hto.axis b⟩, hto.form_axes⟩
  case inr.inr.inr =>
    have hact : s.exhibitAxisFault e cause = s := by unfold State.exhibitAxisFault; rw [hst]
    rw [hact]
    exact ⟨fun _ _ => ⟨rfl, rfl, rfl⟩, fun hr => by simp [hst] at hr, fun hr => by simp [hst] at hr, fun _ => rfl, hrest, rfl⟩
  all_goals
    have hact : s.exhibitAxisFault e cause = (s.recordFirst e cause.showFault 0xFFFF).enterFaultedExhibit e := by
      unfold State.exhibitAxisFault; rw [hst]
    have hfirst := s.recordFirst_to e cause.showFault 0xFFFF
    obtain ⟨A, hfaulted, honly⟩ := (s.recordFirst e cause.showFault 0xFFFF).enterFaultedExhibit_spec e
    have hnote : (s.recordFirst e cause.showFault 0xFFFF).faultNote e =
        { code := some ((s.slot e).firstOf cause.showFault 0xFFFF).code, address := ((s.slot e).firstOf cause.showFault 0xFFFF).address } := by
      unfold State.faultNote
      rw [hfirst.slot]
      rfl
    rw [hfirst.exhibit, hfirst.slot, hfirst.source, hnote] at hfaulted
    rw [hact]
    generalize s.recordFirst e cause.showFault 0xFFFF = r at *
    generalize r.enterFaultedExhibit e = t at *
    refine ⟨fun f hf => ?_, fun _ => ⟨hfaulted.exhibit, hfaulted.slot, by rw [hfaulted.source, hfaulted.slot]; rfl⟩, fun hr => by simp [hst] at hr,
      fun hr => by simp [hst] at hr, fun b => ?_, ?_⟩
    · obtain ⟨h1, h2, h3⟩ := hfaulted.others f hf
      rw [h1, h2, h3]
      exact hfirst.others f hf
    · have hb : t.axis b = State.axis { r with axes := A } b := hfaulted.axis b
      rw [hb, honly b, ← hfirst.axis b]
      split
      · exact ⟨_, rfl⟩
      · exact ⟨_, rfl⟩
    · have hform := hfaulted.form_axes
      rw [hfirst.form_axes] at hform
      exact hform

/-! ### The faults taken one after another -/

/-- The report of a TRAVEL fault of an axis. -/
abbrev travelOf (a : AxisNo) : Report := .axisFault a .travel

/-- What a TRAVEL fault has made of an exhibit that ran no show. -/
structure Strayed (v u : State) (e : ExhibitNo) : Prop where
  atRest : (v.exhibit e).state = .ready ∨ (v.exhibit e).state = .resting → (u.exhibit e).state = .faulted ∧
    (u.slot e).firstFault = some ((v.slot e).firstOf .axisTravel 0xFFFF) ∧
    (u.source e).faulted = (u.slot e).firstFault.map fun f => { code := some f.code, address := f.address }
  still : (v.exhibit e).state = .locked ∨ (v.exhibit e).state = .faulted → (u.exhibit e).state = (v.exhibit e).state ∧ u.source e = v.source e

/-- The reports `done` have been taken since the state `v`, in which no exhibit runs a show and nothing waits for power. -/
structure FaultsTaken (v : State) (done : List Report) (u : State) : Prop where
  form : u = { v with
    exhibits := u.exhibits, slots := u.slots, sources := u.sources, gallery := u.gallery, axes := u.axes, channels := u.channels,
    alerts := u.alerts, stations := u.stations, nextNumber := u.nextNumber, rewriteCount := u.rewriteCount, ram := u.ram, reports := u.reports }
  axis : ∀ b, ∃ r, u.axis b = { v.axis b with resume := r }
  force : ∀ e, (u.exhibit e).inForce = (v.exhibit e).inForce
  unhit : ∀ e, (∀ a, travelOf a ∈ done → v.axisOwner a ≠ some e) →
    u.exhibit e = v.exhibit e ∧ u.slot e = v.slot e ∧ u.source e = v.source e
  hit : ∀ e a, travelOf a ∈ done → v.axisOwner a = some e → Strayed v u e
  stopped : ∀ e, (u.source e).stopped = (v.source e).stopped
  current : ∀ e, (v.slot e).current = none → (u.slot e).current = none
  mark : ∀ a, travelOf a ∈ done → v.axisOwner a = none → u.gallery.axisFault &&& (1#16 <<< a.val) ≠ 0
  count : v.part = .run → v.alerts.length ≤ 15 → done.countP Report.isFault ≤ 16 →
    u.alerts.length ≤ v.alerts.length + done.countP Report.isFault
  entered : v.part = .run → v.alerts.length ≤ 15 → done.countP Report.isFault ≤ 16 → ∀ a e, travelOf a ∈ done → v.axisOwner a = some e →
    u.Entered (exhibitSource e) .axisFault 2

theorem FaultsTaken.nil (v : State) : FaultsTaken v [] v where
  form := rfl
  axis b := ⟨_, rfl⟩
  force _ := rfl
  unhit _ _ := ⟨rfl, rfl, rfl⟩
  hit _ _ h := absurd h (by simp)
  stopped _ := rfl
  current _ h := h
  mark _ h := absurd h (by simp)
  count _ _ _ := by simp
  entered _ _ _ _ _ h := absurd h (by simp)

/-- The same with another list of reports to come. -/
theorem FaultsTaken.reporting {v u : State} {done : List Report} (h : FaultsTaken v done u) (rest : List Report) :
    FaultsTaken v done { u with reports := rest } :=
  ⟨by rw [h.form], h.axis, h.force, h.unhit, fun e a ha ho => ⟨(h.hit e a ha ho).atRest, (h.hit e a ha ho).still⟩, h.stopped, h.current, h.mark,
    h.count, fun hrun hlen hfew a e ha ho => (h.entered hrun hlen hfew a e ha ho).of_alerts rfl⟩

/-- A report that is no TRAVEL fault and has changed nothing. -/
theorem FaultsTaken.passed {v u : State} {done : List Report} {r : Report} (h : FaultsTaken v done u) (hr : r.isFault = false) :
    FaultsTaken v (done ++ [r]) u := by
  have hmem : ∀ {a}, travelOf a ∈ done ++ [r] → travelOf a ∈ done := fun {a} ha => by
    obtain ha | ha := List.mem_append.1 ha
    · exact ha
    · rw [← List.mem_singleton.1 ha] at hr
      exact absurd hr (by simp [Report.isFault])
  have hcount : (done ++ [r]).countP Report.isFault = done.countP Report.isFault := by
    rw [List.countP_append]
    simp [hr]
  refine ⟨h.form, h.axis, h.force, fun e he => h.unhit e fun a ha => he a (List.mem_append_left _ ha), fun e a ha => h.hit e a (hmem ha), h.stopped,
    h.current, fun a ha => h.mark a (hmem ha), ?_, ?_⟩
  · rw [hcount]
    exact h.count
  · rw [hcount]
    exact fun hrun hlen hfew a e ha => h.entered hrun hlen hfew a e (hmem ha)

theorem State.axisSource_eq (s : State) (a : AxisNo) : s.axisSource a = ((s.axisOwner a).map exhibitSource).getD gallerySource := by
  unfold State.axisSource
  cases s.axisOwner a <;> rfl

/-- The raise at the end of a fault that is taken. -/
theorem FaultsTaken.raised {v u w : State} {done : List Report} {a : AxisNo} (h : FaultsTaken v done u)
    (hform : w = { u with exhibits := w.exhibits, slots := w.slots, sources := w.sources, gallery := w.gallery, axes := w.axes,
                          channels := w.channels, ram := w.ram })
    (haxis : ∀ b, ∃ r, w.axis b = { u.axis b with resume := r }) (hforce : ∀ e, (w.exhibit e).inForce = (v.exhibit e).inForce)
    (hunhit : ∀ e, (∀ b, travelOf b ∈ done ++ [travelOf a] → v.axisOwner b ≠ some e) →
      w.exhibit e = v.exhibit e ∧ w.slot e = v.slot e ∧ w.source e = v.source e)
    (hhit : ∀ e b, travelOf b ∈ done ++ [travelOf a] → v.axisOwner b = some e → Strayed v w e)
    (hstopped : ∀ e, (w.source e).stopped = (v.source e).stopped) (hcurrent : ∀ e, (v.slot e).current = none → (w.slot e).current = none)
    (hmark : ∀ b, travelOf b ∈ done ++ [travelOf a] → v.axisOwner b = none → w.gallery.axisFault &&& (1#16 <<< b.val) ≠ 0)
    {src : SourceNo} (hsrc : ∀ e, v.axisOwner a = some e → src = exhibitSource e) :
    FaultsTaken v (done ++ [travelOf a]) (w.raise src .axisFault 0 2) := by
  have hcount : (done ++ [travelOf a]).countP Report.isFault = done.countP Report.isFault + 1 := by
    rw [List.countP_append]
    rfl
  have hpart : w.part = v.part := by rw [hform, h.form]
  have halerts : w.alerts = u.alerts := by rw [hform]
  have hlength : v.part = .run → v.alerts.length ≤ 15 → done.countP Report.isFault + 1 ≤ 16 →
      w.alerts.length ≤ v.alerts.length + done.countP Report.isFault ∧ w.alerts.length < 32 := fun hrun hlen hfew => by
    have := h.count hrun hlen (by omega)
    rw [halerts]
    exact ⟨this, by omega⟩
  obtain ⟨hraise, -⟩ := w.raise_act src .axisFault 0 2
  obtain ⟨hmarks, -⟩ := w.raise_marks src .axisFault 0 2
  have hkept := fun hrun hlen => State.raise_length (s := w) src .axisFault 0 2 hrun hlen
  have hentry := fun hrun hlen => State.raise_enters (s := w) src .axisFault 0 2 hrun hlen
  have hstay := fun (e : ExhibitNo) (hE : w.Entered (exhibitSource e) .axisFault 2) hrun hlen => hE.raise src .axisFault 0 2 hrun hlen fun _ _ => rfl
  generalize w.raise src .axisFault 0 2 = t at *
  have hx : ∀ e, t.exhibit e = w.exhibit e := fun e => by rw [hraise]; rfl
  have hs : ∀ e, t.slot e = w.slot e := fun e => by rw [hraise]; rfl
  have hq : ∀ e, t.source e = w.source e := fun e => by rw [hraise]; rfl
  have ha : ∀ b, t.axis b = w.axis b := fun b => by rw [hraise]; rfl
  refine ⟨?_, fun b => ?_, fun e => by rw [hx]; exact hforce e, fun e he => ?_, fun e b hb ho => ⟨?_, ?_⟩, fun e => by rw [hq]; exact hstopped e,
    fun e he => by rw [hs]; exact hcurrent e he, fun b hb ho => by rw [hmarks]; exact hmark b hb ho, fun hrun hlen hfew => ?_,
    fun hrun hlen hfew b e hb ho => ?_⟩
  · rw [hraise, hform, h.form]
  · obtain ⟨r, hr⟩ := haxis b
    obtain ⟨q, hq⟩ := h.axis b
    exact ⟨r, by rw [ha, hr, hq]⟩
  · rw [hx, hs, hq]
    exact hunhit e he
  · rw [hx, hs, hq]
    exact (hhit e b hb ho).atRest
  · rw [hx, hq]
    exact (hhit e b hb ho).still
  · rw [hcount] at hfew ⊢
    obtain ⟨h1, h2⟩ := hlength hrun hlen hfew
    have := hkept (hpart.trans hrun) h2
    omega
  · rw [hcount] at hfew
    obtain ⟨h1, h2⟩ := hlength hrun hlen hfew
    obtain hb | hb := List.mem_append.1 hb
    · exact hstay e ((h.entered hrun hlen (by omega) b e hb ho).of_alerts halerts) (hpart.trans hrun) h2
    · obtain rfl : b = a := by simpa using hb
      rw [← hsrc e ho]
      exact hentry (hpart.trans hrun) h2

theorem mem_travels {done : List Report} {a b : AxisNo} : travelOf b ∈ done ++ [travelOf a] ↔ travelOf b ∈ done ∨ b = a := by
  simp

/-- The mark of an unbound axis stays, and that of the axis is set. -/
theorem markAxisFault_bit (s : State) (a b : AxisNo) (h : b = a ∨ s.gallery.axisFault &&& (1#16 <<< b.val) ≠ 0) :
    (s.markAxisFault a).gallery.axisFault &&& (1#16 <<< b.val) ≠ 0 := by
  have hbit : ∀ m : BitVec 16, m &&& (1#16 <<< b.val) ≠ 0 ↔ m.getLsbD b.val = true := fun m => by
    have hb : b.val < 16 := b.isLt
    constructor
    · intro hne
      by_contra hbit
      refine hne (BitVec.eq_of_getLsbD_eq fun i hi => ?_)
      rw [BitVec.getLsbD_and, BitVec.getLsbD_shiftLeft]
      by_cases hib : i = b.val
      · rw [hib, Bool.eq_false_iff.2 hbit, Bool.false_and]
        exact (by simp : BitVec.getLsbD (0 : BitVec 16) b.val = false).symm
      · by_cases hlt : i < b.val
        · simp [hlt]
        · simp [BitVec.getLsbD_one, show ¬ i - b.val = 0 by omega]
    · intro hbit hzero
      have hzero : (m &&& (1#16 <<< b.val)).getLsbD b.val = (0 : BitVec 16).getLsbD b.val := by rw [hzero]
      rw [BitVec.getLsbD_and, hbit, Bool.true_and, BitVec.getLsbD_shiftLeft] at hzero
      simp [hb] at hzero
  rw [hbit] at h ⊢
  show (s.gallery.axisFault ||| axisBit a).getLsbD b.val = true
  rw [BitVec.getLsbD_or]
  obtain rfl | h := h
  · have : (axisBit b).getLsbD b.val = true := by
      unfold axisBit
      have hb : b.val < 16 := b.isLt
      simp [hb]
    rw [this, Bool.or_true]
  · rw [h, Bool.true_or]

/-- One TRAVEL fault more is taken. -/
theorem FaultsTaken.fault {v u : State} {done : List Report} (h : FaultsTaken v done u) (a : AxisNo) (hwait : v.pool.waiting = [])
    (hstates : ∀ e b, v.axisOwner b = some e → (v.exhibit e).state ∈ [ExhibitState.ready, .resting, .locked, .faulted]) :
    FaultsTaken v (done ++ [travelOf a]) (u.deliver (travelOf a)) ∧ (u.deliver (travelOf a)).reports = u.reports := by
  have howner : u.axisOwner a = v.axisOwner a := State.axisOwner_inForce h.force a
  have hpool : u.pool = v.pool := by rw [h.form]
  have hscan : ∀ (w : State) src, w.pool = u.pool → (w.raise src .axisFault 0 2).grantScan = w.raise src .axisFault 0 2 := fun w src hw => by
    refine State.grantScan_empty ?_
    rw [(w.raise_act src .axisFault 0 2).1]
    show w.pool.waiting = []
    rw [hw, hpool, hwait]
  have hreports : ∀ (w : State) src, w.reports = u.reports → (w.raise src .axisFault 0 2).reports = u.reports := fun w src hw => by
    rw [(w.raise_act src .axisFault 0 2).1]
    exact hw
  have hdeliver : u.deliver (travelOf a) = u.takeAxisFault a .travel := rfl
  rw [hdeliver]
  clear hdeliver
  unfold State.takeAxisFault
  cases ho : v.axisOwner a with
  | none =>
    simp only [howner.trans ho]
    rw [hscan (u.markAxisFault a) _ rfl]
    refine ⟨h.raised (w := u.markAxisFault a) rfl (fun b => ⟨_, rfl⟩) h.force (fun e he => h.unhit e fun b hb => he b (mem_travels.2 (.inl hb)))
      (fun e b hb hbe => ?_) h.stopped h.current (fun b hb hbn => ?_) (fun e he => absurd (ho.symm.trans he) (by simp)), hreports _ _ rfl⟩
    · obtain hb | rfl := mem_travels.1 hb
      · exact ⟨(h.hit e b hb hbe).atRest, (h.hit e b hb hbe).still⟩
      · exact absurd (ho.symm.trans hbe) (by simp)
    · refine markAxisFault_bit u a b ?_
      obtain hb | rfl := mem_travels.1 hb
      · exact .inr (h.mark b hb hbn)
      · exact .inl rfl
  | some e =>
    simp only [howner.trans ho]
    have hv := hstates e a ho
    have hhit : (∃ b, travelOf b ∈ done ∧ v.axisOwner b = some e) ∨ (u.exhibit e = v.exhibit e ∧ u.slot e = v.slot e ∧ u.source e = v.source e) := by
      by_cases hb : ∃ b, travelOf b ∈ done ∧ v.axisOwner b = some e
      · exact .inl hb
      · exact .inr (h.unhit e fun b hbd hbe => hb ⟨b, hbd, hbe⟩)
    have hafter : ∀ b, travelOf b ∈ done → v.axisOwner b = some e → (u.exhibit e).state = .faulted ∨
        ((u.exhibit e).state = .locked ∧ (v.exhibit e).state = .locked) := fun b hb hbe => by
      obtain ⟨h1, h2⟩ := h.hit e b hb hbe
      simp only [List.mem_cons, List.not_mem_nil, or_false] at hv
      obtain hst | hst | hst | hst := hv
      · exact .inl (h1 (.inl hst)).1
      · exact .inl (h1 (.inr hst)).1
      · exact .inr ⟨(h2 (.inl hst)).1.trans hst, hst⟩
      · exact .inl ((h2 (.inr hst)).1.trans hst)
    have hu : (u.exhibit e).state ∈ [ExhibitState.ready, .resting, .locked, .faulted] := by
      obtain ⟨b, hb, hbe⟩ | ⟨hx, -⟩ := hhit
      · obtain h1 | ⟨h1, -⟩ := hafter b hb hbe <;> simp [h1]
      · rwa [hx]
    have hstill := u.exhibitAxisFault_still .travel hu
    have hstrayed : Strayed v (u.exhibitAxisFault e .travel) e := by
      obtain ⟨b, hb, hbe⟩ | ⟨hx, hs, hq⟩ := hhit
      · obtain ⟨h1, h2⟩ := h.hit e b hb hbe
        obtain hf | ⟨hl, hvl⟩ := hafter b hb hbe
        · rw [hstill.faulted hf]
          exact ⟨h1, h2⟩
        · obtain ⟨k1, k2, -⟩ := hstill.locked hl
          refine ⟨fun hr => by simp [hvl] at hr, fun hr => ?_⟩
          rw [k1, k2]
          exact h2 hr
      · refine ⟨fun hr => ?_, fun hr => ?_⟩
        · obtain ⟨k1, k2, k3⟩ := hstill.atRest (by rwa [hx])
          refine ⟨by rw [k1]; rfl, by rw [k2, hs]; rfl, by rw [k3]⟩
        · obtain hr | hr := hr
          · obtain ⟨k1, k2, -⟩ := hstill.locked (by rwa [hx])
            rw [k1, k2, hx, hq]
            exact ⟨rfl, rfl⟩
          · rw [hstill.faulted (by rwa [hx]), hx, hq]
            exact ⟨rfl, rfl⟩
    have hwpool : (u.exhibitAxisFault e .travel).pool = u.pool := by rw [hstill.form]
    have hsame : (u.exhibit e).state = .ready ∨ (u.exhibit e).state = .resting ∨ (u.exhibit e).state = .locked ∨ (u.exhibit e).state = .faulted := by
      simpa using hu
    have hown : ((u.exhibitAxisFault e .travel).exhibit e).inForce = (u.exhibit e).inForce ∧
        ((u.exhibitAxisFault e .travel).source e).stopped = (u.source e).stopped ∧
        ((u.slot e).current = none → ((u.exhibitAxisFault e .travel).slot e).current = none) := by
      have hrest : (u.exhibit e).state = .ready ∨ (u.exhibit e).state = .resting → _ := fun hr => hstill.atRest hr
      obtain hr | hr | hr | hr := hsame
      case inr.inr.inl =>
        obtain ⟨k1, k2, f, k3⟩ := hstill.locked hr
        rw [k1, k2, k3]
        exact ⟨rfl, rfl, id⟩
      case inr.inr.inr =>
        rw [hstill.faulted hr]
        exact ⟨rfl, rfl, id⟩
      all_goals
        obtain ⟨k1, k2, k3⟩ := hrest (by simp [hr])
        rw [k3, k2, k1]
        exact ⟨Exhibit.inForce_entering (by decide) (by simp [hr]), rfl, id⟩
    rw [hscan _ _ hwpool]
    generalize u.exhibitAxisFault e .travel = w at *
    have hother := hstill.others
    refine ⟨h.raised ?_ hstill.axis (fun f => ?_) (fun f hf => ?_) (fun f b hb hbf => ?_) (fun f => ?_) (fun f hf => ?_) (fun b hb hbn => ?_)
      (fun f hf => ?_), hreports _ _ (by rw [hstill.form])⟩
    · rw [hstill.form]
    · by_cases hfe : f = e
      · subst hfe
        exact hown.1.trans (h.force f)
      · rw [(hother f hfe).1]
        exact h.force f
    · have hfe : f ≠ e := fun hfe => hf a (mem_travels.2 (.inr rfl)) (hfe ▸ ho)
      obtain ⟨k1, k2, k3⟩ := hother f hfe
      rw [k1, k2, k3]
      exact h.unhit f fun b hb => hf b (mem_travels.2 (.inl hb))
    · by_cases hfe : f = e
      · rw [hfe]
        exact hstrayed
      · obtain hb | rfl := mem_travels.1 hb
        · obtain ⟨k1, k2, k3⟩ := hother f hfe
          obtain ⟨h1, h2⟩ := h.hit f b hb hbf
          refine ⟨?_, ?_⟩
          · rw [k1, k2, k3]
            exact h1
          · rw [k1, k3]
            exact h2
        · exact absurd (Option.some.inj (hbf.symm.trans ho)) hfe
    · by_cases hfe : f = e
      · subst hfe
        exact hown.2.1.trans (h.stopped f)
      · rw [(hother f hfe).2.2]
        exact h.stopped f
    · by_cases hfe : f = e
      · subst hfe
        exact hown.2.2 (h.current f hf)
      · rw [(hother f hfe).2.1]
        exact h.current f hf
    · obtain hb | rfl := mem_travels.1 hb
      · rw [hstill.form]
        exact h.mark b hb hbn
      · exact absurd (hbn.symm.trans ho) (by simp)
    · rw [State.axisSource_eq, howner, hf]
      rfl

end Sys2Proof.Machine
end

section
/-! The beginning of the gallery stop (R134 to R136, R139): O55. -/

namespace Sys2Proof.Machine

/-- An owner of an axis is not OFF. -/
theorem State.axisOwner_state {s : State} {a : AxisNo} {e : ExhibitNo} (h : s.axisOwner a = some e) : (s.exhibit e).state ≠ .off := by
  unfold State.axisOwner lowest at h
  have hnames := List.find?_some h
  intro hoff
  have hforce : (s.exhibit e).inForce = none := if_pos hoff
  simp [hforce] at hnames

/-! ### The report of the stop (R136 steps 5 and 6, R139) -/

/-- What the stop does once its reports are taken. -/
def State.stopReported (w : State) : State :=
  ((if (w.raise gallerySource .galleryStop 0 3).part = .run then (w.raise gallerySource .galleryStop 0 3).markStopOn
    else w.raise gallerySource .galleryStop 0 3).setAttn attnStopChange).evalAllReady

theorem State.stopBegin_eq (s : State) : s.stopBegin = s.stopAll.settle.stopReported := rfl

/-- The report changes the alert list and what it shows, the gallery record, ATTN and the lamps. -/
structure StopReported (w t : State) : Prop where
  alerts : t.alerts = (w.raise gallerySource .galleryStop 0 3).alerts
  gallery : t.gallery = { w.gallery with
    stopOn := w.gallery.stopOn || w.part == .run, overflow := t.gallery.overflow, unrouted := t.gallery.unrouted }
  attn : t.attn = w.attn ||| 8#4
  word : ∀ k, NotOfAlerts k → t.word k = w.word k
  form : t = { w with
    gallery := t.gallery, alerts := t.alerts, stations := t.stations, channels := t.channels, nextNumber := t.nextNumber,
    rewriteCount := t.rewriteCount, ram := t.ram, attn := t.attn }

theorem State.stopReported_spec (w : State) : StopReported w w.stopReported := by
  obtain ⟨hform, hword⟩ := w.raise_act gallerySource .galleryStop 0 3
  have hgallery := w.raise_gallery gallerySource .galleryStop 0 3
  unfold State.stopReported
  generalize hv : w.raise gallerySource .galleryStop 0 3 = v at *
  have hpart : v.part = w.part := by rw [hform]
  obtain ⟨x, hx, hxg, hxform⟩ : ∃ x : State, (if v.part = .run then v.markStopOn else v) = x ∧
      x.gallery = { v.gallery with stopOn := v.gallery.stopOn || v.part == .run } ∧ x = { v with gallery := x.gallery } := by
    by_cases hrun : v.part = .run
    · refine ⟨v.markStopOn, if_pos hrun, ?_, rfl⟩
      simp [State.markStopOn, hrun]
    · have hpart : (v.part == PartState.run) = false := beq_eq_false_iff_ne.2 hrun
      exact ⟨v, if_neg hrun, by rw [hpart, Bool.or_false], rfl⟩
  rw [hx]
  have heval := (x.setAttn attnStopChange).evalAllReady_form
  generalize (x.setAttn attnStopChange).evalAllReady = t at *
  have htg : t.gallery = x.gallery := by rw [heval]; rfl
  have hvg : v.gallery.stopOn = w.gallery.stopOn := by rw [hgallery]
  refine ⟨?_, ?_, ?_, fun k hk => ?_, ?_⟩
  · rw [hv, heval, hxform]
    rfl
  · rw [htg, hxg, hvg, hpart, hgallery]
  · rw [heval, hxform]
    show v.attn ||| 8#4 = _
    rw [hform]
  · rw [heval, hxform]
    exact hword k hk
  · rw [heval, hxform, hform]
    rfl

/-! ### The state the reports of the stop are taken in -/

theorem State.deliver_crossing_empty {s : State} (h : ∀ e, (s.slot e).current = none) (a : AxisNo) (m : Fin 4) (up : Bool) :
    s.deliver (.crossing a m up) = s := by
  cases howner : s.axisOwner a with
  | none =>
    unfold State.deliver
    simp only [howner]
  | some e => exact State.deliver_crossing_idle howner (.inr (h e)) m up

section
variable {s v : State} (h : StoppedAll s v)

include h in
theorem StoppedAll.current (hslot : s.SlotLaw) (e : ExhibitNo) : (v.slot e).current = none := by
  rw [h.slot]
  unfold State.endedSlot
  split
  · rfl
  · next hends =>
    rw [← Option.not_isSome_iff_eq_none, hslot e]
    rintro (hst | hst | hst) <;> simp [hst, ExhibitState.stopEnds] at hends

include h in
theorem StoppedAll.inForce (e : ExhibitNo) : (v.exhibit e).inForce = (s.exhibit e).inForce := by
  rw [h.exhibit]
  unfold Exhibit.stopped Exhibit.ended
  split
  · next hends =>
    refine Exhibit.inForce_entering (x := s.exhibit e) (st := .ready) (by decide) fun hoff => ?_
    simp [hoff, ExhibitState.stopEnds] at hends
  · rfl

include h in
/-- No exhibit that owns an axis runs a show any more. -/
theorem StoppedAll.states (e : ExhibitNo) (b : AxisNo) (ho : v.axisOwner b = some e) :
    (v.exhibit e).state ∈ [ExhibitState.ready, .resting, .locked, .faulted] := by
  have hoff : (v.exhibit e).state ≠ .off := State.axisOwner_state ho
  rw [h.exhibit] at hoff ⊢
  unfold Exhibit.stopped Exhibit.ended at hoff ⊢
  by_cases hends : (s.exhibit e).state.stopEnds = true
  · rw [if_pos hends]
    simp [Exhibit.entering]
  · rw [if_neg hends] at hoff ⊢
    cases hst : (s.exhibit e).state <;> simp [hst, ExhibitState.stopEnds] at hends hoff ⊢

include h in
/-- Without models outside their windows the reports are all dropped. -/
theorem StoppedAll.settle_calm (hslot : s.SlotLaw) (hin : ∀ a, (s.axis a).strays = false) : v.settle = { v with reports := [] } := by
  refine (Takes.dropped v fun r hr rest => ?_).settle (h.count.trans (by decide))
  obtain ⟨a, ⟨m, up, rfl⟩ | ⟨hstrays, -⟩⟩ := h.kinds r hr
  · exact State.deliver_crossing_empty (s := { v with reports := rest }) (fun e => h.current hslot e) a m up
  · rw [hin a] at hstrays
    exact absurd hstrays (by decide)

include h in
/-- With models outside their windows the faults are taken. -/
theorem StoppedAll.settle_faults (hslot : s.SlotLaw) : FaultsTaken v v.reports v.settle ∧ v.settle.reports = [] := by
  refine State.settle_progress (FaultsTaken v) rfl (h.count.trans (by decide)) (.nil v) fun done r rest u hsplit hu hI => ?_
  obtain ⟨a, ⟨m, up, rfl⟩ | ⟨-, rfl⟩⟩ := h.kinds r (by rw [hsplit]; simp)
  · have hrest := hI.reporting rest
    rw [State.deliver_crossing_empty (s := { u with reports := rest }) (fun e => hI.current e (h.current hslot e)) a m up]
    exact ⟨hrest.passed rfl, rfl⟩
  · exact (hI.reporting rest).fault a h.waiting h.states

end

end Sys2Proof.Machine
end

section
/-! The beginning of the gallery stop (R134 to R136, R139): O55. -/

namespace Sys2Proof.Machine

/-! ### Axes stopped in place, by their state (R89, R93, R98, R136) -/

namespace Axis

theorem stoppedInPlace_drives {x : Axis} (h : x.state.drives = true) : x.stoppedInPlace = x.stoppedHere :=
  if_neg fun ha => by simp [ha, AxisState.drives] at h

theorem stoppedInPlace_pos {x : Axis} (h : x.state.drives = true) : x.stoppedInPlace.pos = x.encoder := by
  rw [stoppedInPlace_drives h]
  rfl

theorem stoppedInPlace_moving {x : Axis} (h : x.state = .moving ∨ x.state = .stopping) :
    x.stoppedInPlace.state = (if x.inWindow x.encoder then .idle else .faulted) ∧
      (x.inWindow x.encoder = false → x.stoppedInPlace.cause = some .travel) := by
  have hdrives : x.state.drives = true := by obtain h | h := h <;> rw [h] <;> rfl
  have hhoming : x.state ≠ .homing := by obtain h | h := h <;> rw [h] <;> decide
  rw [stoppedInPlace_drives hdrives]
  unfold stoppedHere afterQuickStop
  rw [if_neg hhoming]
  by_cases hin : x.inWindow x.encoder = true
  · rw [if_pos hin, if_pos hin]
    exact ⟨rfl, fun hout => absurd hin (by simp [hout])⟩
  · rw [if_neg hin, if_neg hin]
    exact ⟨rfl, fun _ => rfl⟩

theorem stoppedInPlace_homing {x : Axis} (h : x.state = .homing) : x.stoppedInPlace.state = .unhomed ∧ x.stoppedInPlace.homed = false := by
  rw [stoppedInPlace_drives (by rw [h]; rfl)]
  unfold stoppedHere afterQuickStop
  rw [if_pos h]
  exact ⟨rfl, rfl⟩

theorem stoppedInPlace_await {x : Axis} (h : x.state = .awaitPower) :
    x.stoppedInPlace.state = (if x.homed then .idle else .unhomed) ∧ x.stoppedInPlace.request = none := by
  unfold stoppedInPlace unqueued
  rw [if_pos h]
  split <;> exact ⟨rfl, rfl⟩

theorem stoppedInPlace_busy {x : Axis} (h : x.state.busy = true) : x.stoppedInPlace.state.busy = false := by
  cases hst : x.state
  case awaitPower =>
    rw [(stoppedInPlace_await hst).1]
    split <;> rfl
  case homing =>
    rw [(stoppedInPlace_homing hst).1]
    rfl
  case moving =>
    rw [(stoppedInPlace_moving (.inl hst)).1]
    split <;> rfl
  case stopping =>
    rw [(stoppedInPlace_moving (.inr hst)).1]
    split <;> rfl
  all_goals simp [hst, AxisState.busy] at h

end Axis

/-! ### The two events of the beginning (R134, R135) -/

/-- The state with a filter of the E-STOP pin, as the beginning of the stop finds it. -/
theorem State.stopEvent {s : State} {ev : Instr} (h : (ev = .estopAssertion ∧ s.estop.level = false) ∨ (ev = .stopRequest ∧ s.clearing = none))
    (hstop : s.stopInForce = false) :
    ∃ f : InputFilter, exec ev s = .next (s.setEstop f).stopBegin ∧ f.level = (s.estop.level || ev == .estopAssertion) := by
  obtain ⟨rfl, hl⟩ | ⟨rfl, hc⟩ := h
  · refine ⟨.recognised true, congrArg Host.Outcome.next ?_, by rw [hl]; rfl⟩
    show s.estopAssertion = _
    unfold State.estopAssertion
    rw [if_neg (by simp [hl])]
    exact if_neg (by simp [State.setEstop, hstop])
  · refine ⟨s.estop, congrArg Host.Outcome.next ?_, by rw [show (Instr.stopRequest == .estopAssertion) = false from rfl, Bool.or_false]⟩
    show s.writeStop 1 = s.stopBegin
    have hwrite : s.writeStop 1 = s.stopWrite 1 := if_neg (by simp [hc])
    rw [hwrite]
    show (if s.stopInForce then s.setReleaseWritten false else s.stopBegin) = _
    rw [hstop, if_neg Bool.false_ne_true]

section
variable {s v : State} (h : StoppedAll s v)

include h in
theorem StoppedAll.axisPlace (a : AxisNo) : (v.axis a).state.busy = false ∧
    ((s.axis a).state.drives = true → (v.axis a).pos = (s.axis a).encoder) ∧
    ((s.axis a).state = .moving ∨ (s.axis a).state = .stopping →
      (v.axis a).state = (if (s.axis a).inWindow (s.axis a).encoder then .idle else .faulted) ∧
        ((s.axis a).inWindow (s.axis a).encoder = false → (v.axis a).cause = some .travel)) ∧
    ((s.axis a).state = .homing → (v.axis a).state = .unhomed ∧ (v.axis a).homed = false) ∧
    ((s.axis a).state = .awaitPower → (v.axis a).state = (if (s.axis a).homed then .idle else .unhomed) ∧ (v.axis a).request = none) := by
  by_cases hbusy : (s.axis a).state.busy = true
  · have hmatch := h.busy a hbusy
    have hx : v.axis a = { (s.stopAxis a).stoppedInPlace with imageStale := (v.axis a).imageStale } := hmatch
    rw [hx]
    exact ⟨Axis.stoppedInPlace_busy (x := s.stopAxis a) hbusy, Axis.stoppedInPlace_pos (x := s.stopAxis a),
      Axis.stoppedInPlace_moving (x := s.stopAxis a), Axis.stoppedInPlace_homing (x := s.stopAxis a),
      Axis.stoppedInPlace_await (x := s.stopAxis a)⟩
  · have hno := (not_congr (AxisState.busy_iff _)).1 hbusy
    have hstate : (v.axis a).state = (s.axis a).state := by
      rw [h.rest a (Bool.eq_false_iff.2 hbusy)]
      rfl
    refine ⟨by rw [hstate]; exact Bool.eq_false_iff.2 hbusy, fun hd => absurd (.inl hd) hno, fun hd => absurd (.inl ?_) hno,
      fun hd => absurd (.inl (by rw [hd]; rfl)) hno, fun hd => absurd (.inr hd) hno⟩
    obtain hd | hd := hd <;> rw [hd] <;> rfl

include h in
theorem StoppedAll.ended (hslot : s.SlotLaw) (e : ExhibitNo) (he : (s.exhibit e).state ∈ [ExhibitState.running, .suspended, .guarded, .halting]) :
    (v.exhibit e).state = .ready ∧ (v.source e).stopped = true ∧ (v.slot e).current = none := by
  have hends := (ExhibitState.stopEnds_iff _).2 he
  refine ⟨?_, ?_, h.current hslot e⟩
  · rw [h.exhibit]
    unfold Exhibit.stopped Exhibit.ended
    rw [if_pos hends]
    rfl
  · rw [h.source]
    unfold State.endedSource
    rw [if_pos hends]

include h in
theorem StoppedAll.kept (e : ExhibitNo) (he : (s.exhibit e).state ∉ [ExhibitState.running, .suspended, .guarded, .halting]) :
    v.exhibit e = { s.exhibit e with encore := false } ∧ v.source e = s.source e ∧ v.slot e = s.slot e := by
  have hends := fun hx => he ((ExhibitState.stopEnds_iff _).1 hx)
  rw [h.exhibit, h.source, h.slot]
  unfold Exhibit.stopped Exhibit.ended State.endedSource State.endedSlot
  rw [if_neg hends, if_neg hends, if_neg hends]
  exact ⟨rfl, rfl, rfl⟩

include h in
theorem StoppedAll.marks (e : ExhibitNo) : (v.exhibit e).encore = false ∧ (v.exhibit e).guardOpen = (s.exhibit e).guardOpen := by
  rw [h.exhibit]
  refine ⟨rfl, ?_⟩
  unfold Exhibit.stopped Exhibit.ended
  split <;> rfl

include h in
theorem StoppedAll.firstFault (e : ExhibitNo) : (v.slot e).firstFault = (s.slot e).firstFault := by
  rw [h.slot]
  unfold State.endedSlot
  split <;> rfl

end

/-! ### What the beginning leaves -/

/-- The first clause of O55: no model stands outside its window. -/
theorem State.stopBegin_calm {s : State} (hrep : s.reports = []) (hslot : s.SlotLaw) (hheld : s.HeldLaw) (hunits : s.UnitLaw)
    (hin : ∀ a, (s.axis a).strays = false) : ∃ v, StoppedAll s v ∧ StopReported { v with reports := [] } s.stopBegin := by
  have hall := State.stopAll_spec hrep hheld hunits
  refine ⟨s.stopAll, hall, ?_⟩
  rw [s.stopBegin_eq, hall.settle_calm hslot hin]
  exact State.stopReported_spec _

/-- The third clause: models outside their windows among them. -/
theorem State.stopBegin_faults {s : State} (hrep : s.reports = []) (hslot : s.SlotLaw) (hheld : s.HeldLaw) (hunits : s.UnitLaw) :
    ∃ v u, StoppedAll s v ∧ FaultsTaken v v.reports u ∧ StopReported u s.stopBegin := by
  have hall := State.stopAll_spec hrep hheld hunits
  refine ⟨s.stopAll, s.stopAll.settle, hall, (hall.settle_faults hslot).1, ?_⟩
  rw [s.stopBegin_eq]
  exact State.stopReported_spec _

/-- The axis after the reports is the axis before them, but for its resume record. -/
theorem FaultsTaken.axisPlace {v u : State} {done : List Report} (h : FaultsTaken v done u) (b : AxisNo) :
    (u.axis b).state = (v.axis b).state ∧ (u.axis b).pos = (v.axis b).pos ∧ (u.axis b).homed = (v.axis b).homed ∧
      (u.axis b).cause = (v.axis b).cause ∧ (u.axis b).request = (v.axis b).request := by
  obtain ⟨r, hr⟩ := h.axis b
  rw [hr]
  exact ⟨rfl, rfl, rfl, rfl, rfl⟩

/-- Settles O55, by the passes of the beginning over exhibits and axes, the TRAVEL reports they leave, taken in order, and the raise. -/
theorem galleryStopBegins : Obligations.GalleryStopBegins := by
  unfold Obligations.GalleryStopBegins
  refine ⟨fun s ev hev hstop hrep hslot hheld hunits hin => ?_, fun s hstop => ⟨fun hc => ?_, fun hl => ?_⟩,
    fun s ev hev hstop hrep hslot hheld hunits => ?_⟩
  · obtain ⟨f, hexec, hlevel⟩ := State.stopEvent hev hstop
    have hcalm : ∀ a, (s.axis a).strays = false := fun a => by
      unfold Axis.strays
      by_cases hd : (s.axis a).state.drives = true
      · rw [hin a hd, Bool.not_true, Bool.and_false]
      · simp [hd]
    obtain ⟨v, hall, hsaid⟩ := State.stopBegin_calm (s := s.setEstop f) hrep hslot hheld hunits hcalm
    generalize (s.setEstop f).stopBegin = t at *
    have hform := hsaid.form
    rw [hall.form] at hform
    have htx : ∀ e, t.exhibit e = v.exhibit e := fun e => by rw [hsaid.form]; rfl
    have hts : ∀ e, t.slot e = v.slot e := fun e => by rw [hsaid.form]; rfl
    have htr : ∀ e, t.source e = v.source e := fun e => by rw [hsaid.form]; rfl
    have hta : ∀ a, t.axis a = v.axis a := fun a => by rw [hsaid.form]; rfl
    have htp : t.pool = v.pool := by rw [hsaid.form]
    have htstop : t.stopInForce = v.stopInForce ∧ t.releaseWritten = v.releaseWritten := by rw [hsaid.form]; exact ⟨rfl, rfl⟩
    have hvattn : v.attn = s.attn := by rw [hall.form]; rfl
    have hvg : v.gallery = s.gallery ∧ v.part = s.part := by rw [hall.form]; exact ⟨rfl, rfl⟩
    have hte : t.estop = f := by rw [hform]; rfl
    refine ⟨t, hexec, htstop.1.trans hall.stop.1, htstop.2.trans hall.stop.2, hsaid.attn.trans (congrArg (· ||| 8#4) hvattn), fun e => ?_,
      fun a => ?_, htp ▸ hall.free, htp ▸ hall.waiting, htp ▸ hall.held, ?_, by rw [hte, hlevel], fun k _ h1 h2 h3 => ?_, ?_⟩
    · rw [htx, hts, htr]
      refine ⟨hall.ended hslot e, fun he => ?_, hall.marks e⟩
      obtain ⟨k1, k2, k3⟩ := hall.kept e he
      rw [k1, k2, k3]
      exact ⟨rfl, rfl, rfl, rfl⟩
    · obtain ⟨p1, p2, -⟩ := hall.axisPlace a
      rw [hta]
      exact ⟨p1, hall.rest a, p2⟩
    · have hg := hsaid.gallery
      rw [hvg.1, hvg.2] at hg
      exact hg
    · exact (hsaid.word k h1).trans (hall.word k h2 h3)
    · rw [hrep, hform]
      rfl
  · refine ⟨_, congrArg Host.Outcome.next ?_, rfl⟩
    have hwrite : s.writeStop 1 = s.stopWrite 1 := if_neg (by simp [hc])
    show s.writeStop 1 = _
    rw [hwrite]
    show (if s.stopInForce then s.setReleaseWritten false else s.stopBegin) = _
    exact if_pos hstop
  · refine ⟨_, congrArg Host.Outcome.next ?_, rfl⟩
    show s.estopAssertion = _
    unfold State.estopAssertion
    rw [if_neg (by simp [hl])]
    exact if_pos hstop
  · obtain ⟨f, hexec, -⟩ := State.stopEvent hev hstop
    obtain ⟨v, u, hall, htaken, hsaid⟩ := State.stopBegin_faults (s := s.setEstop f) hrep hslot hheld hunits
    generalize (s.setEstop f).stopBegin = t at *
    have htx : ∀ e, t.exhibit e = u.exhibit e := fun e => by rw [hsaid.form]; rfl
    have hts : ∀ e, t.slot e = u.slot e := fun e => by rw [hsaid.form]; rfl
    have htr : ∀ e, t.source e = u.source e := fun e => by rw [hsaid.form]; rfl
    have hta : ∀ a, t.axis a = u.axis a := fun a => by rw [hsaid.form]; rfl
    have htp : t.pool = v.pool := by rw [hsaid.form, htaken.form]
    have htstop : t.stopInForce = v.stopInForce ∧ t.releaseWritten = v.releaseWritten := by
      rw [hsaid.form, htaken.form]
      exact ⟨rfl, rfl⟩
    have huattn : u.attn = s.attn := by rw [htaken.form, hall.form]; rfl
    have htg : t.gallery.axisFault = u.gallery.axisFault := by rw [hsaid.gallery]
    have hvpart : v.part = s.part := by rw [hall.form]; rfl
    have hupart : u.part = s.part := by rw [htaken.form]; exact hvpart
    have hvalerts : v.alerts = s.alerts := by rw [hall.form]; rfl
    have howner : ∀ a, v.axisOwner a = s.axisOwner a := fun a => State.axisOwner_inForce hall.inForce a
    have hroom : s.part = .run → s.alerts.length ≤ 15 → u.alerts.length < 32 := fun hrun hlen => by
      have := htaken.count (hvpart.trans hrun) (by rwa [hvalerts]) hall.few
      have := hall.few
      rw [hvalerts] at *
      omega
    refine ⟨t, hexec, htstop.1.trans hall.stop.1, htstop.2.trans hall.stop.2, hsaid.attn.trans (congrArg (· ||| 8#4) huattn), fun a => ?_,
      fun e a ho hst hout => ?_, fun e he => ?_, fun hrun hlen => ?_, htp ▸ hall.free, htp ▸ hall.waiting⟩
    · obtain ⟨p1, p2, p3, p4, p5⟩ := hall.axisPlace a
      obtain ⟨q1, q2, q3, q4, q5⟩ := htaken.axisPlace a
      rw [hta, q1, q2, q3, q4, q5]
      refine ⟨p1, fun hst => ?_, fun hst => ?_, p5⟩
      · have hdrives : (s.axis a).state.drives = true := by obtain hst | hst := hst <;> rw [hst] <;> rfl
        obtain ⟨h1, h2⟩ := p3 hst
        refine ⟨p2 hdrives, h1, fun hout => ⟨h2 hout, fun ho => ?_⟩⟩
        rw [htg]
        exact htaken.mark a (hall.found a (Axis.strays_iff.2 ⟨hst, hout⟩)) ((howner a).trans ho)
      · obtain ⟨h1, h2⟩ := p4 hst
        exact ⟨h1, h2, p2 (by show (s.axis a).state.drives = true; rw [hst]; rfl)⟩
    · have hstray : travelOf a ∈ v.reports := hall.found a (Axis.strays_iff.2 ⟨hst, hout⟩)
      obtain ⟨h1, h2⟩ := htaken.hit e a hstray ((howner a).trans ho)
      have hends := hall.ended hslot e
      have hkept := hall.kept e
      have hfirst := hall.firstFault e
      rw [htx, hts, htr]
      refine ⟨fun hn => ?_, fun hm => ?_, fun hrun hlen => ?_⟩
      · have hv : (v.exhibit e).state = .ready ∨ (v.exhibit e).state = .resting := by
          by_cases he : (s.exhibit e).state ∈ [ExhibitState.running, .suspended, .guarded, .halting]
          · exact .inl (hends he).1
          · rw [(hkept he).1]
            show (s.exhibit e).state = _ ∨ (s.exhibit e).state = _
            cases hx : (s.exhibit e).state <;> simp [hx] at hn he ⊢
        obtain ⟨k1, k2, k3⟩ := h1 hv
        unfold Slot.firstOf at k2
        rw [hfirst] at k2
        exact ⟨k1, k2, k3⟩
      · have he : (s.exhibit e).state ∉ [ExhibitState.running, .suspended, .guarded, .halting] := by
          simp only [List.mem_cons, List.not_mem_nil, or_false] at hm
          obtain hm | hm := hm <;> rw [hm] <;> decide
        obtain ⟨k1, k2, -⟩ := hkept he
        rw [k1, k2] at h2
        have hm : (s.exhibit e).state = .locked ∨ (s.exhibit e).state = .faulted := by simpa [or_comm] using hm
        exact h2 hm
      · have hentered := htaken.entered (hvpart.trans hrun) (by rwa [hvalerts]) hall.few a e hstray ((howner a).trans ho)
        obtain ⟨y, hy, hkinds, -⟩ := hentered.raise gallerySource .galleryStop 0 3 (hupart.trans hrun) (hroom hrun hlen) fun _ hc => by cases hc
        exact ⟨y, by rw [hsaid.alerts]; exact hy, hkinds⟩
    · obtain ⟨-, k2, k3⟩ := hall.ended hslot e he
      rw [hts, htr, htaken.stopped]
      exact ⟨k2, htaken.current e k3⟩
    · obtain ⟨y, hy, hkinds, -⟩ := State.raise_enters (s := u) gallerySource .galleryStop 0 3 (hupart.trans hrun) (hroom hrun hlen)
      exact ⟨y, by rw [hsaid.alerts]; exact hy, hkinds⟩

end Sys2Proof.Machine
end

section
/-! The freeze of the bound axes at a guard opening, and the quick stop of STOPPING ones (R128, R129): O52. -/

namespace Sys2Proof.Machine

/-! ### One axis is frozen (R129) -/

/-- An axis that the freeze has stopped in place, with its resume record. -/
def Axis.frozen (x : Axis) : Axis := { x.stoppedInPlace with resume := x.resumeRecord }

/-- The freeze of an axis without its report. -/
def State.freezeSilently (s : State) (a : AxisNo) : State :=
  (s.stopHere a).setAxis a { (s.stopHere a).axis a with resume := (s.axis a).resumeRecord }

/-- What the freeze does to an axis. -/
def freezeDeal : AxisDeal := { hereDeal with result := Axis.frozen, idle := Axis.unresumed }

theorem Axis.resumeRecord_rest {x : Axis} (h : x.state.busy = false) : x.resumeRecord = none := by
  unfold Axis.resumeRecord
  cases hst : x.state <;> simp [hst, AxisState.busy] at h ⊢

theorem freezeDeal_does : freezeDeal.Does State.freezeSilently where
  touched s a h := by
    have hto := hereDeal_does.touched s a h
    have hset := (s.stopHere a).setAxis_to a { (s.stopHere a).axis a with resume := (s.axis a).resumeRecord }
    rw [hto.pool] at hset
    refine (hto.trans hset).congr ?_
    have hmatch : ((s.stopHere a).axis a).Matches (s.axis a).stoppedInPlace := hto.axis
    unfold Axis.Matches at hmatch ⊢
    rw [hmatch]
    rfl
  untouched s a h := by
    have hbusy : (s.axis a).state.busy = false := h
    have hsame : s.stopHere a = s := (hereDeal_does.untouched s a h).trans (s.setAxis_self a)
    unfold State.freezeSilently
    rw [hsame, Axis.resumeRecord_rest hbusy]
    rfl
  calm := hereDeal_does.calm
  apart := hereDeal_does.apart

theorem State.freezeAxis_reports : freezeDeal.Reports Axis.strays State.freezeSilently State.freezeAxis where
  does := freezeDeal_does
  eq s a := by
    unfold State.freezeAxis State.freezeSilently
    rw [State.stopInPlace_reports.eq s a]
    split <;> rfl

/-! ### A STOPPING axis quick-stops (R128) -/

/-- What a guard opening at a HALTING exhibit does to an axis. -/
def stoppingDeal : AxisDeal where
  touches x := x.state == .stopping
  result := Axis.stoppedHere
  idle x := x
  crosses x := x.state == .stopping
  returns x := x.state == .stopping
  leaves _ := false
  most := 4

/-- The quick stop of a STOPPING axis without its report. -/
def State.stopStoppingSilently (s : State) (a : AxisNo) : State := if (s.axis a).state = .stopping then s.quickStopSilently a else s

theorem stoppingDeal_does : stoppingDeal.Does State.stopStoppingSilently where
  touched s a h := by
    have hst : (s.axis a).state = .stopping := beq_iff_eq.1 h
    have hto := stopDeal_does.touched s a (by show (s.axis a).state.drives = true; rw [hst]; rfl)
    unfold State.stopStoppingSilently
    rw [if_pos hst]
    simpa [stoppingDeal, stopDeal, AxisDeal.pool, hst, AxisState.drives] using hto
  untouched s a h := by
    have hst : (s.axis a).state ≠ .stopping := beq_eq_false_iff_ne.1 h
    exact (if_neg hst).trans (s.setAxis_self a).symm
  calm x h := ⟨h, h, rfl⟩
  apart _ _ := rfl

/-- A STOPPING axis has its model outside the travel window. -/
def Axis.straysStopping (x : Axis) : Bool := x.state == .stopping && x.strays

theorem Axis.straysStopping_iff {x : Axis} : x.straysStopping = true ↔ x.state = .stopping ∧ x.inWindow x.encoder = false := by
  unfold Axis.straysStopping
  rw [Bool.and_eq_true, beq_iff_eq, Axis.strays_iff]
  exact ⟨fun ⟨h, _, k⟩ => ⟨h, k⟩, fun ⟨h, k⟩ => ⟨h, .inr h, k⟩⟩

theorem State.stopStopping_reports : stoppingDeal.Reports Axis.straysStopping State.stopStoppingSilently State.stopStopping where
  does := stoppingDeal_does
  eq s a := by
    unfold State.stopStopping State.stopStoppingSilently Axis.straysStopping
    by_cases hst : (s.axis a).state = .stopping
    · rw [if_pos hst, if_pos hst, s.quickStop_reports a, hst, beq_self_eq_true, Bool.true_and]
    · rw [if_neg hst, if_neg hst, beq_eq_false_iff_ne.2 hst, Bool.false_and, if_neg Bool.false_ne_true]

/-! ### Where no model is outside its window -/

/-- The same with room for one report more of each axis. -/
def AxisDeal.roomier (D : AxisDeal) : AxisDeal := { D with most := D.most + 1 }

/-- No TRAVEL fault found, the act is one without reports of faults. -/
theorem TravelTo.calm {s t : State} {D : AxisDeal} {finds : Axis → Bool} {d : List AxisNo} (h : TravelTo s t D finds d)
    (hin : ∀ a ∈ d, finds (s.axis a) = false) : AxesTo s t D.roomier d := by
  obtain ⟨⟨t₀, hto, hshadow⟩, rs, hrs, hcount, hkinds, -, -⟩ := h
  rw [hshadow]
  refine ⟨hto.touched, hto.untouched, hto.others, hto.word, hto.waiting, hto.held, hto.units, ⟨rs, hrs, hcount, fun r hr => ?_⟩, ?_⟩
  · obtain ⟨a, ha, hc | ⟨hf, -⟩⟩ := hkinds r hr
    · exact ⟨a, ha, hc⟩
    · rw [hin a ha] at hf
      exact absurd hf (by decide)
  · rw [hto.form]

end Sys2Proof.Machine
end

section
/-! A guard opening at an exhibit, its freeze where no model is outside its window (R128, R129): O52. -/

namespace Sys2Proof.Machine

/-! ### Parts of the opening -/

/-- The channel is the ready lamp of the configuration. -/
abbrev ExhibitConfig.ReadyLampIs (c : ExhibitConfig) (ch : ChannelNo) : Prop := c.readyLamp = some ch

theorem ShowTo.ready {s t : State} {e : ExhibitNo} {x y : Exhibit} {sl : Slot} {src : SourceRecord} {c : ExhibitConfig}
    (h : ShowTo s t e x sl src y.IsReadyLamp) (hc : y.config = some c) : ShowTo s t e x sl src c.ReadyLampIs :=
  h.mono fun ch hl => by
    have := Exhibit.isReadyLamp_config hl
    rwa [hc] at this

/-- The ready lamp shows READY GUARD. -/
theorem State.evalReady_guard {s : State} {e : ExhibitNo} {c : ExhibitConfig} (hc : (s.exhibit e).config = some c)
    (hst : (s.exhibit e).state = .guarded ∨
      ((s.exhibit e).guardOpen = true ∧ (s.exhibit e).state ∉ [ExhibitState.off, .running, .suspended])) (ch : ChannelNo)
    (h : c.readyLamp = some ch) : ((s.evalReady e).channel ch).readyLayer.setting = .fixed .readyGuard := by
  have hoff : (s.exhibit e).state ≠ .off := fun ho => by simp [ho] at hst
  rw [s.evalReady_setting (by unfold Exhibit.inForce; rw [if_neg hoff]; exact hc) h]
  refine if_pos (hst.imp_right fun ⟨h1, h2⟩ => ⟨h1, ?_⟩)
  simp only [List.mem_cons, List.not_mem_nil, or_false, not_or] at h2
  exact h2.2

/-- The exhibit marked by the opening of its guard. -/
def Exhibit.opened (x : Exhibit) : Exhibit := { x with guardOpen := true, settle := none }

/-- The guard-open attribute set and the ready lamp evaluated. -/
def State.opened (s : State) (e : ExhibitNo) : State := (s.putExhibit e (s.exhibit e).opened).evalReady e

theorem State.opened_to (s : State) {e : ExhibitNo} {c : ExhibitConfig} (hc : (s.exhibit e).config = some c) :
    ShowTo s (s.opened e) e (s.exhibit e).opened (s.slot e) (s.source e) c.ReadyLampIs := by
  have hput := s.putExhibit_to e (s.exhibit e).opened
  have heval := (s.putExhibit e (s.exhibit e).opened).evalReady_to e
  rw [hput.exhibit, hput.slot, hput.source] at heval
  exact (hput.silent _).trans (heval.ready hc)

theorem State.opened_lamp (s : State) {e : ExhibitNo} {c : ExhibitConfig} (hc : (s.exhibit e).config = some c)
    (hst : (s.exhibit e).state ∉ [ExhibitState.off, .running, .suspended]) (ch : ChannelNo) (h : c.readyLamp = some ch) :
    ((s.opened e).channel ch).readyLayer.setting = .fixed .readyGuard := by
  have hx := (s.putExhibit_to e (s.exhibit e).opened).exhibit
  exact State.evalReady_guard (by rw [hx]; exact hc) (.inr (by rw [hx]; exact ⟨rfl, hst⟩)) ch h

/-- The exhibit GUARDED, its episode not yet begun. -/
def Exhibit.guarded (x : Exhibit) : Exhibit := { x.entering .guarded with returnState := some x.state.returnTo }

theorem State.enterState_ready (s : State) {e : ExhibitNo} {c : ExhibitConfig} (hc : (s.exhibit e).config = some c) (st : ExhibitState) :
    ShowTo s (s.enterState e st) e ((s.exhibit e).entering st) (s.slot e) (s.source e) c.ReadyLampIs := (s.enterState_to e st).ready hc

theorem State.enterGuarded_to (s : State) {e : ExhibitNo} {c : ExhibitConfig} (hc : (s.exhibit e).config = some c) :
    ShowTo s (s.enterGuarded e) e (s.exhibit e).guarded { s.slot e with frozen := true } (s.source e) c.ReadyLampIs := by
  have henter := s.enterState_ready hc .guarded
  unfold State.enterGuarded
  simp only
  generalize s.enterState e .guarded = t at *
  have hput := t.putExhibit_to e { t.exhibit e with returnState := some (s.exhibit e).state.returnTo }
  generalize t.putExhibit e { t.exhibit e with returnState := some (s.exhibit e).state.returnTo } = u at *
  rw [henter.exhibit, henter.slot, henter.source] at hput
  have hslot := u.putSlot_to e { u.slot e with frozen := true }
  rw [hput.exhibit, hput.slot, hput.source] at hslot
  rw [henter.slot]
  exact (henter.trans (hput.silent _)).trans (hslot.silent _)

theorem State.enterGuarded_lamp (s : State) {e : ExhibitNo} {c : ExhibitConfig} (hc : (s.exhibit e).config = some c) (ch : ChannelNo)
    (h : c.readyLamp = some ch) : ((s.enterGuarded e).channel ch).readyLayer.setting = .fixed .readyGuard := by
  have hlamp : ((s.enterState e .guarded).channel ch).readyLayer.setting = .fixed .readyGuard := by
    have hx := (s.putExhibit_to e ((s.exhibit e).entering .guarded)).exhibit
    exact State.evalReady_guard (by rw [hx]; exact hc) (.inl (by rw [hx]; rfl)) ch h
  unfold State.enterGuarded
  simp only
  rw [(State.putSlot_to _ e _).channel ch id, (State.putExhibit_to _ e _).channel ch id]
  exact hlamp

/-- The exhibit GUARDED in its episode. -/
def Exhibit.guardedFor (x : Exhibit) (c : ExhibitConfig) : Exhibit := { x with guardAlert := some (c.guardAlertTime * 1000) }

theorem State.beginEpisode_to (s : State) {e : ExhibitNo} {c : ExhibitConfig} (hc : (s.exhibit e).config = some c) :
    ShowTo s (s.beginEpisode e) e ((s.exhibit e).guardedFor c) (s.slot e) { s.source e with guarded := true } noLamps := by
  have hx : { s.exhibit e with guardAlert := (s.exhibit e).config.map fun c => c.guardAlertTime * 1000 } = (s.exhibit e).guardedFor c := by
    rw [hc]
    rfl
  unfold State.beginEpisode
  simp only
  rw [hx]
  have hput := s.putExhibit_to e ((s.exhibit e).guardedFor c)
  have hmark := (s.putExhibit e ((s.exhibit e).guardedFor c)).markCondition_to e .guarded
  rw [hput.exhibit, hput.slot, hput.source] at hmark
  exact hput.trans hmark

/-! ### The frozen axes -/

/-- The act has made FAULTED exactly the axes it has found so. -/
theorem State.someFaultedSince_iff {t u : State} {finds : Axis → Bool} {l : List AxisNo}
    (h : ∀ a ∈ l, (u.axis a).state = .faulted ∧ (t.axis a).state ≠ .faulted ↔ finds (t.axis a) = true) :
    u.someFaultedSince t l = true ↔ ∃ a ∈ l, finds (t.axis a) = true := by
  unfold State.someFaultedSince
  rw [List.any_eq_true]
  refine exists_congr fun a => and_congr_right fun ha => ?_
  rw [← h a ha, Bool.and_eq_true, beq_iff_eq, bne_iff_ne]

theorem Axis.stoppedInPlace_faulted {x : Axis} (h : x.state.busy = true) : x.stoppedInPlace.state = .faulted ↔ x.strays = true := by
  by_cases hawait : x.state = .awaitPower
  · rw [(Axis.stoppedInPlace_await hawait).1]
    have hstrays : x.strays = false := by simp [Axis.strays, hawait, AxisState.drives]
    rw [hstrays]
    split <;> simp
  · have hdrives := ((AxisState.busy_iff _).1 h).resolve_right hawait
    rw [Axis.stoppedInPlace_drives hdrives]
    exact Axis.stoppedHere_faulted hdrives

theorem Axis.strays_busy {x : Axis} (h : x.strays = true) : x.state.busy = true := by
  obtain ⟨hst | hst, -⟩ := Axis.strays_iff.1 h <;> rw [hst] <;> rfl

/-- The axes FAULTED by the freeze are those found outside their windows. -/
theorem frozen_faulted {t u : State} {l : List AxisNo} (htouched : ∀ a ∈ l, freezeDeal.touches (t.axis a) = true → (u.axis a).Matches (t.axis a).frozen)
    (huntouched : ∀ a ∈ l, freezeDeal.touches (t.axis a) = false → u.axis a = (t.axis a).unresumed) (a : AxisNo) (ha : a ∈ l) :
    (u.axis a).state = .faulted ∧ (t.axis a).state ≠ .faulted ↔ (t.axis a).strays = true := by
  by_cases hbusy : (t.axis a).state.busy = true
  · have hstate : (u.axis a).state = (t.axis a).stoppedInPlace.state := by
      rw [htouched a ha hbusy]
      rfl
    have hne : (t.axis a).state ≠ .faulted := fun hf => by simp [hf, AxisState.busy] at hbusy
    rw [hstate, Axis.stoppedInPlace_faulted hbusy]
    exact and_iff_left hne
  · have hstate : (u.axis a).state = (t.axis a).state := by
      rw [huntouched a ha (Bool.eq_false_iff.2 hbusy)]
      rfl
    rw [hstate]
    exact ⟨fun ⟨h1, h2⟩ => absurd h1 h2, fun h => absurd (Axis.strays_busy h) hbusy⟩

/-- The freeze of axes at rest drops their resume records. -/
theorem State.foldl_freezeAxis_rest {s : State} {l : List AxisNo} (h : ∀ a ∈ l, (s.axis a).state.busy = false) :
    l.foldl State.freezeAxis s = l.foldl State.dropResume s := by
  induction l generalizing s with
  | nil => rfl
  | cons a l ih =>
    have ha := h a (by simp)
    have hact : s.freezeAxis a = s.dropResume a := by
      rw [State.freezeAxis_reports.eq s a, if_neg fun hs => by rw [Axis.strays_busy hs] at ha; cases ha]
      exact freezeDeal_does.untouched s a ha
    rw [List.foldl_cons, List.foldl_cons, hact]
    refine ih fun b hb => ?_
    have hb' := h b (by simp [hb])
    unfold State.dropResume
    rw [State.setAxis_axis]
    split
    · next hab => subst hab; exact ha
    · exact hb'

/-- The freeze of axes none of which is outside its window. -/
theorem State.foldl_freezeAxis {s : State} {l : List AxisNo} (hl : l.Nodup ∨ ∀ a ∈ l, (s.axis a).state.busy = false)
    (hin : ∀ a ∈ l, (s.axis a).strays = false) : AxesTo s (l.foldl State.freezeAxis s) freezeDeal.roomier l := by
  obtain hn | hrest := hl
  · exact (TravelTo.foldl State.freezeAxis_reports s hn).calm hin
  · rw [State.foldl_freezeAxis_rest hrest]
    have hto := AxesTo.foldl dropDeal_does s (.inr dropDeal_stable) (l := l)
    obtain ⟨rs, hrs, hlen, hcross⟩ := hto.reports
    have hcalm : ∀ a ∈ l, freezeDeal.returns (s.axis a) = false ∧ freezeDeal.leaves (s.axis a) = false := fun a ha =>
      (freezeDeal_does.calm (s.axis a) (hrest a ha)).2
    refine ⟨fun a ha ht => ?_, fun a ha _ => hto.untouched a ha rfl, hto.others, fun k _ => hto.word k fun a _ ht => (Bool.false_ne_true ht).elim, ?_, fun a => ?_,
      hto.units, ⟨rs, hrs, ?_, fun r hr => ?_⟩, hto.form⟩
    · exact absurd ht (by rw [show freezeDeal.roomier.touches (s.axis a) = _ from hrest a ha]; decide)
    · rw [hto.waiting]
      refine List.filter_congr fun w _ => ?_
      by_cases hw : w.axis ∈ l
      · rw [show freezeDeal.roomier.leaves (s.axis w.axis) = false from (hcalm _ hw).2]
        rfl
      · simp [hw]
    · rw [hto.held]
      refine if_congr ⟨fun h => (Bool.false_ne_true h.2).elim, fun h => ?_⟩ rfl rfl
      rw [show freezeDeal.roomier.returns (s.axis a) = false from (hcalm a h.1).1] at h
      exact absurd h.2 (by decide)
    · exact hlen.trans (Nat.mul_le_mul_right _ (by decide))
    · obtain ⟨a, -, hc, -⟩ := hcross r hr
      cases hc

end Sys2Proof.Machine
end

section
/-! A guard opening whose line one exhibit names, and the freeze of its show (R128, R129): O52. -/

namespace Sys2Proof.Machine

/-! ### The line and its exhibit -/

theorem State.namesGuard_congr {s t : State} {e : ExhibitNo} (h : t.exhibit e = s.exhibit e) (g : GuardNo) : t.namesGuard e g = s.namesGuard e g := by
  unfold State.namesGuard
  rw [h]

/-- The state in which an opening is recognised, before the exhibits take it. -/
def State.openedLine (s : State) (g : GuardNo) : State := s.setGuardLine g (.recognised true)

theorem State.openedLine_guard (s : State) (g : GuardNo) : (s.openedLine g).guardLine g = { pin := true, level := true, run := 0 } ∧
    (∀ h, h ≠ g → (s.openedLine g).guardLine h = s.guardLine h) ∧ s.openedLine g = { s with guards := (s.openedLine g).guards } := by
  refine ⟨?_, fun h hne => ?_, rfl⟩
  · unfold State.openedLine State.setGuardLine State.guardLine
    show tget (tset s.guards g _) g = _
    rw [tget_tset_same]
    rfl
  · unfold State.openedLine State.setGuardLine State.guardLine
    exact tget_tset_ne _ _ hne.symm

/-- Only exhibit `e` names the line: the opening is its own. -/
theorem State.guardOpening_only {s u : State} {g : GuardNo} {e : ExhibitNo} (hl : (s.guardLine g).level = false) (hnames : s.namesGuard e g = true)
    (honly : ∀ f, f ≠ e → s.namesGuard f g = false) (hu : ((s.openedLine g).exhibitOpening e).settle = u)
    (hothers : ∀ f, f ≠ e → u.exhibit f = s.exhibit f) : exec (.guardOpening g) s = .next u := by
  have hpass : ((∀ f ∈ List.finRange 48, f ≠ e) → _ = s.openedLine g) ∧ (e ∈ List.finRange 48 → _ = u) :=
    forEach_progress (f := fun e (t : State) => if t.namesGuard e g then (t.exhibitOpening e).settle else t) (s := s.openedLine g)
      (fun done t => ((∀ f ∈ done, f ≠ e) → t = s.openedLine g) ∧ (e ∈ done → t = u))
      ⟨fun _ => rfl, fun h => absurd h (by simp)⟩ fun done f t hf ⟨h1, h2⟩ => by
        by_cases hfe : f = e
        · subst hfe
          have ht := h1 fun f' hf' hn => hf (hn ▸ hf')
          refine ⟨fun h => absurd rfl (h f (by simp)), fun _ => ?_⟩
          have hn : (s.openedLine g).namesGuard f g = true := (State.namesGuard_congr (s := s) rfl g).trans hnames
          rw [ht, if_pos hn, hu]
        · have hno : t.namesGuard f g = false := by
            by_cases he : e ∈ done
            · rw [h2 he, State.namesGuard_congr (hothers f hfe)]
              exact honly f hfe
            · rw [h1 fun f' hf' hn => he (hn ▸ hf')]
              exact (State.namesGuard_congr (s := s) rfl g).trans (honly f hfe)
          rw [if_neg (by rw [hno]; decide)]
          exact ⟨fun h => h1 fun f' hf' => h f' (by simp [hf']), fun h => h2 (by simpa [Ne.symm hfe] using h)⟩
  refine congrArg Host.Outcome.next ?_
  show s.guardOpening g = u
  unfold State.guardOpening
  rw [if_neg (by rw [hl]; decide)]
  exact hpass.2 (List.mem_finRange e)

theorem State.exhibitOpening_quiet {s : State} {e : ExhibitNo} (h : (s.exhibit e).state = .ready ∨ (s.exhibit e).state = .resting ∨
    (s.exhibit e).state = .faulted ∨ (s.exhibit e).state = .locked ∨ (s.exhibit e).state = .guarded) : s.exhibitOpening e = s.opened e := by
  unfold State.exhibitOpening
  obtain h | h | h | h | h := h <;> rw [h] <;> rfl

theorem State.exhibitOpening_show {s : State} {e : ExhibitNo} (h : (s.exhibit e).state = .running ∨ (s.exhibit e).state = .suspended) :
    s.exhibitOpening e = (s.opened e).freeze e := by
  unfold State.exhibitOpening
  obtain h | h := h <;> rw [h] <;> rfl

theorem State.exhibitOpening_halt {s : State} {e : ExhibitNo} (h : (s.exhibit e).state = .halting) :
    s.exhibitOpening e = (s.opened e).openingAtHalt e := by
  unfold State.exhibitOpening
  rw [h]
  rfl

/-! ### The freeze (R129) -/

theorem Exhibit.guarded_inForce {x : Exhibit} (h : x.state ≠ .off) : x.opened.guarded.inForce = x.inForce := by
  unfold Exhibit.inForce
  rw [if_neg h]
  rfl

/-- A slot that is frozen takes up no crossing. -/
theorem State.deliver_crossing_frozen {s : State} {e : ExhibitNo} {a : AxisNo} (howner : s.axisOwner a = some e) (h : (s.slot e).frozen = true)
    (m : Fin 4) (up : Bool) : s.deliver (.crossing a m up) = s := by
  unfold State.deliver
  simp only [howner]
  refine if_neg ?_
  unfold Slot.awaitsCrossing
  simp [h]

section
variable {s : State} {e : ExhibitNo} {c : ExhibitConfig} (hc : (s.exhibit e).config = some c)
  (hst : (s.exhibit e).state = .running ∨ (s.exhibit e).state = .suspended)

/-- The exhibit GUARDED before its axes are dealt with. -/
def State.guardedNow (s : State) (e : ExhibitNo) : State := (s.opened e).enterGuarded e

include hc hst in
theorem State.guardedNow_to : ShowTo s (s.guardedNow e) e (s.exhibit e).opened.guarded { s.slot e with frozen := true } (s.source e) c.ReadyLampIs ∧
    (∀ ch, c.readyLamp = some ch → ((s.guardedNow e).channel ch).readyLayer.setting = .fixed .readyGuard) ∧
    (s.guardedNow e).boundAxes e = s.boundAxes e := by
  have hopen := s.opened_to hc
  unfold State.guardedNow
  generalize s.opened e = p at *
  have hpc : (p.exhibit e).config = some c := by rw [hopen.exhibit]; exact hc
  have henter := p.enterGuarded_to hpc
  have hlamp := p.enterGuarded_lamp hpc
  rw [hopen.exhibit, hopen.slot, hopen.source] at henter
  generalize p.enterGuarded e = t at *
  refine ⟨hopen.trans henter, hlamp, State.boundAxes_inForce ?_⟩
  rw [henter.exhibit]
  exact Exhibit.guarded_inForce (by obtain h | h := hst <;> rw [h] <;> decide)

/-- What the freeze leaves where it finds no model outside its window. -/
structure FrozeTo (s w : State) (e : ExhibitNo) (c : ExhibitConfig) : Prop where
  scene : SceneTo s w e ((s.exhibit e).opened.guarded.guardedFor c) { s.slot e with frozen := true } { s.source e with guarded := true }
    c.ReadyLampIs freezeDeal.roomier (s.boundAxes e)
  lamp : ∀ ch, c.readyLamp = some ch → (w.channel ch).readyLayer.setting = .fixed .readyGuard
  waiting : w.pool.waiting = []

include hc hst in
theorem State.freeze_calm (hwaits : s.WaitsOnly e) (hl : (s.boundAxes e).Nodup ∨ ∀ a ∈ s.boundAxes e, (s.axis a).state.busy = false)
    (hin : ∀ a ∈ s.boundAxes e, (s.axis a).strays = false) : FrozeTo s ((s.opened e).freeze e) e c := by
  obtain ⟨hshow, hlamp, hbound⟩ := State.guardedNow_to hc hst
  have hfreeze : (s.opened e).freeze e = if ((((s.guardedNow e).boundAxes e).foldl State.freezeAxis (s.guardedNow e)).grantScan).someFaultedSince
      (s.guardedNow e) ((s.guardedNow e).boundAxes e) then (((s.guardedNow e).boundAxes e).foldl State.freezeAxis (s.guardedNow e)).grantScan
      else ((((s.guardedNow e).boundAxes e).foldl State.freezeAxis (s.guardedNow e)).grantScan).beginEpisode e := rfl
  rw [hfreeze, hbound]
  generalize s.guardedNow e = t at *
  have hta : ∀ a, t.axis a = s.axis a := hshow.axis
  have hfold := State.foldl_freezeAxis (s := t) (l := s.boundAxes e) (by simpa only [hta] using hl) fun a ha => by rw [hta]; exact hin a ha
  generalize (s.boundAxes e).foldl State.freezeAxis t = u at *
  have hwaiting : u.pool.waiting = [] := by
    rw [hfold.waiting, List.filter_eq_nil_iff]
    intro x hx
    rw [hshow.pool] at hx
    obtain ⟨hmem, hawait⟩ := hwaits x hx
    simp [AxisDeal.roomier, freezeDeal, hereDeal, hta, hmem, hawait]
  rw [State.grantScan_empty hwaiting, if_neg]
  · have hux : u.exhibit e = (s.exhibit e).opened.guarded := by rw [hfold.form]; exact hshow.exhibit
    have hus : u.slot e = { s.slot e with frozen := true } := by rw [hfold.form]; exact hshow.slot
    have hur : u.source e = s.source e := by rw [hfold.form]; exact hshow.source
    have hbegin := u.beginEpisode_to (e := e) (c := c) (by rw [hux]; exact hc)
    rw [hux, hus, hur] at hbegin
    refine ⟨(SceneTo.of_parts hshow hfold hbegin).mono fun ch h => h.elim id False.elim, fun ch hch => ?_, hbegin.pool ▸ hwaiting⟩
    rw [hbegin.channel ch id, show u.channel ch = t.channel ch by rw [hfold.form]; rfl]
    exact hlamp ch hch
  · rw [State.someFaultedSince_iff (frozen_faulted hfold.touched hfold.untouched)]
    rintro ⟨a, ha, hs⟩
    rw [hta, hin a ha] at hs
    cases hs

end

/-- The reports of the freeze are of crossings, and the slot is frozen. -/
theorem FrozeTo.settle {s w : State} {e : ExhibitNo} {c : ExhibitConfig} (h : FrozeTo s w e c) (hoff : (s.exhibit e).state ≠ .off) (hrep : s.reports = [])
    (howner : ∀ a ∈ s.boundAxes e, (s.axis a).state.busy = true → s.axisOwner a = some e) : w.settle = { w with reports := [] } := by
  obtain ⟨rs, hrs, hlen, hcross⟩ := h.scene.reports
  rw [hrep, List.nil_append] at hrs
  have hsame : ∀ a, w.axisOwner a = s.axisOwner a := State.axisOwner_inForce fun f => by
    by_cases hf : f = e
    · subst hf
      rw [h.scene.exhibit]
      exact Exhibit.guarded_inForce hoff
    · rw [(h.scene.others f hf).1]
  have hfrozen : (w.slot e).frozen = true := by rw [h.scene.slot]
  refine (Takes.dropped w fun r hr rest => ?_).settle ?_
  · obtain ⟨a, ha, hac, m, up, rfl⟩ := hcross r (hrs ▸ hr)
    exact State.deliver_crossing_frozen (s := { w with reports := rest }) (e := e) ((hsame a).trans (howner a ha hac)) hfrozen m up
  · rw [hrs]
    have hbound := Nat.mul_le_mul_left freezeDeal.roomier.most (s.boundAxes_length e)
    exact hlen.trans (hbound.trans (by decide))

end Sys2Proof.Machine
end

section
/-! TRAVEL faults found at a guard opening, taken against the exhibit (R9, R93, R128, R129): O52. -/

namespace Sys2Proof.Machine

/-! ### Raises of one source and cause again -/

/-- A later raise of the same source, cause and severity merges, however full the list. -/
theorem State.Entered.again {s : State} {src : SourceNo} {cause : AlertCause} {severity : Nat} (h : s.Entered src cause severity) (code : Nat)
    (hrun : s.part = .run) : (s.raise src cause code severity).Entered src cause severity := by
  obtain ⟨w, hw, ⟨hsrc, hcause, -, -⟩, -⟩ := h
  cases hof : s.alertOf? src cause with
  | none => exact absurd (List.mem_map.2 ⟨w, hw, by rw [hsrc, hcause]⟩) (State.alertOf?_none hof)
  | some x =>
    obtain ⟨-, hsrc', hcause'⟩ := State.alertOf?_some hof
    obtain ⟨hnum, h1, h2, -, h3, h4, -⟩ := s.mergedAlert_spec x code severity
    have hlist : (s.raise src cause code severity).alerts =
        (s.alerts.filter fun z => z.number != x.number) ++ [s.mergedAlert x code severity] := by
      unfold State.raise
      rw [State.raiseCase_merged severity hrun hof]
      exact s.mergeRaise_list x code severity
    refine ⟨s.mergedAlert x code severity, by rw [hlist]; simp, ⟨h1.trans hsrc', h2.trans hcause', h3, h4⟩, fun z hz hn => ?_⟩
    rw [hlist, List.mem_append, List.mem_singleton, List.mem_filter] at hz
    obtain ⟨-, hz⟩ | hz := hz
    · simp [hn, hnum] at hz
    · exact hz

/-! ### The exhibit meets the first fault -/

/-- An axis fault has made of exhibit `e`, its slot and its source record what is given, and dropped its resume records; nothing else but
lamps and images has changed. -/
structure MetFault (v t : State) (e : ExhibitNo) (x : Exhibit) (sl : Slot) (src : SourceRecord) : Prop where
  exhibit : t.exhibit e = x
  slot : t.slot e = sl
  source : t.source e = src
  others : v.OtherExhibits t e
  dropped : v.OnlyResumeDropped t (v.boundAxes e)
  form : t = { v with exhibits := t.exhibits, slots := t.slots, sources := t.sources, channels := t.channels, axes := t.axes, ram := t.ram }

/-- A show whose bound axes are all at rest. -/
theorem State.exhibitAxisFault_guarded {v : State} {e : ExhibitNo} (cause : FaultCause) (hst : (v.exhibit e).state = .guarded)
    (hwait : v.pool.waiting = []) (hrest : ∀ a ∈ v.boundAxes e, (v.axis a).state.busy = false) :
    MetFault v (v.exhibitAxisFault e cause) e ((v.exhibit e).entering .faulted)
      ((v.slot e).faultedAt cause.showFault ((v.slot e).current.getD 0xFFFF))
      ((v.source e).faultedAt ((v.slot e).firstOf cause.showFault ((v.slot e).current.getD 0xFFFF))) := by
  have hact : v.exhibitAxisFault e cause = v.faultEnd e cause.showFault ((v.slot e).current.getD 0xFFFF) := by
    unfold State.exhibitAxisFault
    rw [← State.showFault_axis cause.showFault_axis, hst]
  have hto := State.faultEnd_to (State.waitsOnly_nil (e := e) hwait) cause.showFault ((v.slot e).current.getD 0xFFFF)
  rw [← hact] at hto
  generalize v.exhibitAxisFault e cause = t at *
  have hdrives : ∀ a ∈ v.boundAxes e, haltDeal.dropping.crosses (v.axis a) = false ∧ haltDeal.dropping.returns (v.axis a) = false ∧
      haltDeal.dropping.leaves (v.axis a) = false := fun a ha => by
    have hb := hrest a ha
    cases hx : (v.axis a).state <;> simp [hx, haltDeal, AxisDeal.dropping, AxisState.busy] at hb ⊢
  have hpool := hto.pool_same (fun a ha => (hdrives a ha).2.1) fun a ha => (hdrives a ha).2.2
  obtain ⟨rs, hrs, -, hcross⟩ := hto.reports
  have hsilent : rs = [] := by
    rw [List.eq_nil_iff_forall_not_mem]
    intro r hr
    obtain ⟨b, hb, hcb, -⟩ := hcross r hr
    rw [(hdrives b hb).1] at hcb
    exact Bool.false_ne_true hcb
  rw [hsilent, List.append_nil] at hrs
  refine ⟨hto.exhibit, hto.slot, hto.source, hto.others, fun a => ?_, ?_⟩
  · split
    · next ha => exact hto.untouched a ha (hrest a ha)
    · next ha => exact hto.axisOthers a ha
  · have hform := hto.form
    rw [hpool, hrs] at hform
    exact hform

/-- A HALTING exhibit. -/
theorem State.exhibitAxisFault_halting {v : State} {e : ExhibitNo} (cause : FaultCause) (hst : (v.exhibit e).state = .halting) :
    MetFault v (v.exhibitAxisFault e cause) e ((v.exhibit e).entering .faulted)
      { v.slot e with firstFault := some ((v.slot e).firstOf cause.showFault 0xFFFF) }
      ((v.source e).faultedAt ((v.slot e).firstOf cause.showFault 0xFFFF)) := by
  have hact : v.exhibitAxisFault e cause = (v.recordFirst e cause.showFault 0xFFFF).enterFaultedExhibit e := by
    unfold State.exhibitAxisFault; rw [hst]
  have hfirst := v.recordFirst_to e cause.showFault 0xFFFF
  obtain ⟨A, hfaulted, honly⟩ := (v.recordFirst e cause.showFault 0xFFFF).enterFaultedExhibit_spec e
  have hnote : (v.recordFirst e cause.showFault 0xFFFF).faultNote e =
      { code := some ((v.slot e).firstOf cause.showFault 0xFFFF).code, address := ((v.slot e).firstOf cause.showFault 0xFFFF).address } := by
    unfold State.faultNote
    rw [hfirst.slot]
    rfl
  have hbound : (v.recordFirst e cause.showFault 0xFFFF).boundAxes e = v.boundAxes e := State.boundAxes_inForce (by rw [hfirst.exhibit])
  rw [hfirst.exhibit, hfirst.slot, hfirst.source, hnote] at hfaulted
  rw [hbound] at honly
  rw [hact]
  generalize v.recordFirst e cause.showFault 0xFFFF = r at *
  generalize r.enterFaultedExhibit e = t at *
  refine ⟨hfaulted.exhibit, hfaulted.slot, hfaulted.source, fun f hf => ?_, fun a => ?_, ?_⟩
  · obtain ⟨h1, h2, h3⟩ := hfaulted.others f hf
    rw [h1, h2, h3]
    exact hfirst.others f hf
  · have ha : t.axis a = State.axis { r with axes := A } a := hfaulted.axis a
    rw [ha, honly a, hfirst.axis a]
  · have hform := hfaulted.form_axes
    rw [hfirst.form_axes] at hform
    exact hform

/-! ### The reports are taken -/

/-- The first of the faults has met the exhibit, and each has been raised. -/
structure FaultMade (v u : State) (e : ExhibitNo) (x : Exhibit) (sl : Slot) (src : SourceRecord) : Prop where
  exhibit : u.exhibit e = x
  slot : u.slot e = sl
  source : u.source e = src
  others : v.OtherExhibits u e
  dropped : v.OnlyResumeDropped u (v.boundAxes e)
  pool : u.pool = v.pool
  mark : u.gallery.axisFault = v.gallery.axisFault
  part : u.part = v.part
  entered : v.part = .run → v.alerts.length < 32 → u.Entered (exhibitSource e) .axisFault 2

section
variable {v u t : State} {e : ExhibitNo} {x : Exhibit} {sl : Slot} {src : SourceRecord}

theorem FaultMade.reporting (h : FaultMade v u e x sl src) (rest : List Report) : FaultMade v { u with reports := rest } e x sl src :=
  ⟨h.exhibit, h.slot, h.source, h.others, h.dropped, h.pool, h.mark, h.part, fun h1 h2 => (h.entered h1 h2).of_alerts rfl⟩

/-- A raise for an axis fault of the exhibit. -/
theorem FaultMade.raised (h : FaultMade v u e x sl src) : FaultMade v (u.raise (exhibitSource e) .axisFault 0 2) e x sl src := by
  obtain ⟨hform, -⟩ := u.raise_act (exhibitSource e) .axisFault 0 2
  obtain ⟨hmarks, -⟩ := u.raise_marks (exhibitSource e) .axisFault 0 2
  have hagain := fun (hE : u.Entered (exhibitSource e) .axisFault 2) hrun => hE.again 0 hrun
  generalize u.raise (exhibitSource e) .axisFault 0 2 = w at *
  have hx : ∀ f, w.exhibit f = u.exhibit f := fun f => by rw [hform]; rfl
  have hs : ∀ f, w.slot f = u.slot f := fun f => by rw [hform]; rfl
  have hr : ∀ f, w.source f = u.source f := fun f => by rw [hform]; rfl
  have hpart : w.part = u.part := by rw [hform]
  refine ⟨(hx e).trans h.exhibit, (hs e).trans h.slot, (hr e).trans h.source, fun f hf => ?_, fun a => ?_, ?_, hmarks.trans h.mark,
    hpart.trans h.part, fun h1 h2 => hagain (h.entered h1 h2) (h.part.trans h1)⟩
  · rw [hx, hs, hr]
    exact h.others f hf
  · rw [show w.axis a = u.axis a by rw [hform]; rfl]
    exact h.dropped a
  · rw [hform]
    exact h.pool

/-- The first fault, raised. -/
theorem MetFault.made (h : MetFault v t e x sl src) : FaultMade v (t.raise (exhibitSource e) .axisFault 0 2) e x sl src := by
  obtain ⟨hform, -⟩ := t.raise_act (exhibitSource e) .axisFault 0 2
  obtain ⟨hmarks, -⟩ := t.raise_marks (exhibitSource e) .axisFault 0 2
  have henters := fun hrun hlen => State.raise_enters (s := t) (exhibitSource e) .axisFault 0 2 hrun hlen
  generalize t.raise (exhibitSource e) .axisFault 0 2 = w at *
  have hx : ∀ f, w.exhibit f = t.exhibit f := fun f => by rw [hform]; rfl
  have hs : ∀ f, w.slot f = t.slot f := fun f => by rw [hform]; rfl
  have hr : ∀ f, w.source f = t.source f := fun f => by rw [hform]; rfl
  have htpart : t.part = v.part := by rw [h.form]
  have htalerts : t.alerts = v.alerts := by rw [h.form]
  refine ⟨(hx e).trans h.exhibit, (hs e).trans h.slot, (hr e).trans h.source, fun f hf => ?_, fun a => ?_, ?_, ?_, ?_,
    fun h1 h2 => henters (htpart.trans h1) (by rw [htalerts]; exact h2)⟩
  · rw [hx, hs, hr]
    exact h.others f hf
  · rw [show w.axis a = t.axis a by rw [hform]; rfl]
    exact h.dropped a
  · rw [hform, h.form]
  · rw [hmarks, h.form]
  · rw [hform]
    exact htpart

theorem State.takeAxisFault_owned {s : State} {a : AxisNo} (howner : s.axisOwner a = some e) (cause : FaultCause) :
    s.takeAxisFault a cause = ((s.exhibitAxisFault e cause).raise (exhibitSource e) .axisFault 0 2).grantScan := by
  unfold State.takeAxisFault State.axisSource
  rw [howner]

theorem State.exhibitAxisFault_faulted {s : State} (h : (s.exhibit e).state = .faulted) (cause : FaultCause) : s.exhibitAxisFault e cause = s := by
  unfold State.exhibitAxisFault
  rw [h]

/-- The faults of bound axes, with crossings nobody takes up, are taken. -/
theorem State.settle_found {b : AxisNo} (hkinds : ∀ r ∈ v.reports, ∃ a, v.axisOwner a = some e ∧ ((∃ m up, r = .crossing a m up) ∨ r = travelOf a))
    (hb : travelOf b ∈ v.reports) (hlen : v.reports.length ≤ 4096) (hdrop : (v.slot e).frozen = true ∨ (v.slot e).current = none)
    (hx : x.state = .faulted) (hforce : x.inForce = (v.exhibit e).inForce) (hsl : sl.current = none) (hwaiting : v.pool.waiting = [])
    (hmet : ∀ q, MetFault { v with reports := q } (State.exhibitAxisFault { v with reports := q } e .travel) e x sl src) :
    FaultMade v v.settle e x sl src := by
  obtain ⟨hfinal, -⟩ := State.settle_progress (t := v) (rs := v.reports)
    (fun done u => ((∀ a, travelOf a ∉ done) ∧ u = { v with reports := u.reports }) ∨ FaultMade v u e x sl src) rfl hlen
    (.inl ⟨fun a => by simp, rfl⟩) fun done r rest u hsplit hu hI => by
      obtain ⟨a, howner, hkind⟩ := hkinds r (by rw [hsplit]; simp)
      obtain ⟨hno, huv⟩ | hmade := hI
      · have hbase : { u with reports := rest } = { v with reports := rest } := by rw [huv]
        rw [hbase]
        have howner' : State.axisOwner { v with reports := rest } a = some e := howner
        obtain ⟨m, up, rfl⟩ | rfl := hkind
        · have hsame : State.deliver { v with reports := rest } (.crossing a m up) = { v with reports := rest } :=
            hdrop.elim (fun hf => State.deliver_crossing_frozen howner' hf m up) fun hn => State.deliver_crossing_idle howner' (.inr hn) m up
          rw [hsame]
          exact ⟨.inl ⟨fun a' ha' => hno a' (by simpa using ha'), rfl⟩, rfl⟩
        · have hdeliver : State.deliver { v with reports := rest } (travelOf a) = State.takeAxisFault { v with reports := rest } a .travel := rfl
          have hmade := (hmet rest).made
          have hpool := hmade.pool
          rw [hdeliver, State.takeAxisFault_owned howner']
          have hreports : (State.raise (State.exhibitAxisFault { v with reports := rest } e .travel) (exhibitSource e) .axisFault 0 2).reports = rest := by
            rw [(State.raise_act _ (exhibitSource e) .axisFault 0 2).1, (hmet rest).form]
          generalize State.raise (State.exhibitAxisFault { v with reports := rest } e .travel) (exhibitSource e) .axisFault 0 2 = w at *
          rw [State.grantScan_empty (by rw [hpool]; exact hwaiting)]
          exact ⟨.inr ⟨hmade.exhibit, hmade.slot, hmade.source, hmade.others, hmade.dropped, hmade.pool, hmade.mark, hmade.part, hmade.entered⟩, hreports⟩
      · have hmade' := hmade.reporting rest
        have howner' : State.axisOwner { u with reports := rest } a = some e := by
          refine (State.axisOwner_inForce (s := v) (fun f => ?_) a).trans howner
          by_cases hf : f = e
          · subst hf
            rw [hmade'.exhibit, hforce]
          · rw [(hmade'.others f hf).1]
        have hslot : (State.slot { u with reports := rest } e).current = none := by rw [hmade'.slot, hsl]
        have hstate : (State.exhibit { u with reports := rest } e).state = .faulted := by rw [hmade'.exhibit, hx]
        obtain ⟨m, up, rfl⟩ | rfl := hkind
        · rw [State.deliver_crossing_idle howner' (.inr hslot) m up]
          exact ⟨.inr hmade', rfl⟩
        · have hdeliver : State.deliver { u with reports := rest } (travelOf a) = State.takeAxisFault { u with reports := rest } a .travel := rfl
          rw [hdeliver, State.takeAxisFault_owned howner', State.exhibitAxisFault_faulted hstate]
          have hraised := hmade'.raised
          have hreports : (State.raise { u with reports := rest } (exhibitSource e) .axisFault 0 2).reports = rest := by
            rw [(State.raise_act _ (exhibitSource e) .axisFault 0 2).1]
          generalize State.raise { u with reports := rest } (exhibitSource e) .axisFault 0 2 = w at *
          rw [State.grantScan_empty (by rw [hraised.pool]; exact hwaiting)]
          exact ⟨.inr hraised, hreports⟩
  exact hfinal.resolve_left fun h => h.1 b hb

end

end Sys2Proof.Machine
end

section
/-! What a guard opening leaves of its exhibit and of the bound axes (R10, R128, R129): O52. -/

namespace Sys2Proof.Machine

/-! ### The axes -/

/-- The lines of R129, for an axis that is not found outside its window. -/
theorem State.frozenAxis_of {s t : State} {a : AxisNo} (hin : (s.axis a).strays = false)
    (htouched : (s.axis a).state.busy = true → (t.axis a).Matches (s.axis a).frozen)
    (huntouched : (s.axis a).state.busy = false → t.axis a = (s.axis a).unresumed) : s.FrozenAxis t a := by
  unfold State.FrozenAxis
  generalize t.axis a = y at *
  generalize s.axis a = x at *
  cases hst : x.state
  case off | unhomed | idle | faulted =>
    have hy := huntouched (by rw [hst]; rfl)
    subst hy
    simp [Axis.unresumed, AxisState.drives]
  case homing =>
    have hy : y = _ := htouched (by rw [hst]; rfl)
    rw [hy]
    simp [Axis.frozen, Axis.stoppedInPlace, Axis.stoppedHere, Axis.afterQuickStop, hst, Axis.enterUnhomed, Axis.movedTo, Axis.quickStopped,
      Axis.resumeRecord]
  case awaitPower =>
    have hy : y = _ := htouched (by rw [hst]; rfl)
    obtain ⟨hstate, hrequest, hhomed⟩ := x.unqueued_spec
    rw [hy]
    simp [Axis.frozen, Axis.stoppedInPlace, hst, hstate, hrequest, hhomed, Axis.resumeRecord, AxisState.drives]
  all_goals
    have hy : y = _ := htouched (by rw [hst]; rfl)
    have hwin : x.inWindow x.encoder = true := by
      cases hw : x.inWindow x.encoder with
      | true => rfl
      | false => rw [Axis.strays_iff.2 ⟨by simp [hst], hw⟩] at hin; cases hin
    rw [hy]
    simp [Axis.frozen, Axis.stoppedInPlace, Axis.stoppedHere, Axis.afterQuickStop, hst, hwin, Axis.movedTo, Axis.quickStopped, Axis.resumeRecord]

/-- An axis the freeze has dealt with is at rest. -/
theorem frozen_rest {s t : State} {a : AxisNo} (htouched : (s.axis a).state.busy = true → (t.axis a).Matches (s.axis a).frozen)
    (huntouched : (s.axis a).state.busy = false → t.axis a = (s.axis a).unresumed) : (t.axis a).state.busy = false := by
  by_cases hbusy : (s.axis a).state.busy = true
  · rw [htouched hbusy]
    exact Axis.stoppedInPlace_busy hbusy
  · rw [huntouched (Bool.eq_false_iff.2 hbusy)]
    exact Bool.eq_false_iff.2 hbusy

/-- A STOPPING axis that is quick-stopped. -/
theorem Axis.stoppedHere_stopping {x : Axis} (h : x.state = .stopping) :
    x.stoppedHere.pos = x.encoder ∧ x.stoppedHere.vel = 0 ∧ x.stoppedHere.request = none ∧ x.stoppedHere.resume = x.resume ∧
      x.stoppedHere.state = (if x.inWindow x.encoder then .idle else .faulted) ∧
      (x.inWindow x.encoder = false → x.stoppedHere.cause = some .travel) := by
  unfold Axis.stoppedHere Axis.afterQuickStop
  rw [if_neg (by rw [h]; decide)]
  by_cases hin : x.inWindow x.encoder = true
  · rw [if_pos hin, if_pos hin]
    exact ⟨rfl, rfl, rfl, rfl, rfl, fun hout => absurd hin (by simp [hout])⟩
  · rw [if_neg hin, if_neg hin]
    exact ⟨rfl, rfl, rfl, rfl, rfl, fun _ => rfl⟩

/-- The axes FAULTED at a HALTING exhibit are the STOPPING ones found outside their windows. -/
theorem stopping_faulted {t u : State} {l : List AxisNo}
    (htouched : ∀ a ∈ l, stoppingDeal.touches (t.axis a) = true → (u.axis a).Matches (t.axis a).stoppedHere)
    (huntouched : ∀ a ∈ l, stoppingDeal.touches (t.axis a) = false → u.axis a = t.axis a) (a : AxisNo) (ha : a ∈ l) :
    (u.axis a).state = .faulted ∧ (t.axis a).state ≠ .faulted ↔ (t.axis a).straysStopping = true := by
  by_cases hst : (t.axis a).state = .stopping
  · have hstate : (u.axis a).state = (t.axis a).stoppedHere.state := by
      rw [htouched a ha (beq_iff_eq.2 hst)]
    rw [hstate, (Axis.stoppedHere_stopping hst).2.2.2.2.1, Axis.straysStopping_iff, hst]
    cases (t.axis a).inWindow (t.axis a).encoder <;> simp
  · rw [huntouched a ha (beq_eq_false_iff_ne.2 hst), Axis.straysStopping_iff]
    exact ⟨fun ⟨h1, h2⟩ => absurd h1 h2, fun h => absurd h.1 hst⟩

/-! ### At a HALTING exhibit (R10, R128) -/

theorem SceneFacts.slots_eq {s t : State} {e : ExhibitNo} {x : Exhibit} {src : SourceRecord} {L : ChannelNo → Prop} {D : AxisDeal}
    {d : List AxisNo} (h : SceneFacts s t e x (s.slot e) src L D d) : t.slots = s.slots := tget_ext fun f => by
  by_cases hf : f = e
  · subst hf
    exact h.slot
  · exact (h.others f hf).2.1

section
variable {s : State} {e : ExhibitNo} {c : ExhibitConfig} (hc : (s.exhibit e).config = some c)

theorem Exhibit.opened_inForce (x : Exhibit) : x.opened.inForce = x.inForce := rfl

include hc in
theorem State.halted_calm (hwaiting : s.pool.waiting = []) (hn : (s.boundAxes e).Nodup)
    (hin : ∀ a ∈ s.boundAxes e, (s.axis a).straysStopping = false) :
    SceneTo s ((s.opened e).openingAtHalt e) e ((s.exhibit e).opened.entering .ready) (s.slot e) { s.source e with halted := true }
      c.ReadyLampIs stoppingDeal.roomier (s.boundAxes e) ∧
    ∀ ch, c.readyLamp = some ch → (((s.opened e).openingAtHalt e).channel ch).readyLayer.setting = .fixed .readyGuard := by
  have hshow := s.opened_to hc
  generalize s.opened e = p at *
  have hbound : p.boundAxes e = s.boundAxes e := State.boundAxes_inForce (by rw [hshow.exhibit]; rfl)
  have hopening : p.openingAtHalt e = if (((p.boundAxes e).foldl State.stopStopping p).grantScan).someFaultedSince p (p.boundAxes e)
      then ((p.boundAxes e).foldl State.stopStopping p).grantScan
      else ((((p.boundAxes e).foldl State.stopStopping p).grantScan).enterState e .ready).markCondition e .halted := rfl
  rw [hopening, hbound]
  have hpa : ∀ a, p.axis a = s.axis a := hshow.axis
  have hfold := (TravelTo.foldl State.stopStopping_reports p hn).calm fun a ha => by rw [hpa]; exact hin a ha
  generalize (s.boundAxes e).foldl State.stopStopping p = u at *
  have huwaiting : u.pool.waiting = [] := by
    rw [hfold.waiting, hshow.pool, hwaiting]
    rfl
  rw [State.grantScan_empty huwaiting, if_neg]
  · have hux : u.exhibit e = (s.exhibit e).opened := by rw [hfold.form]; exact hshow.exhibit
    have hus : u.slot e = s.slot e := by rw [hfold.form]; exact hshow.slot
    have hur : u.source e = s.source e := by rw [hfold.form]; exact hshow.source
    have henter := u.enterState_ready (e := e) (c := c) (by rw [hux]; exact hc) .ready
    have hmark := (u.enterState e .ready).markCondition_to e .halted
    rw [henter.exhibit, henter.slot, henter.source] at hmark
    have hboth := henter.trans (hmark.silent _)
    rw [hux, hus, hur] at hboth
    refine ⟨(SceneTo.of_parts hshow hfold hboth).mono fun ch h => h.elim id id, fun ch hch => ?_⟩
    rw [hmark.channel ch id]
    have hput := (u.putExhibit_to e ((u.exhibit e).entering .ready)).exhibit
    rw [hux] at hput
    refine State.evalReady_guard ?_ (.inr ⟨?_, ?_⟩) ch hch
    · rw [hux, hput]; exact hc
    · rw [hux, hput]; rfl
    · rw [hux, hput]; exact (by decide : ExhibitState.ready ∉ [ExhibitState.off, .running, .suspended])
  · rw [State.someFaultedSince_iff (stopping_faulted hfold.touched hfold.untouched)]
    rintro ⟨a, ha, hs⟩
    rw [hpa, hin a ha] at hs
    cases hs

/-! ### Models outside their windows -/

/-- The exhibit, its slot and its source record are as given, the axes are dealt with, and the TRAVEL faults found are reported. -/
structure FoundTo (s v : State) (e : ExhibitNo) (x : Exhibit) (sl : Slot) (src : SourceRecord) (c : ExhibitConfig) (D : AxisDeal)
    (finds : Axis → Bool) : Prop where
  facts : SceneFacts s v e x sl src c.ReadyLampIs D (s.boundAxes e)
  reports : TravelReports s D finds (s.boundAxes e) v.reports
  part : v.part = s.part
  alerts : v.alerts = s.alerts
  gallery : v.gallery = s.gallery

theorem TravelTo.found {t v : State} {x : Exhibit} {sl : Slot} {src : SourceRecord} {D : AxisDeal} {finds : Axis → Bool}
    (hshow : ShowTo s t e x sl src c.ReadyLampIs) (h : TravelTo t v D finds (s.boundAxes e)) (hrep : s.reports = []) :
    FoundTo s v e x sl src c D finds := by
  obtain ⟨⟨t₀, hto, hshadow⟩, rs, hrs, hcount, hkinds, hfound, hfew⟩ := h
  have hta : ∀ a, t.axis a = s.axis a := hshow.axis
  rw [hshow.reports, hrep, List.nil_append] at hrs
  have ht₀x : t₀.exhibit e = x := by rw [hto.form]; exact hshow.exhibit
  have ht₀s : t₀.slot e = sl := by rw [hto.form]; exact hshow.slot
  have ht₀r : t₀.source e = src := by rw [hto.form]; exact hshow.source
  have hrefl := (ShowTo.refl t₀ e).silent c.ReadyLampIs
  rw [ht₀x, ht₀s, ht₀r] at hrefl
  have hscene := (SceneTo.of_parts hshow hto hrefl).mono fun ch h => h.elim id id
  refine ⟨hscene.toSceneFacts.congr ?_ ?_ ?_ ?_ ?_ ?_, ⟨by rw [hrs]; exact hcount, fun r hr => ?_, fun a ha hf => ?_, by rw [hrs]; exact hfew⟩,
    ?_, ?_, ?_⟩
  case refine_7 =>
    rw [hrs] at hr
    simpa only [hta] using hkinds r hr
  case refine_8 =>
    rw [hrs]
    exact hfound a ha (by rw [hta]; exact hf)
  all_goals rw [hshadow]
  all_goals rw [hto.form, hshow.form]

include hc in
theorem State.frozen_found (hst : (s.exhibit e).state = .running ∨ (s.exhibit e).state = .suspended) (hwaits : s.WaitsOnly e)
    (hn : (s.boundAxes e).Nodup) (hrep : s.reports = []) (hout : ∃ a ∈ s.boundAxes e, (s.axis a).strays = true) :
    FoundTo s ((s.opened e).freeze e) e (s.exhibit e).opened.guarded { s.slot e with frozen := true } (s.source e) c freezeDeal Axis.strays := by
  obtain ⟨hshow, -, hbound⟩ := State.guardedNow_to hc hst
  have hfreeze : (s.opened e).freeze e = if ((((s.guardedNow e).boundAxes e).foldl State.freezeAxis (s.guardedNow e)).grantScan).someFaultedSince
      (s.guardedNow e) ((s.guardedNow e).boundAxes e) then (((s.guardedNow e).boundAxes e).foldl State.freezeAxis (s.guardedNow e)).grantScan
      else ((((s.guardedNow e).boundAxes e).foldl State.freezeAxis (s.guardedNow e)).grantScan).beginEpisode e := rfl
  rw [hfreeze, hbound]
  generalize s.guardedNow e = t at *
  have hta : ∀ a, t.axis a = s.axis a := hshow.axis
  have hfold := TravelTo.foldl State.freezeAxis_reports t hn
  generalize (s.boundAxes e).foldl State.freezeAxis t = u at *
  have hfound := hfold.found hshow hrep
  have hwaiting : u.pool.waiting = [] := by
    rw [hfound.facts.waiting, List.filter_eq_nil_iff]
    intro x hx
    obtain ⟨hmem, hawait⟩ := hwaits x hx
    simp [freezeDeal, hereDeal, hmem, hawait]
  rw [State.grantScan_empty hwaiting, if_pos]
  · exact hfound
  · refine (State.someFaultedSince_iff (frozen_faulted (fun a ha ht => ?_) fun a ha ht => ?_)).2 ?_
    · rw [hta] at ht ⊢
      exact hfound.facts.touched a ha ht
    · rw [hta] at ht ⊢
      exact hfound.facts.untouched a ha ht
    · simpa only [hta] using hout

include hc in
theorem State.halted_found (hwaiting : s.pool.waiting = []) (hn : (s.boundAxes e).Nodup) (hrep : s.reports = [])
    (hout : ∃ a ∈ s.boundAxes e, (s.axis a).straysStopping = true) :
    FoundTo s ((s.opened e).openingAtHalt e) e (s.exhibit e).opened (s.slot e) (s.source e) c stoppingDeal Axis.straysStopping := by
  have hshow := s.opened_to hc
  generalize s.opened e = p at *
  have hbound : p.boundAxes e = s.boundAxes e := State.boundAxes_inForce (by rw [hshow.exhibit]; rfl)
  have hopening : p.openingAtHalt e = if (((p.boundAxes e).foldl State.stopStopping p).grantScan).someFaultedSince p (p.boundAxes e)
      then ((p.boundAxes e).foldl State.stopStopping p).grantScan
      else ((((p.boundAxes e).foldl State.stopStopping p).grantScan).enterState e .ready).markCondition e .halted := rfl
  rw [hopening, hbound]
  have hpa : ∀ a, p.axis a = s.axis a := hshow.axis
  have hfold := TravelTo.foldl State.stopStopping_reports p hn
  generalize (s.boundAxes e).foldl State.stopStopping p = u at *
  have hfound := hfold.found hshow hrep
  have huwaiting : u.pool.waiting = [] := by
    rw [hfound.facts.waiting, hwaiting]
    rfl
  rw [State.grantScan_empty huwaiting, if_pos]
  · exact hfound
  · refine (State.someFaultedSince_iff (stopping_faulted (fun a ha ht => ?_) fun a ha ht => ?_)).2 ?_
    · rw [hpa] at ht ⊢
      exact hfound.facts.touched a ha ht
    · rw [hpa] at ht ⊢
      exact hfound.facts.untouched a ha ht
    · simpa only [hpa] using hout

end

end Sys2Proof.Machine
end

section
/-! A guard opening, by the state of the exhibit that names the line (R10, R67, R128, R129, R133): O52. -/

namespace Sys2Proof.Machine

theorem Exhibit.guardedFor_eq {x : Exhibit} (c : ExhibitConfig) (h : x.state = .running ∨ x.state = .suspended) :
    x.opened.guarded.guardedFor c = { x with
      state := .guarded, guardOpen := true, settle := none, rest := none,
      returnState := some (if x.state = .running then .running else .suspended), guardAlert := some (c.guardAlertTime * 1000) } := by
  have hkeeps : (x.opened.entering .guarded).encore = x.encore := Bool.and_true x.encore
  have hreturn : x.opened.state.returnTo = if x.state = .running then .running else .suspended := by
    show x.state.returnTo = _
    obtain h | h := h <;> rw [h] <;> rfl
  unfold Exhibit.guardedFor Exhibit.guarded
  rw [hkeeps, hreturn]
  rfl

section
variable {s : State} {g : GuardNo} {e : ExhibitNo} {c : ExhibitConfig} (hl : (s.guardLine g).level = false) (hnames : s.namesGuard e g = true)
  (honly : ∀ f, f ≠ e → s.namesGuard f g = false) (hc : (s.exhibit e).config = some c) (hrep : s.reports = [])

include hl hnames honly hc hrep in
/-- The freeze that finds no model outside its window. -/
theorem State.guardOpening_freezes (hst : (s.exhibit e).state = .running ∨ (s.exhibit e).state = .suspended) (hwaits : s.WaitsOnly e)
    (hn : (s.boundAxes e).Nodup ∨ ∀ a ∈ s.boundAxes e, (s.axis a).state.busy = false) (hin : ∀ a ∈ s.boundAxes e, (s.axis a).strays = false)
    (howner : ∀ a ∈ s.boundAxes e, (s.axis a).state.busy = true → s.axisOwner a = some e) :
    ∃ t, exec (.guardOpening g) s = .next t ∧ FrozeTo (s.openedLine g) t e c ∧ t.reports = [] := by
  have hfroze := State.freeze_calm (s := s.openedLine g) hc hst hwaits hn hin
  have hsettle := hfroze.settle (by obtain h | h := hst <;> exact fun ho => by rw [show (s.exhibit e).state = .off from ho] at h; cases h) hrep howner
  rw [← State.exhibitOpening_show (s := s.openedLine g) hst] at hfroze hsettle
  refine ⟨_, State.guardOpening_only hl hnames honly hsettle fun f hf => (hfroze.scene.others f hf).1, ⟨?_, hfroze.lamp, hfroze.waiting⟩, rfl⟩
  generalize State.exhibitOpening (s.openedLine g) e = w at *
  exact ⟨hfroze.scene.toSceneFacts.congr rfl rfl rfl rfl rfl rfl, hfroze.scene.word, ⟨[], hrep.symm.trans (List.append_nil _).symm, Nat.zero_le _, fun r hr => by simp at hr⟩,
    by rw [hfroze.scene.form]⟩

end

/-- What the opening leaves but for the line. -/
theorem FrozeTo.form {s t : State} {g : GuardNo} {e : ExhibitNo} {c : ExhibitConfig} (h : FrozeTo (s.openedLine g) t e c) (hrep : s.reports = [])
    (ht : t.reports = []) : t = { s with
      guards := t.guards, exhibits := t.exhibits, slots := t.slots, sources := t.sources, axes := t.axes, pool := t.pool, channels := t.channels,
      ram := t.ram } ∧ t.guards = (s.openedLine g).guards := by
  have hform := h.scene.form
  have hguards : t.guards = (s.openedLine g).guards := by rw [hform]
  refine ⟨?_, hguards⟩
  rw [hguards, hrep]
  rw [ht] at hform
  exact hform

theorem Axis.strays_rest {x : Axis} (h : x.state.busy = false) : x.strays = false :=
  Bool.eq_false_iff.2 fun hs => by rw [Axis.strays_busy hs] at h; cases h

theorem Axis.strays_inWindow {x : Axis} (h : x.inWindow x.encoder = true) : x.strays = false :=
  Bool.eq_false_iff.2 fun hs => by rw [(Axis.strays_iff.1 hs).2] at h; cases h

theorem Axis.strays_only {x : Axis} (h : x.state = .moving ∨ x.state = .stopping → x.inWindow x.encoder = true) : x.strays = false :=
  Bool.eq_false_iff.2 fun hs => by
    obtain ⟨hst, hout⟩ := Axis.strays_iff.1 hs
    rw [h hst] at hout
    cases hout

/-- The reports are of bound axes, and few. -/
theorem FoundTo.reported {s v : State} {e : ExhibitNo} {x : Exhibit} {sl : Slot} {src : SourceRecord} {c : ExhibitConfig} {D : AxisDeal}
    {finds : Axis → Bool} (h : FoundTo s v e x sl src c D finds) (hforce : x.inForce = (s.exhibit e).inForce)
    (howner : ∀ a ∈ s.boundAxes e, s.axisOwner a = some e) (hmost : D.most ≤ 1000) :
    (∀ r ∈ v.reports, ∃ a, v.axisOwner a = some e ∧ ((∃ m up, r = .crossing a m up) ∨ r = travelOf a)) ∧ v.reports.length ≤ 4096 ∧
      v.boundAxes e = s.boundAxes e := by
  refine ⟨fun r hr => ?_, ?_, State.boundAxes_inForce (by rw [h.facts.exhibit, hforce])⟩
  · obtain ⟨a, ha, hkind⟩ := h.reports.kinds r hr
    refine ⟨a, (State.axisOwner_inForce (fun f => ?_) a).trans (howner a ha), hkind.imp And.right And.right⟩
    by_cases hf : f = e
    · subst hf
      rw [h.facts.exhibit, hforce]
    · rw [(h.facts.others f hf).1]
  · have hbound := Nat.mul_le_mul (show D.most + 1 ≤ 1001 by omega) (s.boundAxes_length e)
    exact h.reports.count.trans (hbound.trans (by decide))

section
variable {s : State} {g : GuardNo} {e : ExhibitNo} {c : ExhibitConfig} (hl : (s.guardLine g).level = false) (hnames : s.namesGuard e g = true)
  (honly : ∀ f, f ≠ e → s.namesGuard f g = false) (hc : (s.exhibit e).config = some c) (hrep : s.reports = [])
  (howner : ∀ a ∈ s.boundAxes e, s.axisOwner a = some e) (hn : (s.boundAxes e).Nodup)
include hl hnames honly hc hrep howner hn

/-- The freeze of a show finds models outside their windows: the show ends with the first of the faults. -/
theorem State.guardOpening_faultsShow {b : AxisNo} (hst : (s.exhibit e).state = .running ∨ (s.exhibit e).state = .suspended)
    (hwaits : s.WaitsOnly e) (hb : b ∈ s.boundAxes e) (hstray : (s.axis b).strays = true) :
    ∃ v t, exec (.guardOpening g) s = .next t ∧
      FoundTo (s.openedLine g) v e (s.exhibit e).opened.guarded { s.slot e with frozen := true } (s.source e) c freezeDeal Axis.strays ∧
      v.boundAxes e = s.boundAxes e ∧ v.pool.waiting = [] ∧
      FaultMade v t e ((v.exhibit e).entering .faulted) ((v.slot e).faultedAt .axisTravel ((v.slot e).current.getD 0xFFFF))
        ((v.source e).faultedAt ((v.slot e).firstOf .axisTravel ((v.slot e).current.getD 0xFFFF))) := by
  have hfound := State.frozen_found (s := s.openedLine g) hc hst hwaits hn hrep ⟨b, hb, hstray⟩
  have hoff : (s.exhibit e).state ≠ .off := by obtain h | h := hst <;> rw [h] <;> decide
  obtain ⟨hkinds, hlen, hbound⟩ := hfound.reported (Exhibit.guarded_inForce hoff) howner (by decide)
  have hact := State.exhibitOpening_show (s := s.openedLine g) hst
  rw [← hact] at hfound hkinds hlen hbound
  have hexec := fun (u : State) (hu : (State.exhibitOpening (s.openedLine g) e).settle = u) => State.guardOpening_only hl hnames honly hu
  generalize State.exhibitOpening (s.openedLine g) e = v at *
  have hfacts := hfound.facts
  have hrest : ∀ a ∈ s.boundAxes e, (v.axis a).state.busy = false := fun a ha =>
    frozen_rest (s := s.openedLine g) (hfacts.touched a ha) (hfacts.untouched a ha)
  have hwaiting : v.pool.waiting = [] := by
    rw [hfacts.waiting, List.filter_eq_nil_iff]
    intro w hw
    obtain ⟨hmem, hawait⟩ := hwaits w hw
    have hawait : ((s.openedLine g).axis w.axis).state = .awaitPower := hawait
    have hmem : w.axis ∈ (s.openedLine g).boundAxes e := hmem
    simp [freezeDeal, hereDeal, hmem, hawait]
  have hguarded : (v.exhibit e).state = .guarded := by rw [hfacts.exhibit]; rfl
  have hmade := State.settle_found (v := v) (e := e) (b := b) hkinds (hfound.reports.found b hb hstray) hlen (.inl (by rw [hfacts.slot]))
    (x := (v.exhibit e).entering .faulted) (sl := (v.slot e).faultedAt .axisTravel ((v.slot e).current.getD 0xFFFF))
    (src := (v.source e).faultedAt ((v.slot e).firstOf .axisTravel ((v.slot e).current.getD 0xFFFF))) rfl
    (Exhibit.inForce_entering (by decide) (by rw [hguarded]; decide)) rfl hwaiting fun q =>
      State.exhibitAxisFault_guarded (v := { v with reports := q }) .travel hguarded hwaiting
        (by rw [show State.boundAxes { v with reports := q } e = s.boundAxes e from hbound]; exact hrest)
  exact ⟨v, v.settle, hexec v.settle rfl fun f hf => (hmade.others f hf).1.trans (hfacts.others f hf).1, hfound, hbound, hwaiting, hmade⟩

/-- A HALTING exhibit whose STOPPING axes are within their windows. -/
theorem State.guardOpening_halts (hst : (s.exhibit e).state = .halting) (hcur : (s.slot e).current = none) (hwait : s.pool.waiting = [])
    (hin : ∀ a ∈ s.boundAxes e, (s.axis a).straysStopping = false) :
    ∃ w, exec (.guardOpening g) s = .next { w with reports := [] } ∧
      SceneTo (s.openedLine g) w e ((s.exhibit e).opened.entering .ready) (s.slot e) { s.source e with halted := true } c.ReadyLampIs
        stoppingDeal.roomier (s.boundAxes e) ∧
      ∀ ch, c.readyLamp = some ch → (w.channel ch).readyLayer.setting = .fixed .readyGuard := by
  obtain ⟨hscene, hlamp⟩ := State.halted_calm (s := s.openedLine g) hc hwait hn hin
  have hact := State.exhibitOpening_halt (s := s.openedLine g) hst
  rw [← hact] at hscene hlamp
  have hoff : (s.exhibit e).state ≠ .off := by rw [hst]; decide
  have hsettle := hscene.settle hscene.reports hrep (Exhibit.inForce_entering (by decide) hoff) (.inr hcur) (by decide) fun a ha _ => howner a ha
  exact ⟨_, State.guardOpening_only hl hnames honly hsettle fun f hf => (hscene.others f hf).1, hscene, hlamp⟩

/-- A HALTING exhibit whose opening finds models outside their windows. -/
theorem State.guardOpening_faultsHalt {b : AxisNo} (hst : (s.exhibit e).state = .halting) (hcur : (s.slot e).current = none)
    (hwait : s.pool.waiting = []) (hb : b ∈ s.boundAxes e) (hstray : (s.axis b).straysStopping = true) :
    ∃ v t, exec (.guardOpening g) s = .next t ∧
      FoundTo (s.openedLine g) v e (s.exhibit e).opened (s.slot e) (s.source e) c stoppingDeal Axis.straysStopping ∧
      v.boundAxes e = s.boundAxes e ∧
      FaultMade v t e ((v.exhibit e).entering .faulted) { v.slot e with firstFault := some ((v.slot e).firstOf .axisTravel 0xFFFF) }
        ((v.source e).faultedAt ((v.slot e).firstOf .axisTravel 0xFFFF)) := by
  have hfound := State.halted_found (s := s.openedLine g) hc hwait hn hrep ⟨b, hb, hstray⟩
  obtain ⟨hkinds, hlen, hbound⟩ := hfound.reported (Exhibit.opened_inForce _) howner (by decide)
  have hact := State.exhibitOpening_halt (s := s.openedLine g) hst
  rw [← hact] at hfound hkinds hlen hbound
  have hexec := fun (u : State) (hu : (State.exhibitOpening (s.openedLine g) e).settle = u) => State.guardOpening_only hl hnames honly hu
  generalize State.exhibitOpening (s.openedLine g) e = v at *
  have hfacts := hfound.facts
  have hvcur : (v.slot e).current = none := by rw [hfacts.slot]; exact hcur
  have hvst : (v.exhibit e).state = .halting := by rw [hfacts.exhibit]; exact hst
  have hwaiting : v.pool.waiting = [] := by
    rw [hfacts.waiting, show (s.openedLine g).pool.waiting = [] from hwait]
    rfl
  have hmade := State.settle_found (v := v) (e := e) (b := b) hkinds (hfound.reports.found b hb hstray) hlen (.inr hvcur)
    (x := (v.exhibit e).entering .faulted) (sl := { v.slot e with firstFault := some ((v.slot e).firstOf .axisTravel 0xFFFF) })
    (src := (v.source e).faultedAt ((v.slot e).firstOf .axisTravel 0xFFFF)) rfl
    (Exhibit.inForce_entering (by decide) (by rw [hvst]; decide)) hvcur hwaiting fun q =>
      State.exhibitAxisFault_halting (v := { v with reports := q }) .travel hvst
  exact ⟨v, v.settle, hexec v.settle rfl fun f hf => (hmade.others f hf).1.trans (hfacts.others f hf).1, hfound, hbound, hmade⟩

end

/-- Settles O52, by what the opening leaves of the exhibit and of its bound axes, and by the faults it finds, taken in order. -/
theorem guardOpeningFreezes : Obligations.GuardOpeningFreezes := by
  unfold Obligations.GuardOpeningFreezes
  refine ⟨fun s g e c a m hl hnames honly hc hrep => ⟨fun hst => ?_, fun hst hbusy hwait => ?_, fun hst hbound hmove hwait hm hin howner => ?_⟩,
    fun s g e c hl hnames honly hc hrep howner hn hlaw => ⟨fun hst hwaits hin => ?_, fun b ad hst hwaits hcur hb hmv hout => ?_,
      fun hst hcur hwait hin => ?_, fun b hst hcur hwait hb hsb hout => ?_⟩⟩
  · have hopen := (s.openedLine g).opened_to hc
    have hlamp := (s.openedLine g).opened_lamp hc (by
      have : (s.exhibit e).state ∉ [ExhibitState.off, .running, .suspended] := by obtain h | h | h | h | h := hst <;> rw [h] <;> decide
      exact this)
    have hexec := State.guardOpening_only hl hnames honly (u := (s.openedLine g).opened e) (by
      rw [State.exhibitOpening_quiet (s := s.openedLine g) hst]
      exact State.settle_nil _ (hopen.reports.trans hrep)) fun f hf => (hopen.others f hf).1
    obtain ⟨h1, h2, -⟩ := s.openedLine_guard g
    generalize (s.openedLine g).opened e = t at *
    have hguards : t.guards = (s.openedLine g).guards := by rw [hopen.form]
    have hguard : ∀ h, t.guardLine h = (s.openedLine g).guardLine h := fun h => congrArg (tget · h) hguards
    refine ⟨t, hexec, (hguard g).trans h1, fun h hh => (hguard h).trans (h2 h hh), hopen.exhibit, fun f hf => (hopen.others f hf).1, hlamp,
      hopen.channel, fun k _ => hopen.word k, ?_⟩
    have hform := hopen.form
    rw [hopen.slots_eq, hopen.sources_eq] at hform
    rw [hguards]
    exact hform
  · have hrest : ∀ a ∈ s.boundAxes e, (s.axis a).state.busy = false := fun a => State.boundAxes_rest hbusy
    obtain ⟨t, hexec, hfroze, hnone⟩ := State.guardOpening_freezes hl hnames honly hc hrep (.inl hst) (State.waitsOnly_nil hwait) (.inr hrest)
      (fun a ha => Axis.strays_rest (hrest a ha)) fun a ha hb => absurd hb (by rw [hrest a ha]; decide)
    have hscene := hfroze.scene
    have hcalm : ∀ a ∈ s.boundAxes e, freezeDeal.returns (s.axis a) = false ∧ freezeDeal.leaves (s.axis a) = false := fun a ha =>
      (freezeDeal_does.calm (s.axis a) (hrest a ha)).2
    have hpool : t.pool = s.pool := hscene.pool_same (fun a ha => (hcalm a ha).1) fun a ha => (hcalm a ha).2
    have hexhibit := hscene.exhibit.trans (Exhibit.guardedFor_eq (x := s.exhibit e) c (.inl hst))
    rw [if_pos hst] at hexhibit
    obtain ⟨hform, -⟩ := hfroze.form hrep hnone
    rw [hpool] at hform
    refine ⟨t, hexec, hexhibit, hscene.slot, hscene.source, hscene.others, fun a => ?_, hfroze.lamp,
      fun k _ hk => hscene.word k hk fun a ha ht => ?_, hform⟩
    · split
      · next ha => exact hscene.untouched a ha (hrest a ha)
      · next ha => exact hscene.axisOthers a ha
    · exact absurd ht (by rw [show freezeDeal.roomier.touches ((s.openedLine g).axis a) = false from hrest a ha]; decide)
  · have hdrives : (s.axis a).state.drives = true := by rw [hmove]; rfl
    have hstrays : (s.axis a).strays = false := Axis.strays_inWindow hin
    have hmem : ∀ b ∈ s.boundAxes e, b = a := fun b hb => by rw [hbound] at hb; exact List.mem_singleton.1 hb
    have ha : a ∈ s.boundAxes e := by rw [hbound]; simp
    obtain ⟨t, hexec, hfroze, -⟩ := State.guardOpening_freezes hl hnames honly hc hrep (.inl hst) (State.waitsOnly_nil hwait)
      (.inl (by rw [hbound]; simp)) (fun b hb => hmem b hb ▸ hstrays) fun b hb _ => hmem b hb ▸ howner
    have hscene := hfroze.scene
    obtain ⟨-, hplace, hmoving, -⟩ := State.frozenAxis_of (s := s.openedLine g) (t := t) hstrays (hscene.touched a ha) (hscene.untouched a ha)
    obtain ⟨hidle, -, hresume⟩ := hmoving hmove
    have hheld : ∀ b, tget t.pool.held b = if b = a then 0 else tget s.pool.held b := fun b => by
      refine (hscene.held b).trans (if_congr ⟨fun h => hmem b h.1, fun h => ?_⟩ rfl rfl)
      rw [h]
      exact ⟨ha, hdrives⟩
    refine ⟨t, hexec, ?_, ?_, ?_, hidle, (hplace hdrives).1, ?_, ?_, ?_, fun b hb => hscene.axisOthers b fun hb' => hb (hmem b hb'), hscene.others⟩
    · rw [hscene.exhibit]; rfl
    · rw [hscene.slot]
    · rw [hscene.slot]; rfl
    · rw [hresume]
      show (s.axis a).move.map _ = _
      rw [hm]
      rfl
    · have hunits := hscene.units
      have hsum : t.pool.held = tset s.pool.held a 0 := tget_ext fun b => by
        rw [hheld, tget_tset]
        exact if_congr eq_comm rfl rfl
      have hs := sum_tset s.pool.held a 0
      unfold State.unitsHeld at hunits
      rw [hsum] at hunits
      have hunits : t.pool.free + (tset s.pool.held a 0).toList.sum = s.pool.free + s.pool.held.toList.sum := hunits
      omega
    · rw [hheld, if_pos rfl]
  · obtain ⟨t, hexec, hfroze, hnone⟩ := State.guardOpening_freezes hl hnames honly hc hrep hst (fun w hw => ⟨hwaits w hw, hlaw.1 w hw⟩) (.inl hn)
      (fun a ha => Axis.strays_only (hin a ha)) fun a ha _ => howner a ha
    have hscene := hfroze.scene
    obtain ⟨hform, hguards⟩ := hfroze.form hrep hnone
    obtain ⟨h1, -, -⟩ := s.openedLine_guard g
    refine ⟨t, hexec, (congrArg (tget · g) hguards).trans h1, hscene.exhibit.trans (Exhibit.guardedFor_eq (x := s.exhibit e) c hst), hscene.slot,
      hscene.source, hscene.others, fun a ha => ?_, hscene.axisOthers, hfroze.waiting, hscene.held, hscene.units, hfroze.lamp, hscene.channel,
      fun k _ h1 h2 => hscene.word k h1 fun a ha _ => h2 a ha, hform⟩
    exact State.frozenAxis_of (s := s.openedLine g) (t := t) (Axis.strays_only (hin a ha)) (hscene.touched a ha) (hscene.untouched a ha)
  · have hstray : (s.axis b).strays = true := Axis.strays_iff.2 ⟨hmv, hout⟩
    obtain ⟨v, t, hexec, hfound, hbound, hwaiting, hmade⟩ :=
      State.guardOpening_faultsShow hl hnames honly hc hrep howner hn hst (fun w hw => ⟨hwaits w hw, hlaw.1 w hw⟩) hb hstray
    have hfacts := hfound.facts
    have hrest : ∀ a ∈ s.boundAxes e, (v.axis a).state.busy = false := fun a ha =>
      frozen_rest (s := s.openedLine g) (hfacts.touched a ha) (hfacts.untouched a ha)
    have hvcur : (v.slot e).current = some ad := by rw [hfacts.slot]; exact hcur
    have hvfirst : (v.slot e).firstFault = (s.slot e).firstFault := by rw [hfacts.slot]
    have hvsource : v.source e = s.source e := hfacts.source
    have hvexhibit : v.exhibit e = (s.exhibit e).opened.guarded := hfacts.exhibit
    have hheld : ∀ a, tget v.pool.held a = if a ∈ s.boundAxes e ∧ (s.axis a).state.drives = true then 0 else tget s.pool.held a := hfacts.held
    have hvb := hfacts.touched b hb (Axis.strays_busy hstray)
    obtain ⟨mx, ms, mr, mothers, mdrop, mpool, mmark, mpart, mentered⟩ := hmade
    have hdrop : ∀ a ∈ s.boundAxes e, t.axis a = { v.axis a with resume := none } := fun a ha => by
      rw [mdrop a, hbound]
      exact if_pos ha
    have htb : t.axis b = { v.axis b with resume := none } := hdrop b hb
    obtain ⟨hfaulted, hcause⟩ := Axis.stoppedInPlace_moving (x := s.axis b) hmv
    rw [hout] at hfaulted
    have hvbx : v.axis b = { (s.axis b).frozen with imageStale := (v.axis b).imageStale } := hvb
    rw [hvcur] at ms mr
    refine ⟨t, hexec, by rw [mx]; rfl, by rw [mx, hvexhibit]; rfl, by rw [mx]; rfl, by rw [mx]; exact Bool.and_false _, by rw [ms]; rfl, by rw [ms]; rfl,
      ?_, ?_, ?_, ?_, ?_, fun a ha => ⟨?_, ?_, fun hd => ?_⟩, fun a ha => ?_, by rw [mpool]; exact hwaiting, by rw [mmark, hfound.gallery]; rfl,
      fun f hf => ?_, fun hrun hlt => ?_⟩
    · rw [ms]
      show some ((v.slot e).firstFault.getD _) = _
      rw [hvfirst]
      rfl
    · rw [mr, ms, hvsource]
      rfl
    · rw [htb, hvbx]
      exact hfaulted
    · rw [htb, hvbx]
      exact hcause hout
    · rw [htb, hvbx]
      exact Axis.stoppedInPlace_pos (by obtain h | h := hmv <;> rw [h] <;> rfl)
    · rw [hdrop a ha]
    · rw [hdrop a ha]
      exact hrest a ha
    · rw [mpool, hheld, if_pos ⟨ha, hd⟩]
    · rw [mdrop a, hbound]
      exact (if_neg ha).trans (hfacts.axisOthers a ha)
    · obtain ⟨k1, k2, k3⟩ := mothers f hf
      obtain ⟨l1, l2, l3⟩ := hfacts.others f hf
      exact ⟨k1.trans l1, k2.trans l2, k3.trans l3⟩
    · obtain ⟨y, hy, hkind, -⟩ := mentered (hfound.part.trans hrun) (by rw [hfound.alerts]; exact hlt)
      exact ⟨y, hy, hkind⟩
  · have hcalm : ∀ a ∈ s.boundAxes e, (s.axis a).straysStopping = false := fun a ha => Bool.eq_false_iff.2 fun hs => by
      obtain ⟨h1, h2⟩ := Axis.straysStopping_iff.1 hs
      rw [hin a ha h1] at h2
      cases h2
    obtain ⟨w, hexec, hscene, hlamp⟩ := State.guardOpening_halts hl hnames honly hc hrep howner hn hst hcur hwait hcalm
    have hform := hscene.form
    have hguards : w.guards = (s.openedLine g).guards := by rw [hform]
    rw [hscene.slots_eq] at hform
    obtain ⟨h1, -, -⟩ := s.openedLine_guard g
    have hheld : ∀ a, tget w.pool.held a = if a ∈ s.boundAxes e ∧ (s.axis a).state = .stopping then 0 else tget s.pool.held a := fun a =>
      (hscene.held a).trans (if_congr (and_congr_right fun _ => beq_iff_eq) rfl rfl)
    refine ⟨{ w with reports := [] }, hexec, (congrArg (tget · g) hguards).trans h1, ?_, hscene.slot, hscene.source, hscene.others,
      fun a => ⟨fun ⟨ha, hs⟩ => ?_, fun hno => ⟨?_, ?_⟩⟩, ?_, hscene.units, hlamp, hscene.channel, fun k _ h1 h2 => hscene.word k h1 fun a ha _ => h2 a ha, ?_⟩
    · exact hscene.exhibit.trans (Exhibit.entering_plain _ rfl)
    · have hstop := hscene.touched a ha (beq_iff_eq.2 hs)
      have hx : w.axis a = { (s.axis a).stoppedHere with imageStale := (w.axis a).imageStale } := hstop
      obtain ⟨k1, k2, k3, k4, k5, -⟩ := Axis.stoppedHere_stopping hs
      rw [hin a ha hs] at k5
      have hh : tget w.pool.held a = 0 := by rw [hheld, if_pos ⟨ha, hs⟩]
      show (w.axis a).state = _ ∧ (w.axis a).pos = _ ∧ (w.axis a).vel = _ ∧ (w.axis a).request = _ ∧ (w.axis a).resume = _ ∧ _
      rw [hx]
      exact ⟨k5, k1, k2, k3, k4, hh⟩
    · by_cases ha : a ∈ s.boundAxes e
      · exact hscene.untouched a ha (beq_eq_false_iff_ne.2 (hno.resolve_left fun h => h ha))
      · exact hscene.axisOthers a ha
    · show tget w.pool.held a = _
      rw [hheld, if_neg fun h => hno.elim (fun hn => hn h.1) fun hn => hn h.2]
    · show w.pool.waiting = []
      rw [hscene.waiting, show (s.openedLine g).pool.waiting = [] from hwait]
      rfl
    · rw [hrep, hform]
      rfl
  · have hstray : (s.axis b).straysStopping = true := Axis.straysStopping_iff.2 ⟨hsb, hout⟩
    obtain ⟨v, t, hexec, hfound, hbound, hmade⟩ := State.guardOpening_faultsHalt hl hnames honly hc hrep howner hn hst hcur hwait hb hstray
    have hfacts := hfound.facts
    have hvexhibit : v.exhibit e = (s.exhibit e).opened := hfacts.exhibit
    have hvslot : v.slot e = s.slot e := hfacts.slot
    have hvsource : v.source e = s.source e := hfacts.source
    obtain ⟨mx, ms, mr, mothers, mdrop, -, -, -, mentered⟩ := hmade
    have hdrop : ∀ a ∈ s.boundAxes e, t.axis a = { v.axis a with resume := none } := fun a ha => by
      rw [mdrop a, hbound]
      exact if_pos ha
    obtain ⟨k1, -, -, -, k5, k6⟩ := Axis.stoppedHere_stopping hsb
    rw [hout] at k5
    have hvb : v.axis b = { (s.axis b).stoppedHere with imageStale := (v.axis b).imageStale } := hfacts.touched b hb (beq_iff_eq.2 hsb)
    refine ⟨t, hexec, by rw [mx]; rfl, by rw [mx, hvexhibit]; rfl, by rw [ms, hvslot]; rfl, by rw [mr, ms, hvsource]; rfl, ?_, ?_, ?_, fun a ha => ?_,
      fun f hf => ?_, fun hrun hlt => ?_⟩
    · rw [hdrop b hb, hvb]
      exact k5
    · rw [hdrop b hb, hvb]
      exact k6 hout
    · rw [hdrop b hb, hvb]
      exact k1
    · rw [hdrop a ha]
      show (v.axis a).state ≠ .stopping
      by_cases hs : (s.axis a).state = .stopping
      · have hva : v.axis a = { (s.axis a).stoppedHere with imageStale := (v.axis a).imageStale } := hfacts.touched a ha (beq_iff_eq.2 hs)
        rw [hva]
        show (s.axis a).stoppedHere.state ≠ _
        rw [(Axis.stoppedHere_stopping hs).2.2.2.2.1]
        split <;> decide
      · rw [hfacts.untouched a ha (beq_eq_false_iff_ne.2 hs)]
        exact hs
    · obtain ⟨k1, k2, k3⟩ := mothers f hf
      obtain ⟨l1, l2, l3⟩ := hfacts.others f hf
      exact ⟨k1.trans l1, k2.trans l2, k3.trans l3⟩
    · obtain ⟨y, hy, hkind, -⟩ := mentered (hfound.part.trans hrun) (by rw [hfound.alerts]; exact hlt)
      exact ⟨y, hy, hkind⟩

end Sys2Proof.Machine
end

section
/-! A guard closing, and what the settle expiry does before and after the requests made anew (R67, R130, R131): O53. -/

namespace Sys2Proof.Machine

/-! ### The guard closes (R130) -/

/-- The exhibit once the closing of the line has met it. -/
def State.closedExhibit (s : State) (g : GuardNo) (e : ExhibitNo) : Exhibit :=
  if s.namesGuard e g = true ∧ (s.exhibit e).guardOpen = true then
    { s.exhibit e with settle := (s.exhibit e).config.map fun c => c.guardSettle * 100 }
  else s.exhibit e

/-- The closing has met the exhibits done. -/
structure ClosedTo (s t : State) (g : GuardNo) (done : List ExhibitNo) : Prop where
  met : ∀ e ∈ done, t.exhibit e = s.closedExhibit g e
  left : ∀ e, e ∉ done → t.exhibit e = s.exhibit e
  word : ∀ k, (∀ e, OutsideExhibit e k) → t.word k = s.word k
  form : t = { s with exhibits := t.exhibits, ram := t.ram }

theorem State.closedTo (s : State) (g : GuardNo) :
    ClosedTo s (forEach 48 (fun e t => if State.namesGuard t e g then t.exhibitClosing e else t) s) g (List.finRange 48) := by
  refine forEach_progress (fun done t => ClosedTo s t g done) ⟨by simp, fun _ _ => rfl, fun _ _ => rfl, rfl⟩ fun done e t he h => ?_
  have hx := h.left e he
  have hnames : t.namesGuard e g = s.namesGuard e g := State.namesGuard_congr hx g
  rw [hnames]
  by_cases hopen : s.namesGuard e g = true ∧ (s.exhibit e).guardOpen = true
  · have hact : t.exhibitClosing e = t.putExhibit e (s.closedExhibit g e) := by
      unfold State.exhibitClosing State.closedExhibit
      rw [hx, if_pos hopen]
      exact if_pos hopen.2
    have hput := t.putExhibit_to e (s.closedExhibit g e)
    have hform := hput.form
    rw [hput.slots_eq, hput.sources_eq, hput.channels_eq] at hform
    rw [if_pos hopen.1, hact]
    generalize t.putExhibit e (s.closedExhibit g e) = u at *
    refine ⟨fun f hf => ?_, fun f hf => ?_, fun k hk => (hput.word k (hk e)).trans (h.word k hk), ?_⟩
    · rw [List.mem_append, List.mem_singleton] at hf
      by_cases hfe : f = e
      · subst hfe
        exact hput.exhibit
      · rw [(hput.others f hfe).1]
        exact h.met f (hf.resolve_right hfe)
    · rw [List.mem_append, List.mem_singleton, not_or] at hf
      rw [(hput.others f hf.2).1]
      exact h.left f hf.1
    · rw [h.form] at hform
      exact hform
  · have hact : (if s.namesGuard e g then t.exhibitClosing e else t) = t := by
      by_cases hn : s.namesGuard e g = true
      · rw [if_pos hn]
        unfold State.exhibitClosing
        simp only
        rw [hx]
        exact if_neg fun ho => hopen ⟨hn, ho⟩
      · exact if_neg hn
    rw [hact]
    refine ⟨fun f hf => ?_, fun f hf => h.left f fun hd => hf (List.mem_append_left _ hd), h.word, h.form⟩
    rw [List.mem_append, List.mem_singleton] at hf
    by_cases hfe : f = e
    · subst hfe
      rw [hx]
      unfold State.closedExhibit
      rw [if_neg hopen]
    · exact h.met f (hf.resolve_right hfe)

/-! ### The settle timer runs out (R130, R133) -/

/-- The exhibit whose guard has settled. -/
def Exhibit.settled (x : Exhibit) : Exhibit := { x with settle := none, guardOpen := false }

/-- What the expiry does before a GUARDED exhibit resumes. -/
def State.settledBase (s : State) (e : ExhibitNo) : State :=
  ((s.putExhibit e (s.exhibit e).settled).evalReady e).removeAlerts fun x => x.source == exhibitSource e && x.cause == .guardHeld && x.acked

structure SettledTo (s b : State) (e : ExhibitNo) : Prop where
  exhibit : b.exhibit e = (s.exhibit e).settled
  others : s.OtherExhibits b e
  alerts : b.alerts = s.alerts.filter fun x => !(x.source == exhibitSource e && x.cause == .guardHeld && x.acked)
  word : ∀ k, NotOfAlerts k → OutsideExhibit e k → b.word k = s.word k
  form : b = { s with exhibits := b.exhibits, channels := b.channels, alerts := b.alerts, stations := b.stations,
                      rewriteCount := b.rewriteCount, ram := b.ram }

theorem State.settledBase_to (s : State) (e : ExhibitNo) : SettledTo s (s.settledBase e) e := by
  have hput := s.putExhibit_to e (s.exhibit e).settled
  have heval := (s.putExhibit e (s.exhibit e).settled).evalReady_to e
  rw [hput.exhibit, hput.slot, hput.source] at heval
  have hboth := (hput.silent _).trans heval
  unfold State.settledBase
  generalize (s.putExhibit e (s.exhibit e).settled).evalReady e = t at *
  generalize hp : (fun x : Alert => x.source == exhibitSource e && x.cause == .guardHeld && x.acked) = p
  have hlist := t.removeAlerts_alerts p
  have hwords := (t.removeAlerts_act p).2
  have hform := t.removeAlerts_form p
  have htform := hboth.form
  rw [hboth.slots_eq, hboth.sources_eq] at htform
  have htalerts : t.alerts = s.alerts := by rw [htform]
  generalize t.removeAlerts p = b at *
  have hx : ∀ f, b.exhibit f = t.exhibit f := fun f => by rw [hform]; rfl
  have hs : ∀ f, b.slot f = t.slot f := fun f => by rw [hform]; rfl
  have hr : ∀ f, b.source f = t.source f := fun f => by rw [hform]; rfl
  refine ⟨(hx e).trans hboth.exhibit, fun f hf => ?_, by rw [hlist, htalerts, ← hp], fun k h1 h2 => (hwords k h1).trans (hboth.word k h2), ?_⟩
  · rw [hx, hs, hr]
    exact hboth.others f hf
  · have hexhibits : b.exhibits = t.exhibits := by rw [hform]
    rw [htform] at hform
    rw [hexhibits]
    exact hform

theorem State.settleExpiry_plain {s : State} {e : ExhibitNo} (h : (s.exhibit e).settle ≠ none) (hst : (s.exhibit e).state ≠ .guarded) :
    s.settleExpiry e = s.settledBase e := by
  unfold State.settleExpiry
  simp only
  rw [if_neg (by rw [Option.isNone_iff_eq_none]; exact h), if_neg hst]
  rfl

theorem State.settleExpiry_guarded {s : State} {e : ExhibitNo} (h : (s.exhibit e).settle ≠ none) (hst : (s.exhibit e).state = .guarded) :
    s.settleExpiry e = (s.settledBase e).resumption e := by
  unfold State.settleExpiry
  simp only
  rw [if_neg (by rw [Option.isNone_iff_eq_none]; exact h), if_pos hst]
  rfl

/-! ### The thaw (R67, R131) -/

/-- The state a GUARDED exhibit returns to. -/
def Exhibit.returns (x : Exhibit) : ExhibitState := (x.returnState.getD .running).state

theorem Exhibit.returns_show (x : Exhibit) : x.returns = .running ∨ x.returns = .suspended := by
  unfold Exhibit.returns
  cases x.returnState.getD .running
  · exact .inl rfl
  · exact .inr rfl

/-- The exhibit returned and its slot thawed, no report made. -/
def State.thawed (u : State) (e : ExhibitNo) : State :=
  (((u.discardResume e).enterState e (u.exhibit e).returns).putSlot e { u.slot e with frozen := false })

theorem State.thawed_to (u : State) (e : ExhibitNo) :
    ShowTo (u.discardResume e) (u.thawed e) e ((u.exhibit e).entering (u.exhibit e).returns) { u.slot e with frozen := false } (u.source e) anyLamp := by
  obtain ⟨-, hform⟩ := u.discardResume_spec e
  unfold State.thawed
  generalize u.discardResume e = r at *
  have hx : r.exhibit e = u.exhibit e := by rw [hform]; rfl
  have hs : r.slot e = u.slot e := by rw [hform]; rfl
  have hr : r.source e = u.source e := by rw [hform]; rfl
  have henter := r.enterState_to e (u.exhibit e).returns
  have hput := (r.enterState e (u.exhibit e).returns).putSlot_to e { u.slot e with frozen := false }
  rw [henter.exhibit, henter.source] at hput
  rw [hx, hr] at hput
  rw [hx, hs, hr] at henter
  exact henter.loose.trans (hput.silent _)

theorem State.thawWait_other {v : State} {e : ExhibitNo} (h : ∀ r, (v.slot e).wait ≠ some (.axisRest r)) : v.thawWait e = v := by
  unfold State.thawWait
  split
  · next hw => exact absurd hw (h _)
  · rfl

theorem State.thaw_eq {u : State} {e : ExhibitNo} (complete : List AxisNo)
    (h : ∀ r, (u.slot e).wait ≠ some (.axisRest r)) :
    u.thaw e complete = complete.foldl (fun w a => w.reportDone a .move) (u.thawed e) := by
  have hslots : ∀ (l : List AxisNo) (v : State), (l.foldl (fun w a => State.reportDone w a .move) v).slots = v.slots := fun l => by
    induction l with
    | nil => exact fun _ => rfl
    | cons a l ih => exact fun v => (ih (v.reportDone a .move)).trans (by rw [(v.reportDone_only a .move).form])
  have hthaw : u.thaw e complete = (complete.foldl (fun w a => State.reportDone w a .move) (u.thawed e)).thawWait e := by
    obtain ⟨-, hform⟩ := u.discardResume_spec e
    have hx : (u.discardResume e).exhibit e = u.exhibit e := by rw [hform]; rfl
    have hs : ((u.discardResume e).enterState e (u.exhibit e).returns).slot e = u.slot e := by
      rw [((u.discardResume e).enterState_to e (u.exhibit e).returns).slot, hform]
      rfl
    unfold State.thaw State.thawed
    simp only
    rw [hx]
    show State.thawWait (complete.foldl _ (State.putSlot _ e { State.slot ((u.discardResume e).enterState e (u.exhibit e).returns) e with frozen := false })) e = _
    rw [hs]
    rfl
  rw [hthaw]
  refine State.thawWait_other fun r => ?_
  have hslot : (complete.foldl (fun w a => State.reportDone w a .move) (u.thawed e)).slot e = (u.thawed e).slot e :=
    congrArg (tget · e) (hslots complete (u.thawed e))
  rw [hslot, (u.thawed_to e).slot]
  exact h r

end Sys2Proof.Machine
end

section
/-! The resumption of a GUARDED exhibit (R67, R104, R130, R131): O53. -/

namespace Sys2Proof.Machine

/-! ### One bound axis resumes (R131) -/

/-- The reports of the resumed request are crossings nobody takes up: none, or of an axis of the exhibit whose slot is frozen. -/
abbrev State.CrossingsDrop (s : State) (e : ExhibitNo) (a : AxisNo) (n : Nat) : Prop :=
  n = 0 ∨ (n ≤ 4000 ∧ s.axisOwner a = some e ∧ (s.slot e).frozen = true)

theorem AxisTo.settle_dropped {s u : State} {e : ExhibitNo} {a : AxisNo} {y : Axis} {p : Pool} {n : Nat} (h : AxisTo s u a y p n)
    (hrep : s.reports = []) (hdrop : s.CrossingsDrop e a n) : u.settle = { u with reports := [] } := by
  obtain ⟨rs, hrs, hlen, hcross⟩ := h.reports
  rw [hrep, List.nil_append] at hrs
  obtain rfl | ⟨hn, howner, hfrozen⟩ := hdrop
  · have hnone : u.reports = [] := by rw [hrs]; exact List.length_eq_zero_iff.1 (Nat.le_zero.1 hlen)
    rw [State.settle_nil u hnone, ← hnone]
  · refine (Takes.dropped u fun r hr rest => ?_).settle (by rw [hrs]; omega)
    obtain ⟨m, up, rfl⟩ := hcross r (hrs ▸ hr)
    exact State.deliver_crossing_frozen (s := { u with reports := rest }) (e := e) (h.owner.trans howner)
      (by rw [show State.slot { u with reports := rest } e = s.slot e from congrArg (tget · e) h.slots]; exact hfrozen) m up

/-- The resume record of the one bound axis is gone. -/
theorem State.discardResume_one {u : State} {e : ExhibitNo} {a : AxisNo} (h : u.boundAxes e = [a]) :
    u.discardResume e = u.setAxis a (u.axis a).unresumed := by
  unfold State.discardResume
  rw [h]
  rfl

/-- The exhibit that has returned. -/
def Exhibit.resumed (x : Exhibit) : Exhibit := x.settled.entering x.returns

/-- What the expiry leaves of an exhibit with one bound axis, before the completion of a resumed move is reported. -/
structure ResumedTo (s v : State) (e : ExhibitNo) (a : AxisNo) (y : Axis) (p : Pool) : Prop where
  exhibit : v.exhibit e = (s.exhibit e).resumed
  slot : v.slot e = { s.slot e with frozen := false }
  others : s.OtherExhibits v e
  axis : (v.axis a).Matches y.unresumed
  axisOthers : s.OtherAxes v a
  pool : v.pool = p
  reports : v.reports = []
  store : ∀ k, v.storeWord k = s.storeWord k
  owner : v.axisOwner a = s.axisOwner a

theorem Exhibit.resumed_inForce {x : Exhibit} (h : x.state = .guarded) : x.resumed.inForce = x.inForce := by
  have hoff : x.returns ≠ .off := by obtain hr | hr := x.returns_show <;> rw [hr] <;> decide
  exact Exhibit.inForce_entering (x := x.settled) hoff (by rw [show x.settled.state = .guarded from h]; decide)

theorem State.settleExpiry_one {s : State} {e : ExhibitNo} {a : AxisNo} {r : Request} {y : Axis} {p : Pool} {n : Nat} {now : Bool}
    (h : (s.exhibit e).settle ≠ none) (hst : (s.exhibit e).state = .guarded) (hbound : s.boundAxes e = [a]) (hrep : s.reports = [])
    (hr : (s.axis a).resume = some r) (hrest : ∀ b, (s.slot e).wait ≠ some (.axisRest b)) (hdrop : s.CrossingsDrop e a n)
    (htake : ∀ b : State, b.axis a = s.axis a → b.pool = s.pool → AxisTo b (b.takeRequest a r) a y p n)
    (hnow : ∀ b : State, b.axis a = s.axis a → b.resumesAtOnce a = now) :
    ∃ v, ResumedTo s v e a y p ∧ s.settleExpiry e = if now then v.reportDone a .move else v := by
  have hbase := s.settledBase_to e
  rw [State.settleExpiry_guarded h hst]
  generalize s.settledBase e = b at *
  have hbaxes : b.axes = s.axes := by rw [hbase.form]
  have hbaxis : ∀ c, b.axis c = s.axis c := fun c => congrArg (tget · c) hbaxes
  have hbpool : b.pool = s.pool := by rw [hbase.form]
  have hbrep : b.reports = [] := by rw [hbase.form]; exact hrep
  have hbslot : b.slot e = s.slot e := by rw [hbase.form]; rfl
  have hbstore : ∀ k, b.storeWord k = s.storeWord k := fun k =>
    hbase.word _ (by simp only [NotOfAlerts, addrStore, addrImageSeq, addrAlertImage]; omega) (.inr (by simp only [addrExhibitImage, addrStore]; omega))
  have hbforce : ∀ f, (b.exhibit f).inForce = (s.exhibit f).inForce := fun f => by
    by_cases hf : f = e
    · subst hf
      rw [hbase.exhibit]
      rfl
    · rw [(hbase.others f hf).1]
  have hbbound : b.boundAxes e = [a] := (State.boundAxes_inForce (hbforce e)).trans hbound
  have hto := htake b (hbaxis a) hbpool
  have hfold : (b.boundAxes e).foldl Resuming.axis { state := b, complete := [] } =
      { state := b.takeRequest a r, complete := if now then [a] else [] } := by
    rw [hbbound]
    show Resuming.axis { state := b, complete := [] } a = _
    unfold Resuming.axis State.resumeAxis
    simp only [hbaxis, hr, hnow b (hbaxis a), List.nil_append]
  have hres : b.resumption e = if ((b.takeRequest a r).settle.exhibit e).state = .guarded
      then (b.takeRequest a r).settle.thaw e (if now then [a] else []) else (b.takeRequest a r).settle := by
    unfold State.resumption
    simp only [hfold]
  rw [hres, hto.settle_dropped hbrep (hdrop.imp_right fun ⟨h1, h2, h3⟩ => ⟨h1, (State.axisOwner_inForce hbforce a).trans h2, hbslot ▸ h3⟩)]
  clear hres
  generalize b.takeRequest a r = w at *
  obtain ⟨u, hu⟩ : ∃ u, ({ w with reports := [] } : State) = u := ⟨_, rfl⟩
  have hua : ∀ c, u.axis c = w.axis c := fun c => by rw [← hu]; rfl
  have hux : ∀ f, u.exhibit f = b.exhibit f := fun f => by rw [← hu]; exact congrArg (tget · f) hto.exhibits
  have hus : ∀ f, u.slot f = b.slot f := fun f => by rw [← hu]; exact congrArg (tget · f) hto.slots
  have hur : ∀ f, u.source f = b.source f := fun f => by rw [← hu]; show w.source f = _; rw [hto.form]; rfl
  have hupool : u.pool = p := by rw [← hu]; exact hto.pool
  have hurep : u.reports = [] := by rw [← hu]
  have hustore : ∀ k, u.storeWord k = b.storeWord k := fun k => by
    rw [← hu]
    exact hto.word _ (.inr (by simp only [addrAxisImage, addrStore]; omega))
  rw [hu]
  have hguarded : (u.exhibit e).state = .guarded := by rw [hux, hbase.exhibit]; exact hst
  have hubound : u.boundAxes e = [a] := (State.boundAxes_inForce (by rw [hux])).trans hbbound
  have hthaw := u.thawed_to e
  rw [if_pos hguarded, State.thaw_eq _ (by rw [hus, hbslot]; exact hrest)]
  rw [State.discardResume_one hubound, hux, hus, hbase.exhibit, hbslot] at hthaw
  have hexhibit : (u.thawed e).exhibit e = (s.exhibit e).resumed := hthaw.exhibit
  generalize u.thawed e = v at *
  refine ⟨v, ⟨hexhibit, hthaw.slot, fun f hf => ?_, ?_, fun c hc => ?_, ?_, ?_, fun k => ?_, ?_⟩, ?_⟩
  · obtain ⟨h1, h2, h3⟩ := hthaw.others f hf
    obtain ⟨k1, k2, k3⟩ := hbase.others f hf
    refine ⟨h1.trans ((hux f).trans k1), h2.trans ((hus f).trans k2), h3.trans ((hur f).trans k3)⟩
  · rw [hthaw.axis, State.setAxis_axis, if_pos rfl, hua]
    exact hto.axis.unresumed
  · rw [hthaw.axis, State.setAxis_axis, if_neg hc.symm, hua, hto.others c hc, hbaxis]
  · rw [hthaw.pool]
    exact hupool
  · rw [hthaw.reports]
    exact hurep
  · rw [hthaw.storeWord]
    exact (hustore k).trans (hbstore k)
  · refine State.axisOwner_inForce (fun f => ?_) a
    by_cases hf : f = e
    · subst hf
      rw [hexhibit]
      exact Exhibit.resumed_inForce hst
    · rw [(hthaw.others f hf).1, show (u.setAxis a (u.axis a).unresumed).exhibit f = u.exhibit f from rfl, hux, hbforce]
  · cases now <;> rfl

end Sys2Proof.Machine
end

section
/-! A guard closing and the settle expiry, with the moves and homes made anew (R67, R104, R130, R131, R133): O53. -/

namespace Sys2Proof.Machine

/-! ### The request made anew -/

theorem Axis.clamp_within {x : Axis} {c : AxisConfig} (hc : x.config = some c) {p : Int} (h : c.Holds p) : x.clamp p = p := by
  rw [Axis.clamp_of_config hc]
  obtain ⟨h1, h2⟩ := h
  omega

section
variable {s : State} {a : AxisNo} {c : AxisConfig} {p : Int} {i : Fin 4} (hst : (s.axis a).state = .idle) (hhomed : (s.axis a).homed = true)
  (hc : (s.axis a).config = some c) (hp : c.Holds p)
include hst hhomed hc hp

theorem State.takeRequest_move : s.takeRequest a (.move p i) = s.takeMove a p i ∧
    (s.axis a).moveCase p = if p = (s.axis a).pos then .complete else .start := by
  refine ⟨if_pos ⟨hst, hhomed⟩, ?_⟩
  unfold Axis.moveCase
  simp only [hst, Axis.clamp_within hc hp]

/-- Whether a resumed move completes at once. -/
theorem State.resumesAtOnce_move (hr : (s.axis a).resume = some (.move p i)) : s.resumesAtOnce a = decide (p = (s.axis a).pos) := by
  have hcase := (State.takeRequest_move (i := i) hst hhomed hc hp).2
  unfold State.resumesAtOnce
  simp only [hr, hst, hhomed, beq_self_eq_true, Bool.true_and, hcase]
  by_cases h : p = (s.axis a).pos
  · rw [if_pos h, decide_eq_true h]
    rfl
  · rw [if_neg h, decide_eq_false h]
    rfl

theorem State.takeRequest_complete (h : p = (s.axis a).pos) :
    AxisTo s (s.takeRequest a (.move p i)) a ((s.axis a).asked p) s.pool 0 := by
  obtain ⟨htake, hcase⟩ := State.takeRequest_move (i := i) hst hhomed hc hp
  rw [htake]
  exact State.takeMove_complete_to i (hcase.trans (if_pos h))

theorem State.takeRequest_starts (h : p ≠ (s.axis a).pos) (hpool : s.pool.Grants c.draw) :
    AxisTo s (s.takeRequest a (.move p i)) a (((s.axis a).askingMove p i).enterMoving p i) (s.pool.granted a c.draw) 0 := by
  obtain ⟨htake, hcase⟩ := State.takeRequest_move (i := i) hst hhomed hc hp
  have hto := State.takeMove_starts_to i hc (hcase.trans (if_neg h)) (by rw [Axis.clamp_within hc hp]; exact h) hpool
  rw [Axis.clamp_within hc hp] at hto
  rw [htake]
  exact hto

theorem State.takeRequest_waits (h : p ≠ (s.axis a).pos) (hpool : s.pool.waiting ≠ [] ∨ s.pool.free < c.draw) :
    AxisTo s (s.takeRequest a (.move p i)) a { (s.axis a).askingMove p i with state := .awaitPower } (s.pool.joined a c.draw) 0 := by
  obtain ⟨htake, hcase⟩ := State.takeRequest_move (i := i) hst hhomed hc hp
  rw [htake]
  exact State.takeMove_waits_to i hc (hcase.trans (if_neg h)) hpool

end

theorem Axis.askingMove_request {x : Axis} {c : AxisConfig} (hc : x.config = some c) {p : Int} (h : c.Holds p) (i : Fin 4) :
    (x.askingMove p i).request = some (.move p i) := by
  unfold Axis.askingMove
  rw [Axis.clamp_within hc h]

/-! ### The expiry -/

theorem exec_settleExpiry (s : State) (e : ExhibitNo) : exec (.settleExpiry e) s = .next (s.settleExpiry e).settle := rfl

/-- The expiry that completes no move. -/
theorem ResumedTo.exec {s v : State} {e : ExhibitNo} {a : AxisNo} {y : Axis} {p : Pool} (h : ResumedTo s v e a y p)
    (hact : s.settleExpiry e = v) : exec (.settleExpiry e) s = .next v := by
  rw [exec_settleExpiry, hact, State.settle_nil v h.reports]

/-- The resumption of an exhibit none of whose axes has a resume record. -/
theorem State.settleExpiry_bare {s : State} {e : ExhibitNo} (h : (s.exhibit e).settle ≠ none) (hst : (s.exhibit e).state = .guarded)
    (hrep : s.reports = []) (hnone : ∀ a ∈ s.boundAxes e, (s.axis a).resume = none) (hrest : ∀ b, (s.slot e).wait ≠ some (.axisRest b)) :
    ShowTo (s.settledBase e) (s.settleExpiry e) e (s.exhibit e).resumed { s.slot e with frozen := false } (s.source e) anyLamp := by
  have hbase := s.settledBase_to e
  rw [State.settleExpiry_guarded h hst]
  generalize s.settledBase e = b at *
  have hbaxis : ∀ a, b.axis a = s.axis a := fun a => by rw [hbase.form]; rfl
  have hbslot : b.slot e = s.slot e := by rw [hbase.form]; rfl
  have hbsource : b.source e = s.source e := by rw [hbase.form]; rfl
  have hbrep : b.reports = [] := by rw [hbase.form]; exact hrep
  have hbound : b.boundAxes e = s.boundAxes e := State.boundAxes_inForce (by rw [hbase.exhibit]; rfl)
  have hbnone : ∀ a ∈ b.boundAxes e, (b.axis a).resume = none := fun a ha => by rw [hbaxis]; exact hnone a (hbound ▸ ha)
  have hfold : ∀ l : List AxisNo, (∀ a ∈ l, (b.axis a).resume = none) →
      l.foldl Resuming.axis { state := b, complete := [] } = { state := b, complete := [] } := fun l => by
    induction l with
    | nil => exact fun _ => rfl
    | cons a l ih =>
      intro hl
      have hone : Resuming.axis { state := b, complete := [] } a = { state := b, complete := [] } := by
        unfold Resuming.axis State.resumeAxis State.resumesAtOnce
        simp only [hl a (List.mem_cons_self), Bool.false_eq_true, if_false]
      rw [List.foldl_cons, hone]
      exact ih fun a ha => hl a (by simp [ha])
  have hres : b.resumption e = b.thaw e [] := by
    unfold State.resumption
    simp only [hfold _ hbnone]
    rw [State.settle_nil b hbrep]
    exact if_pos (by rw [hbase.exhibit]; exact hst)
  obtain ⟨hdrop, hform⟩ := b.discardResume_spec e
  have haxes : (b.discardResume e).axes = b.axes := tget_ext fun a => by
    refine (hdrop a).trans ?_
    split
    · next ha =>
      rw [← hbnone a ha]
      rfl
    · rfl
  have hsame : b.discardResume e = b := by
    rw [hform, haxes]
  have hthaw := b.thawed_to e
  have hthawed : b.thaw e [] = b.thawed e := by rw [State.thaw_eq [] (by rw [hbslot]; exact hrest), List.foldl_nil]
  rw [hsame, hbase.exhibit, hbslot, hbsource] at hthaw
  rw [hres, hthawed]
  exact hthaw

/-- The slot waits for no motion: the completion of a resumed move is dropped. -/
theorem ResumedTo.unawaited {s v : State} {e : ExhibitNo} {a : AxisNo} {y : Axis} {p : Pool} (h : ResumedTo s v e a y p)
    (howner : s.axisOwner a = some e) (hwait : (s.slot e).wait ≠ some (.motion a .move)) : v.reportDone a .move = v := by
  unfold State.reportDone
  simp only [h.owner.trans howner]
  refine if_neg ?_
  unfold State.slotAwaits
  rw [h.slot]
  simp [hwait]

/-- The slot waits for the motion: the completion of a resumed move completes the wait. -/
theorem ResumedTo.awaited {s v : State} {e : ExhibitNo} {a : AxisNo} {y : Axis} {p : Pool} {ad d : Nat} (h : ResumedTo s v e a y p)
    (howner : s.axisOwner a = some e) (hwait : (s.slot e).wait = some (.motion a .move)) (hstatus : (s.slot e).status = some .waiting)
    (hcur : (s.slot e).current = some ad) (htime : s.TimeStepAt (ad + 3) d) :
    AxisShowTo v (v.reportDone a .move).settle a (v.axis a) v.pool e (v.exhibit e) ((v.slot e).waitingAt (ad + 3) d) (v.source e) noLamps := by
  have hawaits : v.AwaitsAxis e a (.motion a .move) := by
    unfold State.AwaitsAxis
    rw [h.slot]
    exact ⟨hwait, hstatus, rfl, .inl ⟨_, rfl⟩⟩
  have hvo := h.owner.trans howner
  have hreport : v.reportDone a .move = v.report (Wait.report a (.motion a .move)) := by
    unfold State.reportDone
    simp only [hvo, hawaits.awaits, decide_true, if_true]
    rfl
  rw [hreport]
  exact (AxisTo.refl v a).completes (by omega) h.reports hvo hawaits (by rw [h.slot]; exact hcur) (htime.of_store h.store)

theorem AxisTo.home_dropped {s : State} {e : ExhibitNo} {a : AxisNo} (howner : s.axisOwner a = some e) (hfrozen : (s.slot e).frozen = true) :
    s.CrossingsDrop e a 4 := .inr ⟨by omega, howner, hfrozen⟩

end Sys2Proof.Machine
end

section
/-! A guard closing and the settle expiry (R67, R104, R130, R131, R133): O53. -/

namespace Sys2Proof.Machine

theorem exec_guardClosing {s : State} {g : GuardNo} (hl : (s.guardLine g).level = true) :
    exec (.guardClosing g) s = .next (forEach 48 (fun e t => if State.namesGuard t e g then t.exhibitClosing e else t)
      (s.setGuardLine g (.recognised false))) := by
  refine congrArg Host.Outcome.next ?_
  show s.guardClosing g = _
  exact if_pos hl

theorem State.setGuardLine_line (s : State) (g : GuardNo) (f : InputFilter) : (s.setGuardLine g f).guardLine g = f ∧
    ∀ h, h ≠ g → (s.setGuardLine g f).guardLine h = s.guardLine h :=
  ⟨tget_tset_same _ _ _, fun _ hne => tget_tset_ne _ _ hne.symm⟩

/-- The exhibit that has returned, written out. -/
theorem Exhibit.resumed_eq (x : Exhibit) : x.resumed = { x with
    state := (x.returnState.getD .running).state, settle := none, guardOpen := false, rest := none, guardAlert := none, returnState := none } :=
  Exhibit.entering_show x.settled x.returns_show

section
variable {s : State} {e : ExhibitNo} {a : AxisNo} {c : AxisConfig} {p : Int} {i : Fin 4} {y : Axis} {pl : Pool}
  (hsettle : (s.exhibit e).settle ≠ none) (hst : (s.exhibit e).state = .guarded) (hbound : s.boundAxes e = [a]) (hrep : s.reports = [])
include hsettle hst hbound hrep

/-- A move is made anew. -/
theorem State.settleExpiry_move (hr : (s.axis a).resume = some (.move p i)) (hidle : (s.axis a).state = .idle) (hhomed : (s.axis a).homed = true)
    (hc : (s.axis a).config = some c) (hp : c.Holds p) (hrest : ∀ b, (s.slot e).wait ≠ some (.axisRest b))
    (htake : ∀ b : State, b.axis a = s.axis a → b.pool = s.pool → AxisTo b (b.takeRequest a (.move p i)) a y pl 0) :
    ∃ v, ResumedTo s v e a y pl ∧ s.settleExpiry e = if decide (p = (s.axis a).pos) then v.reportDone a .move else v :=
  State.settleExpiry_one hsettle hst hbound hrep hr hrest (.inl rfl) htake fun b ha => by
    rw [← ha]
    exact State.resumesAtOnce_move (by rw [ha]; exact hidle) (by rw [ha]; exact hhomed) (by rw [ha]; exact hc) hp (by rw [ha]; exact hr)

/-- A move made anew that completes at once. -/
theorem State.settleExpiry_complete (hr : (s.axis a).resume = some (.move p i)) (hidle : (s.axis a).state = .idle)
    (hhomed : (s.axis a).homed = true) (hc : (s.axis a).config = some c) (hp : c.Holds p) (hrest : ∀ b, (s.slot e).wait ≠ some (.axisRest b))
    (heq : p = (s.axis a).pos) : ∃ v, ResumedTo s v e a ((s.axis a).asked p) s.pool ∧ s.settleExpiry e = v.reportDone a .move := by
  obtain ⟨v, hto, hact⟩ := State.settleExpiry_move (y := (s.axis a).asked p) (pl := s.pool) hsettle hst hbound hrep hr hidle hhomed hc hp hrest
    fun b ha hpl => by
      rw [← ha, ← hpl]
      exact State.takeRequest_complete (by rw [ha]; exact hidle) (by rw [ha]; exact hhomed) (by rw [ha]; exact hc) hp (by rw [ha]; exact heq)
  rw [if_pos (by simpa using heq)] at hact
  exact ⟨v, hto, hact⟩

/-- A home is made anew. -/
theorem State.settleExpiry_home (hr : (s.axis a).resume = some .home) (hrest : ∀ b, (s.slot e).wait ≠ some (.axisRest b))
    (hdrop : s.CrossingsDrop e a 4) (htake : ∀ b : State, b.axis a = s.axis a → b.pool = s.pool → AxisTo b (b.takeHome a) a y pl 4) :
    ∃ v, ResumedTo s v e a y pl ∧ s.settleExpiry e = v := by
  obtain ⟨v, hto, hact⟩ := State.settleExpiry_one (now := false) hsettle hst hbound hrep hr hrest hdrop htake fun b ha => by
    unfold State.resumesAtOnce
    simp only [ha, hr]
  rw [if_neg Bool.false_ne_true] at hact
  exact ⟨v, hto, hact⟩

end

/-- Settles O53, by the exhibits a closing meets, and by the thaw after the request made anew. -/
theorem guardClosesAndResumes : Obligations.GuardClosesAndResumes := by
  unfold Obligations.GuardClosesAndResumes
  refine ⟨fun s g hl => ?_, fun s g hl => ?_, fun s e c a x p i hsettle hc hrep => ⟨fun hst _ => ?_, fun hst hnone hrest => ?_,
    fun hst hbound hr hidle hhomed hx hp hne hempty hfree hrest => ?_, fun hst hbound hr hidle hhomed hx hp hne hpool hrest => ?_,
    fun hst hbound howner hr hidle hhomed hx hp heq => ⟨fun hrest hwait => ?_, fun ad d hwait hstatus hcur htime => ?_⟩,
    fun hst hbound howner hfrozen hr hax hx hrest => ⟨fun hempty hfree => ?_, fun hpool => ?_⟩⟩⟩
  · have hto := (s.setGuardLine g (.recognised false)).closedTo g
    obtain ⟨h1, h2⟩ := s.setGuardLine_line g (.recognised false)
    refine ⟨_, exec_guardClosing hl, ?_⟩
    generalize forEach 48 (fun e t => if State.namesGuard t e g then t.exhibitClosing e else t) (s.setGuardLine g (.recognised false)) = t at *
    have hguards : t.guards = (s.setGuardLine g (.recognised false)).guards := by rw [hto.form]
    refine ⟨(congrArg (tget · g) hguards).trans h1, fun h hh => (congrArg (tget · h) hguards).trans (h2 h hh),
      fun e => hto.met e (List.mem_finRange e), ?_, fun k _ => hto.word k⟩
    rw [hguards]
    exact hto.form
  · refine congrArg Host.Outcome.next ?_
    show s.guardClosing g = s
    exact if_neg (by rw [hl]; decide)
  · have hbase := s.settledBase_to e
    refine ⟨s.settledBase e, ?_, hbase.exhibit, hbase.others, hbase.alerts, fun k _ => hbase.word k, hbase.form⟩
    rw [exec_settleExpiry, State.settleExpiry_plain hsettle hst]
    generalize s.settledBase e = b at *
    rw [State.settle_nil b (by rw [hbase.form]; exact hrep)]
  · have hbase := s.settledBase_to e
    have hto := State.settleExpiry_bare hsettle hst hrep hnone hrest
    rw [exec_settleExpiry]
    generalize s.settledBase e = b at *
    generalize s.settleExpiry e = t at *
    refine ⟨t, ?_, hto.exhibit.trans (s.exhibit e).resumed_eq, hto.slot, ?_, fun f hf => ?_, ?_, ?_⟩
    · rw [State.settle_nil t (by rw [hto.reports, hbase.form]; exact hrep)]
    · have hbr : b.source e = s.source e := by rw [hbase.form]; rfl
      rw [← hbr] at hto
      rw [hto.sources_eq, hbase.form]
    · obtain ⟨h1, h2, h3⟩ := hto.others f hf
      obtain ⟨k1, k2, k3⟩ := hbase.others f hf
      exact ⟨h1.trans k1, h2.trans k2, h3.trans k3⟩
    · rw [hto.axes, hbase.form]
    · rw [hto.pool, hbase.form]
  · obtain ⟨t, hto, hact⟩ := State.settleExpiry_move (y := ((s.axis a).askingMove p i).enterMoving p i) (pl := s.pool.granted a x.draw)
      hsettle hst hbound hrep hr hidle hhomed hx hp hrest fun b ha hpl => by
        rw [← ha, ← hpl]
        exact State.takeRequest_starts (by rw [ha]; exact hidle) (by rw [ha]; exact hhomed) (by rw [ha]; exact hx) hp (by rw [ha]; exact hne)
          (by rw [hpl]; exact ⟨hempty, hfree⟩)
    rw [if_neg (by simpa using hne)] at hact
    have hta : t.axis a = { (((s.axis a).askingMove p i).enterMoving p i).unresumed with imageStale := (t.axis a).imageStale } := hto.axis
    refine ⟨t, hto.exec hact, by rw [hto.exhibit]; rfl, by rw [hto.slot], ?_, ?_, ?_, ?_, ?_, ?_, hto.axisOthers, hto.others⟩
    · rw [hta]; rfl
    · rw [hta]; rfl
    · rw [hta]
      exact congrArg SpeedSet.vs (Axis.speedSet_of_config (x := (s.axis a).askingMove p i) hx i)
    · rw [hta]; rfl
    · rw [hta]; rfl
    · rw [hto.pool, Pool.granted_held]
  · obtain ⟨t, hto, hact⟩ := State.settleExpiry_move (y := { (s.axis a).askingMove p i with state := .awaitPower })
      (pl := s.pool.joined a x.draw) hsettle hst hbound hrep hr hidle hhomed hx hp hrest fun b ha hpl => by
        rw [← ha, ← hpl]
        exact State.takeRequest_waits (by rw [ha]; exact hidle) (by rw [ha]; exact hhomed) (by rw [ha]; exact hx) hp (by rw [ha]; exact hne)
          (by rw [hpl]; exact hpool)
    rw [if_neg (by simpa using hne)] at hact
    have hta : t.axis a = { ({ (s.axis a).askingMove p i with state := .awaitPower } : Axis).unresumed with imageStale := (t.axis a).imageStale } :=
      hto.axis
    refine ⟨t, hto.exec hact, by rw [hto.exhibit]; rfl, hto.slot, ?_, ?_, ?_, ?_, hto.pool, hto.axisOthers, hto.others⟩
    · rw [hta]; rfl
    · rw [hta]
      exact Axis.askingMove_request hx hp i
    · rw [hta]; rfl
    · rw [hta]; rfl
  · obtain ⟨v, hto, hact⟩ := State.settleExpiry_complete hsettle hst hbound hrep hr hidle hhomed hx hp hrest heq
    rw [hto.unawaited howner hwait] at hact
    have hva : v.axis a = { ((s.axis a).asked p).unresumed with imageStale := (v.axis a).imageStale } := hto.axis
    refine ⟨v, hto.exec hact, by rw [hto.exhibit]; rfl, hto.slot, ?_, ?_, ?_, hto.pool, hto.axisOthers, hto.others⟩
    · rw [hva]; exact hidle
    · rw [hva]; exact heq.symm
    · rw [hva]; rfl
  · obtain ⟨v, hto, hact⟩ := State.settleExpiry_complete hsettle hst hbound hrep hr hidle hhomed hx hp (fun r => by rw [hwait]; simp) heq
    have hva : v.axis a = { ((s.axis a).asked p).unresumed with imageStale := (v.axis a).imageStale } := hto.axis
    have hshow := hto.awaited howner hwait hstatus hcur htime
    rw [exec_settleExpiry, hact]
    generalize (v.reportDone a .move).settle = t at *
    have hta : t.axis a = { v.axis a with imageStale := (t.axis a).imageStale } := hshow.axis
    refine ⟨t, rfl, by rw [hshow.exhibit, hto.exhibit]; rfl, ?_, ?_, ?_, ?_, hshow.pool.trans hto.pool,
      fun b hb => (hshow.others b hb).trans (hto.axisOthers b hb), fun f hf => ?_⟩
    · rw [hshow.slot, hto.slot]
      exact ⟨rfl, rfl, rfl, rfl, rfl⟩
    · rw [hta, hva]; exact hidle
    · rw [hta, hva]; exact heq.symm
    · rw [hta, hva]; rfl
    · obtain ⟨h1, h2, h3⟩ := hshow.otherExhibits f hf
      obtain ⟨k1, k2, k3⟩ := hto.others f hf
      exact ⟨h1.trans k1, h2.trans k2, h3.trans k3⟩
  · obtain ⟨t, hto, hact⟩ := State.settleExpiry_home (y := ((s.axis a).askingHome x).enterHoming x) (pl := s.pool.granted a x.draw)
      hsettle hst hbound hrep hr hrest (AxisTo.home_dropped howner hfrozen) fun b ha hpl => by
        rw [← ha, ← hpl]
        exact State.takeHome_starts_to (by rw [ha]; exact hx) (by rw [ha]; exact hax) (by rw [hpl]; exact ⟨hempty, hfree⟩)
    obtain ⟨-, hpos, henc, hswitch, -⟩ := Axis.askingHome_spec hx
    have hta : t.axis a = { (((s.axis a).askingHome x).enterHoming x).unresumed with imageStale := (t.axis a).imageStale } := hto.axis
    refine ⟨t, hto.exec hact, by rw [hto.exhibit]; rfl, hto.slot, ?_, ?_, ?_, ?_, ?_, ?_, ?_, ?_, ?_, by rw [hto.pool]; rfl,
      by rw [hto.pool, Pool.granted_held], by rw [hto.pool]; exact hempty, hto.axisOthers, hto.others⟩
    · rw [hta]; rfl
    · rw [hta]; rfl
    · rw [hta]; exact hpos
    · rw [hta]; exact henc
    · rw [hta, ← hswitch]; rfl
    · rw [hta, ← hswitch]; rfl
    · rw [hta]; rfl
    · rw [hta]; rfl
    · rw [hta]; rfl
  · obtain ⟨t, hto, hact⟩ := State.settleExpiry_home (y := { (s.axis a).askingHome x with state := .awaitPower }) (pl := s.pool.joined a x.draw)
      hsettle hst hbound hrep hr hrest (AxisTo.home_dropped howner hfrozen) fun b ha hpl => by
        rw [← ha, ← hpl]
        exact State.takeHome_waits_to (by rw [ha]; exact hx) (by rw [ha]; exact hax) (by rw [hpl]; exact hpool)
    obtain ⟨-, hpos, henc, -, hhomed⟩ := Axis.askingHome_spec hx
    have hta : t.axis a = { ({ (s.axis a).askingHome x with state := .awaitPower } : Axis).unresumed with imageStale := (t.axis a).imageStale } :=
      hto.axis
    refine ⟨t, hto.exec hact, by rw [hto.exhibit]; rfl, hto.slot, ?_, ?_, ?_, ?_, fun hu => ⟨?_, ?_⟩, hto.pool, hto.axisOthers, hto.others⟩
    · rw [hta]; rfl
    · rw [hta]; rfl
    · rw [hta]; exact hhomed
    · rw [hta]; rfl
    · rw [hta]; exact hpos.trans (if_pos hu)
    · rw [hta]; exact henc.trans (if_pos hu)

end Sys2Proof.Machine
end

section
/-! The steps of a show, reached as a TIME wait runs out (R46 to R54, R59): O44. -/

namespace Sys2Proof.Machine

/-! ### A slot that comes to a step -/

/-- A slot that has come to the step at an address, with a runaway count. -/
def Slot.reaching (sl : Slot) (a n : Nat) : Slot := { sl with current := some a, status := none, wait := none, runaway := n }

/-- Only the slot of `e` has changed, and it has come to the step at address `a`. -/
abbrev State.Reaches (s p : State) (e : ExhibitNo) (a n : Nat) : Prop :=
  ShowTo s p e (s.exhibit e) ((s.slot e).reaching a n) (s.source e) noLamps

/-- The slot of `e` waits at address `a` for a time, its runaway count at 0. -/
abbrev State.WaitsOut (s : State) (e : ExhibitNo) (a r : Nat) : Prop :=
  (s.slot e).current = some a ∧ (s.slot e).status = some .waiting ∧ (s.slot e).frozen = false ∧ (s.slot e).wait = some (.time r) ∧
    (s.slot e).runaway = 0

/-- A TIME wait that runs out brings the slot to the step's successor, and its act runs. -/
theorem State.WaitsOut.exec {s : State} {e : ExhibitNo} {a r : Nat} (h : s.WaitsOut e a r) :
    ∃ p, s.Reaches p e (a + 2) 0 ∧ exec (.timeWaitExpiry e) s = .next (p.runAct e).settle := by
  obtain ⟨hcur, hst, hfr, hw, hrun⟩ := h
  refine ⟨s.putSlot e { s.slot e with current := some (a + 2), status := none, wait := none }, ?_, ?_⟩
  · have hslot : (s.slot e).reaching (a + 2) 0 = { s.slot e with current := some (a + 2), status := none, wait := none } := by
      unfold Slot.reaching
      rw [← hrun]
    unfold State.Reaches
    rw [hslot]
    exact s.putSlot_to e _
  · rw [exec_timeWaitExpiry hst hfr hw]
    unfold State.completeWait State.goOnAt
    rw [hw, hcur]
    rfl

namespace ShowTo

section
variable {s p : State} {e : ExhibitNo} {x : Exhibit} {sl : Slot} {src : SourceRecord} {L : ChannelNo → Prop}

theorem part (h : ShowTo s p e x sl src L) : p.part = s.part := by rw [h.form]
theorem alerts (h : ShowTo s p e x sl src L) : p.alerts = s.alerts := by rw [h.form]
theorem patterns (h : ShowTo s p e x sl src L) : p.patterns = s.patterns := by rw [h.form]

end

end ShowTo

/-! ### One step of an act, and the wait it comes to -/

theorem runSteps_goesOn {s t : State} {e : ExhibitNo} (h : s.actStep e = .goesOn t) (n : Nat) : runSteps e (n + 1) s = runSteps e n t := by
  rw [runSteps, h]

theorem runSteps_finished {s t : State} {e : ExhibitNo} (h : s.actStep e = .finished t) (n : Nat) : runSteps e (n + 1) s = t := by
  rw [runSteps, h]

theorem stepKind?_of_code (k : StepKind) : stepKind? k.code = some k := by
  cases k <;> rfl

section
variable {s t : State} {e : ExhibitNo} {a n : Nat} {w : StepWords} (hcur : (s.slot e).current = some a)
  (hfetch : s.fetchStep e a = .ok w) (hheld : s.holdsStep e w = false)
include hcur hfetch hheld

/-- A step that begins to wait. -/
theorem State.runAct_waits_to {wait : Wait} (hexec : s.execute e a w = .waits t wait) :
    ShowTo t (s.runAct e) e (t.exhibit e) { t.slot e with status := some .waiting, wait := some wait, runaway := 0 } (t.source e) noLamps := by
  rw [State.runAct_finished (State.actStep_waits hcur hfetch hheld hexec)]
  exact t.beginWait_to e wait

/-- A step that completes at once, and then a WAIT_TIME. -/
theorem State.runAct_once_to {next d : Nat} (hrun : (s.slot e).runaway = 0) (hexec : s.execute e a w = .once t next)
    (htime : t.TimeStepAt next d) :
    ShowTo t (s.runAct e) e (t.exhibit e) ((t.slot e).waitingAt next d) (t.source e) noLamps := by
  have hput := t.putSlot_to e { t.slot e with current := some next, runaway := (s.slot e).runaway + 1 }
  have hact : s.runAct e = (t.putSlot e { t.slot e with current := some next, runaway := (s.slot e).runaway + 1 }).beginWait e (.time (10 * d)) := by
    unfold State.runAct actFuel
    rw [runSteps_goesOn (State.actStep_once hcur hfetch hheld hexec (by omega)),
      runSteps_finished (State.actStep_time (by rw [hput.slot]) (htime.of_store hput.storeWord))]
  rw [hact]
  have hwait := State.beginWait_to (t.putSlot e { t.slot e with current := some next, runaway := (s.slot e).runaway + 1 }) e (.time (10 * d))
  rw [hput.exhibit, hput.slot, hput.source] at hwait
  exact hput.trans hwait

end

/-! ### The step a slot has come to -/

section
variable {s p : State} {e : ExhibitNo} {a n : Nat} {k : StepKind} (h : s.Reaches p e a n)
include h

theorem State.Reaches.current : (p.slot e).current = some a := by rw [h.slot]; rfl

theorem State.Reaches.stepAt (k : StepKind) : p.stepAt a k = s.stepAt a k := by
  unfold State.stepAt
  simp only [h.storeWord]

/-- The step is fetched when it has a kind and passes its checks. -/
theorem State.Reaches.fetch (hk : bits (s.storeWord a) 10 6 = k.code) (hend : a + k.length ≤ 12288)
    (hfault : p.stepFault e (s.stepAt a k) = none) : p.fetchStep e a = .ok (s.stepAt a k) := by
  rw [← h.stepAt]
  exact State.fetchStep_ok (by rw [h.storeWord]; exact hk) (stepKind?_of_code k) hend (by rw [h.stepAt]; exact hfault)

/-- A step without a SUSPEND mark is not held. -/
theorem State.Reaches.unmarked (k : StepKind) (hmark : bit (s.storeWord a) 9 = false) : p.holdsStep e (s.stepAt a k) = false := by
  rw [← h.stepAt]
  exact State.holdsStep_unmarked (by rw [h.storeWord]; exact hmark)

end

/-- A step that completes at once after an act on the exhibit, and then a WAIT_TIME. -/
theorem State.Reaches.once_to {s p u : State} {e : ExhibitNo} {a next d : Nat} {w : StepWords} {x : Exhibit} {sl : Slot} {src : SourceRecord}
    {L : ChannelNo → Prop} (h : s.Reaches p e a 0) (hfetch : p.fetchStep e a = .ok w) (hheld : p.holdsStep e w = false)
    (hexec : p.execute e a w = .once u next) (hu : ShowTo p u e x sl src L) (htime : s.TimeStepAt next d) :
    ShowTo s (p.runAct e) e x (sl.waitingAt next d) src L := by
  have hact := State.runAct_once_to h.current hfetch hheld (by rw [h.slot]; rfl) hexec ((htime.of_store h.storeWord).of_store hu.storeWord)
  rw [hu.exhibit, hu.slot, hu.source] at hact
  exact (h.silent L).trans (hu.trans (hact.silent L))

/-! ### JUMP, REPEAT, NEXT and SIGNAL (R62 to R65) -/

section
variable {s p : State} {e : ExhibitNo} {a d : Nat} (h : s.Reaches p e a 0) (hmark : bit (s.storeWord a) 9 = false)
include h hmark

theorem State.Reaches.jump_to (hk : bits (s.storeWord a) 10 6 = 10) (hend : a + 2 ≤ 12288)
    (htime : s.TimeStepAt (s.storeWord (a + 1)).toNat d) :
    ShowTo s (p.runAct e) e (s.exhibit e) ((s.slot e).waitingAt (s.storeWord (a + 1)).toNat d) (s.source e) noLamps := by
  have hfault : p.stepFault e (s.stepAt a .jump) = none := by
    have hlt := htime.1
    have hin : ¬ Config.storeWords ≤ (s.storeWord (a + 1)).toNat := by
      simp only [Config.storeWords]
      omega
    unfold State.stepFault State.stepInvalid State.stepAt
    simp [hin]
  have hact := h.once_to (h.fetch (k := .jump) hk hend hfault) (h.unmarked _ hmark) rfl (.refl p e) htime
  rw [h.exhibit, h.slot, h.source] at hact
  exact hact

theorem State.Reaches.loop_to (hk : bits (s.storeWord a) 10 6 = 8) (hn : bits (s.storeWord a) 0 8 ≠ 0) (hzero : (s.slot e).loopCount = 0)
    (htime : s.TimeStepAt (a + 1) d) :
    ShowTo s (p.runAct e) e (s.exhibit e)
      (Slot.waitingAt { s.slot e with loopCount := bits (s.storeWord a) 0 8, loopStart := a + 1 } (a + 1) d) (s.source e) noLamps := by
  have hloop : (p.slot e).loopCount = 0 := by rw [h.slot]; exact hzero
  have hfault : p.stepFault e (s.stepAt a .loop) = none := by
    unfold State.stepFault State.stepInvalid State.stepAt StepWords.low
    simp [hn, hloop]
  have hend : a + StepKind.loop.length ≤ 12288 := by
    have hlt := htime.1
    simp only [StepKind.length]
    omega
  have hu := p.putSlot_to e { p.slot e with loopCount := bits (s.storeWord a) 0 8, loopStart := a + 1 }
  have hact := h.once_to (h.fetch (k := .loop) hk hend hfault) (h.unmarked _ hmark) rfl hu htime
  rw [h.exhibit, h.slot, h.source] at hact
  exact hact

theorem State.Reaches.next_to {n : Nat} (hk : bits (s.storeWord a) 10 6 = 9) (hend : a + 1 ≤ 12288) (hn : (s.slot e).loopCount = n + 1)
    (htime : s.TimeStepAt (if n = 0 then a + 1 else (s.slot e).loopStart) d) :
    ShowTo s (p.runAct e) e (s.exhibit e)
      (Slot.waitingAt { s.slot e with loopCount := n } (if n = 0 then a + 1 else (s.slot e).loopStart) d) (s.source e) noLamps := by
  have hloop : (p.slot e).loopCount = n + 1 := by rw [h.slot]; exact hn
  have hstart : (p.slot e).loopStart = (s.slot e).loopStart := by rw [h.slot]; rfl
  have hfault : p.stepFault e (s.stepAt a .next) = none := by
    unfold State.stepFault State.stepInvalid State.stepAt
    simp [hloop]
  have hu := p.putSlot_to e { p.slot e with loopCount := n }
  have hexec : p.execute e a (s.stepAt a .next) =
      .once (p.putSlot e { p.slot e with loopCount := n }) (if n = 0 then a + 1 else (s.slot e).loopStart) := by
    show p.executeNext e (a + 1) = _
    unfold State.executeNext
    simp only [hloop, Nat.add_sub_cancel, hstart, Nat.add_eq_right]
  have hact := h.once_to (h.fetch (k := .next) hk hend hfault) (h.unmarked _ hmark) hexec hu htime
  rw [h.exhibit, h.slot, h.source] at hact
  exact hact

end

/-- SIGNAL sets its condition; its SUSPEND mark is not set, or the exhibit does not allow it. -/
theorem State.Reaches.signal_to {s p : State} {e : ExhibitNo} {a d : Nat} (h : s.Reaches p e a 0)
    (hheld : p.holdsStep e (s.stepAt a .signal) = false) (hk : bits (s.storeWord a) 10 6 = 11) (htime : s.TimeStepAt (a + 1) d) :
    ShowTo s (p.runAct e) e (s.exhibit e) ((s.slot e).waitingAt (a + 1) d) ((s.source e).mark (.signal (bits (s.storeWord a) 0 8))) noLamps := by
  have hend : a + StepKind.signal.length ≤ 12288 := by
    have hlt := htime.1
    simp only [StepKind.length]
    omega
  have hact := h.once_to (h.fetch (k := .signal) hk hend rfl) hheld rfl (p.markCondition_to e (.signal (bits (s.storeWord a) 0 8))) htime
  rw [h.exhibit, h.slot, h.source] at hact
  exact hact

end Sys2Proof.Machine
end

section
/-! The faults of show steps (R48 to R50, R53, R68, R69): O44. -/

namespace Sys2Proof.Machine

/-! ### A step fault ends the show -/

/-- What a fault of the step at address `a` leaves of the exhibit, its slot, its source record and its bound axes, once its reports are taken. -/
abbrev State.StepFaulted (s t : State) (e : ExhibitNo) (f : ShowFault) (a : Nat) : Prop :=
  SceneFacts s t e ((s.exhibit e).entering .faulted) ((s.slot e).faultedAt f a) ((s.source e).faultedAt { code := f, address := a }) anyLamp
    haltDeal.dropping (s.boundAxes e)

section
variable {s q : State} {e : ExhibitNo} {a n : Nat} {f : ShowFault} (h : s.Reaches q e a n) (hf : f.isStepFault = true)
  (hfirst : (s.slot e).firstFault = none) (hwaits : s.WaitsOnly e)
include h hf hfirst hwaits

/-- The fault is met before its alert is raised. -/
theorem State.Reaches.fault_to : ∃ v L, q.showFault e f a = v.raise (exhibitSource e) .showFault 0 1 ∧
    SceneTo s v e ((s.exhibit e).entering .faulted) ((s.slot e).faultedAt f a) ((s.source e).faultedAt { code := f, address := a }) L
      haltDeal.dropping (s.boundAxes e) := by
  have hbound : q.boundAxes e = s.boundAxes e := State.boundAxes_inForce (by rw [h.exhibit])
  have hqwaits : q.WaitsOnly e := fun w hw => by
    rw [hbound, h.axis]
    exact hwaits w (h.pool ▸ hw)
  have hfault := State.faultEnd_to hqwaits f a
  have hslot : ((s.slot e).reaching a n).faultedAt f a = (s.slot e).faultedAt f a := rfl
  have hnote : ((s.slot e).reaching a n).firstOf f a = { code := f, address := a } := by
    unfold Slot.firstOf Slot.reaching
    rw [hfirst]
    rfl
  rw [hbound, h.exhibit, h.slot, h.source, hslot, hnote] at hfault
  exact ⟨_, _, State.showFault_step hf q e a, SceneTo.after h hfault⟩

/-- With its alert raised: what is left, its reports, and the alert. -/
theorem State.Reaches.fault_facts : s.StepFaulted (q.showFault e f a) e f a ∧
    (∃ rs : List Report, (q.showFault e f a).reports = s.reports ++ rs ∧ rs.length ≤ haltDeal.dropping.most * (s.boundAxes e).length ∧
      ∀ r ∈ rs, ∃ b ∈ s.boundAxes e, haltDeal.dropping.crosses (s.axis b) = true ∧ ∃ m up, r = .crossing b m up) ∧
    (s.part = .run → s.alerts.length < 32 →
      ∃ y ∈ (q.showFault e f a).alerts, y.source = exhibitSource e ∧ y.cause = .showFault ∧ y.severity = 1) := by
  obtain ⟨v, L, hv, hto⟩ := h.fault_to hf hfirst hwaits
  have hpart : v.part = s.part := by rw [hto.form]
  have halerts : v.alerts = s.alerts := by rw [hto.form]
  have hpresent := fun hrun hlen => State.raise_present (s := v) (exhibitSource e) .showFault 0 1 hrun hlen
  obtain ⟨hraised, -⟩ := v.raise_act (exhibitSource e) .showFault 0 1
  rw [hv]
  generalize v.raise (exhibitSource e) .showFault 0 1 = u at *
  refine ⟨hto.toSceneFacts.loose (by rw [hraised]) (by rw [hraised]) (by rw [hraised]) (by rw [hraised]) (by rw [hraised]), ?_, fun hrun hlen => ?_⟩
  · rw [hraised]
    exact hto.reports
  · obtain ⟨y, hy, h1, h2, h3, -⟩ := hpresent (hpart.trans hrun) (by rw [halerts]; exact hlen)
    exact ⟨y, hy, h1, h2, h3⟩

end

/-- With the bound axes at rest there is nothing to report. -/
theorem State.Reaches.fault_calm {s q : State} {e : ExhibitNo} {a n : Nat} {f : ShowFault} (h : s.Reaches q e a n) (hf : f.isStepFault = true)
    (hfirst : (s.slot e).firstFault = none) (hbusy : s.someAxisBusy e = false) (hempty : s.pool.waiting = []) (hrep : s.reports = []) :
    s.StepFaulted (q.showFault e f a).settle e f a := by
  obtain ⟨hfacts, ⟨rs, hrs, -, hcross⟩, -⟩ := h.fault_facts hf hfirst (State.waitsOnly_nil hempty)
  rw [State.settle_nil]
  · exact hfacts
  · rw [hrs, hrep, List.nil_append, List.eq_nil_iff_forall_not_mem]
    intro r hr
    obtain ⟨b, hb, hbc, -⟩ := hcross r hr
    obtain ⟨hno, -, -⟩ := haltDeal_does.calm (s.axis b) (State.boundAxes_rest hbusy hb)
    rw [show haltDeal.dropping.crosses (s.axis b) = haltDeal.crosses (s.axis b) from rfl, hno] at hbc
    exact absurd hbc (by decide)

/-- What a fault leaves where the bound axes are at rest. -/
theorem State.StepFaulted.calm {s t : State} {e : ExhibitNo} {a : Nat} {f : ShowFault} (h : s.StepFaulted t e f a)
    (hbusy : s.someAxisBusy e = false) : s.OnlyResumeDropped t (s.boundAxes e) ∧ t.pool = s.pool := by
  have hrest : ∀ b ∈ s.boundAxes e, haltDeal.touches (s.axis b) = false := fun b hb => State.boundAxes_rest hbusy hb
  refine ⟨fun b => ?_, h.pool_same (fun b hb => ?_) fun b hb => ?_⟩
  · split
    · next hb => exact h.untouched b hb (hrest b hb)
    · next hb => exact h.axisOthers b hb
  · exact (haltDeal_does.calm (s.axis b) (hrest b hb)).2.1
  · exact (haltDeal_does.calm (s.axis b) (hrest b hb)).2.2

/-! ### Steps that fail, and the JUMP to itself -/

section
variable {s p : State} {e : ExhibitNo} {a : Nat}

/-- The step at an address fails its checks (R48 to R50). -/
def State.StepFails (s : State) (e : ExhibitNo) (a : Nat) (f : ShowFault) : Prop :=
  (f = .storeEnd ∧ a = 12288) ∨ (f = .stepInvalid ∧ a + 1 ≤ 12288 ∧ 12 < bits (s.storeWord a) 10 6) ∨
    (f = .stepInvalid ∧ a + 1 ≤ 12288 ∧ bits (s.storeWord a) 10 6 = 9 ∧ (s.slot e).loopCount = 0) ∨
    (f = .stepInvalid ∧ a + 1 ≤ 12288 ∧ bits (s.storeWord a) 10 6 = 8 ∧ bits (s.storeWord a) 0 8 = 0) ∨
    (f = .loopNest ∧ a + 1 ≤ 12288 ∧ bits (s.storeWord a) 10 6 = 8 ∧ bits (s.storeWord a) 0 8 ≠ 0 ∧ (s.slot e).loopCount ≠ 0)

theorem State.fetchStep_faults {n : Nat} {k : StepKind} {f : ShowFault} (hk : bits (s.storeWord a) 10 6 = n) (hkind : stepKind? n = some k)
    (hend : a + k.length ≤ 12288) (hfault : s.stepFault e (s.stepAt a k) = some f) : s.fetchStep e a = .error f := by
  unfold State.fetchStep
  rw [State.readKind_ok hk hkind hend]
  unfold State.stepAt at hfault
  simp only [hfault]

theorem State.StepFails.fetch {f : ShowFault} (h : s.StepFails e a f) : s.fetchStep e a = .error f := by
  obtain ⟨rfl, rfl⟩ | ⟨rfl, hend, hk⟩ | ⟨rfl, hend, hk, hloop⟩ | ⟨rfl, hend, hk, hlow⟩ | ⟨rfl, hend, hk, hlow, hloop⟩ := h
  · unfold State.fetchStep State.readKind
    rw [if_pos (by decide)]
  · unfold State.fetchStep State.readKind
    rw [if_neg (by simp only [Config.storeWords]; omega), stepKind?_none hk]
  · refine State.fetchStep_faults (k := .next) hk rfl hend ?_
    unfold State.stepFault State.stepInvalid State.stepAt
    simp [hloop]
  · refine State.fetchStep_faults (k := .loop) hk rfl hend ?_
    unfold State.stepFault State.stepInvalid State.stepAt StepWords.low
    simp [hlow]
  · refine State.fetchStep_faults (k := .loop) hk rfl hend ?_
    unfold State.stepFault State.stepInvalid State.stepAt StepWords.low
    simp [hlow, hloop]

/-- A step that fails its checks ends the show. -/
theorem State.Reaches.fails {f : ShowFault} (h : s.Reaches p e a 0) (hfails : s.StepFails e a f) : p.runAct e = p.showFault e f a := by
  have hp : p.StepFails e a f := by
    unfold State.StepFails
    rw [h.storeWord, h.slot]
    exact hfails
  exact State.runAct_finished (State.actStep_unfetched h.current hp.fetch)

section
variable (hk : bits (s.storeWord a) 10 6 = 10) (hend : a + 2 ≤ 12288) (hmark : bit (s.storeWord a) 9 = false)
  (hself : (s.storeWord (a + 1)).toNat = a)
include hk hend hmark hself

/-- A JUMP to itself completes at once and comes to itself. -/
theorem State.Reaches.jumps_to_itself {q : State} {n : Nat} (h : s.Reaches q e a n) : q.fetchStep e a = .ok (s.stepAt a .jump) ∧
    q.holdsStep e (s.stepAt a .jump) = false ∧ q.execute e a (s.stepAt a .jump) = .once q a := by
  have hin : ¬ Config.storeWords ≤ a := by
    simp only [Config.storeWords]
    omega
  have hfault : q.stepFault e (s.stepAt a .jump) = none := by
    unfold State.stepFault State.stepInvalid State.stepAt
    simp [hself, hin]
  exact ⟨h.fetch (k := .jump) hk hend hfault, h.unmarked _ hmark, congrArg (StepResult.once q) hself⟩

/-- A JUMP to itself is executed until the runaway count is at its limit. -/
theorem State.Reaches.runs_away (m : Nat) : ∀ {q : State} {n : Nat}, s.Reaches q e a n → n + m = 63 → ∀ fuel,
    ∃ r n', s.Reaches r e a n' ∧ runSteps e (fuel + m + 1) q = r.showFault e .runaway a := by
  induction m with
  | zero =>
    intro q n h hn fuel
    obtain ⟨hfetch, hheld, hexec⟩ := h.jumps_to_itself hk hend hmark hself
    have hrun : 64 ≤ (q.slot e).runaway + 1 := by
      rw [h.slot]
      show 64 ≤ n + 1
      omega
    exact ⟨q, n, h, runSteps_finished (State.actStep_runaway h.current hfetch hheld hexec hrun) _⟩
  | succ m ih =>
    intro q n h hn fuel
    obtain ⟨hfetch, hheld, hexec⟩ := h.jumps_to_itself hk hend hmark hself
    have hrun : (q.slot e).runaway = n := by rw [h.slot]; rfl
    have hput := q.putSlot_to e { q.slot e with current := some a, runaway := n + 1 }
    have hgoes := State.actStep_once h.current hfetch hheld hexec (by omega)
    rw [hrun] at hgoes
    rw [h.exhibit, h.source] at hput
    have hslot : { q.slot e with current := some a, runaway := n + 1 } = (s.slot e).reaching a (n + 1) := by rw [h.slot]; rfl
    rw [hslot] at hput hgoes
    obtain ⟨r, n', hr, hrest⟩ := ih (h.trans hput) (by omega) fuel
    exact ⟨r, n', hr, (runSteps_goesOn hgoes _).trans hrest⟩

end

end

end Sys2Proof.Machine
end

section
/-! The end of a show (R6, R54, R70), the waits, LAMP and the SUSPEND mark (R51, R57, R58, R60, R61): O44. -/

namespace Sys2Proof.Machine

/-! ### END (R54) -/

/-- The exhibit with one more show completed. -/
def Exhibit.completedOne (x : Exhibit) : Exhibit := { x with completed := satAdd 65535 x.completed 1 }

/-- The show has ended and ENDED is set; what follows depends on the rest time and the encore flag. -/
def State.showEnded (s : State) (e : ExhibitNo) : State :=
  ((s.endShow e).putExhibit e (s.exhibit e).completedOne).markCondition e .ended

theorem State.showEnded_to (s : State) (e : ExhibitNo) :
    ShowTo s (s.showEnded e) e (s.exhibit e).completedOne (s.slot e).emptied ((s.source e).mark .ended) (s.exhibit e).IsShowLamp := by
  have hend := s.endShow_to e
  have hput := (s.endShow e).putExhibit_to e (s.exhibit e).completedOne
  have hmark := ((s.endShow e).putExhibit e (s.exhibit e).completedOne).markCondition_to e .ended
  rw [hput.exhibit, hput.slot, hput.source, hend.slot, hend.source] at hmark
  exact hend.trans ((hput.trans hmark).silent _)

theorem State.showEnded_idle {s : State} {e : ExhibitNo} {c : ExhibitConfig} {ch : ChannelNo} (hc : (s.exhibit e).inForce = some c)
    (h : c.namesShowLamp ch = true) : ((s.showEnded e).channel ch).showLayer.setting = .idle := by
  have hput := (s.endShow e).putExhibit_to e (s.exhibit e).completedOne
  have hmark := ((s.endShow e).putExhibit e (s.exhibit e).completedOne).markCondition_to e .ended
  unfold State.showEnded
  rw [hmark.channel ch id, hput.channel ch id]
  exact s.endShow_idle hc h

section
variable {s : State} {e : ExhibitNo} {c : ExhibitConfig} (hc : (s.exhibit e).config = some c)
include hc

/-- What END leads to, once ENDED is set. -/
theorem State.normalEnd_eq : s.normalEnd e =
    if 0 < c.restTime then .finished (((s.showEnded e).enterState e .resting).putExhibit e
      { ((s.showEnded e).enterState e .resting).exhibit e with rest := some (c.restTime * 1000) })
    else if (s.exhibit e).encore = true then .goesOn (((s.showEnded e).putExhibit e { (s.exhibit e).completedOne with encore := false }).putSlot e
      (((s.showEnded e).slot e).started c.defaultShow))
    else .finished ((s.showEnded e).enterState e .ready) := by
  have hx : (s.endShow e).exhibit e = s.exhibit e := (s.endShow_to e).exhibit
  unfold State.normalEnd State.showEnded Exhibit.completedOne
  simp only [hx, hc]

/-- Without an encore the exhibit rests, or is READY. -/
theorem State.normalEnd_rests (hon : (s.exhibit e).state ≠ .off) (h : 0 < c.restTime ∨ (s.exhibit e).encore = false) :
    ∃ t, s.normalEnd e = .finished t ∧ ShowTo s t e
      { (s.exhibit e).completedOne.entering (if 0 < c.restTime then .resting else .ready) with
        rest := if 0 < c.restTime then some (c.restTime * 1000) else none }
      (s.slot e).emptied ((s.source e).mark .ended) (s.exhibit e).IsOwnLamp ∧
      ∀ ch, c.namesShowLamp ch = true → (t.channel ch).showLayer.setting = .idle := by
  have hforce : (s.exhibit e).inForce = some c := by
    unfold Exhibit.inForce
    rw [if_neg hon, hc]
  have hend := (s.showEnded_to e).mono (M := (s.exhibit e).IsOwnLamp) fun _ => .inl
  have hidle : ∀ ch, c.namesShowLamp ch = true → ((s.showEnded e).channel ch).showLayer.setting = .idle :=
    fun ch hch => State.showEnded_idle hforce hch
  rw [State.normalEnd_eq hc]
  generalize s.showEnded e = u at *
  have henter : ∀ st, ShowTo s (u.enterState e st) e ((s.exhibit e).completedOne.entering st) (s.slot e).emptied ((s.source e).mark .ended)
      (s.exhibit e).IsOwnLamp := fun st => by
    have henter := u.enterState_to e st
    rw [hend.exhibit, hend.slot, hend.source] at henter
    exact hend.trans (henter.mono fun ch hch => .inr (Exhibit.isReadyLamp_entering (x := (s.exhibit e).completedOne) hch))
  have hlamp : ∀ st ch, c.namesShowLamp ch = true → ((u.enterState e st).channel ch).showLayer.setting = .idle := fun st ch hch =>
    (congrArg Layer.setting (u.enterState_layer e st ch (n := .showLayer) (by decide))).trans (hidle ch hch)
  by_cases hrest : 0 < c.restTime
  · have hput := (u.enterState e .resting).putExhibit_to e
      { (u.enterState e .resting).exhibit e with rest := some (c.restTime * 1000) }
    simp only [if_pos hrest]
    refine ⟨_, rfl, ?_, fun ch hch => ?_⟩
    · have hr := henter .resting
      rw [hr.slot, hr.source] at hput
      have hboth := hr.trans (hput.silent _)
      rw [hr.exhibit] at hboth
      rw [hr.exhibit]
      exact hboth
    · rw [hput.channel ch id]
      exact hlamp .resting ch hch
  · simp only [if_neg hrest, if_neg (by rw [h.resolve_left hrest]; decide : ¬ (s.exhibit e).encore = true)]
    exact ⟨_, rfl, henter .ready, hlamp .ready⟩

/-- With the encore flag set and no rest time the default show goes on from its start. -/
theorem State.normalEnd_encore (hrest : c.restTime = 0) (hencore : (s.exhibit e).encore = true) :
    ∃ t, s.normalEnd e = .goesOn t ∧ ShowTo s t e { (s.exhibit e).completedOne with encore := false }
      ((s.slot e).started c.defaultShow) ((s.source e).mark .ended) (s.exhibit e).IsShowLamp := by
  have hend := s.showEnded_to e
  rw [State.normalEnd_eq hc, if_neg (by omega), if_pos hencore]
  generalize s.showEnded e = u at *
  have hput := u.putExhibit_to e { (s.exhibit e).completedOne with encore := false }
  have hslot := (u.putExhibit e { (s.exhibit e).completedOne with encore := false }).putSlot_to e ((u.slot e).started c.defaultShow)
  rw [hput.exhibit, hput.source, hend.slot, hend.source] at hslot
  rw [hend.slot]
  exact ⟨_, rfl, hend.trans ((hput.trans hslot).silent _)⟩

end

section
variable {s p : State} {e : ExhibitNo} {c : ExhibitConfig} {a d : Nat} (h : s.Reaches p e a 0) (hc : (s.exhibit e).config = some c)
  (hmark : bit (s.storeWord a) 9 = false)
include h hc hmark

omit hc in
theorem State.Reaches.ends (hk : bits (s.storeWord a) 10 6 = 0) (hend : a + 1 ≤ 12288) : p.actStep e = p.normalEnd e :=
  State.actStep_ends h.current (h.fetch (k := .finish) hk hend rfl) (h.unmarked _ hmark) rfl (by rw [h.slot]; show 0 + 1 < 64; decide)

/-- END without an encore. -/
theorem State.Reaches.rests_to (hk : bits (s.storeWord a) 10 6 = 0) (hend : a + 1 ≤ 12288) (hon : (s.exhibit e).state ≠ .off)
    (hrest : 0 < c.restTime ∨ (s.exhibit e).encore = false) :
    ShowTo s (p.runAct e) e { (s.exhibit e).completedOne.entering (if 0 < c.restTime then .resting else .ready) with
        rest := if 0 < c.restTime then some (c.restTime * 1000) else none }
      (s.slot e).emptied ((s.source e).mark .ended) (s.exhibit e).IsOwnLamp ∧
      ∀ ch, c.namesShowLamp ch = true → ((p.runAct e).channel ch).showLayer.setting = .idle := by
  obtain ⟨t, hfin, hto, hidle⟩ := State.normalEnd_rests (s := p) (e := e) (by rw [h.exhibit]; exact hc) (by rw [h.exhibit]; exact hon)
    (by rw [h.exhibit]; exact hrest)
  rw [State.runAct_finished ((h.ends hmark hk hend).trans hfin)]
  rw [h.exhibit, h.slot, h.source] at hto
  exact ⟨(h.silent _).trans hto, hidle⟩

/-- END with an encore, and a WAIT_TIME at the start of the default show. -/
theorem State.Reaches.encore_to (hk : bits (s.storeWord a) 10 6 = 0) (hend : a + 1 ≤ 12288) (hrest : c.restTime = 0)
    (hencore : (s.exhibit e).encore = true) (htime : s.TimeStepAt c.defaultShow d) :
    ShowTo s (p.runAct e) e { (s.exhibit e).completedOne with encore := false }
      (((s.slot e).started c.defaultShow).waitingAt c.defaultShow d) ((s.source e).mark .ended) (s.exhibit e).IsShowLamp := by
  obtain ⟨t, hgoes, hto⟩ := State.normalEnd_encore (s := p) (e := e) (by rw [h.exhibit]; exact hc) hrest (by rw [h.exhibit]; exact hencore)
  have hwait := t.beginWait_to e (.time (10 * d))
  have hcur : (t.slot e).current = some c.defaultShow := by rw [hto.slot]; rfl
  have hact : p.runAct e = t.beginWait e (.time (10 * d)) := by
    unfold State.runAct actFuel
    rw [runSteps_goesOn ((h.ends hmark hk hend).trans hgoes),
      runSteps_finished (State.actStep_time hcur ((htime.of_store h.storeWord).of_store hto.storeWord))]
  rw [hact]
  rw [h.exhibit, h.slot, h.source] at hto
  rw [hto.exhibit, hto.slot, hto.source] at hwait
  exact (h.silent _).trans (hto.trans (hwait.silent _))

end

end Sys2Proof.Machine
end

section
/-! The waits, LAMP, CALL and the SUSPEND mark (R51, R57, R58, R60, R61, R65): O44. -/

namespace Sys2Proof.Machine

/-! ### The command -/

/-- What an act of the slot at its next step leaves, with nothing to report. -/
theorem State.WaitsOut.exec_show {s : State} {e : ExhibitNo} {a r : Nat} {x : Exhibit} {sl : Slot} {src : SourceRecord} {L : ChannelNo → Prop}
    (h : s.WaitsOut e a r) (hrep : s.reports = [])
    (hact : ∀ p, s.Reaches p e (a + 2) 0 → ShowTo s (p.runAct e) e x sl src L) :
    ∃ t, Machine.exec (.timeWaitExpiry e) s = .next t ∧ ShowTo s t e x sl src L := by
  obtain ⟨p, hp, hexec⟩ := h.exec
  rw [State.settle_nil _ ((hact p hp).reports.trans hrep)] at hexec
  exact ⟨_, hexec, hact p hp⟩

/-! ### Waits -/

/-- A slot that has begun to wait at an address. -/
def Slot.waitingFor (sl : Slot) (a : Nat) (w : Wait) : Slot :=
  { sl with current := some a, status := some .waiting, wait := some w, runaway := 0 }

/-- A step that begins to wait. -/
theorem State.Reaches.waits_to {s p : State} {e : ExhibitNo} {a : Nat} {w : StepWords} {wait : Wait} (h : s.Reaches p e a 0)
    (hfetch : p.fetchStep e a = .ok w) (hheld : p.holdsStep e w = false) (hexec : p.execute e a w = .waits p wait) :
    ShowTo s (p.runAct e) e (s.exhibit e) ((s.slot e).waitingFor a wait) (s.source e) noLamps := by
  have hact := State.runAct_waits_to h.current hfetch hheld hexec
  rw [h.exhibit, h.slot, h.source] at hact
  exact h.trans hact

section
variable {s p : State} {e : ExhibitNo} {c : ExhibitConfig} {a d : Nat} (h : s.Reaches p e a 0) (hc : (s.exhibit e).config = some c)
  (hmark : bit (s.storeWord a) 9 = false)
include h

/-- The axis that a step of the slot names. -/
theorem State.Reaches.localAxis (hc : (s.exhibit e).config = some c) (k : StepKind) :
    p.localAxis e (s.stepAt a k).localAxis = tget c.axes (Fin.ofNat 4 (bits (s.storeWord a) 0 2)) :=
  State.localAxis_at (by rw [h.exhibit]; exact hc) _

include hmark

theorem State.Reaches.waitPress_to (hk : bits (s.storeWord a) 10 6 = 6) (hend : a + 2 ≤ 12288) :
    ShowTo s (p.runAct e) e (s.exhibit e)
      ((s.slot e).waitingFor a (.press (if (s.storeWord (a + 1)).toNat = 0 then none else some (10 * (s.storeWord (a + 1)).toNat))))
      (s.source e) noLamps := by
  refine h.waits_to (h.fetch (k := .waitPress) hk hend rfl) (h.unmarked _ hmark) (congrArg (fun o => StepResult.waits p (.press o)) ?_)
  show (if s.storeWord (a + 1) = 0#16 then none else some ((s.storeWord (a + 1)).toNat * 10)) = _
  by_cases hz : s.storeWord (a + 1) = 0#16
  · rw [if_pos hz, if_pos (by rw [hz]; rfl)]
  · rw [if_neg hz, if_neg fun hn : (s.storeWord (a + 1)).toNat = 0 => hz (BitVec.eq_of_toNat_eq hn), Nat.mul_comm]

include hc

section
variable {x : AxisNo} (hx : tget c.axes (Fin.ofNat 4 (bits (s.storeWord a) 0 2)) = some x)
include hx

omit hmark in
/-- A step that needs no more than its axis is fetched. -/
theorem State.Reaches.fetch_axis {k : StepKind} (hk : bits (s.storeWord a) 10 6 = k.code) (hkind : k = .move ∨ k = .home ∨ k = .waitAxis)
    (hend : a + k.length ≤ 12288) : p.fetchStep e a = .ok (s.stepAt a k) := by
  refine h.fetch hk hend ?_
  have hlocal : (p.localAxis e (s.stepAt a k).localAxis).isNone = false := by
    rw [h.localAxis hc, hx]
    rfl
  have hvalid : p.stepInvalid e (s.stepAt a k) = false := by
    obtain rfl | rfl | rfl := hkind <;> exact hlocal
  unfold State.stepFault
  rw [hvalid, if_neg (by decide)]
  obtain rfl | rfl | rfl := hkind <;> rfl

omit hmark in
theorem State.Reaches.waitAxis_exec : p.execute e a (s.stepAt a .waitAxis) = p.executeWaitAxis x (a + 1) := by
  have hlocal : p.localAxis e (s.stepAt a .waitAxis).localAxis = some x := (h.localAxis hc .waitAxis).trans hx
  unfold State.execute
  simp only [hlocal]
  rfl

theorem State.Reaches.waitAxis_to (hk : bits (s.storeWord a) 10 6 = 3) (hend : a + 1 ≤ 12288) (hbusy : (s.axis x).state.busy = true) :
    ShowTo s (p.runAct e) e (s.exhibit e) ((s.slot e).waitingFor a (.axisRest x)) (s.source e) noLamps := by
  refine h.waits_to (h.fetch_axis hc hx (k := .waitAxis) hk (.inr (.inr rfl)) hend) (h.unmarked _ hmark) ?_
  rw [h.waitAxis_exec hc hx]
  exact if_pos (by rw [h.axis]; exact hbusy)

theorem State.Reaches.waitAxis_passes_to (hk : bits (s.storeWord a) 10 6 = 3) (hend : a + 1 ≤ 12288) (hbusy : (s.axis x).state.busy = false)
    (htime : s.TimeStepAt (a + 1) d) :
    ShowTo s (p.runAct e) e (s.exhibit e) ((s.slot e).waitingAt (a + 1) d) (s.source e) noLamps := by
  have hexec : p.execute e a (s.stepAt a .waitAxis) = .once p (a + 1) := by
    rw [h.waitAxis_exec hc hx]
    exact if_neg (by rw [h.axis, hbusy]; decide)
  have hact := h.once_to (h.fetch_axis hc hx (k := .waitAxis) hk (.inr (.inr rfl)) hend) (h.unmarked _ hmark) hexec (.refl p e) htime
  rw [h.exhibit, h.slot, h.source] at hact
  exact hact

theorem State.Reaches.waitMark_to {sense : Sense} (hk : bits (s.storeWord a) 10 6 = 4) (hend : a + 1 ≤ 12288)
    (hmarked : (tget (s.axis x).marks (Fin.ofNat 4 (bits (s.storeWord a) 2 2))).isSome = true)
    (hsense : (sense = .up ∧ bits (s.storeWord a) 4 2 = 0) ∨ (sense = .down ∧ bits (s.storeWord a) 4 2 = 1) ∨
      (sense = .either ∧ bits (s.storeWord a) 4 2 = 2)) :
    ShowTo s (p.runAct e) e (s.exhibit e) ((s.slot e).waitingFor a (.mark x (Fin.ofNat 4 (bits (s.storeWord a) 2 2)) sense)) (s.source e)
      noLamps := by
  have hws : (s.stepAt a .waitMark).sense = some sense := by
    unfold StepWords.sense State.stepAt
    obtain ⟨rfl, hb⟩ | ⟨rfl, hb⟩ | ⟨rfl, hb⟩ := hsense <;> simp only [hb]
  have hlocal : p.localAxis e (s.stepAt a .waitMark).localAxis = some x := (h.localAxis hc .waitMark).trans hx
  have hnone : (tget (p.axis x).marks (s.stepAt a .waitMark).mark).isNone = false := by
    rw [h.axis, ← Option.not_isSome]
    exact congrArg (!·) hmarked
  have hfault : p.stepFault e (s.stepAt a .waitMark) = none := by
    unfold State.stepFault State.stepInvalid
    simp only [hws, hlocal, hnone]
    rfl
  refine h.waits_to (h.fetch (k := .waitMark) hk hend hfault) (h.unmarked _ hmark) ?_
  unfold State.execute
  simp only [hws, hlocal]
  rfl

end

/-! ### LAMP (R61) -/

theorem State.Reaches.lamp_to {ch : ChannelNo} (hk : bits (s.storeWord a) 10 6 = 7) (hend : a + 2 ≤ 12288)
    (hch : tget c.showLamps (Fin.ofNat 8 (bits (s.storeWord a) 0 3)) = some ch)
    (hop : (s.storeWord (a + 1)).toNat ≤ 31 ∨ (s.storeWord (a + 1)).toNat = 65535) (htime : s.TimeStepAt (a + 2) d) :
    ShowTo s (p.runAct e) e (s.exhibit e) ((s.slot e).waitingAt (a + 2) d) (s.source e) (· = ch) ∧
      (p.runAct e).channel ch = ({ s.channel ch with showLayer := startLayer s.patterns (patternSetting (s.storeWord (a + 1))) } : Channel).refresh s.patterns := by
  have hlocal : p.localLamp e (s.stepAt a .lamp).localLamp = some ch :=
    (State.localLamp_at (by rw [h.exhibit]; exact hc) _).trans hch
  have hinvalid : p.stepInvalid e (s.stepAt a .lamp) = false := by
    show ((decide (31 < (s.storeWord (a + 1)).toNat) && s.storeWord (a + 1) != 0xFFFF) || (p.localLamp e (s.stepAt a .lamp).localLamp).isNone) =
      false
    rw [hlocal, Option.isNone_some, Bool.or_false]
    obtain hle | hnone := hop
    · rw [decide_eq_false (by omega), Bool.false_and]
    · rw [word_eq_none.2 hnone, bne_self_eq_false, Bool.and_false]
  have hfault : p.stepFault e (s.stepAt a .lamp) = none := by
    unfold State.stepFault
    rw [hinvalid, if_neg (by decide)]
    rfl
  have hexec : p.execute e a (s.stepAt a .lamp) =
      .once (p.setLayer ch .showLayer (patternSetting (s.storeWord (a + 1)))) (a + 2) := by
    unfold State.execute
    simp only [hlocal]
    rfl
  have hlit := State.setLayer_show_channel p ch (patternSetting (s.storeWord (a + 1)))
  have hu := ShowTo.of_channels e (L := (· = ch)) (t := p.setLayer ch .showLayer (patternSetting (s.storeWord (a + 1)))) rfl
    fun x hx => State.setLayer_channel_ne p .showLayer (patternSetting (s.storeWord (a + 1))) hx
  have hfetch := h.fetch (k := .lamp) hk hend hfault
  have hheld := h.unmarked .lamp hmark
  generalize p.setLayer ch .showLayer (patternSetting (s.storeWord (a + 1))) = u at *
  have hact := h.once_to hfetch hheld hexec hu htime
  have hlast := State.runAct_once_to h.current hfetch hheld (by rw [h.slot]; rfl) hexec ((htime.of_store h.storeWord).of_store hu.storeWord)
  refine ⟨?_, ?_⟩
  · rw [h.exhibit, h.slot, h.source] at hact
    exact hact
  · rw [hlast.channel ch id, hlit, h.channel ch id, h.patterns]

/-! ### The SUSPEND mark (R51) -/

omit hmark in
/-- A step marked SUSPEND that passes its checks is held. -/
theorem State.Reaches.held_to (hst : (s.exhibit e).state = .running) (hmarked : bit (s.storeWord a) 9 = true) (hpass : s.PassesChecks e c a)
    (hallowed : c.suspendAllowed = true) :
    ShowTo s (p.runAct e) e ((s.exhibit e).entering .suspended) { (s.slot e).reaching a 0 with status := some .held, runaway := 0 }
      { s.source e with suspended := true } fun ch => c.readyLamp = some ch := by
  have hpc : (p.exhibit e).config = some c := by rw [h.exhibit]; exact hc
  have hppass : p.PassesChecks e c a := by
    unfold State.PassesChecks
    simp only [h.storeWord, h.axis, h.slot]
    exact hpass
  obtain ⟨k, hfetch⟩ := State.fetchStep_passes hpc hppass
  have hheld : p.holdsStep e (p.stepAt a k) = true := by
    have hsuspend : (p.stepAt a k).suspend = true := by
      show bit (p.storeWord a) 9 = true
      rw [h.storeWord]
      exact hmarked
    unfold State.holdsStep
    rw [hsuspend, hpc, h.exhibit, hst]
    exact hallowed
  rw [State.runAct_finished (State.actStep_held h.current hfetch hheld)]
  have hhold := p.hold_to e
  rw [h.exhibit, h.slot, h.source] at hhold
  exact (h.silent _).trans (hhold.mono fun ch hl => Exhibit.isReadyLamp_named hc hl)

omit h hmark in
/-- A SUSPEND mark has no effect where the exhibit does not allow it. -/
theorem State.holdsStep_disallowed {w : StepWords} (hallowed : c.suspendAllowed = false) : s.holdsStep e w = false := by
  unfold State.holdsStep
  rw [hc]
  show (_ && c.suspendAllowed) = false
  rw [hallowed, Bool.and_false]

end

end Sys2Proof.Machine
end

section
/-! MOVE and HOME steps, the faults they meet, and CALL (R55, R56, R65, R68, R69): O44. -/

namespace Sys2Proof.Machine

/-! ### A motion step -/

/-- Before an act on one axis and the exhibit only the slot has changed. -/
theorem AxisShowTo.after {s q t : State} {e : ExhibitNo} {sm : Slot} {a : AxisNo} {y : Axis} {p : Pool} {x : Exhibit} {sl : Slot}
    {src : SourceRecord} {L : ChannelNo → Prop} (h : ShowTo s q e (s.exhibit e) sm (s.source e) noLamps)
    (k : AxisShowTo q t a y p e x sl src L) : AxisShowTo s t a y p e x sl src L := by
  refine ⟨k.axis, fun b hb => (k.others b hb).trans (h.axis b), k.pool, k.exhibit, k.slot, k.source, fun f hf => ?_,
    fun ch hch => (k.channel ch hch).trans (h.channel ch id), fun n hn hout => (k.word n hn hout).trans (h.word n hn), ?_⟩
  · obtain ⟨h1, h2, h3⟩ := h.others f hf
    obtain ⟨k1, k2, k3⟩ := k.otherExhibits f hf
    exact ⟨k1.trans h1, k2.trans h2, k3.trans h3⟩
  · have hform := k.form
    rw [h.form] at hform
    exact hform

/-- The slot after a taken motion step: with NOWAIT, or where the motion completes at once, the show has gone on to a WAIT_TIME. -/
def Slot.afterMotion (sl : Slot) (once : Bool) (a : Nat) (w : Wait) (next d : Nat) : Slot :=
  if once = true then sl.waitingAt next d else sl.waitingFor a w

theorem Slot.afterMotion_step {sl : Slot} (h : sl.frozen = false) (nowait : Bool) (a : Nat) (w : Wait) (next d : Nat) :
    (sl.afterMotion nowait a w next d).AfterMotionStep nowait a w next d := by
  unfold Slot.afterMotion
  exact ⟨fun hn => by rw [if_neg (by rw [hn]; decide)]; exact ⟨rfl, rfl, rfl, rfl⟩,
    fun hn => by rw [if_pos hn]; exact Slot.waitingAt_waitsTime h next d⟩

/-- A slot that waits for a motion or for a time takes up no crossing. -/
theorem Slot.afterMotion_crossing (sl : Slot) (once : Bool) (ad : Nat) (x : AxisNo) (kind : MotionKind) (next d : Nat) (a : AxisNo) (m : Fin 4)
    (up : Bool) : (sl.afterMotion once ad (.motion x kind) next d).awaitsCrossing a m up = false := by
  unfold Slot.afterMotion Slot.awaitsCrossing
  split
  · simp [Slot.waitingAt]
  · simp [Slot.waitingFor]

section
variable {s p u : State} {e : ExhibitNo} {a next d n : Nat} {x : AxisNo} {y : Axis} {pool : Pool} (h : s.Reaches p e a 0)
include h

/-- A motion step whose request has been taken. -/
theorem State.Reaches.motion_to {w : StepWords} {once : Bool} {kind : MotionKind} (hrep : s.reports = []) (ho : s.axisOwner x = some e)
    (hfetch : p.fetchStep e a = .ok w) (hheld : p.holdsStep e w = false)
    (hexec : p.execute e a w = if once = true then .once u next else .waits u (.motion x kind)) (hu : AxisTo p u x y pool n) (hn : n ≤ 4096)
    (htime : once = true → s.TimeStepAt next d) :
    AxisShowTo s (p.runAct e).settle x y pool e (s.exhibit e) ((s.slot e).afterMotion once a (.motion x kind) next d) (s.source e) noLamps := by
  have hux : u.exhibit e = p.exhibit e := congrArg (tget · e) hu.exhibits
  have hus : u.slot e = p.slot e := congrArg (tget · e) hu.slots
  have hur : u.source e = p.source e := by rw [hu.form]; rfl
  have hstore : ∀ k, u.storeWord k = s.storeWord k := fun k =>
    (hu.word _ (.inr (by simp only [addrAxisImage, addrStore]; omega))).trans (h.storeWord k)
  have hact : ShowTo u (p.runAct e) e (s.exhibit e) ((s.slot e).afterMotion once a (.motion x kind) next d) (s.source e) noLamps := by
    unfold Slot.afterMotion
    split
    · next honce =>
      rw [if_pos honce] at hexec
      have hrun := State.runAct_once_to h.current hfetch hheld (by rw [h.slot]; rfl) hexec ((htime honce).of_store hstore)
      rw [hux, hus, hur, h.exhibit, h.slot, h.source] at hrun
      exact hrun
    · next honce =>
      rw [if_neg honce] at hexec
      have hrun := State.runAct_waits_to h.current hfetch hheld hexec
      rw [hux, hus, hur, h.exhibit, h.slot, h.source] at hrun
      exact hrun
  generalize p.runAct e = v at *
  have hprep : p.reports = [] := h.reports.trans hrep
  obtain ⟨rs, hrs, hlen, hcross⟩ := hu.reports
  rw [hprep, List.nil_append, ← hact.reports] at hrs
  have howner : v.axisOwner x = some e := by
    refine (State.axisOwner_inForce (s := s) (fun f => ?_) x).trans ho
    by_cases hf : f = e
    · subst hf
      rw [hact.exhibit]
    · rw [(hact.others f hf).1, show u.exhibit f = p.exhibit f from congrArg (tget · f) hu.exhibits, (h.others f hf).1]
  have hquiet : v.Uncrossed x := fun f hf m up => by
    rw [howner] at hf
    obtain rfl := Option.mem_some_iff.1 hf
    rw [hact.slot]
    exact Slot.afterMotion_crossing _ _ _ _ _ _ _ _ _ _
  rw [State.settle_crossings (by rw [hrs]; exact hcross) (by rw [hrs]; omega) hquiet]
  exact .after h (hu.then_show hprep hact.cleared)

end

/-- The target of a MOVE step before the clamp (R55). -/
def State.moveTarget (s : State) (a : Nat) (x : AxisNo) : Int :=
  if bit (s.storeWord a) 4 then (s.axis x).pos + signed24 (65536 * bits (s.storeWord (a + 1)) 0 8 + (s.storeWord (a + 2)).toNat)
  else signed24 (65536 * bits (s.storeWord (a + 1)) 0 8 + (s.storeWord (a + 2)).toNat)

section
variable {s p : State} {e : ExhibitNo} {c : ExhibitConfig} {a d n : Nat} {x : AxisNo} {y : Axis} {pool : Pool} (h : s.Reaches p e a 0)
  (hrep : s.reports = []) (hc : (s.exhibit e).config = some c) (hmark : bit (s.storeWord a) 9 = false)
  (hx : tget c.axes (Fin.ofNat 4 (bits (s.storeWord a) 0 2)) = some x)
include h hc hx

/-- A MOVE step meets its axis. -/
theorem State.Reaches.move_exec : p.execute e a (s.stepAt a .move) = p.executeMove (s.stepAt a .move) x (a + 3) := by
  have hlocal : p.localAxis e (s.stepAt a .move).localAxis = some x := (h.localAxis hc .move).trans hx
  unfold State.execute
  simp only [hlocal]
  rfl

theorem State.Reaches.home_exec : p.execute e a (s.stepAt a .home) = p.executeHome (s.stepAt a .home) x (a + 1) := by
  have hlocal : p.localAxis e (s.stepAt a .home).localAxis = some x := (h.localAxis hc .home).trans hx
  unfold State.execute
  simp only [hlocal]
  rfl

section
include hrep hmark

/-- A MOVE step that its axis takes. -/
theorem State.Reaches.move_to (hk : bits (s.storeWord a) 10 6 = 1) (hend : a + 3 ≤ 12288) (ho : s.axisOwner x = some e)
    (hfault : (s.axis x).moveFault = none)
    (hu : AxisTo p (p.takeMove x (s.moveTarget a x) (Fin.ofNat 4 (bits (s.storeWord a) 2 2))) x y pool n) (hn : n ≤ 4096) {once : Bool}
    (honce : (bit (s.storeWord a) 8 || ((s.axis x).moveCase (s.moveTarget a x)).completesAtOnce) = once)
    (htime : once = true → s.TimeStepAt (a + 3) d) :
    AxisShowTo s (p.runAct e).settle x y pool e (s.exhibit e) ((s.slot e).afterMotion once a (.motion x .move) (a + 3) d) (s.source e) noLamps := by
  refine h.motion_to hrep ho (h.fetch_axis hc hx (k := .move) hk (.inl rfl) hend) (h.unmarked _ hmark) ?_ hu hn htime
  rw [h.move_exec hc hx, ← honce]
  unfold State.executeMove
  simp only [h.axis, hfault]
  rfl

/-- A HOME step that its axis takes. -/
theorem State.Reaches.home_to (hk : bits (s.storeWord a) 10 6 = 2) (hend : a + 1 ≤ 12288) (ho : s.axisOwner x = some e)
    (hfault : (s.axis x).homeFault = none) (hu : AxisTo p (p.takeHome x) x y pool n) (hn : n ≤ 4096)
    (htime : bit (s.storeWord a) 8 = true → s.TimeStepAt (a + 1) d) :
    AxisShowTo s (p.runAct e).settle x y pool e (s.exhibit e)
      ((s.slot e).afterMotion (bit (s.storeWord a) 8) a (.motion x .home) (a + 1) d) (s.source e) noLamps := by
  refine h.motion_to hrep ho (h.fetch_axis hc hx (k := .home) hk (.inr (.inl rfl)) hend) (h.unmarked _ hmark) ?_ hu hn htime
  rw [h.home_exec hc hx]
  unfold State.executeHome
  simp only [h.axis, hfault]
  rfl

end

/-! ### The faults of motion steps (R55, R56, R69) -/

include hmark in
/-- A MOVE or HOME step that its axis does not take ends the show. -/
theorem State.Reaches.motion_fails {f : ShowFault}
    (hstep : (bits (s.storeWord a) 10 6 = 1 ∧ a + 3 ≤ 12288 ∧ (s.axis x).moveFault = some f) ∨
      (bits (s.storeWord a) 10 6 = 2 ∧ a + 1 ≤ 12288 ∧ (s.axis x).homeFault = some f)) : p.runAct e = p.showFault e f a := by
  obtain ⟨hk, hend, hfault⟩ | ⟨hk, hend, hfault⟩ := hstep
  · refine State.runAct_finished (State.actStep_faults h.current (h.fetch_axis hc hx (k := .move) hk (.inl rfl) hend) (h.unmarked _ hmark) ?_)
    rw [h.move_exec hc hx]
    unfold State.executeMove
    simp only [h.axis, hfault]
  · refine State.runAct_finished (State.actStep_faults h.current (h.fetch_axis hc hx (k := .home) hk (.inr (.inl rfl)) hend) (h.unmarked _ hmark) ?_)
    rw [h.home_exec hc hx]
    unfold State.executeHome
    simp only [h.axis, hfault]

omit h in
/-- An axis of the configuration of an exhibit that is not OFF is bound. -/
theorem State.mem_boundAxes (hon : (s.exhibit e).state ≠ .off) : x ∈ s.boundAxes e := by
  have hforce : (s.exhibit e).inForce = some c := by
    unfold Exhibit.inForce
    rw [if_neg hon, hc]
  unfold State.boundAxes
  rw [hforce]
  simp only [List.mem_filterMap, id_eq, exists_eq_right, Vector.mem_toList_iff]
  rw [← hx]
  exact Vector.getElem_mem _

end

/-- A fault of a step, with bound axes on their way that report only crossings of axes of the exhibit's own. -/
theorem State.Reaches.fault_settled {s q : State} {e : ExhibitNo} {a n : Nat} {f : ShowFault} (h : s.Reaches q e a n) (hf : f.isStepFault = true)
    (hfirst : (s.slot e).firstFault = none) (hwaits : s.WaitsOnly e) (hrep : s.reports = []) (hon : (s.exhibit e).state ≠ .off)
    (howner : ∀ b ∈ s.boundAxes e, (s.axis b).state = .homing ∨ (s.axis b).state = .awaitPower → s.axisOwner b = some e) :
    s.StepFaulted (q.showFault e f a).settle e f a ∧
    (s.part = .run → s.alerts.length < 32 →
      ∃ y ∈ (q.showFault e f a).settle.alerts, y.source = exhibitSource e ∧ y.cause = .showFault ∧ y.severity = 1) := by
  obtain ⟨hfacts, hreports, halert⟩ := h.fault_facts hf hfirst hwaits
  have hsettle := hfacts.settle hreports hrep (Exhibit.inForce_entering (by decide) hon) (.inl rfl) (by decide)
    fun b hb hcross => howner b hb (by simpa [haltDeal, AxisDeal.dropping] using hcross)
  rw [hsettle]
  exact ⟨hfacts.congr rfl rfl rfl rfl rfl rfl, halert⟩

/-! ### CALL (R65) -/

/-- CALL raises SHOW_CALL, and the show goes on. -/
theorem State.Reaches.call_enters {s p : State} {e : ExhibitNo} {a d : Nat} (h : s.Reaches p e a 0) (hmark : bit (s.storeWord a) 9 = false)
    (hk : bits (s.storeWord a) 10 6 = 12) (hsev : bits (s.storeWord a) 6 2 ≠ 0) (hrun : s.part = .run)
    (hnone : s.alertOf? (exhibitSource e) .showCall = none) (hlen : s.alerts.length < 32) (htime : s.TimeStepAt (a + 1) d) :
    (∃ y : Alert, (p.runAct e).alerts = s.alerts ++ [y] ∧ y.source = exhibitSource e ∧ y.cause = .showCall ∧
      y.code = bits (s.storeWord a) 0 6 ∧ y.severity = bits (s.storeWord a) 6 2 ∧ y.acked = false ∧
      y.station = s.routeOf (s.zone (exhibitSource e))) ∧
    (p.runAct e).slot e = (s.slot e).waitingAt (a + 1) d ∧ s.OtherExhibits (p.runAct e) e ∧
    (∀ k, NotOfAlerts k → OutsideExhibit e k → (p.runAct e).word k = s.word k) ∧
    p.runAct e = { s with slots := (p.runAct e).slots, alerts := (p.runAct e).alerts, stations := (p.runAct e).stations,
                          channels := (p.runAct e).channels, nextNumber := (p.runAct e).nextNumber,
                          rewriteCount := (p.runAct e).rewriteCount, gallery := (p.runAct e).gallery, ram := (p.runAct e).ram } := by
  have hend : a + StepKind.call.length ≤ 12288 := by
    have hlt := htime.1
    simp only [StepKind.length]
    omega
  have hfault : p.stepFault e (s.stepAt a .call) = none := by
    unfold State.stepFault State.stepInvalid State.stepAt
    simp [hsev]
  obtain ⟨y, hlist, h1, h2, h3, h4, h5, h6, -⟩ := State.raise_entered_list (s := p) (src := exhibitSource e) (cause := .showCall)
    (bits (s.storeWord a) 0 6) (bits (s.storeWord a) 6 2) (h.part.trans hrun) (by unfold State.alertOf? at hnone ⊢; rw [h.alerts]; exact hnone)
    (by rw [h.alerts]; exact hlen)
  have hroute : p.routeOf (p.zone (exhibitSource e)) = s.routeOf (s.zone (exhibitSource e)) :=
    State.routeOf_congr (by rw [h.form]) (fun f => congrArg (fun z => (tget z f).config) h.exhibits_eq) _
  obtain ⟨hform, hword⟩ := p.raise_act (exhibitSource e) .showCall (bits (s.storeWord a) 0 6) (bits (s.storeWord a) 6 2)
  have hexec : p.execute e a (s.stepAt a .call) =
      .once (p.raise (exhibitSource e) .showCall (bits (s.storeWord a) 0 6) (bits (s.storeWord a) 6 2)) (a + 1) := rfl
  generalize p.raise (exhibitSource e) .showCall (bits (s.storeWord a) 0 6) (bits (s.storeWord a) 6 2) = u at *
  have hstore : ∀ k, u.storeWord k = s.storeWord k := fun k =>
    (hword _ ⟨by simp only [addrImageSeq, addrStore]; omega, .inr (by simp only [addrAlertImage, addrStore]; omega)⟩).trans (h.storeWord k)
  have hact := State.runAct_once_to h.current (h.fetch (k := .call) hk hend hfault) (h.unmarked _ hmark) (by rw [h.slot]; rfl) hexec
    (htime.of_store hstore)
  have hux : ∀ f, u.exhibit f = p.exhibit f := fun f => by rw [hform]; rfl
  have hus : ∀ f, u.slot f = p.slot f := fun f => by rw [hform]; rfl
  have hur : ∀ f, u.source f = p.source f := fun f => by rw [hform]; rfl
  generalize p.runAct e = v at *
  refine ⟨⟨y, ?_, h1, h2, h4, h3, h5, h6.trans hroute⟩, ?_, fun f hf => ?_, fun k hk hout => ?_, ?_⟩
  · rw [hact.alerts, hlist, h.alerts]
  · rw [hact.slot, hus, h.slot]
    rfl
  · obtain ⟨k1, k2, k3⟩ := hact.others f hf
    rw [k1, k2, k3, hux, hus, hur]
    exact h.others f hf
  · rw [hact.word k hout, hword k hk, h.word k hout]
  · rw [hact.form_slots, hform, h.form_slots]

end Sys2Proof.Machine
end

section
/-! The motion steps by the state of their axis (R55, R56, Table 3-4): O44. -/

namespace Sys2Proof.Machine

/-! ### Table 3-4 -/

theorem Axis.moveFault_idle {x : Axis} (hst : x.state = .idle) : x.moveFault = none := by
  unfold Axis.moveFault
  rw [hst]

theorem Axis.moveCase_idle {x : Axis} (hst : x.state = .idle) (t : Int) : x.moveCase t = if x.clamp t = x.pos then .complete else .start := by
  unfold Axis.moveCase
  rw [hst]

/-- An axis in AWAIT_POWER whose request is a move judges a MOVE by where it stands. -/
theorem Axis.move_awaits {x : Axis} (hst : x.state = .awaitPower) (hr : ∃ q ∈ x.request, q ≠ .home) (t : Int) :
    x.moveFault = none ∧ x.moveCase t = if x.clamp t = x.pos then .replaceComplete else .replace := by
  obtain ⟨q, hq, hne⟩ := hr
  unfold Axis.moveFault Axis.moveCase
  rw [hst, Option.mem_def.1 hq]
  cases q with
  | home => exact absurd rfl hne
  | move => exact ⟨rfl, rfl⟩

theorem Axis.move_moving {x : Axis} (hst : x.state = .moving) (t : Int) :
    x.moveFault = none ∧ x.moveCase t = if x.isAhead (x.clamp t) = true then .ahead else .behind := by
  unfold Axis.moveFault Axis.moveCase
  rw [hst]
  exact ⟨rfl, rfl⟩

theorem Axis.homeFault_taken {x : Axis} (hst : x.state = .unhomed ∨ x.state = .idle) : x.homeFault = none := by
  unfold Axis.homeFault
  obtain hst | hst := hst <;> rw [hst]

/-! ### The steps -/

section
variable {s : State} {e : ExhibitNo} {c : ExhibitConfig} {a r d : Nat} {x : AxisNo} {y : AxisConfig} (h : s.WaitsOut e a r)
  (hrep : s.reports = []) (hc : (s.exhibit e).config = some c) (hmark : bit (s.storeWord (a + 2)) 9 = false)
  (hx : tget c.axes (Fin.ofNat 4 (bits (s.storeWord (a + 2)) 0 2)) = some x) (ho : s.axisOwner x = some e)
  (hy : (s.axis x).config = some y)

/-- The speed set that a MOVE step names. -/
abbrev State.moveSet (s : State) (a : Nat) : Fin 4 := Fin.ofNat 4 (bits (s.storeWord a) 2 2)

/-- The state after a taken MOVE step that stands at address `a`: its axis as `z`, the pool as `pool`, and the slot waiting or gone on. -/
abbrev State.MoveStepTo (s t : State) (e : ExhibitNo) (x : AxisNo) (a d : Nat) (once : Bool) (z : Axis) (pool : Pool) : Prop :=
  AxisShowTo s t x z pool e (s.exhibit e) ((s.slot e).afterMotion once a (.motion x .move) (a + 3) d) (s.source e) noLamps

abbrev State.HomeStepTo (s t : State) (e : ExhibitNo) (x : AxisNo) (a d : Nat) (once : Bool) (z : Axis) (pool : Pool) : Prop :=
  AxisShowTo s t x z pool e (s.exhibit e) ((s.slot e).afterMotion once a (.motion x .home) (a + 1) d) (s.source e) noLamps

section
variable (hk : bits (s.storeWord (a + 2)) 10 6 = 1) (hend : a + 5 ≤ 12288)
include h hrep hc hmark hx ho hk hend

/-- A MOVE step whose axis takes the request. -/
theorem State.WaitsOut.exec_move {z : Axis} {pool : Pool} {m : MoveCase} (hfault : (s.axis x).moveFault = none)
    (hcase : (s.axis x).moveCase (s.moveTarget (a + 2) x) = m)
    (hu : ∀ p, s.Reaches p e (a + 2) 0 → AxisTo p (p.takeMove x (s.moveTarget (a + 2) x) (s.moveSet (a + 2))) x z pool 0) {once : Bool}
    (honce : (bit (s.storeWord (a + 2)) 8 || m.completesAtOnce) = once) (htime : once = true → s.TimeStepAt (a + 5) d) :
    ∃ t, Machine.exec (.timeWaitExpiry e) s = .next t ∧ s.MoveStepTo t e x (a + 2) d once z pool := by
  obtain ⟨p, hp, hexec⟩ := h.exec
  exact ⟨_, hexec, hp.move_to hrep hc hmark hx hk hend ho hfault (hu p hp) (by omega) (by rw [hcase]; exact honce) htime⟩

section
variable (hst : (s.axis x).state = .idle)
include hst

/-- A MOVE of an IDLE axis that starts at once. -/
theorem State.WaitsOut.exec_move_starts (hy : (s.axis x).config = some y)
    (hne : (s.axis x).clamp (s.moveTarget (a + 2) x) ≠ (s.axis x).pos) (hgrants : s.pool.Grants y.draw)
    (htime : bit (s.storeWord (a + 2)) 8 = true → s.TimeStepAt (a + 5) d) :
    ∃ t, Machine.exec (.timeWaitExpiry e) s = .next t ∧ s.MoveStepTo t e x (a + 2) d (bit (s.storeWord (a + 2)) 8)
      (((s.axis x).askingMove (s.moveTarget (a + 2) x) (s.moveSet (a + 2))).enterMoving ((s.axis x).clamp (s.moveTarget (a + 2) x))
        (s.moveSet (a + 2))) (s.pool.granted x y.draw) := by
  have hcase := (Axis.moveCase_idle hst (s.moveTarget (a + 2) x)).trans (if_neg hne)
  refine h.exec_move hrep hc hmark hx ho hk hend (Axis.moveFault_idle hst) hcase (fun p hp => ?_) (Bool.or_false _) htime
  have hto := State.takeMove_starts_to (s := p) (a := x) (s.moveSet (a + 2)) (by rw [hp.axis]; exact hy) (by rw [hp.axis]; exact hcase)
    (by rw [hp.axis]; exact hne) (by rw [hp.pool]; exact hgrants)
  rw [hp.axis, hp.pool] at hto
  exact hto

/-- A MOVE of an IDLE axis that waits for its units. -/
theorem State.WaitsOut.exec_move_joins (hy : (s.axis x).config = some y)
    (hne : (s.axis x).clamp (s.moveTarget (a + 2) x) ≠ (s.axis x).pos) (hwaits : s.pool.waiting ≠ [] ∨ s.pool.free < y.draw)
    (htime : bit (s.storeWord (a + 2)) 8 = true → s.TimeStepAt (a + 5) d) :
    ∃ t, Machine.exec (.timeWaitExpiry e) s = .next t ∧ s.MoveStepTo t e x (a + 2) d (bit (s.storeWord (a + 2)) 8)
      { (s.axis x).askingMove (s.moveTarget (a + 2) x) (s.moveSet (a + 2)) with state := .awaitPower } (s.pool.joined x y.draw) := by
  have hcase := (Axis.moveCase_idle hst (s.moveTarget (a + 2) x)).trans (if_neg hne)
  refine h.exec_move hrep hc hmark hx ho hk hend (Axis.moveFault_idle hst) hcase (fun p hp => ?_) (Bool.or_false _) htime
  have hto := State.takeMove_waits_to (s := p) (a := x) (s.moveSet (a + 2)) (by rw [hp.axis]; exact hy) (by rw [hp.axis]; exact hcase)
    (by rw [hp.pool]; exact hwaits)
  rw [hp.axis, hp.pool] at hto
  exact hto

/-- A MOVE of an IDLE axis to where it stands. -/
theorem State.WaitsOut.exec_move_completes (heq : (s.axis x).clamp (s.moveTarget (a + 2) x) = (s.axis x).pos) (htime : s.TimeStepAt (a + 5) d) :
    ∃ t, Machine.exec (.timeWaitExpiry e) s = .next t ∧
      s.MoveStepTo t e x (a + 2) d true ((s.axis x).asked (s.moveTarget (a + 2) x)) s.pool := by
  have hcase := (Axis.moveCase_idle hst (s.moveTarget (a + 2) x)).trans (if_pos heq)
  refine h.exec_move hrep hc hmark hx ho hk hend (Axis.moveFault_idle hst) hcase (fun p hp => ?_) (Bool.or_true _) fun _ => htime
  have hto := State.takeMove_complete_to (s := p) (a := x) (s.moveSet (a + 2)) (by rw [hp.axis]; exact hcase)
  rw [hp.axis, hp.pool] at hto
  exact hto

end

/-- A MOVE that meets a stop, or the request of a waiting axis. -/
theorem State.WaitsOut.exec_move_pends (hst : (s.axis x).state = .stopping ∨ ((s.axis x).state = .awaitPower ∧
      (∃ q ∈ (s.axis x).request, q ≠ .home) ∧ (s.axis x).clamp (s.moveTarget (a + 2) x) ≠ (s.axis x).pos))
    (htime : bit (s.storeWord (a + 2)) 8 = true → s.TimeStepAt (a + 5) d) :
    ∃ t, Machine.exec (.timeWaitExpiry e) s = .next t ∧ s.MoveStepTo t e x (a + 2) d (bit (s.storeWord (a + 2)) 8)
      { (s.axis x).asked (s.moveTarget (a + 2) x) with
        request := some (.move ((s.axis x).clamp (s.moveTarget (a + 2) x)) (s.moveSet (a + 2))) } s.pool := by
  have hjudged : (s.axis x).moveFault = none ∧ ∃ m, (s.axis x).moveCase (s.moveTarget (a + 2) x) = m ∧ (m = .replace ∨ m = .stopPending) := by
    obtain hst | ⟨hst, hr, hne⟩ := hst
    · unfold Axis.moveFault Axis.moveCase
      rw [hst]
      exact ⟨rfl, _, rfl, .inr rfl⟩
    · obtain ⟨hfault, hcase⟩ := Axis.move_awaits hst hr (s.moveTarget (a + 2) x)
      exact ⟨hfault, _, hcase.trans (if_neg hne), .inl rfl⟩
  obtain ⟨hfault, m, hcase, hm⟩ := hjudged
  have honce : m.completesAtOnce = false := by obtain rfl | rfl := hm <;> rfl
  refine h.exec_move hrep hc hmark hx ho hk hend hfault hcase (fun p hp => ?_) (by rw [honce, Bool.or_false]) htime
  have hto := State.takeMove_pends_to (s := p) (a := x) (t := s.moveTarget (a + 2) x) (s.moveSet (a + 2)) (by rw [hp.axis, hcase]; exact hm)
  rw [hp.axis, hp.pool] at hto
  exact hto

/-- A MOVE to where a waiting axis stands: it leaves the list. -/
theorem State.WaitsOut.exec_move_leaves (hst : (s.axis x).state = .awaitPower) (hr : ∃ q ∈ (s.axis x).request, q ≠ .home)
    (heq : (s.axis x).clamp (s.moveTarget (a + 2) x) = (s.axis x).pos) (hsole : s.pool.waiting.map (·.axis) = [x])
    (htime : s.TimeStepAt (a + 5) d) :
    ∃ t, Machine.exec (.timeWaitExpiry e) s = .next t ∧ s.MoveStepTo t e x (a + 2) d true
      { (s.axis x).asked (s.moveTarget (a + 2) x) with state := .idle, request := none } { s.pool with waiting := [] } := by
  obtain ⟨hfault, hcase⟩ := Axis.move_awaits hst hr (s.moveTarget (a + 2) x)
  rw [if_pos heq] at hcase
  refine h.exec_move hrep hc hmark hx ho hk hend hfault hcase (fun p hp => ?_) (Bool.or_true _) fun _ => htime
  have hto := State.takeMove_replaceComplete_to (s := p) (a := x) (s.moveSet (a + 2)) (by rw [hp.axis]; exact hcase)
    (by rw [hp.pool, Pool.left_sole hsole])
  rw [hp.axis, hp.pool, Pool.left_sole hsole] at hto
  exact hto

section
variable (hst : (s.axis x).state = .moving)
include hst

/-- A MOVE ahead of a MOVING axis. -/
theorem State.WaitsOut.exec_move_ahead (hahead : (s.axis x).isAhead ((s.axis x).clamp (s.moveTarget (a + 2) x)) = true)
    (htime : bit (s.storeWord (a + 2)) 8 = true → s.TimeStepAt (a + 5) d) :
    ∃ t, Machine.exec (.timeWaitExpiry e) s = .next t ∧ s.MoveStepTo t e x (a + 2) d (bit (s.storeWord (a + 2)) 8)
      { (s.axis x).asked (s.moveTarget (a + 2) x) with
        move := some { target := (s.axis x).clamp (s.moveTarget (a + 2) x), speedSet := s.moveSet (a + 2) },
        vel := boundVelocity (s.axis x).vel ((s.axis x).speedSet (s.moveSet (a + 2))) } s.pool := by
  obtain ⟨hfault, hcase⟩ := Axis.move_moving hst (s.moveTarget (a + 2) x)
  rw [if_pos hahead] at hcase
  refine h.exec_move hrep hc hmark hx ho hk hend hfault hcase (fun p hp => ?_) (Bool.or_false _) htime
  have hto := State.takeMove_ahead_to (s := p) (a := x) (s.moveSet (a + 2)) (by rw [hp.axis]; exact hcase)
  rw [hp.axis, hp.pool] at hto
  exact hto

/-- A MOVE behind a MOVING axis. -/
theorem State.WaitsOut.exec_move_behind (hbehind : (s.axis x).isAhead ((s.axis x).clamp (s.moveTarget (a + 2) x)) = false)
    (htime : bit (s.storeWord (a + 2)) 8 = true → s.TimeStepAt (a + 5) d) :
    ∃ t, Machine.exec (.timeWaitExpiry e) s = .next t ∧ s.MoveStepTo t e x (a + 2) d (bit (s.storeWord (a + 2)) 8)
      (((s.axis x).asked (s.moveTarget (a + 2) x)).enterStopping
        (some (.move ((s.axis x).clamp (s.moveTarget (a + 2) x)) (s.moveSet (a + 2))))) s.pool := by
  obtain ⟨hfault, hcase⟩ := Axis.move_moving hst (s.moveTarget (a + 2) x)
  rw [if_neg (by rw [hbehind]; decide)] at hcase
  refine h.exec_move hrep hc hmark hx ho hk hend hfault hcase (fun p hp => ?_) (Bool.or_false _) htime
  have hto := State.takeMove_behind_to (s := p) (a := x) (s.moveSet (a + 2)) (by rw [hp.axis]; exact hcase)
  rw [hp.axis, hp.pool] at hto
  exact hto

end

end

section
variable (hk : bits (s.storeWord (a + 2)) 10 6 = 2) (hend : a + 3 ≤ 12288) (hst : (s.axis x).state = .unhomed ∨ (s.axis x).state = .idle)
  (htime : bit (s.storeWord (a + 2)) 8 = true → s.TimeStepAt (a + 3) d)

include h hrep hc hmark hx ho hy hk hend hst htime

/-- A HOME that starts at once. -/
theorem State.WaitsOut.exec_home_starts (hgrants : s.pool.Grants y.draw) :
    ∃ t, Machine.exec (.timeWaitExpiry e) s = .next t ∧ s.HomeStepTo t e x (a + 2) d (bit (s.storeWord (a + 2)) 8)
      (((s.axis x).askingHome y).enterHoming y) (s.pool.granted x y.draw) := by
  obtain ⟨p, hp, hexec⟩ := h.exec
  have hto := State.takeHome_starts_to (s := p) (a := x) (by rw [hp.axis]; exact hy) (by rw [hp.axis]; exact hst) (by rw [hp.pool]; exact hgrants)
  rw [hp.axis, hp.pool] at hto
  exact ⟨_, hexec, hp.home_to hrep hc hmark hx hk hend ho (Axis.homeFault_taken hst) hto (by omega) htime⟩

/-- A HOME that waits for its units. -/
theorem State.WaitsOut.exec_home_joins (hwaits : s.pool.waiting ≠ [] ∨ s.pool.free < y.draw) :
    ∃ t, Machine.exec (.timeWaitExpiry e) s = .next t ∧ s.HomeStepTo t e x (a + 2) d (bit (s.storeWord (a + 2)) 8)
      { (s.axis x).askingHome y with state := .awaitPower } (s.pool.joined x y.draw) := by
  obtain ⟨p, hp, hexec⟩ := h.exec
  have hto := State.takeHome_waits_to (s := p) (a := x) (by rw [hp.axis]; exact hy) (by rw [hp.axis]; exact hst) (by rw [hp.pool]; exact hwaits)
  rw [hp.axis, hp.pool] at hto
  exact ⟨_, hexec, hp.home_to hrep hc hmark hx hk hend ho (Axis.homeFault_taken hst) hto (by omega) htime⟩

end

end

end Sys2Proof.Machine
end

section
/-! The steps of a show, reached as a TIME wait runs out (R46 to R65): O44. -/

namespace Sys2Proof.Machine

/-- Only the slot and the axis, with their images. -/
theorem AxisShowTo.form_axis {s t : State} {e : ExhibitNo} {a : AxisNo} {y : Axis} {sl : Slot}
    (h : AxisShowTo s t a y s.pool e (s.exhibit e) sl (s.source e) noLamps) : t = { s with slots := t.slots, axes := t.axes, ram := t.ram } := by
  have hform := h.form_slots
  rw [h.pool] at hform
  exact hform

/-- A draw is granted at once, or waits. -/
theorem Pool.not_grants (p : Pool) (n : Nat) : ¬ p.Grants n ↔ p.waiting ≠ [] ∨ p.free < n := by
  unfold Pool.Grants
  rw [not_and_or, Nat.not_le]

/-! ### Acts that end in a fault -/

/-- A step that fails its checks, or a JUMP to itself, ends the show with its fault, the bound axes at rest. -/
theorem State.WaitsOut.exec_fails {s : State} {e : ExhibitNo} {a r : Nat} {f : ShowFault} (h : s.WaitsOut e a r)
    (hf : f.isStepFault = true) (hact : ∀ p, s.Reaches p e (a + 2) 0 → ∃ q n, s.Reaches q e (a + 2) n ∧ p.runAct e = q.showFault e f (a + 2))
    (hrep : s.reports = []) (hfirst : (s.slot e).firstFault = none) (hbusy : s.someAxisBusy e = false) (hempty : s.pool.waiting = []) :
    ∃ t, Machine.exec (.timeWaitExpiry e) s = .next t ∧ s.StepFaulted t e f (a + 2) := by
  obtain ⟨p, hp, hexec⟩ := h.exec
  obtain ⟨q, n, hq, hrun⟩ := hact p hp
  rw [hrun] at hexec
  exact ⟨_, hexec, hq.fault_calm hf hfirst hbusy hempty hrep⟩

theorem State.StepFails.isStepFault {s : State} {e : ExhibitNo} {a : Nat} {f : ShowFault} (h : s.StepFails e a f) : f.isStepFault = true := by
  obtain ⟨rfl, -⟩ | ⟨rfl, -⟩ | ⟨rfl, -⟩ | ⟨rfl, -⟩ | ⟨rfl, -⟩ := h <;> rfl

/-- A motion step that its axis does not take (Table 3-4). -/
theorem Axis.moveFault_of {x : Axis} {f : ShowFault}
    (h : (f = .axisUnusable ∧ (x.state = .off ∨ x.state = .faulted)) ∨ (f = .axisUnhomed ∧ x.state = .unhomed) ∨
      (f = .axisBusy ∧ (x.state = .homing ∨ (x.state = .awaitPower ∧ x.request = some .home)))) :
    x.moveFault = some f ∧ f.isStepFault = true := by
  unfold Axis.moveFault
  obtain ⟨rfl, hst | hst⟩ | ⟨rfl, hst⟩ | ⟨rfl, hst | ⟨hst, hr⟩⟩ := h
  · rw [hst]; exact ⟨rfl, rfl⟩
  · rw [hst]; exact ⟨rfl, rfl⟩
  · rw [hst]; exact ⟨rfl, rfl⟩
  · rw [hst]; exact ⟨rfl, rfl⟩
  · rw [hst, hr]; exact ⟨rfl, rfl⟩

theorem Axis.homeFault_of {x : Axis} {f : ShowFault}
    (h : (f = .axisUnusable ∧ (x.state = .off ∨ x.state = .faulted)) ∨ (f = .axisBusy ∧ x.state.busy = true)) :
    x.homeFault = some f ∧ f.isStepFault = true := by
  unfold Axis.homeFault
  obtain ⟨rfl, hst | hst⟩ | ⟨rfl, hst⟩ := h
  · rw [hst]; exact ⟨rfl, rfl⟩
  · rw [hst]; exact ⟨rfl, rfl⟩
  · obtain hst | hst | hst | hst := AxisState.busy_cases hst <;> rw [hst] <;> exact ⟨rfl, rfl⟩

/-- A motion step whose axis does not take it. -/
theorem State.WaitsOut.exec_motion_fails {s : State} {e : ExhibitNo} {c : ExhibitConfig} {a r : Nat} {x : AxisNo} {f : ShowFault}
    (h : s.WaitsOut e a r) (hrep : s.reports = []) (hc : (s.exhibit e).config = some c) (hon : (s.exhibit e).state ≠ .off)
    (hmark : bit (s.storeWord (a + 2)) 9 = false) (hx : tget c.axes (Fin.ofNat 4 (bits (s.storeWord (a + 2)) 0 2)) = some x)
    (hstep : (bits (s.storeWord (a + 2)) 10 6 = 1 ∧ a + 5 ≤ 12288 ∧ (s.axis x).moveFault = some f) ∨
      (bits (s.storeWord (a + 2)) 10 6 = 2 ∧ a + 3 ≤ 12288 ∧ (s.axis x).homeFault = some f)) (hf : f.isStepFault = true)
    (hfirst : (s.slot e).firstFault = none)
    (hothers : ∀ b ∈ s.boundAxes e, b ≠ x → (s.axis b).state ≠ .homing ∧ (s.axis b).state ≠ .awaitPower)
    (hwaiting : ∀ w ∈ s.pool.waiting, w.axis = x ∧ (s.axis x).state = .awaitPower)
    (howner : (s.axis x).state = .homing ∨ (s.axis x).state = .awaitPower → s.axisOwner x = some e) :
    ∃ t, Machine.exec (.timeWaitExpiry e) s = .next t ∧ s.StepFaulted t e f (a + 2) ∧ x ∈ s.boundAxes e ∧ s.WaitsOnly e ∧
      (s.part = .run → s.alerts.length < 32 → ∃ y ∈ t.alerts, y.source = exhibitSource e ∧ y.cause = .showFault ∧ y.severity = 1) := by
  obtain ⟨p, hp, hexec⟩ := h.exec
  have hbound := State.mem_boundAxes hc hx hon
  have hwaits : s.WaitsOnly e := fun w hw => by
    obtain ⟨hwx, hst⟩ := hwaiting w hw
    rw [hwx]
    exact ⟨hbound, hst⟩
  rw [hp.motion_fails hc hmark hx hstep] at hexec
  obtain ⟨hfacts, halert⟩ := hp.fault_settled hf hfirst hwaits hrep hon fun b hb hst => by
    by_cases hbx : b = x
    · rw [hbx] at hst ⊢
      exact howner hst
    · obtain ⟨h1, h2⟩ := hothers b hb hbx
      exact absurd hst (by simp [h1, h2])
  exact ⟨_, hexec, hfacts, hbound, hwaits, halert⟩

end Sys2Proof.Machine
end

section
/-! The steps of a show, reached as a TIME wait runs out (R46 to R65): O44. -/

namespace Sys2Proof.Machine

/-- Settles O44: each kind of step that a TIME wait comes to, by the act of the slot there. -/
theorem showStepsAct : Obligations.ShowStepsAct := by
  refine ⟨fun s e a r d n hcur hst hfr hw hrep hmark hrun => ?_, fun s e c a r d w0 hstate hc hcur hst hfr hw hrep hrun hw0 => ?_⟩
  · have h : s.WaitsOut e a r := ⟨hcur, hst, hfr, hw, hrun⟩
    refine ⟨fun hk hend hn htime => ?_, fun hk hn hn0 hzero htime => ?_, fun hk hend hloop htime => ?_, fun hk htime => ?_,
      fun f hstep hfirst hbusy hempty => ?_⟩
    · subst hn
      obtain ⟨t, hexec, hto⟩ := h.exec_show hrep fun p hp => hp.jump_to hmark hk hend htime
      exact ⟨t, hexec, hto.slot ▸ Slot.waitingAt_waitsTime hfr _ _, by rw [hto.slot]; rfl, by rw [hto.slot]; rfl, hto.others,
        fun k _ hk => hto.word k hk, hto.form_slots⟩
    · subst hn
      obtain ⟨t, hexec, hto⟩ := h.exec_show hrep fun p hp => hp.loop_to hmark hk hn0 hzero htime
      exact ⟨t, hexec, hto.slot ▸ Slot.waitingAt_waitsTime hfr _ _, by rw [hto.slot]; rfl, by rw [hto.slot]; rfl, hto.others,
        fun k _ hk => hto.word k hk, hto.form_slots⟩
    · obtain ⟨t, hexec, hto⟩ := h.exec_show hrep fun p hp => hp.next_to hmark hk hend hloop htime
      exact ⟨t, hexec, hto.slot ▸ Slot.waitingAt_waitsTime hfr _ _, by rw [hto.slot]; rfl, by rw [hto.slot]; rfl, hto.others,
        fun k _ hk => hto.word k hk, hto.form_slots⟩
    · obtain ⟨t, hexec, hto⟩ := h.exec_show hrep fun p hp => hp.signal_to (hp.unmarked _ hmark) hk htime
      refine ⟨t, hexec, hto.slot ▸ Slot.waitingAt_waitsTime hfr _ _, hto.source, by rw [hto.slot]; rfl, hto.others,
        fun k _ hk => hto.word k hk, ?_⟩
      have hform := hto.form
      rw [hto.exhibits_eq, hto.channels_eq] at hform
      exact hform
    · have hact : f.isStepFault = true ∧
          ∀ p, s.Reaches p e (a + 2) 0 → ∃ q m, s.Reaches q e (a + 2) m ∧ p.runAct e = q.showFault e f (a + 2) := by
        obtain h1 | h2 | h3 | h4 | h5 | ⟨rfl, hend, hk, hself⟩ := hstep
        case inr.inr.inr.inr.inr => exact ⟨rfl, fun p hp => hp.runs_away hk hend hmark hself 63 rfl 136⟩
        all_goals
          have hfails : s.StepFails e (a + 2) f := by
            unfold State.StepFails
            tauto
          exact ⟨hfails.isStepFault, fun p hp => ⟨p, 0, hp, hp.fails hfails⟩⟩
      obtain ⟨t, hexec, hfaulted⟩ := h.exec_fails hact.1 hact.2 hrep hfirst hbusy hempty
      obtain ⟨hdropped, hpool⟩ := hfaulted.calm hbusy
      refine ⟨t, hexec, by rw [hfaulted.exhibit]; rfl, by rw [hfaulted.exhibit]; exact Bool.and_false _, by rw [hfaulted.slot]; rfl, ?_,
        hfaulted.source, hfaulted.others, hdropped, hpool⟩
      rw [hfaulted.slot]
      unfold Slot.faultedAt Slot.firstOf
      rw [hfirst]
      rfl
  · subst hw0
    have h : s.WaitsOut e a r := ⟨hcur, hst, hfr, hw, hrun⟩
    have hon : (s.exhibit e).state ≠ .off := by rw [hstate]; decide
    refine ⟨fun hk hmark hend hrest => ?_, fun hk hmark hend hrest hencore htime => ?_, fun hk hmark hend => ?_,
      fun x y i target raw off hk hmark hend hx ho hy hi hoff hraw htarget => ?_, fun x y hk hmark hend hx ho hy hst htime => ?_,
      fun x f hmark hx hstep hfirst hothers hwaiting howner => ?_, fun x hx hmark hend => ⟨fun hk hbusy => ?_, fun hk hbusy htime => ?_,
        fun sense hk hmarked hsense => ?_⟩,
      fun ch p hk hmark hend hch hp hop htime => ?_, fun hk hmark hsev hpart hnone hlen htime => ?_,
      fun hmark => ⟨fun hpass hallowed => ?_, fun hallowed hk htime => ?_⟩⟩
    · obtain ⟨p, hp, hexec⟩ := h.exec
      obtain ⟨hto, hidle⟩ := hp.rests_to hc hmark hk hend hon hrest
      rw [State.settle_nil _ (hto.reports.trans hrep)] at hexec
      refine ⟨_, hexec, ?_, hto.slot, hto.source, hto.others, hidle, fun ch hch => hto.channel ch fun hl => ?_,
        fun k _ hk => hto.word k hk, hto.form⟩
      · rw [hto.exhibit]
        by_cases hpos : 0 < c.restTime
        · simp [Exhibit.entering, Exhibit.completedOne, hpos, ExhibitState.keepsEncore, satAdd]
        · simp [Exhibit.entering, Exhibit.completedOne, hpos, ExhibitState.keepsEncore, satAdd]
      · rw [Exhibit.isOwnLamp_named hc hl] at hch
        exact absurd hch (by decide)
    · obtain ⟨t, hexec, hto⟩ := h.exec_show hrep fun p hp => hp.encore_to hc hmark hk hend hrest hencore htime
      exact ⟨t, hexec, hto.exhibit, hto.slot ▸ Slot.waitingAt_waitsTime rfl _ _, by rw [hto.slot]; rfl, hto.source, hto.others,
        fun k _ hk => hto.word k hk, hto.form⟩
    · obtain ⟨t, hexec, hto⟩ := h.exec_show hrep fun p hp => hp.waitPress_to hmark hk hend
      refine ⟨t, hexec, ?_, hto.exhibit, hto.others, fun k _ hk => hto.word k hk, hto.form_slots⟩
      rw [hto.slot]
      unfold Slot.waitingFor
      rw [← hst, ← hrun]
    · subst hi hoff
      have hraw' : s.moveTarget (a + 2) x = raw := hraw.symm
      have hclamp : (s.axis x).clamp raw = target := (Axis.clamp_of_config hy raw).trans htarget.symm
      have hasked : (s.axis x).asked raw = { s.axis x with clamped := decide (target ≠ raw) } := by
        unfold Axis.asked
        rw [hclamp]
      have hset : ∀ z : Axis, z.config = some y → z.speedSet (s.moveSet (a + 2)) = tget y.sets (s.moveSet (a + 2)) :=
        fun z hz => Axis.speedSet_of_config hz _
      refine ⟨fun hidle hne htime => ?_, fun hidle heq htime => ?_, fun hpends htime => ?_, fun hawait hr heq hsole htime => ?_,
        fun hmoving htime => ?_⟩
      · by_cases hg : s.pool.Grants y.draw
        · obtain ⟨t, hexec, hto⟩ := h.exec_move_starts hrep hc hmark hx ho hk hend hidle hy (by rw [hraw', hclamp]; exact hne) hg htime
          rw [hraw', hclamp] at hto
          refine ⟨t, hexec, by rw [hto.slot]; exact Slot.afterMotion_step hfr _ _ _ _ _, hto.otherExhibits, hto.others, hto.exhibit,
            (congrArg Axis.clamped hto.axis).trans (congrArg Axis.clamped hasked),
            fun _ => ⟨congrArg Axis.state hto.axis, congrArg Axis.move hto.axis, ?_, by rw [hto.pool, Pool.granted_held]⟩,
            fun hn => absurd hg ((s.pool.not_grants _).2 hn), hto.form_slots⟩
          exact (congrArg Axis.vel hto.axis).trans (congrArg SpeedSet.vs (hset ((s.axis x).askingMove raw (s.moveSet (a + 2))) hy))
        · obtain ⟨t, hexec, hto⟩ := h.exec_move_joins hrep hc hmark hx ho hk hend hidle hy (by rw [hraw', hclamp]; exact hne)
            ((s.pool.not_grants _).1 hg) htime
          rw [hraw'] at hto
          refine ⟨t, hexec, by rw [hto.slot]; exact Slot.afterMotion_step hfr _ _ _ _ _, hto.otherExhibits, hto.others, hto.exhibit,
            (congrArg Axis.clamped hto.axis).trans (congrArg Axis.clamped hasked), fun hg' => absurd hg' hg,
            fun _ => ⟨congrArg Axis.state hto.axis, (congrArg Axis.request hto.axis).trans ?_, by rw [hto.pool]; rfl⟩, hto.form_slots⟩
          rw [← hclamp]
          rfl
      · obtain ⟨t, hexec, hto⟩ := h.exec_move_completes hrep hc hmark hx ho hk hend hidle (by rw [hraw', hclamp]; exact heq) htime
        rw [hraw', hasked] at hto
        exact ⟨t, hexec, by rw [hto.slot]; exact Slot.waitingAt_waitsTime hfr _ _, hto.axis, hto.otherExhibits, hto.others, hto.form_axis⟩
      · obtain ⟨t, hexec, hto⟩ := h.exec_move_pends hrep hc hmark hx ho hk hend (by rw [hraw', hclamp]; exact hpends) htime
        rw [hraw', hasked, hclamp] at hto
        exact ⟨t, hexec, by rw [hto.slot]; exact Slot.afterMotion_step hfr _ _ _ _ _, hto.axis, hto.otherExhibits, hto.others, hto.form_axis⟩
      · obtain ⟨t, hexec, hto⟩ := h.exec_move_leaves hrep hc hmark hx ho hk hend hawait hr (by rw [hraw', hclamp]; exact heq) hsole htime
        rw [hraw', hasked] at hto
        exact ⟨t, hexec, by rw [hto.slot]; exact Slot.waitingAt_waitsTime hfr _ _, hto.axis, hto.pool, hto.otherExhibits, hto.others,
          hto.form_slots⟩
      · cases hahead : (s.axis x).isAhead target with
        | true =>
          obtain ⟨t, hexec, hto⟩ := h.exec_move_ahead hrep hc hmark hx ho hk hend hmoving (by rw [hraw', hclamp]; exact hahead) htime
          rw [hraw', hasked, hclamp, hset _ hy] at hto
          exact ⟨t, hexec, by rw [hto.slot]; exact Slot.afterMotion_step hfr _ _ _ _ _, fun _ => hto.axis, fun hn => absurd hn (by decide),
            hto.otherExhibits, hto.others, hto.form_axis⟩
        | false =>
          obtain ⟨t, hexec, hto⟩ := h.exec_move_behind hrep hc hmark hx ho hk hend hmoving (by rw [hraw', hclamp]; exact hahead) htime
          rw [hraw', hasked, hclamp] at hto
          exact ⟨t, hexec, by rw [hto.slot]; exact Slot.afterMotion_step hfr _ _ _ _ _, fun hn => absurd hn (by decide), fun _ => hto.axis,
            hto.otherExhibits, hto.others, hto.form_axis⟩
    · obtain ⟨-, hpos, henc, -, hhomed⟩ := Axis.askingHome_spec hy
      have hidle : (s.axis x).state = .idle → ¬ (s.axis x).state = .unhomed := fun hi => by rw [hi]; decide
      by_cases hg : s.pool.Grants y.draw
      · obtain ⟨t, hexec, hto⟩ := h.exec_home_starts hrep hc hmark hx ho hy hk hend hst htime hg
        have hp := (congrArg Axis.pos hto.axis).trans hpos
        have he := (congrArg Axis.encoder hto.axis).trans henc
        exact ⟨t, hexec, by rw [hto.slot]; exact Slot.afterMotion_step hfr _ _ _ _ _, hto.otherExhibits, hto.others, hto.exhibit,
          fun hu => ⟨hp.trans (if_pos hu), he.trans (if_pos hu)⟩, fun hi => ⟨hp.trans (if_neg (hidle hi)), he.trans (if_neg (hidle hi))⟩,
          fun _ => ⟨congrArg Axis.state hto.axis, congrArg Axis.homed hto.axis, by rw [hto.pool, Pool.granted_held]⟩,
          fun hn => absurd hg ((s.pool.not_grants _).2 hn), hto.form_slots⟩
      · obtain ⟨t, hexec, hto⟩ := h.exec_home_joins hrep hc hmark hx ho hy hk hend hst htime ((s.pool.not_grants _).1 hg)
        have hp := (congrArg Axis.pos hto.axis).trans hpos
        have he := (congrArg Axis.encoder hto.axis).trans henc
        exact ⟨t, hexec, by rw [hto.slot]; exact Slot.afterMotion_step hfr _ _ _ _ _, hto.otherExhibits, hto.others, hto.exhibit,
          fun hu => ⟨hp.trans (if_pos hu), he.trans (if_pos hu)⟩, fun hi => ⟨hp.trans (if_neg (hidle hi)), he.trans (if_neg (hidle hi))⟩,
          fun hg' => absurd hg' hg, fun _ => ⟨congrArg Axis.state hto.axis, congrArg Axis.request hto.axis,
            (congrArg Axis.homed hto.axis).trans hhomed, hto.pool⟩, hto.form_slots⟩
    · have hfails : ((bits (s.storeWord (a + 2)) 10 6 = 1 ∧ a + 5 ≤ 12288 ∧ (s.axis x).moveFault = some f) ∨
          (bits (s.storeWord (a + 2)) 10 6 = 2 ∧ a + 3 ≤ 12288 ∧ (s.axis x).homeFault = some f)) ∧ f.isStepFault = true := by
        obtain ⟨hk, hend, hf⟩ | ⟨hk, hend, hf⟩ := hstep
        · obtain ⟨hfault, hf⟩ := Axis.moveFault_of hf
          exact ⟨.inl ⟨hk, hend, hfault⟩, hf⟩
        · obtain ⟨hfault, hf⟩ := Axis.homeFault_of hf
          exact ⟨.inr ⟨hk, hend, hfault⟩, hf⟩
      obtain ⟨t, hexec, hfaulted, hbound, hwaits, halert⟩ := h.exec_motion_fails hrep hc hon hmark hx hfails.1 hfails.2 hfirst hothers hwaiting
        howner
      obtain ⟨⟨-, hmoving, hstopping, hhoming, hawait⟩, -⟩ := hfaulted.halted_dropped hbound
      refine ⟨t, hexec, by rw [hfaulted.exhibit]; rfl, by rw [hfaulted.slot]; rfl, ?_, hfaulted.source, halert, fun hs => ?_, fun hs => ?_,
        fun hs => ?_, hfaulted.others⟩
      · rw [hfaulted.slot]
        unfold Slot.faultedAt Slot.firstOf
        rw [hfirst]
        rfl
      · obtain ⟨h1, h2, h3, -⟩ := hhoming hs
        refine ⟨h1, h2, h3, ?_⟩
        rw [hfaulted.held]
        exact if_pos ⟨hbound, (haltDeal_returns _).2 hs⟩
      · obtain ⟨h1, -, h2, -⟩ := hawait hs
        exact ⟨h1, h2, hfaulted.waiting.trans (State.waiting_left hwaits)⟩
      · obtain hs | hs := hs
        · rw [hmoving hs]
          exact ⟨rfl, rfl, rfl⟩
        · rw [hstopping hs]
          exact ⟨hs, rfl, rfl⟩
    · obtain ⟨t, hexec, hto⟩ := h.exec_show hrep fun p hp => hp.waitAxis_to hc hmark hx hk hend hbusy
      exact ⟨t, hexec, by rw [hto.slot]; rfl, by rw [hto.slot]; rfl, by rw [hto.slot]; rfl, hto.others, hto.form_slots⟩
    · obtain ⟨t, hexec, hto⟩ := h.exec_show hrep fun p hp => hp.waitAxis_passes_to hc hmark hx hk hend hbusy htime
      exact ⟨t, hexec, hto.slot ▸ Slot.waitingAt_waitsTime hfr _ _, hto.others, hto.form_slots⟩
    · obtain ⟨t, hexec, hto⟩ := h.exec_show hrep fun p hp => hp.waitMark_to hc hmark hx hk hend hmarked hsense
      exact ⟨t, hexec, by rw [hto.slot]; rfl, by rw [hto.slot]; rfl, by rw [hto.slot]; rfl, hto.others, hto.form_slots⟩
    · subst hp
      obtain ⟨p, hp, hexec⟩ := h.exec
      obtain ⟨hto, hlit⟩ := hp.lamp_to hc hmark hk hend hch hop htime
      rw [State.settle_nil _ (hto.reports.trans hrep)] at hexec
      refine ⟨_, hexec, hto.slot ▸ Slot.waitingAt_waitsTime hfr _ _, fun hnone => ?_, fun q hq => ?_, ?_, fun x hx => hto.channel x hx,
        hto.others, fun k _ hk => hto.word k hk, ?_⟩
      · rw [hlit, patternSetting_idle hnone]
        rfl
      · rw [hlit, patternSetting_table hq]
        rfl
      · rw [hlit]
        rfl
      · have hform := hto.form
        rw [hto.exhibits_eq, hto.sources_eq] at hform
        exact hform
    · obtain ⟨p, hp, hexec⟩ := h.exec
      obtain ⟨⟨y, hlist, hy⟩, hslot, hothers, hword, hform⟩ := hp.call_enters hmark hk hsev hpart hnone hlen htime
      rw [State.settle_nil _ (by rw [hform]; exact hrep)] at hexec
      refine ⟨_, hexec, hslot ▸ Slot.waitingAt_waitsTime hfr _ _, by rw [hlist]; simp, by rw [hlist]; simp, fun z hz => ?_, hothers,
        fun k _ => hword k, hform⟩
      rw [hlist, List.getLast?_concat] at hz
      obtain rfl := Option.mem_some_iff.1 hz
      exact hy
    · obtain ⟨t, hexec, hto⟩ := h.exec_show hrep fun p hp => hp.held_to hc hstate hmark hpass hallowed
      refine ⟨t, hexec, ?_, by rw [hto.slot]; rfl, by rw [hto.slot], by rw [hto.slot]; rfl, by rw [hto.slot], by rw [hto.slot]; rfl,
        hto.source, hto.others, hto.channel, fun k _ hk => hto.word k hk, hto.form⟩
      rw [hto.exhibit]
      simp [Exhibit.entering, ExhibitState.keepsEncore]
    · obtain ⟨t, hexec, hto⟩ := h.exec_show hrep fun p hp =>
        hp.signal_to (State.holdsStep_disallowed (by rw [hp.exhibit]; exact hc) hallowed) hk htime
      exact ⟨t, hexec, hto.slot ▸ Slot.waitingAt_waitsTime hfr _ _, hto.exhibit, hto.source⟩

end Sys2Proof.Machine
end
